-- ==== Sys2Proof/Word.lean ====
section
/-! DEFINITION. The word types of the control space and of the formats (R9 to R11). -/

namespace Sys2Proof

/-- One 32-bit register value (R14). -/
abbrev Word := BitVec 32

/-- One byte of a format (R10). -/
abbrev Byte := BitVec 8

end Sys2Proof
end

