-- ==== Sys2Proof/Syntax.lean ====
section
/-! DEFINITION. The commands of the FV7240: one constructor of `Instr` per row of the table of operations and events,
and the operand types the rows carry (capsules, records of the attached parts, images, facts found outside the device). -/

namespace Sys2Proof

/-- The SGL descriptor of a capsule (R62, R65). -/
inductive SglKind where
  | none | inCapsuleOffset | transportBlock | keyedBlock | segment | other
  deriving DecidableEq, Repr

/-- One submission queue entry with its data (R87): opcode, identifier, namespace, Dwords 10 to 15, SGL and the data the
host sends with it. `fabrics` is the Fabrics command type when the opcode is the Fabrics opcode 0x7F. -/
structure Capsule where
  opc : Nat
  cid : Nat
  nsid : Nat := 0
  fuse : Nat := 0
  sgl : SglKind := .none
  sglLen : Nat := 0
  dw2 : Word := 0
  dw3 : Word := 0
  dw10 : Word := 0
  dw11 : Word := 0
  dw12 : Word := 0
  dw13 : Word := 0
  dw14 : Word := 0
  dw15 : Word := 0
  fabrics : Nat := 0
  inCapsule : Nat := 0
  data : List Byte := []
  deriving DecidableEq, Repr

/-- What a DH-HMAC-CHAP exchange on a connection came to (R139, R541). -/
inductive AuthOutcome where
  | notAttempted | failed | ok
  deriving DecidableEq, Repr

/-- The DH-HMAC-CHAP exchange an Authentication Send completes (R76, R123): the hash and the group it settled on, and what it came to. -/
structure AuthExchange where
  hash : Nat
  dh : Nat
  outcome : AuthOutcome
  deriving DecidableEq, Repr

/-- A TLS 1.3 handshake as a host offers it (R63): the protocol version, the subsystem whose pre-shared key its identity names (0 the
management slice, else a tenant slice), the cipher suite, the key exchange (psk_dhe_ke with its group, else psk_ke), whether it asks
for a certificate, and the alert the exchange itself ended with. -/
structure TlsHello where
  version : Nat := 0x0304
  psk : Option Nat := none
  suite : Nat := 0x1301
  dhe : Bool := true
  group : Nat := 0x0017
  cert : Bool := false
  alert : Option Nat := none
  deriving DecidableEq, Repr

/-- What a PCS reports with a fault: its cause, 1 a PCS fault, 2 loss of lock, 3 loss of signal (R71), and the uncorrectable FEC codewords
it has counted since it last reported (R83). -/
structure PcsFault where
  cause : Nat
  unc : Nat := 0
  deriving DecidableEq, Repr

/-- What auto-negotiation and training find (R47, R49): the PHY type, 0 for a KR type, 1 for CR, 2 for a chip-to-module interface or SFI,
and the FECs the link partner advertises, bit 0 the BASE-R FEC, bit 1 RS(528,514). -/
structure LinkPartner where
  phy : Nat
  fecs : Nat := 0
  deriving DecidableEq, Repr

/-- A frame that carries an IP packet (R52): the interface it is for and the VLAN ID of its tag, where it has one. -/
structure IpFrame where
  iface : Nat
  tag : Option Nat := none
  deriving DecidableEq, Repr

/-- An echo request: the bytes of its IP packet, and whether it is ICMPv6 (R54). -/
structure EchoReq where
  len : Nat
  v6 : Bool
  deriving DecidableEq, Repr

/-- What a TCP connection request asks for (R55, R59): its destination port, and whether it offers ECN. -/
structure TcpSyn where
  port : Nat
  ecn : Bool := false
  deriving DecidableEq, Repr

/-- What a RoCEv2 connection request carries (R52, R59, R65): its frame, the UDP destination port, whether its invariant
CRC stands, whether a Reliable Connected queue pair is asked for, the RDMA MTU asked for (0: none), and the RDMA READs the host takes
at a time. -/
structure RdmaReq where
  frame : IpFrame
  udp : Nat := 4791
  icrcOk : Bool := true
  rc : Bool := true
  mtu : Nat := 0
  reads : Nat := 16
  deriving DecidableEq, Repr

/-- The subsystem a Connect names (R74, R136, R539). -/
inductive SubNqn where
  | device | bramble | discovery
  | slice (nqn : List Byte)
  deriving DecidableEq, Repr

/-- A Fabrics Connect on a transport connection (R67, R589). `cntlid` is the controller an I/O queue joins; `newCntlid`
and `newQueue` are the identifiers the device draws for what it creates (R138 leaves the choice open). -/
structure ConnectReq where
  conn : Nat
  cid : Nat
  subnqn : SubNqn
  hostNqn : List Byte := []
  hostId : BitVec 128 := 0
  qid : Nat := 0
  cntlid : Nat := 0
  sqsize : Nat := 32
  kato : Nat := 120000
  flowOff : Bool := false
  auth : AuthOutcome := .notAttempted
  /-- Hash and Diffie-Hellman group of the DH-HMAC-CHAP exchange, as DH-HMAC-CHAP numbers them (R76, R123). -/
  authHash : Nat := 2
  authDh : Nat := 2
  newCntlid : Nat := 1
  newQueue : Nat := 0
  deriving DecidableEq, Repr

/-- One LBA as stored: its data bytes and its 8 metadata bytes (R174), each read as one little-endian number. -/
structure Lba where
  data : Nat := 0
  pi : Nat := 0
  deriving DecidableEq, Repr, Inhabited

/-- An extent (R360): its header fields and, where it is compressed, its payload (R356); the original data it holds, which is a raw
extent's payload; the key it is encrypted under and the map unit its tweak binds (R152). The bytes on the medium are the encryption of
these (`Extent.cipher`). -/
structure Extent where
  format : Nat := 1
  compressed : Bool
  pi : Bool
  seq : Nat := 0
  payloadLen : Nat
  origLen : Nat
  payload : List Byte := []
  crc : Word
  key : Nat
  nsid : Nat
  mu : Nat
  orig : List Lba
  deriving DecidableEq, Repr

/-- How a lane's work on a map unit ended (R356, R363, R364, R368, R370): the payload it compressed the unit to; a failure of the lane
carries its cause and the recovery step that served the command, 0 for none. -/
inductive LaneResult where
  | compressed (payload : List Byte)
  | overLimit
  | verifyFailed
  | decompressed
  | decodeFailed (cause step : Nat)
  deriving DecidableEq, Repr

/-- The maker's part of a carrier's EEPROM (R334). `readable`, `tagOk` and `crcOk` say what a read of it finds. -/
structure Eeprom where
  readable : Bool := true
  tagOk : Bool := true
  crcOk : Bool := true
  cell : Nat := 3
  planes : Nat := 4
  npb : Nat := 192
  ces : Nat := 1
  luns : Nat := 1
  blocks : Nat := 2000
  spareBytes : Nat := 2208
  family : Nat := 0
  maxRate : Nat := 0
  rated : Nat := 3000
  slcPrefix : Nat := 0
  retryCount : Nat := 0
  retryOrder : List Nat := []
  inrushMa : Nat := 3000
  runMa : Nat := 6000
  serial : List Byte := []
  model : List Byte := []
  deriving DecidableEq, Repr

/-- The array record the device keeps in a carrier's EEPROM (R334). -/
structure ArrayRec where
  gen : Nat
  arrayId : BitVec 128
  slot : Nat
  state : Nat
  epoch : Nat
  admitH : Nat
  deriving DecidableEq, Repr

/-- What reset and identification find on one die (R265, R266): its parameter page and the checks a host of the bus can
make. Times are in µs. -/
structure DieFacts where
  signature : Bool := true
  paramCrc : Bool := true
  features : Bool := true
  planes : Nat := 4
  npb : Nat := 192
  cell : Nat := 3
  spareBytes : Nat := 2208
  rates : List Nat := [0, 1, 2, 3, 4]
  tR : Nat := 55
  tProg : Nat := 800
  tProgMax : Nat := 3000
  tBers : Nat := 5000
  tBersMax : Nat := 20000
  tRstMax : Nat := 1000
  retryOptions : Nat := 0
  resumeMin : Nat := 0
  deriving DecidableEq, Repr

/-- A carrier as it stands in a slot: its EEPROM, its sensor, and its dies by CE × 8 + LUN for each of its two channels.
`calFail` names a channel (0 or 1) whose calibration failed twice and the step (R267). -/
structure CarrierFacts where
  eeprom : Eeprom
  recA : Option ArrayRec := none
  recB : Option ArrayRec := none
  temp : Int := 40
  die : DieFacts := {}
  badDies : List (Nat × DieFacts) := []
  calFail : List (Nat × Nat) := []
  writeFails : Bool := false
  deriving DecidableEq, Repr

/-- A network interface (R52). A VLAN of none is untagged operation. -/
structure Iface where
  num : Nat
  mac : Nat
  vlan : Option Nat
  mtu : Nat
  ip4 : BitVec 32
  ip6 : List (BitVec 128)
  deriving DecidableEq, Repr

/-- A record of the configuration image (R498). -/
inductive ImgRecord where
  | board (model serial : List Byte)
  | dramTopo (width density ranks spare rdimm refresh rate : Nat)
  | dramTiming (ps : List Nat)
  | dramBoard (lanes : List Nat)
  | carrierSlot (slot family maxRate carV fs : Nat)
  | array (mapUnit d p opPct padIdle pslcEn jrnlHigh : Nat)
  | port (idx mode l4link fec polarity order eq : Nat)
  | macAddr (mac : Nat) (addr : BitVec 48)
  | interface (i : Iface)
  | mgmtVlan (vid : Nat)
  | dcb (prios : List (Bool × Nat))
  | ringPeer (nb : Nat) (nqn : List Byte) (a0 a1 : BitVec 128) (if0 if1 : Nat)
  | ringSecret (secret : List Byte)
  | sense (fs : List Nat) (thermR thermB : Nat)
  | registers (entries : List (Nat × Word × Word))
  | eventLimit (entries : List (Nat × Nat))
  | unknown (type : Nat)
  /-- A record whose value has not the length of its layout: TYPE and index. -/
  | badLen (type idx : Nat)
  deriving DecidableEq, Repr

/-- A configuration image (R496): its header and its records. -/
structure Image where
  tagOk : Bool := true
  formatOk : Bool := true
  reservedOk : Bool := true
  length : Nat := 32
  crcOk : Bool := true
  seq : Nat := 1
  records : List ImgRecord := []
  deriving DecidableEq, Repr

/-- A Zezar bundle that holds a configuration image (R515 to R517): whether its format stands, the SHA-384 of its public
key, and whether the signature verifies under that key. -/
structure ImageBundle where
  wellFormed : Bool := true
  content : Nat := 3
  digestsOk : Bool := true
  sigOk : Bool := true
  keyHash : BitVec 384 := 0
  image : Image := {}
  deriving DecidableEq, Repr

/-- A loader or firmware bundle by its header and entries (R515, R516): the bytes a boot checks. `digestsOk` and `sigOk`
say what the SHA-384 and ECDSA checks of R517 give on the stored bytes. `loader` is the nested loader: its CVER, its LENGTH, and whether
it verifies as its own bundle. -/
structure Bundle where
  wellFormed : Bool := true
  content : Nat := 2
  totalLen : Nat := 0
  secver : Nat := 0
  settingsFmt : Nat := 0
  version : BitVec 64 := 0
  dieMin : Nat := 0
  forwardOk : Bool := false
  abi : Nat := 0
  keyHash : BitVec 384 := 0
  signature : Nat := 0
  digestsOk : Bool := true
  sigOk : Bool := true
  loader : Option (Nat × Nat × Bool) := none
  /-- SECVER and DIE_MIN of the nested loader. -/
  loaderMin : Nat × Nat := (64, 0)
  deriving DecidableEq, Repr

/-- How a power trigger finds the running programs and the bank (R213, R214): the flushing stripes, as (band, stripe), whose members
have all passed within step 3, how many extents the energy lets step 4 land (none: all), the landing stripes whose member fails or times
out, as (ordinal in step 4, member, timed out), and the ms to the end of step 4. -/
structure FlushFacts where
  passed : List (Nat × Nat) := []
  landLimit : Option Nat := none
  ms : Nat := 0
  landFails : List (Nat × Nat × Bool) := []
  deriving DecidableEq, Repr

/-- What a board programmer has put on the NOR pair while the device left it alone (R490, R492): size codes of NOR A and NOR B, the copies
CA and CB, the slot copies A0, A1, B0 and B1, and the loaders by component version and length. -/
structure NorImage where
  sizes : List Nat
  copies : List (Option ImageBundle)
  slots : List (Option Bundle)
  loaders : List (Nat × Nat)
  deriving DecidableEq, Repr

/-- What a cold boot finds outside the stored state (R485 to R492): verdicts on the loaders, cores the self-test
excludes, ranks that fail training, elapsed ms, and what the NOR pair was given since the device last ran (none: nothing). -/
structure BootFacts where
  loaderA : Option Nat := none
  loaderB : Option Nat := none
  coreFail : List Nat := []
  rankFail : List (Nat × Nat) := []
  slotOk : List Bool := [true, true, true, true]
  quinceOk : List Bool := [true, true]
  ms : Nat := 4910
  nor : Option NorImage := none
  deriving DecidableEq, Repr

/-- A call of the ROM routine (R493). `devErr` and `timedOut` say how the NOR ended it; `path` that firmware's own loader
path makes the call. -/
structure RomCall where
  nor : Nat
  addr : Nat
  len : Nat
  ret : Nat
  retIn : Option Nat := none
  devErr : Bool := false
  timedOut : Bool := false
  path : Bool := false
  data : List Byte := []
  deriving DecidableEq, Repr

/-- Whose change or migration a peer's message belongs to (R155, R161): the neighbour it comes from, its PAIR_ID or MIGRATION_ID, and the
SUBNQN of its slice. -/
structure PeerRef where
  nb : Nat
  id : Nat
  nqn : List Byte
  deriving DecidableEq, Repr

/-- A message from a peer about a slice: the slice, and what the message says it comes from (R161). -/
structure PeerNote where
  slice : Nat
  src : PeerRef
  deriving DecidableEq, Repr

/-- A change a source forwards to its replica, or a migration's data to its destination (R155, R156, R162, R165): `keys` carries the
key and the three secrets with their lengths, each wrapped under the key-transport key, `qos` the six QoS fields of the descriptor in their order, `totals`
the 16 metering totals. -/
inductive PeerChange where
  | extent (nsid mu : Nat) (x : Extent)
  | dealloc (nsid mu count : Nat)
  | nsCreate (nsid nsze lbaf pi : Nat)
  | nsDelete (nsid : Nat)
  | format (nsid nsze lbaf pi : Nat)
  | cryptoErase
  | reservation (nsid : Nat) (regs : List (BitVec 128 × BitVec 64)) (holder : Option (BitVec 128)) (rtype gen : Nat) (ptpl : Bool)
  | keys (key : List Byte) (secrets : List (Nat × List Byte))
  | qos (fields : List Nat)
  | totals (counters : List Nat)
  deriving DecidableEq, Repr

/-- What a peer's change brings: the entry of the system reserve it runs in (R90), and the change. -/
structure PeerStore where
  e : Nat
  change : PeerChange
  deriving DecidableEq, Repr

/-- How the ROM routine ends the writes of a command (R493, R505): all with success; one on a NOR, at an address, with a status other than
success; or never, as power is lost while they run. -/
inductive NorWrite where
  | done
  | failed (nor addr status : Nat)
  | cut
  deriving DecidableEq, Repr

/-- How a patrol or maintenance read of one codeword ended (R246, R251). -/
inductive CwResult where
  | clean (corrected : Nat)
  | late (corrected : Nat)
  | uncorrectable (rebuilt : Bool)
  deriving DecidableEq, Repr

/-- The status a program or erase status poll returns (R288). -/
inductive OpStatus where
  | pass | fail
  deriving DecidableEq, Repr

/-- What wakes the device (R436). -/
inductive WakeSource where
  | capsule | frame | tolerance | carrier | power | hubLow | overTemp | maintenance | keepAlive
  deriving DecidableEq, Repr

/-- Who holds an uncorrectable DRAM line (R410). -/
inductive LineOwner where
  | bufferCopy (off : Nat) (copyB : Bool)
  | bufferBoth (off : Nat)
  | metadataCopy
  | metadataBoth (queues : List Nat)
  | mapPage
  | other
  deriving DecidableEq, Repr

/-- Who holds an uncorrectable punnet word (R402). -/
inductive PunnetOwner where
  | rdmaWrite | tcpWrite (conn : Nat) | readData | compression | parity | maintenance | streamWindow (job : Nat)
  deriving DecidableEq, Repr

/-- A chunk of a stream job as it arrives: the fields of its header and its payload (R360, R373). -/
structure Chunk where
  format : Nat := 1
  stream : Bool := true
  compressed : Bool
  seq : Nat
  dictReset : Bool
  origLen : Nat
  crc : Word
  payload : List Byte
  deriving DecidableEq, Repr

/-- The commands of the block: one constructor per row of the table of operations and events. `e` names an entry of the
command context table (R92), `cntl` a controller, `conn` a transport connection, `v` the 32-bit value a register write
carries. -/
inductive Instr where
  /-- Management-slice vendor command that reads 1 to 1,024 dwords of the control space in ascending offset order. (R543) -/
  | controlRead (e : Nat)
  /-- Management-slice vendor command that writes each dword as a separate register write, in ascending offset order. (R544) -/
  | controlWrite (e : Nat)
  /-- Write to a control-space register that has no row of its own; it acts by field type, and invalid combinations leave the register unchanged. (R12) -/
  | registerWrite (off : Nat) (v : Word)
  /-- Read of SEED_HOURS that captures SEED_MS for the next read of SEED_MS. (R442) -/
  | seedHoursRead
  /-- Write to SEED_RTC_LO that is held until SEED_RTC_HI is written. (R445) -/
  | seedRtcLoWrite (v : Word)
  /-- Write to SEED_RTC_HI that sets the real-time clock together with any held low half, applies the minute-tick rules and records event 0x05. (R445) -/
  | seedRtcHiWrite (v : Word)
  /-- SEED_CMD write that clears RC_CLK once the crystal runs. (R441) -/
  | clrRc (v : Word)
  /-- MNT_CMD write that restarts the patrol lap from the first band. (R245) -/
  | lapNow (v : Word)
  /-- MNT_CMD write that recomputes every carrier end-of-life prediction at once. (R256) -/
  | eolNow (v : Word)
  /-- Write that atomically captures one CCT entry into CE_CCT_DATA0 to CE_CCT_DATA15. (R133) -/
  | ceCctSelWrite (v : Word)
  /-- Write that atomically captures one die's state into CH_DIE_DATA0 to CH_DIE_DATA2. (R297) -/
  | chDieSelWrite (ch : Nat) (v : Word)
  /-- LDPC_FLIP_CTL ARM write that applies MASK once to the next codeword encoded for the selected channel. (R300) -/
  | ldpcFlipArm (v : Word)
  /-- PN_FLIP_CTL ARM write that arms the punnet masks for the next test write. (R415) -/
  | pnFlipArm (v : Word)
  /-- PN_FLIP_CTL RUN write that writes and reads back a class-0 test punnet with any armed mask, and sets RESULT. (R412) -/
  | pnFlipRun (v : Word)
  /-- Q_FLIP_CTL ARM write, accepted only when MASK has at most two bits set, that flips bits of the next word written to the selected Quince die. (R411) -/
  | qFlipArm (v : Word)
  /-- DRAM_FLIP_CTL ARM write that arms the masks for the next test-line write. (R421) -/
  | dramFlipArm (v : Word)
  /-- DRAM_FLIP_CTL RUN write that writes and reads back the selected test line and sets RESULT. (R412) -/
  | dramFlipRun (v : Word)
  /-- DRAM_RETIRE_CTL write with KEY 0xD5A7 that clears removed-rank entries at the next cold boot. (R405) -/
  | clearRanks (v : Word)
  /-- DRAM_RETIRE_CTL write with KEY 0xD5A7 that clears retired pages and banks at the next cold boot. (R405) -/
  | clearPages (v : Word)
  /-- Write that clears the five counters of a port. (R83) -/
  | portCntClr (p : Nat) (v : Word)
  /-- Write that clears the seven command engine counters. (R134) -/
  | ceCntClr (v : Word)
  /-- Write that clears the nine counters of a channel. (R298) -/
  | chCntClr (ch : Nat) (v : Word)
  /-- Write that clears the three LDPC counters. (R299) -/
  | ldpcCntClr (v : Word)
  /-- Write that clears the four stripe and carrier counters. (R354) -/
  | strCntClr (v : Word)
  /-- Write that clears the seven compression counters. (R379) -/
  | cmpCntClr (v : Word)
  /-- Write that clears the six punnet and Quince counters. (R416) -/
  | pnCntClr (v : Word)
  /-- Write that clears the five DRAM counters. (R422) -/
  | dramCntClr (v : Word)
  /-- Write that clears the eight power-state counters. (R454) -/
  | psCntClr (v : Word)
  /-- Write that clears the four NOR counters. (R513) -/
  | norCntClr (v : Word)
  /-- Write that clears the three firmware counters. (R537) -/
  | fwCntClr (v : Word)
  /-- Write of 1s to a sticky status word, which clears those bits under R13 and may release ALERT_N. (R556) -/
  | stickyClear (g : Nat) (v raised : Word)
  /-- MG_AUTH_CTL COMMIT write that sets or removes a management credential and writes a settings generation, or sets ERR. (R542) -/
  | mgAuthCommit (v : Word) (writer : Nat)
  /-- Write of 1 to a LOOP_STAT flag; for slot 17 it restarts the limiter with a ramp. (R462) -/
  | loopFlagClear (slot : Nat) (v raised : Word)
  /-- Write of a single loop coefficient or limit, which takes effect alone at the slot's next sample. (R459) -/
  | loopCoeffWrite (slot off : Nat) (v : Word)
  /-- TARGET write, or EN going from 0 to 1, that starts a ramp from the measured value. (R460) -/
  | loopTargetWrite (slot off : Nat) (v : Word)
  /-- TH_CAL OFFSET write, applied from the next sample, recording event 0x08. (R473) -/
  | thOffsetWrite (v : Word)
  /-- PKG_LIMIT write that cuts the thermal limit at once. (R476) -/
  | pkgLimitWrite (v : Word)
  /-- PLIM_FLOOR write that raises the thermal limit to the new floor when the floor is above it. (R475) -/
  | plimFloorWrite (v : Word)
  /-- CMP_CFG LANE_EN write that removes lanes from service or returns them. (R376) -/
  | laneEnWrite (v : Word)
  /-- PCS link fault, loss of lock or loss of signal on a logical MAC; FAULT sets and DOWN_HOLD starts. (R71) -/
  | linkFault (mac : Nat) (f : PcsFault)
  /-- DOWN_HOLD expiry that declares a MAC down, recomputes ANA and sends ANA Change notices. (R71) -/
  | macDown (mac : Nat)
  /-- Link comes up after auto-negotiation and training, starting UP_HOLD. (R70) -/
  | linkUp (mac : Nat) (p : LinkPartner)
  /-- UP_HOLD expiry that declares a MAC up and restores the ANA states. (R70) -/
  | macUp (mac : Nat)
  /-- PFC pause received from the link partner, which stops sending on that priority. (R57) -/
  | pauseFrameReceived (mac prio : Nat) (on : Bool)
  /-- A priority paused for 100 ms without a break records event 0x05. (R58) -/
  | pauseLong (mac prio : Nat)
  /-- ARP request answered, also by the L4 wake logic. (R54) -/
  | arpRequest (f : IpFrame) (ip : BitVec 32)
  /-- IPv6 Neighbor Solicitation answered. (R54) -/
  | neighborSolicitation (f : IpFrame) (ip : BitVec 128)
  /-- ICMP or ICMPv6 echo request answered. (R54) -/
  | echoRequest (f : IpFrame) (q : EchoReq)
  /-- RoCEv2 packet marked ECN-CE received; a CNP is sent, at most one per CNP_GAP per queue pair. (R59) -/
  | ecnCeReceived (flow : Nat)
  /-- Congestion notification packet received, which lowers the flow's rate when dec_gap has passed. (R60) -/
  | cnpReceived (flow : Nat)
  /-- TCP ACK with ECE set, which lowers the connection's rate under the same rule. (R60) -/
  | tcpEceAck (flow : Nat)
  /-- inc_period tick that raises a flow's current rate toward line rate. (R60) -/
  | rateIncrease (flow : Nat)
  /-- TCP connection request on port 4420 or 8009, answered with a reset before the device is ready. (R55) -/
  | tcpConnectRequest (conn : Nat) (f : IpFrame) (q : TcpSyn) (remote : BitVec 128)
  /-- RoCEv2 connection-management request for the NVMe/RDMA service. (R55) -/
  | rdmaConnectRequest (conn : Nat) (r : RdmaReq) (remote : BitVec 128)
  /-- TLS 1.3 PSK handshake on an NVMe/TCP connection; a failure closes it and records event 0x06. (R63) -/
  | tlsHandshake (conn : Nat) (h : TlsHello)
  /-- NVMe/TCP ICReq that sets the digests and alignment of the connection. (R62) -/
  | icreq (conn : Nat) (hdgst ddgst : Bool) (hpda : Nat)
  /-- Command capsule arrives and is kept in its submission ring; flow control applies, and an overflowing capsule is a transport error under R88. (R87) -/
  | capsuleReceived (q : Nat) (c : Capsule)
  /-- The in-capsule data pool has room again, so capsules are taken from a held connection in order. (R87) -/
  | capsuleIntakeResume (conn : Nat)
  /-- NVMe/TCP write data PDU received into punnets; a data digest error gives Transient Transport Error. (R62) -/
  | h2cDataReceived (e : Nat) (bytes : List Byte) (digestOk : Bool)
  /-- RDMA READ of write data completes, or fails with Data Transfer Error. (R65) -/
  | rdmaReadCompletion (e : Nat) (bytes : List Byte) (ok : Bool)
  /-- Ring association to a peer is established and authenticated, recording event 0x10. (R77) -/
  | ringAssociationUp (nb : Nat) (initiator : Bool) (port : Nat)
  /-- RETRY_MS expiry that retries a lost ring association on the alternate address. (R77) -/
  | ringRetry (nb : Nat) (authFailed : Bool)
  /-- PEER_LOSS expiry that declares the peer unreachable and records event 0x11. (R77) -/
  | ringPeerUnreachable (nb : Nat)
  /-- 100 ms ring keep-alive expiry that counts as association loss. (R76) -/
  | ringKeepAliveExpiry (nb : Nat) (initiator : Bool)
  /-- Capsule admitted from its ring into a free CCT entry of the slice, validated and held for overlap or QoS. (R94) -/
  | admitCapsule (q e : Nat)
  /-- 10 µs refill of each tenant slice's op and byte token buckets. (R94) -/
  | tokenRefill
  /-- Release pass that dispatches exempt entries, then entries of slices below floor, then the others, as tokens allow. (R94) -/
  | releasePass (core : Nat)
  /-- A command passes its ordering point, which releases the entries that wait on it. (R98) -/
  | orderingPoint (e : Nat)
  /-- A command finishes; its gate closes normally and the completion is posted. (R106) -/
  | commandComplete (e : Nat)
  /-- An entry held longer than HOLD_WARN_MS records event 0x05 or 0x06. (R97) -/
  | holdWarn (e : Nat)
  /-- Control-core fault: the core is fenced, a spare takes over and entries are re-dispatched. (R110) -/
  | shadowCheckerFault (core us : Nat)
  /-- Property Set clearing CC.EN: admission stops, open entries are aborted and the queues end. (R113) -/
  | ccEnClear (e : Nat)
  /-- Property Set setting CC.EN, which enables the controller. (R113) -/
  | ccEnSet (e : Nat)
  /-- Shutdown request on a tenant controller: admission stops and outstanding commands complete. (R115) -/
  | ccShnTenant (e : Nat)
  /-- 9 ms after a shutdown request, the open gates of the controller close aborted. (R115) -/
  | shutdownAbortTimeout (cntl : Nat)
  /-- Shutdown request on a management controller: admission stops everywhere and open stripes are padded and flushed. (R116) -/
  | ccShnDevice (e : Nat)
  /-- When the dirty amount reaches zero, the stop record is written, SHST reads 0b10 and event 0x08 is recorded. (R116) -/
  | shutdownStopRecord
  /-- CC.SHN cleared and CC.EN set after a device shutdown; admission resumes on every controller. (R116) -/
  | shutdownResume (e : Nat)
  /-- Controller keep-alive expiry that runs R113 with completions discarded and frees the controller. (R117) -/
  | keepAliveExpiry (cntl : Nat)
  /-- Fabrics Property Get of CAP, VS, CC, CSTS or NSSR. (R123) -/
  | propertyGet (e : Nat)
  /-- Fabrics Property Set of a property other than the CC fields with rows of their own. (R123) -/
  | propertySet (e : Nat)
  /-- Fabrics Connect for an admin or I/O queue, checked for VLAN, authentication, keep-alive value and resources. (R67) -/
  | connect (c : ConnectReq)
  /-- Fabrics Authentication Send for DH-HMAC-CHAP. (R123) -/
  | authenticationSend (e : Nat) (x : AuthExchange)
  /-- Fabrics Authentication Receive for DH-HMAC-CHAP. (R123) -/
  | authenticationReceive (e : Nat)
  /-- I/O Flush, which completes with no media action. (R118) -/
  | flush (e : Nat)
  /-- I/O Write of up to MDTS, merged and staged per map unit. (R118) -/
  | write (e : Nat)
  /-- I/O Read of up to MDTS, served per map entry. (R118) -/
  | read (e : Nat)
  /-- I/O Compare; a mismatch gives Compare Failure. (R118) -/
  | compare (e : Nat)
  /-- I/O Write Zeroes, which deallocates whole units and zero-merges partial units. (R199) -/
  | writeZeroes (e : Nat)
  /-- I/O Dataset Management with deallocate, which writes range records. (R199) -/
  | datasetManagement (e : Nat)
  /-- I/O Verify, which checks map units without sending data. (R118) -/
  | verify (e : Nat)
  /-- I/O Reservation Register. (R118) -/
  | reservationRegister (e : Nat)
  /-- I/O Reservation Report. (R118) -/
  | reservationReport (e : Nat)
  /-- I/O Reservation Acquire, including preempt and abort. (R118) -/
  | reservationAcquire (e : Nat)
  /-- I/O Reservation Release or Clear. (R118) -/
  | reservationRelease (e : Nat)
  /-- I/O Copy of one source range, read and rewritten. (R118) -/
  | copy (e : Nat)
  /-- Admin Get Log Page of a supported page, built from one capture; page 0xC3 with LSP bit 0 clears sticky bits. (R122) -/
  | getLogPage (e : Nat)
  /-- Admin Identify for the supported CNS values. (R121) -/
  | identify (e : Nat)
  /-- Admin Abort, which races the named command's gate by compare-and-set. (R106) -/
  | abort (e : Nat)
  /-- Admin Set Features of a supported feature. (R120) -/
  | setFeatures (e : Nat)
  /-- Admin Get Features of a supported feature. (R120) -/
  | getFeatures (e : Nat)
  /-- Admin Asynchronous Event Request, held until a pending or new notice is reported. (R560) -/
  | asynchronousEventRequest (e : Nat)
  /-- Admin Namespace Management create or delete within the slice's reservations. (R119) -/
  | namespaceManagement (e : Nat)
  /-- Admin Namespace Attachment, attach or detach. (R119) -/
  | namespaceAttachment (e : Nat)
  /-- Admin Keep Alive, which restarts the keep-alive timer. (R119) -/
  | keepAlive (e : Nat)
  /-- Admin Format NVM, which deallocates the namespace or crypto-erases the slice. (R119) -/
  | formatNvm (e : Nat)
  /-- Admin Sanitize with crypto or block erase of the whole slice. (R154) -/
  | sanitize (e : Nat)
  /-- The last band holding the slice's extents is erased, so the block-erase Sanitize completes. (R154) -/
  | sanitizeComplete (slice : Nat) (ms : Nat)
  /-- Firmware Image Download of one in-order piece into both copies of the staging slot. (R521) -/
  | firmwareImageDownload (e : Nat) (w : NorWrite)
  /-- Firmware Commit of the staged bundle, for the next cold boot or for immediate activation. (R522) -/
  | firmwareCommit (e : Nat) (settingsOk : Bool)
  /-- Vendor Firmware Confirm, which confirms or reverts the image on probation. (R527) -/
  | firmwareConfirm (e : Nat)
  /-- PROB_MIN expiry, which auto-confirms the image or reverts. (R527) -/
  | probationExpiry
  /-- The device sends its confirmed bundle to the downstream peer and commits it there. (R534) -/
  | firmwareForward
  /-- RETRY_S expiry that retries forwarding from offset 0. (R534) -/
  | forwardRetry
  /-- Vendor Slice Create, which creates or modifies a tenant slice after pool checks. (R143) -/
  | sliceCreate (e : Nat)
  /-- Vendor Slice Delete, which deletes or resets a quiesced slice. (R148) -/
  | sliceDelete (e : Nat)
  /-- Vendor Slice Quiesce, which stops admission and aborts open entries with FORCE. (R148) -/
  | sliceQuiesce (e : Nat)
  /-- The slice's last entry closes, so the slice is quiesced and Quiesce completes. (R148) -/
  | sliceQuiesced (slice : Nat) (us : Nat)
  /-- Vendor Slice Resume, which makes a slice active, including PROMOTE and FORCE. (R148) -/
  | sliceResume (e : Nat)
  /-- Vendor Slice Freeze, which freezes a quiesced slice or runs a migration cut-over. (R165) -/
  | sliceFreeze (e : Nat)
  /-- Vendor Slice Save, which opens or cancels a migration to a neighbour. (R163) -/
  | sliceSave (e : Nat)
  /-- Vendor Slice Restore, which accepts a migration or a replica, or cancels. (R161) -/
  | sliceRestore (e : Nat)
  /-- Both slices exist and an association is up, so the source sends key, layout and reservations and starts syncing. (R155) -/
  | replicationPairing (slice : Nat)
  /-- Replica receives a forwarded change or sync copy and acknowledges it at its acknowledge point. (R156) -/
  | forwardedChangeReceived (p : PeerNote) (x : PeerStore)
  /-- Source receives the replica's acknowledgement, which completes held writes or clears resync bits. (R156) -/
  | replicaAck (slice nsid mu : Nat)
  /-- Replica reports a lost map unit, and the source marks its resync region. (R159) -/
  | lostUnitReport (slice nsid mu : Nat)
  /-- Replica's extent for a lost unit arrives and is written locally, clearing the loss. (R159) -/
  | peerRepairComplete (slice nsid mu : Nat) (x : Extent)
  /-- Replica receives the detach sent by the source's Delete. (R149) -/
  | replicaDetachReceived (p : PeerNote)
  /-- A migration pre-copy pass ends; convergence is judged and the next pass starts. (R164) -/
  | precopyPassComplete (slice : Nat)
  /-- Destination receives migrated extents or metadata and stores them as they arrive. (R162) -/
  | migrationDataReceived (p : PeerNote) (x : PeerStore)
  /-- Destination receives the commit, becomes active and acknowledges. (R165) -/
  | migrationCommitReceived (p : PeerNote)
  /-- Source receives the commit acknowledgement, becomes moved, and Freeze completes. (R165) -/
  | migrationCommitAck (slice : Nat) (ms : Nat)
  /-- Receiver decompresses a stream chunk with its saved window or discards it. (R373) -/
  | streamChunkReceived (job : Nat) (c : Chunk)
  /-- Sender receives the SEQ of the first discarded chunk and restarts from it with an empty window. (R374) -/
  | streamRestartRequest (job seq cause : Nat)
  /-- ITPT expiry that moves a controller's power state to ITPS. (R433) -/
  | apstTransition (cntl : Nat)
  /-- Vendor Carrier Release, planned or immediate, or cancel. (R341) -/
  | carrierRelease (e : Nat)
  /-- Vendor Carrier Admit, which erases the carrier and makes it a member. (R340) -/
  | carrierAdmit (e : Nat)
  /-- Vendor Reshape, which changes the geometry or creates the array. (R328) -/
  | reshape (e : Nat) (arrayId : BitVec 128)
  /-- Reshape acts on band B and advances the boundary record. (R329) -/
  | reshapeBandStep
  /-- Vendor Apply Configuration, which checks, applies live records and stores an image. (R502) -/
  | applyConfiguration (e : Nat) (w : NorWrite)
  /-- 100 ms after completion, changed addressing records act and affected connections end. (R504) -/
  | configAddressingApply
  /-- Vendor Event Log Clear, which clears the N oldest records. (R554) -/
  | eventLogClear (e : Nat)
  /-- Vendor Hold-up Test, which runs the capacitance and ESR measurement. (R470) -/
  | holdUpTest (e : Nat)
  /-- HU_TEST_H or hourly timer that starts an automatic bank measurement. (R469) -/
  | holdupTestAuto
  /-- An extent enters FILLING once it fits within the dirty limit. (R186) -/
  | writeBufferAllocate (job off : Nat)
  /-- A compression lane finishes a map unit, compressed, raw or decompressed. (R363) -/
  | laneUnitComplete (lane job : Nat) (r : LaneResult)
  /-- Both buffer copies are written and the staging records are durable, so the extent is STAGED and the write may be acknowledged. (R194) -/
  | stagingDurable (job : Nat)
  /-- A queued punnet request is granted when freed punnets allow. (R385) -/
  | punnetGrant (req : Nat) (punnets : List Nat)
  /-- A punnet reference is decremented and the punnet returns to the pool at zero. (R386) -/
  | punnetRelease (p : Nat)
  /-- A request waiting past PN_WAIT_WARN_MS records event 0x04. (R385) -/
  | punnetWaitWarn (req : Nat)
  /-- A full stripe writes its open record and starts flushing. (R191) -/
  | stripeFlush (stream : Nat) (band : Nat)
  /-- PAD_IDLE_MS without an extent, or the oldest extent aged past five times PAD_IDLE_MS, pads and flushes the stripe. (R190) -/
  | stripePadIdle (stream : Nat)
  /-- L3_IDLE_MS of idleness while L3 or L4 is allowed pads and flushes every open stripe. (R428) -/
  | l3PadFlush
  /-- A program status poll completes, with pass, FAIL or slow. (R288) -/
  | memberProgramStatus (band stripe mem : Nat) (st : OpStatus) (busyUs : Nat)
  /-- The map stream writes dirty map pages in JSEQ order. (R211) -/
  | mapPageWrite (n : Nat)
  /-- Map root written to the alternate copy after a group of commits. (R211) -/
  | mapRootWrite
  /-- The map-update journal is truncated up to T when the conditions hold. (R198) -/
  | journalTruncate (t : Nat)
  /-- PWR_FAIL comparator asserts and the emergency flush or quiet power-down starts. (R213) -/
  | pwrFailAssert (f : FlushFacts)
  /-- Sled presence deasserts and the emergency flush starts. (R509) -/
  | prsntNDeassert (f : FlushFacts)
  /-- Hold-up bank low comparator asserts; during a flush it switches off every domain but PD0, otherwise it wakes the device. (R446) -/
  | hubLowAssert
  /-- A main rail leaves its range without a trigger; every domain but PD0 switches off without a flush. (R579) -/
  | mainRailOutOfRange
  /-- Every main rail has been in range for 1 ms, so the Seed island declares the rails in range. (R577) -/
  | mainRailsInRange
  /-- PRSNT_N asserts and the sled debounce starts. (R508) -/
  | sledPresenceAssert
  /-- Cold boot sequence from ROM to ready once rails, presence and trip conditions hold. (R485) -/
  | coldBoot (f : BootFacts)
  /-- ROM routine read call on a NOR. (R493) -/
  | romRead (c : RomCall)
  /-- ROM routine page program call on a NOR. (R493) -/
  | romProgram (c : RomCall)
  /-- ROM routine sector erase call on a NOR. (R493) -/
  | romEraseSector (c : RomCall)
  /-- A maintenance engine takes the next victim band by class and starts moving it. (R224) -/
  | maintenanceMoveStart (eng : Nat)
  /-- An ERASE_PENDING band with no pin writes its erase-started record and starts its erases. (R233) -/
  | eraseStart (band : Nat)
  /-- A member erase completes, and the erase-complete record is written when every member has passed. (R233) -/
  | eraseStatus (band mem : Nat) (st : OpStatus) (busyUs : Nat)
  /-- An erase in ERASING longer than ERASE_STARVE_MS records event 0x04. (R232) -/
  | eraseStarved (band : Nat)
  /-- 24-hour end-of-life prediction for each online carrier. (R244) -/
  | eolPrediction
  /-- Patrol codeword read judged clean, refresh or uncorrectable. (R246) -/
  | patrolReadComplete (band stripe mem cw : Nat) (r : CwResult)
  /-- A lap exceeds PATROL_HOURS and records event 0x0F. (R245) -/
  | patrolLapOverrun
  /-- Each operating minute adds AF(T) ÷ 60 to band ages and flags refreshes. (R248) -/
  | retentionAgeUpdate
  /-- A class 1 read reaches a die and is started, suspends an operation, is reconstructed or is queued. (R278) -/
  | dieReadRequest (die : Nat) (op : Nat) (cls : Nat) (band stripe mem cw : Nat)
  /-- A queued read not started after RECON_WAIT_US is served by reconstruction. (R278) -/
  | reconWaitExpiry (die op : Nat)
  /-- An operation waiting AGE_MS is promoted to class 1. (R276) -/
  | operationAgePromotion (die op : Nat)
  /-- A die starts its highest-priority ready operation once power is granted. (R276) -/
  | dieOperationStart (die : Nat)
  /-- A sense and transfer complete and the codeword goes to decode; a suspended operation resumes when no class 1 read waits. (R283) -/
  | readSenseComplete (die : Nat)
  /-- A decode completes or fails, climbing the read-retry ladder. (R283) -/
  | ldpcDecodeComplete (op : Nat) (corrected : Option Nat)
  /-- A reconstruction recovers a codeword from D members and checks its CRC. (R281) -/
  | reconstructionComplete (op : Nat) (ok : Bool)
  /-- On an idle die, a maintenance engine runs step V on a tracked page and stores the result. (R284) -/
  | trackValley (die blk : Nat) (opt : Nat) (off : Int)
  /-- Busy time reaches MEMBER_TMO_MS; Reset LUN is issued and the die fails. (R313) -/
  | memberOperationTimeout (die : Nat)
  /-- A LUN is not ready after two Reset LUNs and the die fails. (R288) -/
  | dieResetTimeout (die : Nat)
  /-- ZQ Calibration Short every ZQ_PERIOD_MS. (R268) -/
  | zqPeriod (ch : Nat)
  /-- 100 ms carrier sensor read that drives the program gate and calibration on a 5 °C move. (R289) -/
  | carrierTempSample (k : Nat) (t : Int)
  /-- Sensor unreadable for 1 s; temperature substituted. (R289) -/
  | carrierSensorTimeout (k : Nat)
  /-- Clock stretch over 10 ms or SDA held low ends the access as failed. (R584) -/
  | i2cStretchTimeout (k : Nat)
  /-- A gated carrier domain is powered and recalibrated on demand. (R269) -/
  | carrierDomainWake (k us : Nat)
  /-- In L2 or L3, an idle carrier domain is gated. (R430) -/
  | carrierDomainGate (k : Nat)
  /-- CAR_PRSNT_N asserts and the carrier is identified, powered and classed. (R339) -/
  | carrierInsert (k : Nat) (f : CarrierFacts)
  /-- u held at OUT_MAX for 5 ms; TARGET moves to RUN_MA. (R463) -/
  | carrierPowerGood (k : Nat)
  /-- Power not good 100 ms after the ramp starts; the switch opens and the carrier fails. (R463) -/
  | carrierPowerGoodTimeout (k : Nat)
  /-- CAR_PRSNT_N deasserts for more than 1 µs. (R337) -/
  | carrierRemove (k : Nat)
  /-- REBUILD_DELAY_MIN after a carrier loss, its dies enter rebuilding. (R315) -/
  | rebuildDelayExpiry (k : Nat)
  /-- A maintenance engine starts moving a band of the rebuild set. (R316) -/
  | rebuildStart (eng : Nat)
  /-- 60 minutes without a slow operation returns the die to online. (R309) -/
  | slowRecovery (die : Nat)
  /-- SLOW_FAIL_H hours in slow fails the die. (R309) -/
  | slowFail (die : Nat)
  /-- Uncorrectable MRAM result or interface failure; the journal moves to a flash area. (R326) -/
  | quinceDieFailure (d : Nat)
  /-- A full journal area leads to a snapshot into the other area and an erase of the full one. (R326) -/
  | journalAreaFull
  /-- Corrected DRAM line written back and charged to its page. (R403) -/
  | dramCorrectedError (c rank dev bank page : Nat)
  /-- Uncorrectable or command/address DRAM error in a rank. (R407) -/
  | dramUncorrectable (c rank cause : Nat) (owner : LineOwner)
  /-- Uncorrectable punnet word handled by owner. (R402) -/
  | punnetUncorrectable (p word : Nat) (owner : PunnetOwner)
  /-- PD5 table copy uncorrectable; the other copy is used and the bad one rewritten. (R397) -/
  | tableCopyError (table idx : Nat)
  /-- Refresh slot within tREFI (REFsb, or bursts in compatibility mode). (R393) -/
  | dramRefresh (c rank : Nat) (queued : Bool)
  /-- 32 ms mode register 4 read that halves tREFI when a rank is hot. (R393) -/
  | dramMr4Poll (c rank : Nat) (hot : Bool)
  /-- Periodic retraining step on one rank and subchannel. (R395) -/
  | dramRetrainStep (c : Nat) (ok : Bool) (ns : Nat)
  /-- Patrol scrub of DRAM lines in idle cycles, with lap completion. (R400) -/
  | dramScrub (c lines fixed : Nat)
  /-- A lap longer than WARN_H records event 0x09. (R400) -/
  | dramScrubLapWarn
  /-- 10 s scrub pass over the punnet SRAM and PD5 tables. (R401) -/
  | sramScrubPass (fixed : List (Nat × Nat))
  /-- Rewrite of every Quince word every QUINCE_REFRESH_H hours. (R401) -/
  | quinceRefresh (fixed : List (Nat × Nat × Nat)) (bad : Option Nat)
  /-- Dwell expiry that enters a deeper allowed power state. (R427) -/
  | powerStateEntry
  /-- Re-evaluation of the allowed state at each tolerance change and at least every 1 ms. (R434) -/
  | toleranceEvaluation
  /-- A wake source moves the device from L1 to L4 toward L0. (R436) -/
  | wakeEvent (src : WakeSource) (lateUs : Nat)
  /-- MAINT_WAKE_MIN below L0 returns the device to L0 for due maintenance. (R437) -/
  | maintenanceWake
  /-- Seed minute tick: metering banks switch, snapshots and totals are written, event summaries are recorded. (R168) -/
  | minuteTick
  /-- SEED_MS reaches 3,600,000; SEED_HOURS increments and lifetime thermal fields are written. (R442) -/
  | seedHourRollover
  /-- Crystal stopped for 1 ms; the Seed island switches to the internal oscillator. (R441) -/
  | crystalStop
  /-- Crystal ran 1 s without a break; the Seed island returns to it. (R441) -/
  | crystalRestore
  /-- A PLL has not locked in 50 µs and is restarted; the third failure records an event. (R448) -/
  | pllLockTimeout (pll : Nat)
  /-- Per-period control-law sample of an enabled loop slot. (R457) -/
  | loopSample (slot : Nat) (convs : List (Nat × Int))
  /-- Following error counted for FE_TIME_MS sets FE_FAULT and faults the slot. (R461) -/
  | followingErrorTimeout (slot : Nat)
  /-- 1 ms computation of the energy-derived dirty limit. (R468) -/
  | dirtyLimitUpdate
  /-- Tj sample that updates the rate and the thermal state. (R475) -/
  | thermalSample (tj : Int)
  /-- Each 500 ms in THROTTLE lowers the thermal limit by 2 W. (R475) -/
  | thermalLimitStep
  /-- Each 250 ms with the rate above ROR lowers the thermal limit by 2 W. (R475) -/
  | rorStep
  /-- Each 500 ms of calm outside THROTTLE raises the limit by 2 W toward PKG_LIMIT. (R475) -/
  | thermalLimitRise
  /-- 118 °C comparator fires; the device flushes or powers off and latches the trip. (R477) -/
  | overTemperatureTrip (f : FlushFacts)
  /-- An event is captured: sticky status, counts, notices and ALERT_N act, and the record is written if not suppressed. (R548) -/
  | eventCapture (code : Nat) (p0 p1 p2 p3 : Nat)
  /-- 20 µs after the first record of a journal-area group, the group is programmed even if 16 KiB has not gathered. (R326) -/
  | journalGroupTimeout
  /-- The test discharge ends when the bank has fallen HU_TEST_DV or 2 s have passed, and steps 4 and 5 compute c and ESR and complete the Hold-up Test. (R469) -/
  | holdupDischargeEnd (v1 : Nat) (charge : Nat) (esr : Nat)
  /-- A supervised recharge after a slot 16 fault that has not reached HU_VSET_MV within 10 minutes ends the test as failed and stops the charger. (R469) -/
  | holdupRechargeTimeout
  /-- The spare fill and line copy end, the spare takes the removed rank's addresses, RANK_REMOVED clears and event 0x0D05 is recorded. (R408) -/
  | rankMigratedToSpare (c ms : Nat)
  /-- The deallocation pass of a cryptographic erase reaches the last map unit, so Format NVM or a crypto-erase Sanitize completes and event 0x060B is recorded. (R153) -/
  | keyEraseCompleted (slice ms : Nat)
  /-- The source receives the destination's acceptance of an opened migration; Slice Save completes and the pre-copy starts. (R163) -/
  | migrationAcceptReceived (slice : Nat) (fits : Option Bool)
  /-- The destination receives a cancellation of the migration, from Slice Save cancel or from a Format or Sanitize of the source, and discards its data while it stays restoring. (R166) -/
  | migrationCancelReceived (p : PeerNote)
  /-- The sender receives the downstream peer's completion of a forwarded piece or commit, and continues, retries after reason 4, or ends with event 0x100C. (R534) -/
  | forwardCompletionReceived (reason : Option Nat)
  /-- Each millisecond adds the allocated granules, provisioned granules and existing controllers of each slice to ALLOC_GMS, PROV_GMS and CTRL_MS. (R167) -/
  | meteringMsSum
  /-- VDD_SEED is removed, which clears the latched over-temperature trip and loses the Seed counters, the real-time clock and the L4 state. (R477) -/
  | vddSeedLoss
  /-- VDD_SEED comes into range and the Seed island starts on its crystal, with its counters and clock empty until a cold boot restores them. (R444) -/
  | vddSeedReturn
  /-- A fabric host or peer closes or resets a TCP connection or RDMA queue pair, so capsules in its ring are discarded and admitted commands run on with their completions discarded. (R87) -/
  | transportConnectionClosed (conn : Nat)
  deriving DecidableEq, Repr

end Sys2Proof
end

