-- ==== Sys2Proof/Machine/State.lean ====
section
/-! DEFINITION. The state of the FV7240 as plain data: every piece the spec gives the machine, each field with the rule that
names it; the default value of a field is its value after reset. The control-space registers that software or hardware
writes whole are in `State.regs`, sparse over their reset values (Machine/Regs.lean). -/

namespace Sys2Proof.Machine

open Sys2Proof

/-- Why the block would stop. The spec gives the block no command that stops it: every failure it describes is a completion
status, an event, or a state (R128, R129, R492). No constructor; nothing raises it, which is safe. -/
inductive Fault where
  deriving DecidableEq

/-- Why a command has no meaning in this model. -/
inductive Refusal where
  /-- The command's row has no meaning yet; raised by an arm of `exec` alone. Safe: the run stops. -/
  | notModelled (mnemonic : String)
  deriving DecidableEq, Repr

/-! ### The device as a whole (chapter 01) -/

/-- GLB_STATE.STATE (R41). -/
inductive GlbState where
  | coldBoot | recovery | ready | pause | flush
  deriving DecidableEq, Repr

/-- State the global registers report (R41 to R46) and configuration hold (R492). -/
structure Glb where
  /-- GLB_STATE.STATE (R41). -/
  state : GlbState := .coldBoot
  /-- GLB_STATE.BOOT_STEP, 8 bits (R41). -/
  bootStep : Nat := 0
  /-- CORE_ACTIVE, 18 bits (R44). -/
  coreActive : BitVec 18 := 0x0FFFF
  /-- CORE_FAILED, 18 bits (R45). -/
  coreFailed : BitVec 18 := 0
  /-- Configuration hold and its cause: 1 no loader, 2 no image, 3 DRAM (R492, R514). -/
  hold : Option Nat := none
  /-- GLB_CAP1.DRAM_GIB, zero until DRAM initialisation completes (R43). -/
  dramGib : Nat := 0
  /-- Bring-up began: main domains are powered (R485 step 1). -/
  powered : Bool := false
  deriving DecidableEq, Repr

/-! ### Fuses and the configuration NOR pair (chapters 13, 14) -/

/-- The fuses (R488). ROOT_KEY is named by the key store only. -/
structure Fuses where
  /-- ID_PART.GRADE, 2 bits (R7, R488). -/
  grade : Nat := 1
  /-- VENDOR_KEY_HASH, 384 bits (R488). -/
  vendorKeyHash : BitVec 384 := 0
  /-- OWNER_KEY_HASH, blank on a new device (R489). -/
  ownerKeyHash : Option (BitVec 384) := none
  /-- ANTI_ROLLBACK thermometer value, 0 to 64 (R488, R528). -/
  antiRollback : Nat := 0
  /-- JTAG_LOCK (R4, R488). -/
  jtagLock : Bool := true
  deriving DecidableEq, Repr

/-- The NOR pair and the ROM routine (R490 to R495, R510 to R512). -/
structure Nor where
  /-- Size codes of NOR A and NOR B, 0 absent (R510). -/
  sizes : List Nat := [0, 0]
  /-- Configuration copies CA and CB (R490). -/
  copies : List (Option ImageBundle) := [none, none]
  /-- Firmware slot copies A0, A1, B0, B1 (R490, R518). -/
  slots : List (Option Bundle) := [none, none, none, none]
  /-- The loader in the loader region of NOR A and NOR B: its component version and length (R490, R528). -/
  loaders : List (Nat × Nat) := [(0, 0), (0, 0)]
  /-- NOR_STAT.LOADER (R510). -/
  bootLoader : Nat := 0
  /-- NOR_STAT.CFG_COPY (R510). -/
  cfgCopy : Nat := 0
  /-- Programmed bytes of NOR A and NOR B that a ROM call has written (R493). -/
  cells : List (Nat × Nat × Byte) := []
  /-- ROM_MBX_CMD.OP, NOR, STATUS and BUSY (R512). -/
  mbxOp : Nat := 0
  mbxNor : Nat := 0
  mbxStatus : Nat := 0
  mbxBusy : Bool := false
  /-- ROM_MBX_ADDR, ROM_MBX_LEN, ROM_MBX_RET (R512). -/
  mbxAddr : Nat := 0
  mbxLen : Nat := 0
  mbxRet : Nat := 0
  /-- An erase runs on NOR A, NOR B (R495, R510). -/
  erasing : List Bool := [false, false]
  /-- xSPI outputs at high impedance in configuration hold (R492). -/
  hiZ : Bool := false
  /-- NOR_WP_N held low while the loader runs (R487). -/
  writeProtect : Bool := false
  deriving DecidableEq, Repr

/-- The configuration in force and the state of Apply Configuration (R498, R502 to R504, R511). -/
structure Cfg where
  /-- The image in force (R491). -/
  image : Image := {}
  /-- SHA-384 of the key that signed the image in force (R489). -/
  signer : BitVec 384 := 0
  /-- Live values of the live-applicable records, in the image's record form (R498, R504). -/
  live : List ImgRecord := []
  /-- CFG_LIVE.PENDING (R511). -/
  pending : Bool := false
  /-- CFG_LIVE.UNSTORED (R511). -/
  unstored : Bool := false
  /-- CFG_LIVE.LAST_REASON (R511). -/
  lastReason : Nat := 0
  /-- Addressing records that act 100 ms after the completion (R504), and since when. -/
  deferred : List ImgRecord := []
  deferredAt : Nat := 0
  deriving DecidableEq, Repr

/-- The activation record (R520). -/
structure ActRec where
  seq : Nat := 0
  confirmed : Nat := 1
  state : Nat := 0
  loader : Nat := 0
  source : Nat := 0
  pinnedGen : Nat := 0
  secverTarget : Nat := 0
  candVersion : BitVec 64 := 0
  confVersion : BitVec 64 := 0
  deriving DecidableEq, Repr

/-- Firmware slots, activation and forwarding (R518 to R537). -/
structure Fw where
  /-- The two copies of the activation record, written alternately (R520). -/
  recA : Option ActRec := none
  recB : Option ActRec := none
  /-- FW_STATE.ACTIVE_SLOT: running slot (R535). -/
  activeSlot : Nat := 1
  /-- VERSION, SECVER, ABI and settings format of the running image (R515, R519). -/
  running : Bundle := {}
  /-- FW_RECEIVED: bytes received into the staging slot (R535). -/
  received : Nat := 0
  /-- Bytes of the download under way (R521). -/
  pieces : List Byte := []
  /-- NORs, 0 A and 1 B, on which a piece of this bundle could not be programmed (R493, R521). -/
  badNor : List Nat := []
  /-- FW_STATE.LAST_REASON (R535). -/
  lastReason : Nat := 0
  /-- Operating ms at which probation ends (R527). -/
  probEnd : Option Nat := none
  /-- A severity-4 event or core fault occurred during probation (R527). -/
  probFault : Bool := false
  /-- Settings generations written on probation (R530). -/
  probGens : Nat := 0
  /-- FW_RING.DN_STATE (R536). -/
  dnState : Nat := 0
  /-- Next offset of the forwarding under way; none when the commit is outstanding (R534). -/
  fwdOffset : Nat := 0
  fwdCommit : Bool := false
  fwdStart : Nat := 0
  fwdRetryAt : Nat := 0
  deriving DecidableEq, Repr

/-! ### The Seed island and power states (chapter 11) -/

/-- The device power states (R424). -/
inductive PState where
  | l0 | l1 | l2 | l3 | l4
  deriving DecidableEq, Repr

/-- The condition of a power domain (R426): powered and clocked, clocks stopped, unpowered, the SerDes in Low Power Idle, a port's wake
logic alone, DRAM in power-down. -/
inductive DomCond where
  | on | gated | off | lpi | wakeOnly | powerDown
  deriving DecidableEq, Repr

/-- The always-on island: time, counters, comparators, wake cause (R441 to R451). -/
structure Seed where
  /-- Microseconds since the model's start; the clock durations are measured on. The model's own. -/
  now : Nat := 0
  /-- SEED_HOURS, 32 bits (R442). -/
  hours : Nat := 0
  /-- Microseconds within the hour; SEED_MS is this ÷ 1,000 (R442). -/
  us : Nat := 0
  /-- SEED_PCYCLE, 32 bits (R443). -/
  pcycle : Nat := 0
  /-- SEED_TICKS: minute ticks since cold boot (R451). -/
  ticks : Nat := 0
  /-- SEED_RTC, 64 bits, in seconds (R445). -/
  rtc : BitVec 64 := 0
  /-- Part of the current second, in µs (R445). -/
  rtcUs : Nat := 0
  /-- The half of SEED_RTC_LO held until SEED_RTC_HI is written (R445). -/
  rtcLoHeld : Option Word := none
  /-- SEED_MS captured by a read of SEED_HOURS (R442). -/
  msCapture : Option Nat := none
  /-- The crystal runs (R441). -/
  crystal : Bool := true
  /-- Running on the internal oscillator (R441), and since when the crystal's condition stands. -/
  onRc : Bool := false
  crystalAt : Nat := 0
  /-- SEED_STAT.RC_CLK (R441, R450). -/
  rcClk : Bool := false
  /-- SEED_STAT.COUNTERS_RESTORED (R444). -/
  countersRestored : Bool := false
  /-- SEED_STAT.PF_QUIET (R439). -/
  pfQuiet : Bool := false
  /-- Cause of the quiet power-down: 1 PWR_FAIL, 2 PRSNT_N (R455). -/
  quietCause : Nat := 0
  /-- SEED_STAT.OT_TRIP; THERMTRIP_N is low while set (R446, R477). -/
  otTrip : Bool := false
  /-- SEED_STAT.HUB_LOW (R446). -/
  hubLow : Bool := false
  /-- SEED_STAT.PWR_FAIL (R446). -/
  pwrFail : Bool := false
  /-- SEED_STAT.PRSNT: PRSNT_N asserted (R446, R508), and since when. -/
  prsnt : Bool := false
  prsntAt : Nat := 0
  /-- Main rails declared in range (R577). -/
  rails : Bool := false
  /-- VDD_SEED in range (R444). -/
  vdd : Bool := true
  /-- VDD_SEED was lost since the last cold boot (R444, R249). -/
  vddLost : Bool := false
  /-- SEED_WAKE cause bits [8:0] and FROM (R451). -/
  wake : BitVec 9 := 0
  wakeFrom : Nat := 0
  /-- SEED_STAT.REF_LATE (R440). -/
  refLate : Bool := false
  /-- SEED_STAT.REF_REQ: REFCLK_REQ_N asserted (R447). -/
  refReq : Bool := true
  /-- L4 entry time kept in the Seed island (R439). -/
  l4Entry : Option Nat := none
  /-- Seed time of a switch-off during an emergency flush (R214). -/
  offLatch : Option Nat := none
  /-- Seed time main power went away, for R249. -/
  powerOffAt : Option Nat := none
  /-- Failed lock attempts of PLLs 0 to 9 (R448). -/
  pllFails : List Nat := [0, 0, 0, 0, 0, 0, 0, 0, 0, 0]
  /-- Events the Seed island latches until PD5 is on (R441, R548): code and parameters. -/
  latched : List (Nat × List Nat) := []
  deriving DecidableEq, Repr

/-- The power state and its selection (R424 to R440). -/
structure Power where
  /-- SEED_STAT.STATE (R450). -/
  state : PState := .l0
  /-- SEED_STAT.ALLOWED (R434, R450). -/
  allowed : PState := .l0
  /-- PS_LT (R453). -/
  lt : Word := 0xFFFFFFFF
  /-- PS_LT_SRC KIND and ID (R453). -/
  ltKind : Nat := 2
  ltId : Nat := 0
  /-- When idleness of L1 and of L3 began (R427). -/
  idleAt : Option Nat := none
  idle3At : Option Nat := none
  /-- When the device left L0, and entered the current state (R437, R454). -/
  belowAt : Option Nat := none
  enteredAt : Nat := 0
  /-- Maintenance fell due under R437 (R429). -/
  maintDue : Bool := false
  /-- Carrier domains PD12 to PD27 (R430). -/
  carDom : List DomCond := List.replicate 16 .off
  /-- The other domains: PD0 to PD11, then PD28 to PD35 (R26, R426). -/
  doms : List DomCond := .on :: List.replicate 19 .off
  /-- DRAM devices in self-refresh (R426, R438). -/
  selfRefresh : Bool := false
  deriving DecidableEq, Repr

/-! ### Fabric ports (chapter 02) -/

/-- One logical MAC (R47, R70, R80). -/
structure Mac where
  present : Bool := false
  up : Bool := false
  fault : Bool := false
  faultAt : Nat := 0
  cause : Nat := 0
  link : Bool := false
  linkAt : Nat := 0
  fec : Nat := 0
  /-- PHY type of the link: 0 KR, 1 CR, 2 a chip-to-module interface or SFI (R47, R49). -/
  phy : Nat := 0
  lpi : Bool := false
  addr : BitVec 48 := 0
  /-- PFC pause state of the eight priorities: since when, and whether event 0x05 was recorded (R57, R58). -/
  paused : List (Option Nat) := List.replicate 8 none
  pauseWarned : List Bool := List.replicate 8 false
  deriving DecidableEq, Repr

/-- The rate state of a flow (R59, R60): `rc` in bit/s. -/
structure Flow where
  id : Nat
  mac : Nat
  tcp : Bool
  rc : Nat
  lastDec : Option Nat := none
  lastCnp : Option Nat := none
  /-- The last increase, or the set-up of the flow (R60). -/
  lastInc : Nat := 0
  /-- Congestion window of a TCP connection in bytes, and its slow-start threshold, none before the first congestion signal (R61). -/
  cwnd : Nat := 0
  ssthresh : Option Nat := none
  deriving DecidableEq, Repr

/-- A transport connection (R55, R62, R63, R65). -/
structure Conn where
  id : Nat
  iface : Nat
  mac : Nat
  tcp : Bool
  port : Nat := 4420
  /-- Ring connection: neighbour (R74). -/
  ring : Option Nat := none
  /-- ECN was negotiated (TCP) or is in use (RoCEv2) (R59). -/
  ecn : Bool := false
  tls : Bool := false
  /-- Slice whose pre-shared key the TLS session uses, 0 the management slice (R63). -/
  psk : Option Nat := none
  /-- Its MAC went down (R71): completions of its commands are discarded. -/
  lost : Bool := false
  /-- RDMA MTU in bytes; RDMA READs the device may have outstanding, and has: the entries (R65). -/
  pmtu : Nat := 4096
  readMax : Nat := 16
  reads : List Nat := []
  icDone : Bool := false
  hdgst : Bool := false
  ddgst : Bool := false
  hpda : Nat := 0
  /-- Reading stopped for lack of in-capsule pool room (R87), and the capsules that wait outside. -/
  held : Bool := false
  waiting : List (Nat × Capsule) := []
  deriving DecidableEq, Repr

/-- A Bramble neighbour (R74 to R77, R84). -/
structure Neighbour where
  configured : Bool := false
  addr0 : BitVec 128 := 0
  addr1 : BitVec 128 := 0
  nqn : List Byte := []
  state : Nat := 0
  port : Nat := 0
  /-- Interfaces through P0 and through P1 (R74). -/
  if0 : Nat := 0
  if1 : Nat := 0
  /-- Port of the connection attempt under way (R77). -/
  tryPort : Nat := 0
  /-- Port each association was last up on, for R77's move event: the one the device initiates, the one the peer initiates. -/
  lastPortI : Option Nat := none
  lastPortT : Option Nat := none
  assocInit : Bool := false
  assocTarget : Bool := false
  /-- Queue pairs of the association the device initiates: queue identifier, entries and flow (R60, R75). -/
  initQps : List (Nat × Nat × Nat) := []
  lostAt : Option Nat := none
  retryAt : Nat := 0
  /-- Last sign of the peer on each association (R76). -/
  heardI : Nat := 0
  heardT : Nat := 0
  deriving DecidableEq, Repr

/-- What the device has sent onto the fabric apart from completions. -/
inductive Sent where
  | arpReply (iface : Nat) (ip : BitVec 32)
  | neighborAdvert (iface : Nat) (ip : BitVec 128)
  | echoReply (iface len frames : Nat)
  | cnp (flow : Nat)
  | tcpReset (conn : Nat)
  | rdmaReject (conn : Nat)
  | tcpAccept (conn : Nat) (ecn : Bool)
  | rdmaAccept (conn mtu reads : Nat)
  | icResp (conn cpda maxH2cData : Nat)
  | r2t (e bytes : Nat)
  | rdmaRead (e bytes : Nat)
  | rnrNak (conn : Nat)
  | connClosed (conn : Nat)
  | notice (cntl type info lid : Nat)
  | peerChange (slice : Nat) (c : PeerChange)
  | peerAck (slice : Nat)
  | peerDetach (slice : Nat)
  | lostReport (slice nsid mu : Nat)
  | repairRequest (slice nsid mu : Nat)
  | migrateOpen (slice nb id : Nat) (nqn : List Byte)
  | migrateCancel (slice : Nat)
  | migrateCommit (slice : Nat)
  | commitAck (slice : Nat)
  | pairing (slice pairId : Nat) (nqn : List Byte)
  | restartRequest (job seq : Nat) (cause : Option Nat)
  | streamRestart (job seq : Nat)
  | fwPiece (ofst len : Nat)
  | fwCommit
  | xoff (port prio : Nat)
  deriving DecidableEq, Repr

/-- The fabric side (R47 to R84). -/
structure Fabric where
  /-- Mode codes of P0 and P1 (R47, R79). -/
  modes : List Nat := [0, 0]
  /-- L4_LINK of P0 and P1 (R79). -/
  l4link : List Nat := [0, 0]
  /-- FEC of P0 and P1 for chip-to-module types (R49, R498). -/
  fecCfg : List Nat := [0, 0]
  /-- MAC0 to MAC7 (R48). -/
  macs : List Mac := List.replicate 8 {}
  ifaces : List Iface := []
  mgmtVlan : Nat := 0
  /-- Lossless marking and ETS share per priority (R56). -/
  dcb : List (Bool × Nat) :=
    [(false, 40), (false, 0), (false, 0), (true, 40), (false, 0), (true, 10), (false, 10), (false, 0)]
  /-- ANA change count (R71). -/
  anaCount : Nat := 0
  flows : List Flow := []
  conns : List Conn := []
  /-- Upstream (0) and downstream (1) neighbours. -/
  nbs : List Neighbour := [{}, {}]
  /-- The ring secret, wrapped (R502, R506). -/
  ringSecret : List Byte := []
  sent : List Sent := []
  deriving DecidableEq, Repr

/-! ### The command engine (chapter 03) -/

/-- CCT STATE (R92). -/
inductive CctState where
  | free | validating | heldOverlap | heldQos | dispatched | heldResource | completing
  deriving DecidableEq, Repr

/-- The completion gate (R92, R106). -/
inductive Gate where
  | open | committed | closedNormally | closedAborted
  deriving DecidableEq, Repr

/-- Data a completion carries to the host: bytes, LBAs, or `len` bytes of a page from byte `first`, the page given by its
(offset, bytes, value) fields. Bytes of a page that no field covers are zero where the spec reserves them, else open. -/
inductive Payload where
  | none
  | bytes (l : List Byte)
  | lbas (l : List Lba)
  | page (first len : Nat) (fields : List (Nat × Nat × Nat))
  deriving DecidableEq, Repr

/-- One CCT entry that is not free: the fields of R92 and the submission entry it was admitted from. -/
structure Cct where
  idx : Nat
  st : CctState := .validating
  gate : Gate := .open
  abortReq : Bool := false
  orderDone : Bool := false
  slice : Nat
  queue : Nat
  seq : Word := 0
  origin : Nat := 0
  core : Option Nat := none
  /-- How far the command has got: 0 not begun, 1 begun, 2 a Copy reads its source, 3 has read it. The model's own. -/
  step : Nat := 0
  /-- STEP of R92. -/
  durable : Nat := 0
  slba : Nat := 0
  nlb : Nat := 0
  muFirst : Nat := 0
  muCount : Nat := 0
  waits : Nat := 0
  /-- Punnets that hold the data received for the command; PUNNET is the first of them. -/
  chain : List Nat := []
  arrival : Nat := 0
  status : Nat := 0
  result : Word := 0
  cntl : Nat := 0
  cap : Capsule
  /-- Entries that wait on this one: its part of the queue's conflict list (R94). -/
  waiters : List Nat := []
  /-- Since when the entry is held, and whether R97's event was recorded. -/
  heldAt : Nat := 0
  warned : Bool := false
  /-- µs spent held for QoS (R167). -/
  qosUs : Nat := 0
  /-- Map units of the command whose staging is not durable yet. -/
  left : Nat := 0
  /-- It waits for what it does itself rather than for a resource of R33: a notice, a quiesce, a test. The model's own. -/
  waitsOwn : Bool := false
  /-- The peer's acknowledgement is outstanding (R157). -/
  peerWait : Bool := false
  /-- Completion is discarded, not posted (R37, R117). -/
  discard : Bool := false
  /-- Closed, its completion held because the priority of its connection is paused (R58). -/
  parked : Bool := false
  /-- Bytes of the R2T outstanding (R62); an RDMA READ for it is outstanding (R65). -/
  r2t : Nat := 0
  fetching : Bool := false
  /-- Marked for re-dispatch after a core fault or a pause (R110, R524). -/
  redo : Bool := false
  out : Payload := .none
  /-- The page a Get Log Page of 0xC1 captured at its admission: bytes and fields (R170). -/
  page : Option (Nat × List (Nat × Nat × Nat)) := none
  /-- Contributions counted when the gate closes (R167): LBA data bytes read and written, the metadata bytes beside them, and
  bytes deallocated, stored and forwarded. -/
  rd : Nat := 0
  wr : Nat := 0
  pib : Nat := 0
  zr : Nat := 0
  stored : Nat := 0
  fwd : Nat := 0
  deriving DecidableEq, Repr

/-- A submission queue and its ring (R86 to R89). -/
structure Queue where
  idx : Nat
  cntl : Nat
  qid : Nat
  conn : Nat
  size : Nat
  flowOff : Bool := false
  ring : List Capsule := []
  nextSeq : Word := 0
  sqhd : Nat := 0
  /-- Its connection has ended; it is freed when its last admitted command closes (R88). -/
  dead : Bool := false
  deriving DecidableEq, Repr

/-- An asynchronous event notice (R560). -/
structure Notice where
  type : Nat
  info : Nat
  lid : Nat
  deriving DecidableEq, Repr

/-- One Error Information entry (R128). -/
structure ErrEntry where
  count : Nat
  sqid : Nat
  cid : Nat
  status : Nat
  lba : Nat
  nsid : Nat
  deriving DecidableEq, Repr

/-- A controller (R66, R113 to R117, R120, R433, R560). -/
structure Ctrl where
  id : Nat
  slice : Nat
  mac : Nat
  iface : Nat
  hostNqn : List Byte := []
  hostId : BitVec 128 := 0
  /-- Association of the ring subsystem: the neighbour (R74). -/
  ring : Option Nat := none
  discovery : Bool := false
  /-- CC.EN, CC.SHN, CSTS.RDY, CSTS.SHST (R113 to R116). -/
  en : Bool := false
  shn : Nat := 0
  rdy : Bool := false
  shst : Nat := 0
  cc : Word := 0
  shnAt : Option Nat := none
  /-- Admission from this controller's queues stopped (R113, R115). -/
  stopped : Bool := false
  /-- Keep-alive timeout in ms and the time it was last restarted (R589). -/
  kato : Nat := 120000
  kaAt : Nat := 0
  /-- Feature 0x01 Arbitration Burst; the I/O queue whose turn it is and the commands admitted in this turn (R89). -/
  ab : Nat := 7
  turn : Option Nat := none
  turnN : Nat := 0
  /-- Feature 0x02 power state and feature 0x0C table (R433). -/
  ps : Nat := 0
  lastIo : Nat := 0
  apste : Bool := false
  apst : List (Nat × Nat) := List.replicate 5 (0, 0)
  /-- Feature 0x04 thresholds in kelvin (R474). -/
  tOver : Nat := 368
  tUnder : Nat := 263
  /-- Feature 0x0B (R561). -/
  evCfg : Word := 0x00000B1F
  /-- Feature 0x82 per namespace (R120). -/
  resMask : List (Nat × Word) := []
  /-- Feature 0xC0 (R171, R434). -/
  lt : Word := 0xFFFFFFFF
  /-- Outstanding Asynchronous Event Requests, as CCT indices; pending and masked notices (R560). -/
  aers : List Nat := []
  pendingN : List Notice := []
  maskedN : List Notice := []
  errs : List ErrEntry := []
  /-- Held admin capsules of a quiescing slice (R146). -/
  holdList : List (Nat × Capsule) := []
  changedNs : List Nat := []
  resLog : List (Nat × Nat) := []
  /-- Critical Warning as last examined (R253). -/
  warn : Nat := 0
  /-- A disable under way: entries carried to completion and entries aborted (R113); the controller ends with it (R117). -/
  dis : Option (Nat × Nat) := none
  dying : Bool := false
  deriving DecidableEq, Repr

/-- A posted completion (R88, R104). -/
structure Posted where
  queue : Nat
  cid : Nat
  status : Nat
  result : Word
  sqhd : Nat
  data : Payload := .none
  deriving DecidableEq, Repr

/-- The command engine (R86 to R134). -/
structure Engine where
  ctrls : List Ctrl := []
  queues : List Queue := []
  /-- CCT entries not free, in admission order (R90). -/
  cct : List Cct := []
  posted : List Posted := []
  /-- In-capsule data pool: bytes in use of 512 MiB (R87). -/
  poolUsed : Nat := 0
  /-- CE_CCT_SEL capture, the 16 words of CE_CCT_DATA (R133). -/
  capture : List Word := List.replicate 16 0
  /-- The device is shut down or shutting down: the requesting controller, dirty KiB at the request, and when (R116). -/
  shutdown : Option (Nat × Nat × Nat) := none
  /-- The stop record of the device shutdown is written (R116). -/
  shutDone : Bool := false
  shutPads : Nat := 0
  /-- Slice last served by the release pass's round robin (R94). -/
  rrSlice : Nat := 0
  /-- Released commands and bytes of the last 1 ms per slice: (slice, time, bytes) (R150). -/
  released : List (Nat × Nat × Nat) := []
  /-- Commands abandoned by an emergency flush; their completions never come (R213). -/
  abandoned : Nat := 0
  deriving DecidableEq, Repr

/-! ### Tenant slices (chapter 04) -/

/-- Slice states (R146). -/
inductive SliceState where
  | unused | active | quiescing | quiesced | frozen | moved | inDoubt | restoring | replica
  deriving DecidableEq, Repr

/-- The slice descriptor (R142); secrets are kept wrapped (R151). -/
structure Desc where
  subnqn : List Byte := []
  capMib : Nat := 0
  cct : Nat := 0
  qpairs : Nat := 0
  ctrls : Nat := 0
  ns : Nat := 0
  replicated : Bool := false
  replHold : Bool := false
  authReq : Bool := false
  tlsReq : Bool := false
  pairId : Nat := 0
  iopsCeil : Nat := 0
  iopsFloor : Nat := 0
  bwCeil : Nat := 0
  bwFloor : Nat := 0
  opBurst : Nat := 0
  byteBurst : Nat := 0
  ltMin : Nat := 0
  hostLen : Nat := 0
  ctrlLen : Nat := 0
  pskLen : Nat := 0
  hostSecret : List Byte := []
  ctrlSecret : List Byte := []
  psk : List Byte := []
  deriving DecidableEq, Repr

/-- Reservation state of a namespace (R118, R120). -/
structure Resv where
  regs : List (BitVec 128 × BitVec 64) := []
  holder : Option (BitVec 128) := none
  rtype : Nat := 0
  gen : Nat := 0
  ptpl : Bool := false
  deriving DecidableEq, Repr

/-- A namespace (R125, R127, R174). -/
structure Ns where
  nsid : Nat
  nsze : Nat
  lbaf : Nat := 0
  pi : Nat := 0
  attached : List Nat := []
  resv : Resv := {}
  deriving DecidableEq, Repr

/-- A metering snapshot (R170). -/
structure Snap where
  seq : Nat
  hours : Nat
  ms : Nat
  pcycle : Nat
  partMin : Bool := false
  migrated : Bool := false
  deltas : List Nat
  deriving DecidableEq, Repr

/-- The meters of a slice (R167, R168): totals, the two accumulating banks, the bank in use and the history. -/
structure Meter where
  totals : List Nat := List.replicate 16 0
  bank0 : List Nat := List.replicate 16 0
  bank1 : List Nat := List.replicate 16 0
  sel : Bool := false
  seq : Nat := 0
  snaps : List Snap := []
  restarted : Bool := false
  migrated : Bool := false
  deriving DecidableEq, Repr

/-- An erase of a slice's data under way (R153, R154). -/
structure EraseJob where
  /-- A Sanitize, else a Format NVM or a Slice Delete; by block erase; the entry that waits. -/
  sanitize : Bool
  block : Bool
  waiting : Option Nat
  /-- Bands that held an extent of the slice and have not been erased since (R154). -/
  bands : List Nat := []
  deriving DecidableEq, Repr

/-- An open migration (R163 to R165). -/
structure Mig where
  id : Nat
  nb : Nat
  converge : Nat
  /-- Marked change regions: (nsid, region) (R164). -/
  marked : List (Nat × Nat) := []
  passes : Nat := 0
  waiting : Option Nat := none
  committed : Bool := false
  startAt : Nat := 0
  deriving DecidableEq, Repr

/-- A tenant slice that is not unused (R136 to R171). -/
structure SliceS where
  num : Nat
  state : SliceState := .active
  desc : Desc := {}
  /-- The key in key slot `num`, 512 bits read as one little-endian number (R151). -/
  key : Nat := 0
  nss : List Ns := []
  /-- REPL_STATE (R157). -/
  repl : Nat := 0
  /-- Neighbour a replica or a restoring slice comes from, and its PAIR_ID or MIGRATION_ID (R155, R161). -/
  peer : Nat := 0
  peerId : Nat := 0
  /-- MIG_STATE (R164) and the open migration. -/
  migState : Nat := 0
  mig : Option Mig := none
  /-- Resync bitmap: marked regions (nsid, region of 4,096 units) (R158). -/
  resync : List (Nat × Nat) := []
  /-- Every region is marked for the new key or at pairing; regions copied so far, and since when (R158). -/
  keySend : Bool := false
  /-- Changes other than to map units that wait for the peer's return (R156, R158). -/
  away : List PeerChange := []
  copied : Nat := 0
  syncAt : Nat := 0
  /-- Runs of map units with a forwarded change outstanding at the replica, and those queued behind them: namespace, first
  unit, count and the entry that waits (R156). -/
  outstanding : List (Nat × Nat × Nat × Option Nat) := []
  queued : List (Nat × Nat × Nat × Option Nat) := []
  /-- QoS buckets in tokens × 10^-? exact units: op tokens in 10^-5 commands, byte tokens in bytes (R94, R150). -/
  opTok : Int := 0
  byteTok : Int := 0
  /-- Queue last released from (R94). -/
  rrQueue : Nat := 0
  /-- QoS fields still in force, where a modify has replaced them, until the next refill (R144). -/
  qosOld : Option (List Nat) := none
  erase : Option EraseJob := none
  /-- Sanitize Status of page 0x81: 0 never, 1 completed, 2 in progress; Dword 10 of the last Sanitize (R122, R153). -/
  sanStat : Nat := 0
  sanDw10 : Word := 0
  /-- A replica whose source has sent a detach (R149). -/
  detached : Bool := false
  /-- The Slice Quiesce commands that wait; entries aborted by FORCE (R148). -/
  quiesce : List Nat := []
  quiesceAborted : Nat := 0
  meter : Meter := {}
  /-- Bytes read and written for log page 0x02, lost units, error entries (R252). -/
  readBytes : Nat := 0
  writeBytes : Nat := 0
  busyMs : Nat := 0
  lostUnits : Nat := 0
  errCount : Nat := 0
  deriving DecidableEq, Repr

/-- The slices and the credentials of the management slice (R136 to R172, R541, R567). -/
structure Slices where
  list : List SliceS := []
  /-- Last metering record of deleted slices (R148). -/
  gone : List SliceS := []
  /-- Management-slice credentials, wrapped; empty when unset (R541). -/
  mgHost : List Byte := []
  mgCtrl : List Byte := []
  mgPsk : List Byte := []
  /-- MG_AUTH_CTL.ERR, LEN, TYPE and MG_AUTH_DATA (R567). -/
  mgErr : Bool := false
  mgData : List Word := List.replicate 16 0
  /-- Draws of the CTR_DRBG so far (R151). -/
  keyGen : Nat := 0
  /-- Error entries created for controllers of the management slice (R252). -/
  mgErrCount : Nat := 0
  /-- Key slots: (slot, key) (R136, R140). -/
  keySlots : List (Nat × Nat) := [(0, 0)]
  deriving DecidableEq, Repr

/-! ### The map, the write buffer and the journal (chapters 05, 06, 08) -/

/-- Where a map entry says its extent lies (R177, R181): `gone` is GRANULE all ones, an extent that no longer exists. -/
inductive Loc where
  | dealloc
  | buffered (off : Nat)
  | band (gran : Nat)
  | landing (gran : Nat)
  | gone
  deriving DecidableEq, Repr

/-- A map entry by its fields (R177); `len` is the LEN field, zero when the extent is raw. -/
structure MapEntry where
  loc : Loc := .dealloc
  len : Nat := 0
  comp : Bool := false
  lost : Bool := false
  deriving DecidableEq, Repr

/-- A listed map entry: the entry of map unit `mu` of namespace `nsid` of slice `slice`. An unlisted unit is deallocated. -/
structure MapCell where
  slice : Nat
  nsid : Nat
  mu : Nat
  e : MapEntry
  deriving DecidableEq, Repr

/-- Write-buffer extent states (R185); an extent that is FREE is not listed. -/
inductive BufState where
  | filling | staged | gathered | flushing
  deriving DecidableEq, Repr

/-- A write-buffer extent (R184, R185): granule offset in each copy, length, the unit it belongs to and its content. -/
structure BufExt where
  off : Nat
  len : Nat
  slice : Nat
  nsid : Nat
  mu : Nat
  x : Extent
  st : BufState := .filling
  superseded : Bool := false
  goodA : Bool := true
  goodB : Bool := true
  /-- Time it entered STAGED (R190). -/
  since : Nat := 0
  /-- Readers that pin it (R98): CCT indices. -/
  pins : List Nat := []
  deriving DecidableEq, Repr

/-- A map unit that a command, a merge or a peer is writing, or that a command reads through a lane (R187, R359). -/
structure UnitJob where
  id : Nat
  /-- CCT entry it belongs to; none for a peer's extent or a repair. -/
  entry : Option Nat
  slice : Nat
  nsid : Nat
  mu : Nat
  reading : Bool := false
  /-- The peer's change this job stores, acknowledged when durable (R156). -/
  peer : Bool := false
  /-- 0 in a lane's queue, 1 extent formed, 2 FILLING. -/
  stage : Nat := 0
  lane : Nat := 0
  /-- MODE was store-raw when the lane that holds the unit started it, where MODE has changed since (R365). -/
  raw : Option Bool := none
  /-- Punnets of the output chain (R366). -/
  chain : List Nat := []
  /-- Offsets in the unit that the job writes, and its LBAs there (R187). -/
  wrote : List Nat := []
  orig : List Lba := []
  x : Option Extent := none
  buf : Nat := 0
  deriving DecidableEq, Repr

/-- An extent on flash (R182, R270): first granule, band, stripe, offset in the stripe's data members, content. -/
structure Placed where
  gran : Nat
  len : Nat
  slice : Nat
  nsid : Nat
  mu : Nat
  x : Extent
  band : Nat
  stripe : Nat
  off : Nat
  landing : Bool := false
  /-- Granules of it that a lost codeword held: copies of them are zero (R251 step 2). -/
  bad : List Nat := []
  deriving DecidableEq, Repr

/-- An extent taking its place in a stripe (R183, R226): `buf` its buffer offset, or `src` the location it is moved from. In a record
`gran` is the GRANULE that the stripe and OFFSET stand for as the record is written (R210). -/
structure Item where
  slice : Nat
  nsid : Nat
  mu : Nat
  x : Extent
  len : Nat
  off : Nat
  buf : Option Nat := none
  src : Option (Nat × Bool) := none
  bad : List Nat := []
  gran : Nat := 0
  deriving DecidableEq, Repr

/-- A stripe being gathered or flushed (R189 to R193): stream 0 host, 1 relocation, 2 map, 3 landing. -/
structure Stripe where
  stream : Nat
  band : Nat
  stripe : Nat
  d : Nat
  p : Nat
  /-- KIND of the GC copy record (R227). -/
  kind : Nat := 0
  items : List Item := []
  /-- Pages it holds: (slice, nsid, page) (R211), and the map cells they held as it was committed. -/
  pages : List (Nat × Nat × Nat) := []
  cells : List MapCell := []
  /-- Granules in use and pad granules. -/
  fill : Nat := 0
  pad : Nat := 0
  firstAt : Nat := 0
  lastAt : Nat := 0
  flushing : Bool := false
  /-- JSEQ of its open record: the SEQ of its codewords (R270). -/
  openSeq : Nat := 0
  /-- Its flush pass reads copy B of the write buffer: odd bands (R184). -/
  copyB : Bool := false
  /-- Members whose program has passed. -/
  passed : List Nat := []
  /-- Its commit, landing or copy record is durable (R192, R227). -/
  committed : Bool := false
  /-- Punnets that hold its relocation data or its parity until it ends (R30, R226). -/
  chain : List Nat := []
  deriving DecidableEq, Repr

/-- Where a page of the map stream lies on flash: its identity, its band and its first granule (R211). The identity of a map page is
its slice, NSID and index; `dirPage` and `metaPage` name directory pages and band metadata (Machine/BandOps.lean). -/
structure PageAt where
  slice : Nat
  nsid : Nat
  page : Nat
  band : Nat
  gran : Nat
  deriving DecidableEq, Repr

/-- Band metadata as the map stream last wrote it: equivalent ages by band, read counts by die and block (R223). -/
structure BandMeta where
  ages : List (Nat × Nat) := []
  reads : List (Nat × Nat × Nat) := []
  deriving DecidableEq, Repr

/-- A copy of the map root (R206, R211): generation, T, the pages it names with the map they hold, and the band metadata; `torn` says
that its CRC-32C does not match. -/
structure MapRoot where
  gen : Nat := 0
  t : Nat := 0
  map : List MapCell := []
  pages : List PageAt := []
  bands : BandMeta := {}
  torn : Bool := false
  deriving DecidableEq, Repr

/-- A lost range (R323). -/
structure LostRange where
  slice : Nat
  nsid : Nat
  slba : Nat
  nlb : Nat
  cause : Nat
  repair : Bool := false
  hours : Nat := 0
  band : Option Nat := none
  deriving DecidableEq, Repr

/-- Bodies of the journal records (R209, R210, R227, R234, R237, R251, R344, R501). -/
inductive RecBody where
  | staging (slice nsid first cct : Nat) (seq : Word) (entries : List MapEntry)
  | deallocRange (slice nsid first cct : Nat) (seq : Word) (count : Nat)
  | commit (band stripe : Nat) (items : List Item)
  | landing (band stripe : Nat) (items : List Item)
  | void (band stripe cause : Nat)
  | stripeOpen (band stripe d p : Nat)
  | gcCopy (band stripe kind : Nat) (items : List Item)
  | eraseStarted (band : Nat) (slc : Bool) (members : List (Nat × Nat))
  | eraseComplete (band : Nat) (slc : Bool) (members : List (Nat × Nat))
  | blockRetired (die cause block band : Nat) (newBlock : Option Nat)
  | lostUnits (slice nsid count first slba nlb : Nat) (whole : Bool)
  | member (slot cause die st : Nat) (direct : Bool) (epoch members : Nat)
  | rebuildProgress (band left bytes : Nat)
  | boundary (b dOld pOld dNew pNew : Nat)
  | flushStart (trigger at_ dirtyKib : Nat)
  | stop (kind dirtyKib : Nat)
  | totals (hours us pcycle : Nat)
  deriving DecidableEq, Repr

/-- A journal record (R207). -/
structure JRec where
  jseq : Nat
  durable : Bool := true
  /-- Power failed while it was being written: its CRC-32C does not match (R216). -/
  torn : Bool := false
  body : RecBody
  deriving DecidableEq, Repr

/-- Map, write buffer, stripes and lost-range list. -/
structure Store where
  map : List MapCell := []
  buf : List BufExt := []
  jobs : List UnitJob := []
  nextJob : Nat := 0
  placed : List Placed := []
  stripes : List Stripe := []
  /-- pSLC buffer data size in GiB (R203, R204). -/
  pslcGib : Nat := 16
  lost : List LostRange := []
  /-- GENERATION of log page 0xC5 (R323) and STR_LOST.OVERFLOW (R322). -/
  lostGen : Nat := 0
  overflow : Bool := false
  /-- Dirty map pages with the JSEQ of the oldest record that changed them (R211): (slice, nsid, page, jseq). -/
  dirtyPages : List (Nat × Nat × Nat × Nat) := []
  /-- Map pages in committed map stripes that no directory page on flash names yet, and their cells (R211). -/
  writtenPages : List PageAt := []
  writtenCells : List MapCell := []
  /-- Directory pages in committed map stripes with the map pages they name, and the cells of these, not yet named by a root. -/
  namedPages : List PageAt := []
  namedCells : List MapCell := []
  /-- Band metadata in a committed map stripe, not yet named by a root (R223). -/
  writtenMeta : Option BandMeta := none
  /-- Pages the newest root names (R211, R228). -/
  pagesAt : List PageAt := []
  /-- Map pages not resident (R409). -/
  nonResident : List (Nat × Nat × Nat) := []
  /-- Stripes whose members have been programmed, until their band is erased: what lies on flash (R182, R223, R270). -/
  flash : List Stripe := []
  /-- Relocation extents of voided stripes that are to be placed again, with their KIND (R240). -/
  again : List (Nat × Item) := []
  /-- Staging held at JRNL_HIGH_PCT (R212). -/
  jrnlHeld : Bool := false
  /-- Emergency flush under way: trigger 1 PWR_FAIL, 2 PRSNT_N, 3 trip (R213). -/
  flush : Option Nat := none
  /-- Landing relocation runs since boot (R217): start and extents relocated. -/
  landingAt : Option Nat := none
  relocated : Nat := 0
  deriving DecidableEq, Repr

/-- What a settings generation holds (R506). -/
structure Settings where
  gen : Nat
  fmt : Nat := 0
  valid : Bool := true
  arrayId : Option (BitVec 128) := none
  d : Nat := 14
  p : Nat := 2
  mapUnitKib : Nat := 16
  epoch : Nat := 0
  members : Nat := 0
  releasing : List Nat := []
  slices : List SliceS := []
  keyGen : Nat := 0
  /-- Each slot's key, wrapped under the root key: 72 bytes (R151). -/
  keySlots : List (Nat × List Byte) := []
  mgHost : List Byte := []
  mgCtrl : List Byte := []
  mgPsk : List Byte := []
  ringSecret : List Byte := []
  retiredPages : List (Nat × Nat × Nat × Nat) := []
  retiredBanks : List (Nat × Nat × Nat) := []
  removedRanks : List (Nat × Nat) := []
  huC : Option Nat := none
  huEsr : Nat := 0
  huTestH : Nat := 0
  lifeMax : Int := -4384
  lifeMaxH : Nat := 0
  throttleMin : Nat := 0
  trips : Nat := 0
  hist : List Nat := List.replicate 28 0
  deriving DecidableEq, Repr

/-- The Quince journal (R206 to R212, R324 to R327, R506). -/
structure Journal where
  /-- JSEQ the next record takes (R207). -/
  nextSeq : Nat := 1
  /-- Records of the two rings, oldest first: map-update (types 0x0001 to 0x001F) and stripe-in-flight. -/
  recs : List JRec := []
  /-- Truncation point T (R198). -/
  t : Nat := 0
  /-- Map root copies A and B, and the copy (A false) last written (R206, R211). -/
  mapA : Option MapRoot := none
  mapB : Option MapRoot := none
  rootB : Bool := false
  /-- Quince die 0, die 1 lost (R326, R351). -/
  dieLost : List Bool := [false, false]
  /-- Journal areas: active, which, records waiting for a group, first waiting time, snapshot pending (R326). -/
  areaActive : Bool := false
  area : Nat := 0
  group : Nat := 0
  groupAt : Nat := 0
  areaUsed : Nat := 0
  /-- The settings store: areas A and B (R506, R507). -/
  setA : Option Settings := none
  setB : Option Settings := none
  /-- GEN of the newest valid generation. -/
  gen : Nat := 0
  /-- Saved Seed counters (R444): hours, ms, power cycles. -/
  savedSeed : Option (Nat × Nat × Nat) := none
  /-- Resync bitmaps kept for boot (R158): (slice, nsid, region). -/
  resync : List (Nat × Nat × Nat) := []
  /-- Metering totals of each slice (R169): (slice, totals). -/
  totals : List (Nat × List Nat) := []
  /-- The newest snapshot of each slice, written with the totals (R168). -/
  snaps : List (Nat × Snap) := []
  /-- Unsafe Shutdowns (R252, R501). -/
  unsafeCount : Nat := 0
  deriving DecidableEq, Repr

/-! ### Bands, blocks and maintenance (chapter 06) -/

/-- Band kinds (R222). -/
inductive BandKind where
  | native | pslc | landing | map
  deriving DecidableEq, Repr

/-- Band states (R222). -/
inductive BandState where
  | erased | opened | full | victim | erasePending | erasing
  deriving DecidableEq, Repr

/-- A member of a band (R303): die index, die generation, device block. -/
structure Member where
  die : Nat
  gen : Nat
  block : Nat
  deriving DecidableEq, Repr

/-- A band and its metadata (R221 to R223). -/
structure Band where
  num : Nat
  kind : BandKind := .native
  st : BandState := .erased
  /-- Stream that opened it: 0 host, 1 relocation, 2 map, 3 landing (R189). -/
  stream : Nat := 0
  d : Nat
  p : Nat
  members : List Member := []
  /-- Stripes committed or begun: the next stripe index. -/
  nextStripe : Nat := 0
  /-- Takes no further stripes (R193, R222, R240). -/
  closed : Bool := false
  /-- Close time in operating minutes (R223). -/
  closedMin : Nat := 0
  /-- Equivalent retention age in units of 1/60,000,000 hour (R247). -/
  age : Nat := 0
  /-- Readers that pin a location in it: CCT indices (R98, R228). -/
  pins : List Nat := []
  /-- Maintenance requests: (class, time asked, KIND of the copy) (R224). -/
  reqs : List (Nat × Nat × Nat) := []
  /-- Start of ERASING, members passed, suspends of its erase, event 0x04 recorded (R232, R233). -/
  erasingAt : Nat := 0
  erased : List Nat := []
  starved : Bool := false
  /-- Members its erase-started records list, as dies and blocks (R234, R238). -/
  listed : List (Nat × Nat) := []
  /-- Blocks to retire at the next erase: (member position, CAUSE) (R237, R240, R287). -/
  retire : List (Nat × Nat) := []
  /-- KIND of the move under way. -/
  moveKind : Nat := 0
  /-- The erase under way repeats an interrupted one (R235). -/
  again : Bool := false
  deriving DecidableEq, Repr

/-- What is kept for a device block that is not at its initial values (R223, R241, R250, R284). -/
structure Block where
  die : Nat
  block : Nat
  wear : Nat := 0
  reads : Nat := 0
  retired : Bool := false
  /-- Read-offset table entry: option and threshold offset (R284). -/
  opt : Nat := 0
  off : Int := 0
  /-- A maintenance engine is to run step V on it (R284). -/
  track : Bool := false
  deriving DecidableEq, Repr

/-- The GC regimes (R230). -/
inductive Regime where
  | normal | urgent | held
  deriving DecidableEq, Repr

/-- End-of-life data of a carrier (R244, R255). -/
structure Eol where
  slot : Nat
  /-- (operating hour, W as numerator and denominator, blocks retired) at the admission and at each prediction. -/
  hist : List (Nat × Nat × Nat × Nat) := []
  /-- A prediction has been made; r in parts per million of W per day (R255). -/
  predicted : Bool := false
  rate : Nat := 0
  days : Option Nat := none
  cause : Nat := 0
  warned : Bool := false
  reached : Bool := false
  resInit : Nat := 0
  resLeft : Nat := 0
  retired : Nat := 0
  admitH : Nat := 0
  deriving DecidableEq, Repr

/-- Media upkeep (R221 to R257). -/
structure Upkeep where
  bands : List Band := []
  blocks : List Block := []
  regime : Regime := .normal
  regimeAt : Nat := 0
  /-- Jobs of the four maintenance engines (R256) and the band each moves. -/
  jobs : List Nat := [0, 0, 0, 0]
  moving : List (Option Nat) := [none, none, none, none]
  /-- H of R231, host and relocation granules placed since it was computed, in parts per million. -/
  hPpm : Option Nat := none
  hostSince : Nat := 0
  relocSince : Nat := 0
  /-- Patrol lap (R245): start, codewords read, refreshes, uncorrectables, bands left in order, overrun recorded. -/
  lapAt : Nat := 0
  lapCw : Nat := 0
  lapRefresh : Nat := 0
  lapUnc : Nat := 0
  lapDone : List Nat := []
  lapFront : List Nat := []
  /-- Codewords of a band that the lap has read: (band, count). -/
  lapPos : List (Nat × Nat) := []
  lapOver : Bool := false
  lastLapH : Nat := 0
  /-- Off time unknown, full lap running; read counts estimated (R249, R250). -/
  fullLap : Bool := false
  estimated : Bool := false
  eol : List Eol := []
  /-- The u128 totals of page 0xC0 from HOST_GRAN to HELD_MS, in page order (R254). -/
  totals : List Nat := List.replicate 21 0
  maxSuspends : Nat := 0
  maxEraseMs : Nat := 0
  /-- Rebuild period (R319): start, bands and bytes moved, units lost, and the carrier losses that wait (slot, time). -/
  rebuildAt : Option Nat := none
  rebuildBands : Nat := 0
  rebuildBytes : Nat := 0
  rebuildLost : Nat := 0
  /-- REBUILD_BYTES since the set was last empty, bytes toward STR_CNT_MOVED_GIB, rebuild waits for space (R307). -/
  setBytes : Nat := 0
  gibPart : Nat := 0
  noSpace : Bool := false
  delayed : List (Nat × Nat) := []
  /-- (time, bytes) of extents rebuild placed within the last second (R318, R346). -/
  rateLog : List (Nat × Nat) := []
  /-- (operating hour, HOST_GRAN, RELOC_GRAN) at each hour of the last 24 (R254). -/
  waHist : List (Nat × Nat × Nat) := []
  deriving DecidableEq, Repr

/-! ### Dies, channels and carriers (chapters 07, 08) -/

/-- An operation in a die's queue (R275): kind 1 read, 2 program, 3 erase. -/
structure DieOp where
  id : Nat
  cls : Nat
  kind : Nat
  band : Nat
  stripe : Nat
  mem : Nat
  /-- Codeword within the member. -/
  cw : Nat := 0
  at_ : Nat
  /-- Served by a reconstruction that runs alongside or in its place (R281, R285). -/
  recon : Bool := false
  started : Bool := false
  /-- Ladder step reached: 0, then option k, 100 step V, 200 step S (R283). -/
  step : Nat := 0
  /-- The codeword sensed, descrambled (R273); empty before the sense. -/
  word : List Byte := []
  deriving DecidableEq, Repr

/-- A die, or an earlier generation of one (R308, R309): state codes of R308. -/
structure Die where
  idx : Nat
  gen : Nat
  st : Nat := 1
  direct : Bool := false
  /-- The carrier that held it is gone (earlier generation). -/
  old : Bool := false
  facts : DieFacts := {}
  slowTimes : List Nat := []
  slowSince : Nat := 0
  refused : Bool := false
  /-- Running and suspended operation of R297; identity of the running one; when it started or resumed. -/
  op : Nat := 0
  opId : Nat := 0
  suspended : Nat := 0
  suspends : Nat := 0
  busyUs : Nat := 0
  startedAt : Nat := 0
  lastResume : Option Nat := none
  queue : List DieOp := []
  /-- Not ready after a second Reset LUN (R288, R337). -/
  unresp : Bool := false
  /-- Reserve blocks outside every band (R237). -/
  reserve : Nat := 0
  /-- Blocks whose admission erase has not been reported (R340). -/
  admitLeft : Nat := 0
  deriving DecidableEq, Repr

/-- A flash channel (R258, R259, R267, R293). -/
structure Chan where
  /-- CH_STATE.STATE. -/
  st : Nat := 0
  rate : Nat := 0
  rateCfg : Nat := 0
  zqAt : Nat := 0
  calTemp : Int := 0
  /-- CH_DIE_DATA0 to 2 capture (R297). -/
  data0 : Word := 0
  data1 : Word := 0
  data2 : Word := 0
  deriving DecidableEq, Repr

/-- A carrier slot (R337, R346). -/
structure Carrier where
  st : Nat := 0
  present : Bool := false
  pwrOn : Bool := false
  i2cErr : Bool := false
  cause : Nat := 0
  facts : Option CarrierFacts := none
  recA : Option ArrayRec := none
  recB : Option ArrayRec := none
  /-- Temperature the gate uses, in °C (R289, CH_TEMP.TEMP of R296). -/
  temp : Int := 0
  /-- Highest temperature sampled since the last retention update; none before a sample (R247). -/
  minuteMax : Option Int := none
  subst : Bool := false
  sensorBadAt : Option Nat := none
  gateClosed : Bool := false
  gateAt : Nat := 0
  insertH : Nat := 0
  /-- When the power ramp started (R339 step 4, R463). -/
  rampAt : Option Nat := none
  /-- Class the identification found: 2 pending, 3 stale (R335). -/
  class_ : Nat := 0
  moved : Nat := 0
  releaseBytes : Nat := 0
  releaseAt : Nat := 0
  /-- Blocks retired at the admission (R340). -/
  admitRetired : Nat := 0
  deriving DecidableEq, Repr

/-- The array: identity, geometry, dies, carriers, reshape (R302 to R345). -/
structure Array_ where
  arrayId : Option (BitVec 128) := none
  d : Nat := 14
  p : Nat := 2
  mapUnitKib : Nat := 16
  epoch : Nat := 0
  /-- MEMBERS bitmap (R336). -/
  members : Nat := 0
  /-- Reshape under way: D_NEW, P_NEW, boundary B, start (R328, R329). -/
  reshape : Option (Nat × Nat × Nat × Nat) := none
  dies : List Die := []
  chans : List Chan := List.replicate 32 {}
  carriers : List Carrier := List.replicate 16 {}
  /-- Codewords in the LDPC bank: reads whose sense completed (R283). -/
  decode : List DieOp := []
  nextOp : Nat := 0
  /-- Capacity pool in GiB (R218). -/
  poolGib : Nat := 0
  /-- Codewords encoded with LDPC_FLIP_MASK: band, stripe, member and the mask (R300); codeword 0. -/
  flipped : List (Nat × Nat × Nat × Word) := []
  deriving DecidableEq, Repr

/-! ### Compression, punnets, DRAM (chapters 09, 10) -/

/-- A compression lane (R375, R376). -/
structure Lane where
  faulted : Bool := false
  fails : List Nat := []
  deriving DecidableEq, Repr

/-- A stream job of a migration's metadata (R373, R374). -/
structure StreamJob where
  id : Nat
  sender : Bool
  nb : Nat
  migId : Nat := 0
  /-- SEQ expected (receiver) or sent last (sender). -/
  seq : Nat := 0
  /-- No chunk has entered the window; the window the last chunk left, at most 32 KiB, saved in punnets (R357, R373). -/
  windowEmpty : Bool := true
  window : List Byte := []
  /-- First discarded SEQ: chunks are discarded until it is sent again (R374). -/
  discard : Option Nat := none
  deriving DecidableEq, Repr

/-- The compression block. -/
structure Comp where
  lanes : List Lane := List.replicate 8 {}
  jobs : List StreamJob := []
  /-- Original and stored bytes of the current minute, and CMP_RATIO (R378). -/
  origBytes : Nat := 0
  storedBytes : Nat := 0
  ratio : Nat := 0
  /-- Bytes toward CMP_CNT_IN_GIB and CMP_CNT_OUT_GIB. -/
  inPart : Nat := 0
  outPart : Nat := 0
  deriving DecidableEq, Repr

/-- A punnet in use (R382). -/
structure Punnet where
  num : Nat
  next : Option Nat := none
  ref : Nat := 1
  cls : Nat
  /-- Watermark: bytes written since the grant (R382). -/
  mark : Nat := 0
  deriving DecidableEq, Repr

/-- A punnet request that waits (R385). -/
structure PunReq where
  id : Nat
  cls : Nat
  n : Nat
  at_ : Nat
  warned : Bool := false
  /-- The unit job or the command the chain is for. -/
  job : Option Nat := none
  entry : Option Nat := none
  deriving DecidableEq, Repr

/-- A corrected error charged to a DRAM page (R403, R406). -/
structure PageErr where
  c : Nat
  rank : Nat
  dev : Nat
  bank : Nat
  page : Nat
  at_ : Nat
  deriving DecidableEq, Repr

/-- Punnets, DRAM and memory integrity (R381 to R423). -/
structure Mem where
  punnets : List Punnet := []
  reqs : List PunReq := []
  nextReq : Nat := 0
  /-- DRAM_TOPO: width, density, ranks, spare, rdimm, refresh mode, rate in 100 MT/s (R417); zero until loaded. -/
  topo : List Nat := [0, 0, 0, 0, 0, 0, 0]
  /-- Rank states of R418, four per channel. -/
  ranks : List (List Nat) := List.replicate 4 [0, 0, 0, 0]
  /-- MiB of map space that R218 leaves out, as cold boot found the retirement table (R409); a rank was removed without a spare
  since then (R46, R409). -/
  lostMib : Nat := 0
  rankLost : Bool := false
  pageErrs : List PageErr := []
  retiredPages : List (Nat × Nat × Nat × Nat) := []
  retiredBanks : List (Nat × Nat × Nat) := []
  removedRanks : List (Nat × Nat) := []
  /-- CLEAR_RANKS and CLEAR_PAGES asked for (R405, R420). -/
  clearRanks : Bool := false
  clearPages : Bool := false
  failedDevs : List (Nat × Nat × Nat) := []
  /-- Migration under way: (channel, removed rank, spare rank, start) (R408). -/
  migrating : List (Nat × Nat × Nat × Nat) := []
  /-- Uncorrectable lines in a row per (channel, rank) (R398). -/
  ueRow : List (Nat × Nat × Nat) := []
  hot : List (Nat × Nat) := []
  /-- Postponed refreshes per (channel, rank) and the most seen (R394, R419). -/
  pend : List (Nat × Nat × Nat) := []
  pendMax : Nat := 0
  /-- Next (rank, subchannel) of each channel, failures in a row per (channel, subchannel), longest pause (R395). -/
  trainPos : List Nat := [0, 0, 0, 0]
  trainFail : List (Nat × Nat × Nat) := []
  lastPause : Nat := 0
  /-- Scrub lap: start, lines read and fixed per lap, overrun recorded, last lap (R400). -/
  scrubAt : Nat := 0
  scrubLines : List Nat := [0, 0, 0, 0]
  scrubFixed : Nat := 0
  scrubOver : Bool := false
  scrubLapS : Nat := 0
  /-- Quince refresh: last pass time and hours (R401, R415). -/
  qAt : Nat := 0
  qLapH : Nat := 0
  qFixed : Nat := 0
  /-- Results in PN_FLIP_CTL and DRAM_FLIP_CTL (R415, R421). -/
  pnResult : Nat := 0
  dramResult : Nat := 0
  deriving DecidableEq, Repr

/-! ### Control loops, hold-up, thermal (chapter 12) -/

/-- A loop slot's running values in Q1.31 units (R457 to R462). -/
structure Slot where
  pv : Int := 0
  sp : Int := 0
  i : Int := 0
  u : Int := 0
  ramping : Bool := false
  /-- LOOP_STAT [4:0]: FE_FAULT, SAT_OUT, SAT_I, SAT_P, SAT_E. -/
  flags : BitVec 5 := 0
  feSince : Option Nat := none
  faulted : Bool := false
  /-- The next sample restarts the ramp from the measured value (R460). -/
  arm : Bool := false
  /-- Since when u stands at OUT_MAX. -/
  maxSince : Option Nat := none
  /-- u has been driven since reset: until then AT_MIN and AT_MAX read their reset value 0 (R480). -/
  driven : Bool := false
  deriving DecidableEq, Repr

/-- The hold-up bank (R466 to R471, R482). -/
structure Bank where
  vMv : Nat := 0
  cUf : Option Nat := none
  esr : Nat := 0
  lastTestH : Nat := 0
  failed : Bool := false
  forbidden : Bool := false
  forbiddenAt : Nat := 0
  /-- TEST_STEP: 0 none, 1 to 5 of R469, 6 the recharge; v0, start, the waiting entry, automatic. -/
  step : Nat := 0
  v0 : Nat := 0
  testAt : Nat := 0
  waiting : Option Nat := none
  auto : Bool := false
  /-- Event 0x06 owed after the next cold boot: the step abandoned (R469). -/
  abandoned : Option Nat := none
  /-- Dirty limit in bytes (R468). -/
  limit : Nat := 0
  /-- Bank thermistor in °C as last converted (R466). -/
  tempC : Int := 25
  /-- Newest 12-bit conversions of SNS0 to SNS23 (R456, R582). -/
  sense : List Int := List.replicate 24 0
  deriving DecidableEq, Repr

/-- One minute of the temperature history (R478): MINUTE and the fields of bytes 4 to 15 in order. -/
structure TempRec where
  minute : Nat
  fields : List Int
  deriving DecidableEq, Repr

/-- Thermal sensing and the thermal limit (R472 to R478). Temperatures in 1/16 °C. -/
structure Thermal where
  tj : Int := 0
  /-- Samples of the last 100 ms: (time, Tj). -/
  samples : List (Nat × Int) := []
  rate : Int := 0
  state : Nat := 0
  stateAt : Nat := 0
  warnAt : Nat := 0
  /-- Thermal limit in W (R475), since when it is below PKG_LIMIT, and the timers of its steps. -/
  limit : Nat := 52
  belowAt : Option Nat := none
  stepAt : Nat := 0
  rorSince : Option Nat := none
  calmSince : Option Nat := none
  /-- Minute under way: maximum, minimum, sum, samples, flags, lowest p_lim, power sum, lowest dirty limit in MiB. -/
  minMax : Int := 0
  minMin : Int := 0
  minSum : Int := 0
  minN : Nat := 0
  minFlags : Nat := 0
  minPlim : Nat := 520
  minPwr : Nat := 0
  minDirty : Nat := 65535
  recs : List TempRec := []
  lifeMax : Int := -4384
  lifeMaxH : Nat := 0
  throttleMin : Nat := 0
  trips : Nat := 0
  hist : List Nat := List.replicate 28 0
  warnMin : Nat := 0
  critMin : Nat := 0
  /-- Shares the package limiter has granted and not yet spent, in Q1.31 of one start: channel operations, LDPC decodes, lane starts,
  maintenance work (R472). The model's own. -/
  pace : List Nat := [0, 0, 0, 0]
  deriving DecidableEq, Repr

/-! ### The event recorder (chapter 15) -/

/-- An event record (R546): parameters in order. -/
structure EvRec where
  code : Nat
  sev : Nat
  flags : Nat := 0
  hours : Nat
  ms : Nat
  pcycle : Nat
  params : List Nat
  deriving DecidableEq, Repr

/-- Rate-limit state of a code (R551): capture times in operating ms of its recorded events, suppressed count, and the
time of the first and the first parameter of the last suppressed event. -/
structure CodeRate where
  code : Nat
  times : List Nat := []
  count : Nat := 0
  firstH : Nat := 0
  firstMs : Nat := 0
  lastP0 : Nat := 0
  deriving DecidableEq, Repr

/-- The event recorder (R546 to R568). -/
structure Events where
  /-- Records held, oldest first, and FIRST (R552). -/
  log : List EvRec := []
  first : Nat := 0
  full : Bool := false
  fullSeq : Nat := 0
  dropped : Nat := 0
  /-- Boot buffer and BOOT_OVF (R548). -/
  boot : List EvRec := []
  bootOvf : Bool := false
  rates : List CodeRate := []
  /-- Per group: EVENTS, LAST_CODE, LAST_SEV (R559). -/
  groups : List (Nat × Nat × Nat) := List.replicate 36 (0, 0, 0)
  /-- Limits set by EVENT_LIMIT records: (code, L) (R551). -/
  limits : List (Nat × Nat) := []
  /-- Counters or page fields whose saturation has been recorded: (code, offset) (R564). -/
  saturated : List (Nat × Nat) := []
  deriving DecidableEq, Repr

/-! ### The whole state -/

/-- Everything the spec gives the FV7240, and the queue of waiting commands. -/
structure State where
  /-- Commands that wait, first in first out. The model's own. -/
  pending : List Instr := []
  /-- Control-space register bits that are stored, sparse over the reset values (Machine/Regs.lean): offsets strictly
  rising, no entry equal to the register's reset value. -/
  regs : List (Nat × Word) := []
  glb : Glb := {}
  fuses : Fuses := {}
  nor : Nor := {}
  cfg : Cfg := {}
  fw : Fw := {}
  seed : Seed := {}
  power : Power := {}
  fabric : Fabric := {}
  eng : Engine := {}
  slices : Slices := {}
  store : Store := {}
  journal : Journal := {}
  upkeep : Upkeep := {}
  array : Array_ := {}
  comp : Comp := {}
  mem : Mem := {}
  loops : List Slot := List.replicate 20 {}
  bank : Bank := {}
  thermal : Thermal := {}
  events : Events := {}
  /-- How many free values have been drawn (Config.freeWord). The model's own: the spec names no such counter. -/
  free : Nat := 0
  deriving DecidableEq, Repr

/-- The machine right after reset: every register at its reset value, every field at its default (a new device without
carriers, configuration copies or firmware in NOR). -/
def State.reset : State := {}

end Sys2Proof.Machine
end

