-- ==== Sys2Proof/Machine/Regs.lean ====
section
/-! DEFINITION. The control space (R9 to R17): the offset of every register of the chapters' tables, its reset value and the
masks of its fields by type, and the sparse store of the bits a register keeps. -/

namespace Sys2Proof.Machine

/-! ### Offsets -/

namespace Reg

/-- ID_PART (R7). -/
abbrev ID_PART : Nat := 0x0
/-- GLB_STATE (R41). -/
abbrev GLB_STATE : Nat := 0x100
/-- GLB_CAP0 (R42). -/
abbrev GLB_CAP0 : Nat := 0x104
/-- GLB_CAP1 (R43). -/
abbrev GLB_CAP1 : Nat := 0x108
/-- CORE_ACTIVE (R44). -/
abbrev CORE_ACTIVE : Nat := 0x10C
/-- CORE_FAILED (R45). -/
abbrev CORE_FAILED : Nat := 0x110
/-- GLB_DEGRADE (R46). -/
abbrev GLB_DEGRADE : Nat := 0x114
/-- SEED_STAT (R450). -/
abbrev SEED_STAT : Nat := 0x10000
/-- SEED_HOURS (R451). -/
abbrev SEED_HOURS : Nat := 0x10004
/-- SEED_MS (R451). -/
abbrev SEED_MS : Nat := 0x10008
/-- SEED_PCYCLE (R451). -/
abbrev SEED_PCYCLE : Nat := 0x1000C
/-- SEED_RTC_LO (R451). -/
abbrev SEED_RTC_LO : Nat := 0x10010
/-- SEED_RTC_HI (R451). -/
abbrev SEED_RTC_HI : Nat := 0x10014
/-- SEED_TICKS (R451). -/
abbrev SEED_TICKS : Nat := 0x10018
/-- SEED_CMD (R451). -/
abbrev SEED_CMD : Nat := 0x1001C
/-- SEED_WAKE (R451). -/
abbrev SEED_WAKE : Nat := 0x10020
/-- PS_CFG (R452). -/
abbrev PS_CFG : Nat := 0x10030
/-- PS_IDLE0 (R452). -/
abbrev PS_IDLE0 : Nat := 0x10034
/-- PS_IDLE1 (R452). -/
abbrev PS_IDLE1 : Nat := 0x10038
/-- PS_RING_LT (R452). -/
abbrev PS_RING_LT : Nat := 0x1003C
/-- PS_LT (R453). -/
abbrev PS_LT : Nat := 0x10040
/-- PS_LT_SRC (R453). -/
abbrev PS_LT_SRC : Nat := 0x10044
/-- PS_CNT_ENTRY_L1 (R454), 4 at a stride of 0x4. -/
abbrev PS_CNT_ENTRY_L1 : Nat := 0x10050
/-- PS_CNT_SEC_L1 (R454), 4 at a stride of 0x4. -/
abbrev PS_CNT_SEC_L1 : Nat := 0x10060
/-- PS_CNT_CLR (R454). -/
abbrev PS_CNT_CLR : Nat := 0x10070
/-- TH_STAT (R483). -/
abbrev TH_STAT : Nat := 0x20000
/-- TH_CFG (R483). -/
abbrev TH_CFG : Nat := 0x20004
/-- TH_PLIM (R483). -/
abbrev TH_PLIM : Nat := 0x20008
/-- TH_CAL (R483). -/
abbrev TH_CAL : Nat := 0x2000C
/-- LOOP_CTL (R479), 20 at a stride of 0x40. -/
abbrev LOOP_CTL : Nat := 0x30000
/-- LOOP_STAT (R480), 20 at a stride of 0x40. -/
abbrev LOOP_STAT : Nat := 0x30004
/-- LOOP_KP (R481), 20 at a stride of 0x40. -/
abbrev LOOP_KP : Nat := 0x30008
/-- LOOP_KI (R481), 20 at a stride of 0x40. -/
abbrev LOOP_KI : Nat := 0x3000C
/-- LOOP_KFF (R481), 20 at a stride of 0x40. -/
abbrev LOOP_KFF : Nat := 0x30010
/-- LOOP_TARGET (R481), 20 at a stride of 0x40. -/
abbrev LOOP_TARGET : Nat := 0x30014
/-- LOOP_RAMP (R481), 20 at a stride of 0x40. -/
abbrev LOOP_RAMP : Nat := 0x30018
/-- LOOP_OUT_MIN (R481), 20 at a stride of 0x40. -/
abbrev LOOP_OUT_MIN : Nat := 0x3001C
/-- LOOP_OUT_MAX (R481), 20 at a stride of 0x40. -/
abbrev LOOP_OUT_MAX : Nat := 0x30020
/-- LOOP_FE_LIMIT (R481), 20 at a stride of 0x40. -/
abbrev LOOP_FE_LIMIT : Nat := 0x30024
/-- LOOP_PV (R481), 20 at a stride of 0x40. -/
abbrev LOOP_PV : Nat := 0x30028
/-- LOOP_SP (R481), 20 at a stride of 0x40. -/
abbrev LOOP_SP : Nat := 0x3002C
/-- LOOP_OUT (R481), 20 at a stride of 0x40. -/
abbrev LOOP_OUT : Nat := 0x30030
/-- HU_CFG0 (R482). -/
abbrev HU_CFG0 : Nat := 0x30800
/-- HU_CFG1 (R482). -/
abbrev HU_CFG1 : Nat := 0x30804
/-- HU_CFG2 (R482). -/
abbrev HU_CFG2 : Nat := 0x30808
/-- HU_CFG3 (R482). -/
abbrev HU_CFG3 : Nat := 0x3080C
/-- HU_STAT (R482). -/
abbrev HU_STAT : Nat := 0x30810
/-- HU_CAP (R482). -/
abbrev HU_CAP : Nat := 0x30814
/-- HU_ESR (R482). -/
abbrev HU_ESR : Nat := 0x30818
/-- HU_DIRTY (R482). -/
abbrev HU_DIRTY : Nat := 0x3081C
/-- EVT_STATE (R565). -/
abbrev EVT_STATE : Nat := 0x40000
/-- EVT_FIRST (R565). -/
abbrev EVT_FIRST : Nat := 0x40004
/-- EVT_DROPPED (R565). -/
abbrev EVT_DROPPED : Nat := 0x40008
/-- EVT_CFG (R566). -/
abbrev EVT_CFG : Nat := 0x4000C
/-- STICKY (R568), 36 at a stride of 0x4. -/
abbrev STICKY : Nat := 0x40100
/-- STICKY_SUM0 (R568). -/
abbrev STICKY_SUM0 : Nat := 0x40190
/-- STICKY_SUM1 (R568). -/
abbrev STICKY_SUM1 : Nat := 0x40194
/-- ALERT_MASK (R568). -/
abbrev ALERT_MASK : Nat := 0x40200
/-- MG_AUTH_CTL (R567). -/
abbrev MG_AUTH_CTL : Nat := 0x40300
/-- MG_AUTH_DATA (R567), 16 at a stride of 0x4. -/
abbrev MG_AUTH_DATA : Nat := 0x40340
/-- PN_STATE (R413). -/
abbrev PN_STATE : Nat := 0x50000
/-- PN_CFG (R413). -/
abbrev PN_CFG : Nat := 0x50004
/-- PN_CLASS (R414). -/
abbrev PN_CLASS : Nat := 0x50010
/-- PN_USE (R414), 7 at a stride of 0x4. -/
abbrev PN_USE : Nat := 0x50040
/-- PN_FLIP_MASK (R415). -/
abbrev PN_FLIP_MASK : Nat := 0x50060
/-- PN_FLIP_CTL (R415). -/
abbrev PN_FLIP_CTL : Nat := 0x50064
/-- Q_FLIP_MASK (R415). -/
abbrev Q_FLIP_MASK : Nat := 0x50070
/-- Q_FLIP_CTL (R415). -/
abbrev Q_FLIP_CTL : Nat := 0x50074
/-- Q_REFRESH (R415). -/
abbrev Q_REFRESH : Nat := 0x50078
/-- PN_CNT_CE (R416). -/
abbrev PN_CNT_CE : Nat := 0x50080
/-- PN_CNT_UE (R416). -/
abbrev PN_CNT_UE : Nat := 0x50084
/-- PN_CNT_WAIT (R416). -/
abbrev PN_CNT_WAIT : Nat := 0x50088
/-- TBL_CNT_CE (R416). -/
abbrev TBL_CNT_CE : Nat := 0x5008C
/-- Q_CNT_CE0 (R416). -/
abbrev Q_CNT_CE0 : Nat := 0x50090
/-- Q_CNT_CE1 (R416). -/
abbrev Q_CNT_CE1 : Nat := 0x50094
/-- PN_CNT_CLR (R416). -/
abbrev PN_CNT_CLR : Nat := 0x50098
/-- DRAM_TOPO (R417). -/
abbrev DRAM_TOPO : Nat := 0x60000
/-- DRAM_RANK (R418), 4 at a stride of 0x4. -/
abbrev DRAM_RANK : Nat := 0x60004
/-- DRAM_REF (R419). -/
abbrev DRAM_REF : Nat := 0x60014
/-- DRAM_TRAIN (R419). -/
abbrev DRAM_TRAIN : Nat := 0x60018
/-- DRAM_SCRUB_CFG (R420). -/
abbrev DRAM_SCRUB_CFG : Nat := 0x6001C
/-- DRAM_SCRUB_LAP (R420). -/
abbrev DRAM_SCRUB_LAP : Nat := 0x60020
/-- DRAM_RETIRE_CFG (R420). -/
abbrev DRAM_RETIRE_CFG : Nat := 0x60024
/-- DRAM_RETIRE_STAT (R420). -/
abbrev DRAM_RETIRE_STAT : Nat := 0x60028
/-- DRAM_RETIRE_CTL (R420). -/
abbrev DRAM_RETIRE_CTL : Nat := 0x6002C
/-- DRAM_FLIP_MASK (R421). -/
abbrev DRAM_FLIP_MASK : Nat := 0x60030
/-- DRAM_FLIP_CTL (R421). -/
abbrev DRAM_FLIP_CTL : Nat := 0x60034
/-- DRAM_CNT_CE (R422). -/
abbrev DRAM_CNT_CE : Nat := 0x60040
/-- DRAM_CNT_UE (R422). -/
abbrev DRAM_CNT_UE : Nat := 0x60044
/-- DRAM_CNT_SCRUB_FIX (R422). -/
abbrev DRAM_CNT_SCRUB_FIX : Nat := 0x60048
/-- DRAM_CNT_RETRAIN (R422). -/
abbrev DRAM_CNT_RETRAIN : Nat := 0x6004C
/-- DRAM_CNT_REF_BURST (R422). -/
abbrev DRAM_CNT_REF_BURST : Nat := 0x60050
/-- DRAM_CNT_CLR (R422). -/
abbrev DRAM_CNT_CLR : Nat := 0x60054
/-- CH_CFG (R292), 32 at a stride of 0x1000. -/
abbrev CH_CFG : Nat := 0x80000
/-- CH_STATE (R293), 32 at a stride of 0x1000. -/
abbrev CH_STATE : Nat := 0x80004
/-- CH_SUSP (R294), 32 at a stride of 0x1000. -/
abbrev CH_SUSP : Nat := 0x80010
/-- CH_SCHED (R294), 32 at a stride of 0x1000. -/
abbrev CH_SCHED : Nat := 0x80014
/-- CH_LADDER (R295), 32 at a stride of 0x1000. -/
abbrev CH_LADDER : Nat := 0x80018
/-- CH_TGATE (R296), 16 at a stride of 0x2000. -/
abbrev CH_TGATE : Nat := 0x80020
/-- CH_TEMP (R296), 16 at a stride of 0x2000. -/
abbrev CH_TEMP : Nat := 0x80024
/-- CH_DIE_SEL (R297), 32 at a stride of 0x1000. -/
abbrev CH_DIE_SEL : Nat := 0x80030
/-- CH_DIE_DATA0 (R297), 32 at a stride of 0x1000. -/
abbrev CH_DIE_DATA0 : Nat := 0x80034
/-- CH_DIE_DATA1 (R297), 32 at a stride of 0x1000. -/
abbrev CH_DIE_DATA1 : Nat := 0x80038
/-- CH_DIE_DATA2 (R297), 32 at a stride of 0x1000. -/
abbrev CH_DIE_DATA2 : Nat := 0x8003C
/-- CH_CNT_READ (R298), 32 at a stride of 0x1000. -/
abbrev CH_CNT_READ : Nat := 0x80040
/-- CH_CNT_PROG (R298), 32 at a stride of 0x1000. -/
abbrev CH_CNT_PROG : Nat := 0x80044
/-- CH_CNT_ERASE (R298), 32 at a stride of 0x1000. -/
abbrev CH_CNT_ERASE : Nat := 0x80048
/-- CH_CNT_SUSP (R298), 32 at a stride of 0x1000. -/
abbrev CH_CNT_SUSP : Nat := 0x8004C
/-- CH_CNT_RECON (R298), 32 at a stride of 0x1000. -/
abbrev CH_CNT_RECON : Nat := 0x80050
/-- CH_CNT_RETRY (R298), 32 at a stride of 0x1000. -/
abbrev CH_CNT_RETRY : Nat := 0x80054
/-- CH_CNT_SOFT (R298), 32 at a stride of 0x1000. -/
abbrev CH_CNT_SOFT : Nat := 0x80058
/-- CH_CNT_UNC (R298), 32 at a stride of 0x1000. -/
abbrev CH_CNT_UNC : Nat := 0x8005C
/-- CH_CNT_SLOW (R298), 32 at a stride of 0x1000. -/
abbrev CH_CNT_SLOW : Nat := 0x80060
/-- CH_CNT_CLR (R298), 32 at a stride of 0x1000. -/
abbrev CH_CNT_CLR : Nat := 0x80064
/-- LDPC_STATE (R299). -/
abbrev LDPC_STATE : Nat := 0x80F00
/-- LDPC_CNT_HD (R299). -/
abbrev LDPC_CNT_HD : Nat := 0x80F04
/-- LDPC_CNT_SD (R299). -/
abbrev LDPC_CNT_SD : Nat := 0x80F08
/-- LDPC_CNT_ENC (R299). -/
abbrev LDPC_CNT_ENC : Nat := 0x80F0C
/-- LDPC_CNT_CLR (R299). -/
abbrev LDPC_CNT_CLR : Nat := 0x80F10
/-- LDPC_FLIP_MASK (R300). -/
abbrev LDPC_FLIP_MASK : Nat := 0x80F14
/-- LDPC_FLIP_CTL (R300). -/
abbrev LDPC_FLIP_CTL : Nat := 0x80F18
/-- STR_GEOM (R347). -/
abbrev STR_GEOM : Nat := 0xA0000
/-- STR_EPOCH_LO (R348). -/
abbrev STR_EPOCH_LO : Nat := 0xA0004
/-- STR_EPOCH_HI (R348). -/
abbrev STR_EPOCH_HI : Nat := 0xA0008
/-- STR_ARRAY_ID (R348), 4 at a stride of 0x4. -/
abbrev STR_ARRAY_ID : Nat := 0xA0010
/-- STR_REBUILD (R349). -/
abbrev STR_REBUILD : Nat := 0xA0020
/-- STR_REBUILD_CFG (R349). -/
abbrev STR_REBUILD_CFG : Nat := 0xA0024
/-- STR_MEMBER_CFG (R350). -/
abbrev STR_MEMBER_CFG : Nat := 0xA0028
/-- STR_BOUNDARY (R351). -/
abbrev STR_BOUNDARY : Nat := 0xA002C
/-- STR_LOST (R351). -/
abbrev STR_LOST : Nat := 0xA0030
/-- STR_QUINCE (R351). -/
abbrev STR_QUINCE : Nat := 0xA0034
/-- CAR_STATE (R352), 16 at a stride of 0x4. -/
abbrev CAR_STATE : Nat := 0xA0100
/-- CAR_LED (R353). -/
abbrev CAR_LED : Nat := 0xA0140
/-- CAR_CFG (R353). -/
abbrev CAR_CFG : Nat := 0xA0144
/-- STR_CNT_DIE_FAIL (R354). -/
abbrev STR_CNT_DIE_FAIL : Nat := 0xA0150
/-- STR_CNT_MOVED_GIB (R354). -/
abbrev STR_CNT_MOVED_GIB : Nat := 0xA0154
/-- STR_CNT_INSERT (R354). -/
abbrev STR_CNT_INSERT : Nat := 0xA0158
/-- STR_CNT_LOSS (R354). -/
abbrev STR_CNT_LOSS : Nat := 0xA015C
/-- STR_CNT_CLR (R354). -/
abbrev STR_CNT_CLR : Nat := 0xA0160
/-- MNT_STATE (R256). -/
abbrev MNT_STATE : Nat := 0xA8000
/-- MNT_FREE (R256). -/
abbrev MNT_FREE : Nat := 0xA8004
/-- MNT_GC_CFG (R256). -/
abbrev MNT_GC_CFG : Nat := 0xA8008
/-- MNT_WL_CFG (R256). -/
abbrev MNT_WL_CFG : Nat := 0xA800C
/-- MNT_PATROL_CFG (R256). -/
abbrev MNT_PATROL_CFG : Nat := 0xA8010
/-- MNT_RD_CFG (R256). -/
abbrev MNT_RD_CFG : Nat := 0xA8014
/-- MNT_RET_CFG0 (R256). -/
abbrev MNT_RET_CFG0 : Nat := 0xA8018
/-- MNT_RET_CFG1 (R256). -/
abbrev MNT_RET_CFG1 : Nat := 0xA801C
/-- MNT_CMD (R256). -/
abbrev MNT_CMD : Nat := 0xA8020
/-- MNT_LAP (R256). -/
abbrev MNT_LAP : Nat := 0xA8024
/-- CMP_CFG (R377). -/
abbrev CMP_CFG : Nat := 0xB0000
/-- CMP_STATE (R378). -/
abbrev CMP_STATE : Nat := 0xB0004
/-- CMP_RATIO (R378). -/
abbrev CMP_RATIO : Nat := 0xB0008
/-- CMP_CNT_IN_GIB (R379). -/
abbrev CMP_CNT_IN_GIB : Nat := 0xB0010
/-- CMP_CNT_OUT_GIB (R379). -/
abbrev CMP_CNT_OUT_GIB : Nat := 0xB0014
/-- CMP_CNT_RAW (R379). -/
abbrev CMP_CNT_RAW : Nat := 0xB0018
/-- CMP_CNT_VERIFY (R379). -/
abbrev CMP_CNT_VERIFY : Nat := 0xB001C
/-- CMP_CNT_DEC_FAIL (R379). -/
abbrev CMP_CNT_DEC_FAIL : Nat := 0xB0020
/-- CMP_CNT_UNREC (R379). -/
abbrev CMP_CNT_UNREC : Nat := 0xB0024
/-- CMP_CNT_STREAM_RST (R379). -/
abbrev CMP_CNT_STREAM_RST : Nat := 0xB0028
/-- CMP_CNT_CLR (R379). -/
abbrev CMP_CNT_CLR : Nat := 0xB002C
/-- PORT_MODE (R79), 2 at a stride of 0x1000. -/
abbrev PORT_MODE : Nat := 0xC0000
/-- PORT_LINK (R80), 2 at a stride of 0x1000. -/
abbrev PORT_LINK : Nat := 0xC0004
/-- PORT_HOLD (R81), 2 at a stride of 0x1000. -/
abbrev PORT_HOLD : Nat := 0xC0008
/-- RC_CFG0 (R82), 2 at a stride of 0x1000. -/
abbrev RC_CFG0 : Nat := 0xC000C
/-- RC_CFG1 (R82), 2 at a stride of 0x1000. -/
abbrev RC_CFG1 : Nat := 0xC0010
/-- PORT_CNT_CNP_TX (R83), 2 at a stride of 0x1000. -/
abbrev PORT_CNT_CNP_TX : Nat := 0xC0014
/-- PORT_CNT_CNP_RX (R83), 2 at a stride of 0x1000. -/
abbrev PORT_CNT_CNP_RX : Nat := 0xC0018
/-- PORT_CNT_PFC_TX (R83), 2 at a stride of 0x1000. -/
abbrev PORT_CNT_PFC_TX : Nat := 0xC001C
/-- PORT_CNT_PFC_RX (R83), 2 at a stride of 0x1000. -/
abbrev PORT_CNT_PFC_RX : Nat := 0xC0020
/-- PORT_CNT_FEC_UNC (R83), 2 at a stride of 0x1000. -/
abbrev PORT_CNT_FEC_UNC : Nat := 0xC0024
/-- PORT_CNT_CLR (R83), 2 at a stride of 0x1000. -/
abbrev PORT_CNT_CLR : Nat := 0xC0028
/-- RING_STATUS (R84). -/
abbrev RING_STATUS : Nat := 0xC2000
/-- RING_TIMERS (R84). -/
abbrev RING_TIMERS : Nat := 0xC2004
/-- CE_IN_USE (R130). -/
abbrev CE_IN_USE : Nat := 0xD0000
/-- CE_HELD_OVL (R130). -/
abbrev CE_HELD_OVL : Nat := 0xD0004
/-- CE_HELD_QOS (R130). -/
abbrev CE_HELD_QOS : Nat := 0xD0008
/-- CE_HELD_RES (R130). -/
abbrev CE_HELD_RES : Nat := 0xD000C
/-- CE_POOL (R131). -/
abbrev CE_POOL : Nat := 0xD0010
/-- CE_CFG (R132). -/
abbrev CE_CFG : Nat := 0xD0014
/-- CE_CCT_SEL (R133). -/
abbrev CE_CCT_SEL : Nat := 0xD0020
/-- CE_CCT_DATA (R133), 16 at a stride of 0x4. -/
abbrev CE_CCT_DATA : Nat := 0xD0040
/-- CE_CNT_ADMIT (R134). -/
abbrev CE_CNT_ADMIT : Nat := 0xD0080
/-- CE_CNT_OVL_HOLD (R134). -/
abbrev CE_CNT_OVL_HOLD : Nat := 0xD0084
/-- CE_CNT_QOS_HOLD (R134). -/
abbrev CE_CNT_QOS_HOLD : Nat := 0xD0088
/-- CE_CNT_ABORT_DONE (R134). -/
abbrev CE_CNT_ABORT_DONE : Nat := 0xD008C
/-- CE_CNT_ABORT_NOT (R134). -/
abbrev CE_CNT_ABORT_NOT : Nat := 0xD0090
/-- CE_CNT_REDISPATCH (R134). -/
abbrev CE_CNT_REDISPATCH : Nat := 0xD0094
/-- CE_CNT_CIDCONF (R134). -/
abbrev CE_CNT_CIDCONF : Nat := 0xD0098
/-- CE_CNT_CLR (R134). -/
abbrev CE_CNT_CLR : Nat := 0xD009C
/-- NOR_STAT (R510). -/
abbrev NOR_STAT : Nat := 0xE0000
/-- CFG_SEQ (R511). -/
abbrev CFG_SEQ : Nat := 0xE0004
/-- CFG_OTHER_SEQ (R511). -/
abbrev CFG_OTHER_SEQ : Nat := 0xE0008
/-- CFG_LIVE (R511). -/
abbrev CFG_LIVE : Nat := 0xE000C
/-- SLED_CFG (R511). -/
abbrev SLED_CFG : Nat := 0xE0010
/-- ROM_MBX_CMD (R512). -/
abbrev ROM_MBX_CMD : Nat := 0xE0020
/-- ROM_MBX_ADDR (R512). -/
abbrev ROM_MBX_ADDR : Nat := 0xE0024
/-- ROM_MBX_LEN (R512). -/
abbrev ROM_MBX_LEN : Nat := 0xE0028
/-- ROM_MBX_RET (R512). -/
abbrev ROM_MBX_RET : Nat := 0xE002C
/-- NOR_CNT_PROG (R513). -/
abbrev NOR_CNT_PROG : Nat := 0xE0040
/-- NOR_CNT_ERASE (R513). -/
abbrev NOR_CNT_ERASE : Nat := 0xE0044
/-- NOR_CNT_SUSP (R513). -/
abbrev NOR_CNT_SUSP : Nat := 0xE0048
/-- NOR_CNT_REFUSE (R513). -/
abbrev NOR_CNT_REFUSE : Nat := 0xE004C
/-- NOR_CNT_CLR (R513). -/
abbrev NOR_CNT_CLR : Nat := 0xE0050
/-- FW_STATE (R535). -/
abbrev FW_STATE : Nat := 0xF0000
/-- FW_PROB (R536). -/
abbrev FW_PROB : Nat := 0xF0004
/-- FW_CFG (R536). -/
abbrev FW_CFG : Nat := 0xF0008
/-- FW_RECEIVED (R535). -/
abbrev FW_RECEIVED : Nat := 0xF000C
/-- FW_RING (R536). -/
abbrev FW_RING : Nat := 0xF0010
/-- FW_CNT_ACTIVATE (R537). -/
abbrev FW_CNT_ACTIVATE : Nat := 0xF0020
/-- FW_CNT_REVERT (R537). -/
abbrev FW_CNT_REVERT : Nat := 0xF0024
/-- FW_CNT_FORWARD (R537). -/
abbrev FW_CNT_FORWARD : Nat := 0xF0028
/-- FW_CNT_CLR (R537). -/
abbrev FW_CNT_CLR : Nat := 0xF002C

end Reg

/-- One row of the register table: offset of the first instance, instances, stride, reset value, mask of the bits a write
stores (types RW and W1S), mask of the RW1C bits. -/
structure RegRow where
  off : Nat
  n : Nat
  stride : Nat
  reset : Nat
  rw : Nat
  w1c : Nat
  deriving DecidableEq, Repr

/-- Registers from offset 0x0. -/
def regRows0 : List RegRow := [
  ⟨0x0, 1, 0x4, 0x72401000, 0x00000000, 0x00000000⟩,
  ⟨0x100, 1, 0x4, 0x00000000, 0x00000000, 0x00000000⟩,
  ⟨0x104, 1, 0x4, 0x08122042, 0x00000000, 0x00000000⟩,
  ⟨0x108, 1, 0x4, 0x00117000, 0x00000000, 0x00000000⟩,
  ⟨0x10C, 1, 0x4, 0x0000FFFF, 0x00000000, 0x00000000⟩,
  ⟨0x110, 1, 0x4, 0x00000000, 0x00000000, 0x00000000⟩,
  ⟨0x114, 1, 0x4, 0x00000200, 0x00000000, 0x00000000⟩]

/-- Registers from offset 0x10000. -/
def regRows1 : List RegRow := [
  ⟨0x10000, 1, 0x4, 0x00000800, 0x00000000, 0x00000000⟩,
  ⟨0x10004, 1, 0x4, 0x00000000, 0x00000000, 0x00000000⟩,
  ⟨0x10008, 1, 0x4, 0x00000000, 0x00000000, 0x00000000⟩,
  ⟨0x1000C, 1, 0x4, 0x00000000, 0x00000000, 0x00000000⟩,
  ⟨0x10010, 1, 0x4, 0x00000000, 0x00000000, 0x00000000⟩,
  ⟨0x10014, 1, 0x4, 0x00000000, 0x00000000, 0x00000000⟩,
  ⟨0x10018, 1, 0x4, 0x00000000, 0x00000000, 0x00000000⟩,
  ⟨0x1001C, 1, 0x4, 0x00000000, 0x00000000, 0x00000000⟩,
  ⟨0x10020, 1, 0x4, 0x00000000, 0x00000000, 0x00000000⟩,
  ⟨0x10030, 1, 0x4, 0x003C001E, 0xFFFF001E, 0x00000000⟩,
  ⟨0x10034, 1, 0x4, 0x000A0001, 0xFFFFFFFF, 0x00000000⟩,
  ⟨0x10038, 1, 0x4, 0x0064000A, 0xFFFFFFFF, 0x00000000⟩,
  ⟨0x1003C, 1, 0x4, 0x0000001E, 0xFFFFFFFF, 0x00000000⟩,
  ⟨0x10040, 1, 0x4, 0xFFFFFFFF, 0x00000000, 0x00000000⟩,
  ⟨0x10044, 1, 0x4, 0x80000000, 0x00000000, 0x00000000⟩,
  ⟨0x10050, 4, 0x4, 0x00000000, 0x00000000, 0x00000000⟩,
  ⟨0x10060, 4, 0x4, 0x00000000, 0x00000000, 0x00000000⟩,
  ⟨0x10070, 1, 0x4, 0x00000000, 0x00000000, 0x00000000⟩]

/-- Registers from offset 0x20000. -/
def regRows2 : List RegRow := [
  ⟨0x20000, 1, 0x4, 0x00000000, 0x00000000, 0x00000000⟩,
  ⟨0x20004, 1, 0x4, 0x5F642819, 0xFFFFFFFF, 0x00000000⟩,
  ⟨0x20008, 1, 0x4, 0x34100934, 0xFFFFFF00, 0x00000000⟩,
  ⟨0x2000C, 1, 0x4, 0x00000000, 0x0000FFFF, 0x00000000⟩]

/-- Registers from offset 0x30000. -/
def regRows3 : List RegRow := [
  ⟨0x30000, 20, 0x40, 0x00000000, 0xFFFFFF1F, 0x00000000⟩,
  ⟨0x30004, 20, 0x40, 0x00000000, 0x00000000, 0x0000001F⟩,
  ⟨0x30008, 20, 0x40, 0x00000000, 0xFFFFFFFF, 0x00000000⟩,
  ⟨0x3000C, 20, 0x40, 0x00000000, 0xFFFFFFFF, 0x00000000⟩,
  ⟨0x30010, 20, 0x40, 0x00000000, 0xFFFFFFFF, 0x00000000⟩,
  ⟨0x30014, 20, 0x40, 0x00000000, 0xFFFFFFFF, 0x00000000⟩,
  ⟨0x30018, 20, 0x40, 0x00000000, 0xFFFFFFFF, 0x00000000⟩,
  ⟨0x3001C, 20, 0x40, 0x00000000, 0xFFFFFFFF, 0x00000000⟩,
  ⟨0x30020, 20, 0x40, 0x00000000, 0xFFFFFFFF, 0x00000000⟩,
  ⟨0x30024, 20, 0x40, 0x00000000, 0xFFFFFFFF, 0x00000000⟩,
  ⟨0x30028, 20, 0x40, 0x00000000, 0x00000000, 0x00000000⟩,
  ⟨0x3002C, 20, 0x40, 0x00000000, 0x00000000, 0x00000000⟩,
  ⟨0x30030, 20, 0x40, 0x00000000, 0x00000000, 0x00000000⟩,
  ⟨0x30800, 1, 0x4, 0x8CA0505A, 0xFFFFFFFF, 0x00000000⟩,
  ⟨0x30804, 1, 0x4, 0x00F01814, 0xFFFFFFFF, 0x00000000⟩,
  ⟨0x30808, 1, 0x4, 0x9C400064, 0xFFFFFFFF, 0x00000000⟩,
  ⟨0x3080C, 1, 0x4, 0x46F6003C, 0xFFFFFFFF, 0x00000000⟩,
  ⟨0x30810, 1, 0x4, 0x00000000, 0x00000000, 0x00000000⟩,
  ⟨0x30814, 1, 0x4, 0x00000000, 0x00000000, 0x00000000⟩,
  ⟨0x30818, 1, 0x4, 0x00000000, 0x00000000, 0x00000000⟩,
  ⟨0x3081C, 1, 0x4, 0x00000000, 0x00000000, 0x00000000⟩]

/-- Registers from offset 0x40000. -/
def regRows4 : List RegRow := [
  ⟨0x40000, 1, 0x4, 0x00000000, 0x00000000, 0x00000000⟩,
  ⟨0x40004, 1, 0x4, 0x00000000, 0x00000000, 0x00000000⟩,
  ⟨0x40008, 1, 0x4, 0x00000000, 0x00000000, 0x00000000⟩,
  ⟨0x4000C, 1, 0x4, 0x00000003, 0x00000107, 0x00000000⟩,
  ⟨0x40100, 36, 0x4, 0x00000000, 0x00000000, 0xFFFFFFFF⟩,
  ⟨0x40190, 1, 0x4, 0x00000000, 0x00000000, 0x00000000⟩,
  ⟨0x40194, 1, 0x4, 0x00000000, 0x00000000, 0x00000000⟩,
  ⟨0x40200, 1, 0x4, 0x00000008, 0xFFFFFFFF, 0x00000000⟩,
  ⟨0x40204, 1, 0x4, 0x00000100, 0xFFFFFFFF, 0x00000000⟩,
  ⟨0x40208, 1, 0x4, 0x00000088, 0xFFFFFFFF, 0x00000000⟩,
  ⟨0x4020C, 1, 0x4, 0x000A0002, 0xFFFFFFFF, 0x00000000⟩,
  ⟨0x40210, 1, 0x4, 0x00000002, 0xFFFFFFFF, 0x00000000⟩,
  ⟨0x40214, 1, 0x4, 0x0000020E, 0xFFFFFFFF, 0x00000000⟩,
  ⟨0x40218, 1, 0x4, 0x00000480, 0xFFFFFFFF, 0x00000000⟩,
  ⟨0x4021C, 1, 0x4, 0x00000020, 0xFFFFFFFF, 0x00000000⟩,
  ⟨0x40220, 1, 0x4, 0x00060804, 0xFFFFFFFF, 0x00000000⟩,
  ⟨0x40224, 1, 0x4, 0x000000CA, 0xFFFFFFFF, 0x00000000⟩,
  ⟨0x40228, 1, 0x4, 0x001207C2, 0xFFFFFFFF, 0x00000000⟩,
  ⟨0x4022C, 1, 0x4, 0x00000014, 0xFFFFFFFF, 0x00000000⟩,
  ⟨0x40230, 1, 0x4, 0x00000000, 0xFFFFFFFF, 0x00000000⟩,
  ⟨0x40234, 1, 0x4, 0x00000050, 0xFFFFFFFF, 0x00000000⟩,
  ⟨0x40238, 1, 0x4, 0x0000022A, 0xFFFFFFFF, 0x00000000⟩,
  ⟨0x4023C, 1, 0x4, 0x00000A98, 0xFFFFFFFF, 0x00000000⟩,
  ⟨0x40240, 1, 0x4, 0x000005A8, 0xFFFFFFFF, 0x00000000⟩,
  ⟨0x40244, 19, 0x4, 0x00000000, 0xFFFFFFFF, 0x00000000⟩,
  ⟨0x40300, 1, 0x4, 0x00000000, 0x00FF0003, 0x00000000⟩,
  ⟨0x40340, 16, 0x4, 0x00000000, 0x00000000, 0x00000000⟩]

/-- Registers from offset 0x50000. -/
def regRows5 : List RegRow := [
  ⟨0x50000, 1, 0x4, 0x00004000, 0x00000000, 0x00000000⟩,
  ⟨0x50004, 1, 0x4, 0x00640000, 0xFFFF0000, 0x00000000⟩,
  ⟨0x50010, 1, 0x4, 0x08000400, 0x7FFF7FFF, 0x00000000⟩,
  ⟨0x50014, 1, 0x4, 0x30000C00, 0x7FFF7FFF, 0x00000000⟩,
  ⟨0x50018, 1, 0x4, 0x20000C00, 0x7FFF7FFF, 0x00000000⟩,
  ⟨0x5001C, 1, 0x4, 0x18000800, 0x7FFF7FFF, 0x00000000⟩,
  ⟨0x50020, 1, 0x4, 0x10000400, 0x7FFF7FFF, 0x00000000⟩,
  ⟨0x50024, 1, 0x4, 0x10000400, 0x7FFF7FFF, 0x00000000⟩,
  ⟨0x50028, 1, 0x4, 0x08000200, 0x7FFF7FFF, 0x00000000⟩,
  ⟨0x50040, 7, 0x4, 0x00000000, 0x00000000, 0x00000000⟩,
  ⟨0x50060, 1, 0x4, 0x00000000, 0xFFFFFFFF, 0x00000000⟩,
  ⟨0x50064, 1, 0x4, 0x00000000, 0x000001FF, 0x00000000⟩,
  ⟨0x50070, 1, 0x4, 0x00000000, 0xFFFFFFFF, 0x00000000⟩,
  ⟨0x50074, 1, 0x4, 0x00000000, 0x00000101, 0x00000000⟩,
  ⟨0x50078, 1, 0x4, 0x22380000, 0xFFFF0000, 0x00000000⟩,
  ⟨0x50080, 1, 0x4, 0x00000000, 0x00000000, 0x00000000⟩,
  ⟨0x50084, 1, 0x4, 0x00000000, 0x00000000, 0x00000000⟩,
  ⟨0x50088, 1, 0x4, 0x00000000, 0x00000000, 0x00000000⟩,
  ⟨0x5008C, 1, 0x4, 0x00000000, 0x00000000, 0x00000000⟩,
  ⟨0x50090, 1, 0x4, 0x00000000, 0x00000000, 0x00000000⟩,
  ⟨0x50094, 1, 0x4, 0x00000000, 0x00000000, 0x00000000⟩,
  ⟨0x50098, 1, 0x4, 0x00000000, 0x00000000, 0x00000000⟩]

/-- Registers from offset 0x60000. -/
def regRows6 : List RegRow := [
  ⟨0x60000, 1, 0x4, 0x00000000, 0x00000000, 0x00000000⟩,
  ⟨0x60004, 4, 0x4, 0x00000000, 0x00000000, 0x00000000⟩,
  ⟨0x60014, 1, 0x4, 0x00000000, 0x00000000, 0x00000000⟩,
  ⟨0x60018, 1, 0x4, 0x00000032, 0x000000FF, 0x00000000⟩,
  ⟨0x6001C, 1, 0x4, 0x001807D0, 0xFFFFFFFF, 0x00000000⟩,
  ⟨0x60020, 1, 0x4, 0x00000000, 0x00000000, 0x00000000⟩,
  ⟨0x60024, 1, 0x4, 0x04000040, 0xFF00FFFF, 0x00000000⟩,
  ⟨0x60028, 1, 0x4, 0x00000000, 0x00000000, 0x00000000⟩,
  ⟨0x6002C, 1, 0x4, 0x00000000, 0x00000000, 0x00000000⟩,
  ⟨0x60030, 1, 0x4, 0x00000000, 0xFFFFFFFF, 0x00000000⟩,
  ⟨0x60034, 1, 0x4, 0x00000000, 0xFF000F00, 0x00000000⟩,
  ⟨0x60040, 1, 0x4, 0x00000000, 0x00000000, 0x00000000⟩,
  ⟨0x60044, 1, 0x4, 0x00000000, 0x00000000, 0x00000000⟩,
  ⟨0x60048, 1, 0x4, 0x00000000, 0x00000000, 0x00000000⟩,
  ⟨0x6004C, 1, 0x4, 0x00000000, 0x00000000, 0x00000000⟩,
  ⟨0x60050, 1, 0x4, 0x00000000, 0x00000000, 0x00000000⟩,
  ⟨0x60054, 1, 0x4, 0x00000000, 0x00000000, 0x00000000⟩]

/-- Registers from offset 0x80000. -/
def regRows7 : List RegRow := [
  ⟨0x80000, 32, 0x1000, 0x00000000, 0x00000000, 0x00000000⟩,
  ⟨0x80004, 32, 0x1000, 0x00000000, 0x00000000, 0x00000000⟩,
  ⟨0x80010, 32, 0x1000, 0x012C07D0, 0xCFFFFFFF, 0x00000000⟩,
  ⟨0x80014, 32, 0x1000, 0x00003240, 0x0000FFFF, 0x00000000⟩,
  ⟨0x80018, 32, 0x1000, 0x320003F0, 0xFF0003F0, 0x00000000⟩,
  ⟨0x80020, 16, 0x2000, 0x50000200, 0xFFFFFF00, 0x00000000⟩,
  ⟨0x80024, 16, 0x2000, 0x00000000, 0x00000000, 0x00000000⟩,
  ⟨0x80030, 32, 0x1000, 0x00000000, 0x0000003F, 0x00000000⟩,
  ⟨0x80034, 32, 0x1000, 0x00000000, 0x00000000, 0x00000000⟩,
  ⟨0x80038, 32, 0x1000, 0x00000000, 0x00000000, 0x00000000⟩,
  ⟨0x8003C, 32, 0x1000, 0x00000000, 0x00000000, 0x00000000⟩,
  ⟨0x80040, 32, 0x1000, 0x00000000, 0x00000000, 0x00000000⟩,
  ⟨0x80044, 32, 0x1000, 0x00000000, 0x00000000, 0x00000000⟩,
  ⟨0x80048, 32, 0x1000, 0x00000000, 0x00000000, 0x00000000⟩,
  ⟨0x8004C, 32, 0x1000, 0x00000000, 0x00000000, 0x00000000⟩,
  ⟨0x80050, 32, 0x1000, 0x00000000, 0x00000000, 0x00000000⟩,
  ⟨0x80054, 32, 0x1000, 0x00000000, 0x00000000, 0x00000000⟩,
  ⟨0x80058, 32, 0x1000, 0x00000000, 0x00000000, 0x00000000⟩,
  ⟨0x8005C, 32, 0x1000, 0x00000000, 0x00000000, 0x00000000⟩,
  ⟨0x80060, 32, 0x1000, 0x00000000, 0x00000000, 0x00000000⟩,
  ⟨0x80064, 32, 0x1000, 0x00000000, 0x00000000, 0x00000000⟩,
  ⟨0x80F00, 1, 0x4, 0x00000000, 0x00000000, 0x00000000⟩,
  ⟨0x80F04, 1, 0x4, 0x00000000, 0x00000000, 0x00000000⟩,
  ⟨0x80F08, 1, 0x4, 0x00000000, 0x00000000, 0x00000000⟩,
  ⟨0x80F0C, 1, 0x4, 0x00000000, 0x00000000, 0x00000000⟩,
  ⟨0x80F10, 1, 0x4, 0x00000000, 0x00000000, 0x00000000⟩,
  ⟨0x80F14, 1, 0x4, 0x00000000, 0xFFFFFFFF, 0x00000000⟩,
  ⟨0x80F18, 1, 0x4, 0x00000000, 0x0000011F, 0x00000000⟩]

/-- Registers from offset 0xA0000. -/
def regRows8 : List RegRow := [
  ⟨0xA0000, 1, 0x4, 0x00000000, 0x00000000, 0x00000000⟩,
  ⟨0xA0004, 1, 0x4, 0x00000000, 0x00000000, 0x00000000⟩,
  ⟨0xA0008, 1, 0x4, 0x00000000, 0x00000000, 0x00000000⟩,
  ⟨0xA0010, 4, 0x4, 0x00000000, 0x00000000, 0x00000000⟩,
  ⟨0xA0020, 1, 0x4, 0x00000000, 0x00000000, 0x00000000⟩,
  ⟨0xA0024, 1, 0x4, 0x000007D0, 0xFF00FFFF, 0x00000000⟩,
  ⟨0xA0028, 1, 0x4, 0x00C80800, 0xFFFFFFFF, 0x00000000⟩,
  ⟨0xA002C, 1, 0x4, 0xFFFFFFFF, 0x00000000, 0x00000000⟩,
  ⟨0xA0030, 1, 0x4, 0x00000000, 0x00000000, 0x00000000⟩,
  ⟨0xA0034, 1, 0x4, 0x00000000, 0x00000000, 0x00000000⟩,
  ⟨0xA0100, 16, 0x4, 0x00000000, 0x00000000, 0x00000000⟩,
  ⟨0xA0140, 1, 0x4, 0x00000000, 0xFFFFFFFF, 0x00000000⟩,
  ⟨0xA0144, 1, 0x4, 0x00003200, 0x0000FF01, 0x00000000⟩,
  ⟨0xA0150, 1, 0x4, 0x00000000, 0x00000000, 0x00000000⟩,
  ⟨0xA0154, 1, 0x4, 0x00000000, 0x00000000, 0x00000000⟩,
  ⟨0xA0158, 1, 0x4, 0x00000000, 0x00000000, 0x00000000⟩,
  ⟨0xA015C, 1, 0x4, 0x00000000, 0x00000000, 0x00000000⟩,
  ⟨0xA0160, 1, 0x4, 0x00000000, 0x00000000, 0x00000000⟩,
  ⟨0xA8000, 1, 0x4, 0x00000000, 0x00000000, 0x00000000⟩,
  ⟨0xA8004, 1, 0x4, 0x00000000, 0x00000000, 0x00000000⟩,
  ⟨0xA8008, 1, 0x4, 0x01E03C05, 0x3FFFFFFF, 0x00000000⟩,
  ⟨0xA800C, 1, 0x4, 0x005A020A, 0xFFFF0FFF, 0x00000000⟩,
  ⟨0xA8010, 1, 0x4, 0x00A84605, 0xFFFFFFFF, 0x00000000⟩,
  ⟨0xA8014, 1, 0x4, 0x3E819014, 0x3FFFFFFF, 0x00000000⟩,
  ⟨0xA8018, 1, 0x4, 0x111C088E, 0xFFFFFFFF, 0x00000000⟩,
  ⟨0xA801C, 1, 0x4, 0x07D02238, 0xFFFFFFFF, 0x00000000⟩,
  ⟨0xA8020, 1, 0x4, 0x00000000, 0x00000000, 0x00000000⟩,
  ⟨0xA8024, 1, 0x4, 0x00000000, 0x00000000, 0x00000000⟩]

/-- Registers from offset 0xB0000. -/
def regRows9 : List RegRow := [
  ⟨0xB0000, 1, 0x4, 0x0004FF10, 0x00FFFF13, 0x00000000⟩,
  ⟨0xB0004, 1, 0x4, 0x000000FF, 0x00000000, 0x00000000⟩,
  ⟨0xB0008, 1, 0x4, 0x00000000, 0x00000000, 0x00000000⟩,
  ⟨0xB0010, 1, 0x4, 0x00000000, 0x00000000, 0x00000000⟩,
  ⟨0xB0014, 1, 0x4, 0x00000000, 0x00000000, 0x00000000⟩,
  ⟨0xB0018, 1, 0x4, 0x00000000, 0x00000000, 0x00000000⟩,
  ⟨0xB001C, 1, 0x4, 0x00000000, 0x00000000, 0x00000000⟩,
  ⟨0xB0020, 1, 0x4, 0x00000000, 0x00000000, 0x00000000⟩,
  ⟨0xB0024, 1, 0x4, 0x00000000, 0x00000000, 0x00000000⟩,
  ⟨0xB0028, 1, 0x4, 0x00000000, 0x00000000, 0x00000000⟩,
  ⟨0xB002C, 1, 0x4, 0x00000000, 0x00000000, 0x00000000⟩]

/-- Registers from offset 0xC0000. -/
def regRows10 : List RegRow := [
  ⟨0xC0000, 2, 0x1000, 0x00000000, 0x00000000, 0x00000000⟩,
  ⟨0xC0004, 2, 0x1000, 0x00000000, 0x00000000, 0x00000000⟩,
  ⟨0xC0008, 2, 0x1000, 0x03E80004, 0xFFFF00FF, 0x00000000⟩,
  ⟨0xC000C, 2, 0x1000, 0x200A320A, 0xFFFFFFFF, 0x00000000⟩,
  ⟨0xC0010, 2, 0x1000, 0x00013200, 0xFFFFFF00, 0x00000000⟩,
  ⟨0xC0014, 2, 0x1000, 0x00000000, 0x00000000, 0x00000000⟩,
  ⟨0xC0018, 2, 0x1000, 0x00000000, 0x00000000, 0x00000000⟩,
  ⟨0xC001C, 2, 0x1000, 0x00000000, 0x00000000, 0x00000000⟩,
  ⟨0xC0020, 2, 0x1000, 0x00000000, 0x00000000, 0x00000000⟩,
  ⟨0xC0024, 2, 0x1000, 0x00000000, 0x00000000, 0x00000000⟩,
  ⟨0xC0028, 2, 0x1000, 0x00000000, 0x00000000, 0x00000000⟩,
  ⟨0xC2000, 1, 0x4, 0x00000000, 0x00000000, 0x00000000⟩,
  ⟨0xC2004, 1, 0x4, 0x0032000A, 0xFFFFFFFF, 0x00000000⟩]

/-- Registers from offset 0xD0000. -/
def regRows11 : List RegRow := [
  ⟨0xD0000, 1, 0x4, 0x00000000, 0x00000000, 0x00000000⟩,
  ⟨0xD0004, 1, 0x4, 0x00000000, 0x00000000, 0x00000000⟩,
  ⟨0xD0008, 1, 0x4, 0x00000000, 0x00000000, 0x00000000⟩,
  ⟨0xD000C, 1, 0x4, 0x00000000, 0x00000000, 0x00000000⟩,
  ⟨0xD0010, 1, 0x4, 0x0001F000, 0x00000000, 0x00000000⟩,
  ⟨0xD0014, 1, 0x4, 0x03E80000, 0xFFFF0000, 0x00000000⟩,
  ⟨0xD0020, 1, 0x4, 0x00000000, 0x0001FFFF, 0x00000000⟩,
  ⟨0xD0040, 16, 0x4, 0x00000000, 0x00000000, 0x00000000⟩,
  ⟨0xD0080, 1, 0x4, 0x00000000, 0x00000000, 0x00000000⟩,
  ⟨0xD0084, 1, 0x4, 0x00000000, 0x00000000, 0x00000000⟩,
  ⟨0xD0088, 1, 0x4, 0x00000000, 0x00000000, 0x00000000⟩,
  ⟨0xD008C, 1, 0x4, 0x00000000, 0x00000000, 0x00000000⟩,
  ⟨0xD0090, 1, 0x4, 0x00000000, 0x00000000, 0x00000000⟩,
  ⟨0xD0094, 1, 0x4, 0x00000000, 0x00000000, 0x00000000⟩,
  ⟨0xD0098, 1, 0x4, 0x00000000, 0x00000000, 0x00000000⟩,
  ⟨0xD009C, 1, 0x4, 0x00000000, 0x00000000, 0x00000000⟩]

/-- Registers from offset 0xE0000. -/
def regRows12 : List RegRow := [
  ⟨0xE0000, 1, 0x4, 0x00000000, 0x00000000, 0x00000000⟩,
  ⟨0xE0004, 1, 0x4, 0x00000000, 0x00000000, 0x00000000⟩,
  ⟨0xE0008, 1, 0x4, 0x00000000, 0x00000000, 0x00000000⟩,
  ⟨0xE000C, 1, 0x4, 0x00000000, 0x00000000, 0x00000000⟩,
  ⟨0xE0010, 1, 0x4, 0x00000064, 0x0000FFFF, 0x00000000⟩,
  ⟨0xE0020, 1, 0x4, 0x00000000, 0x00000000, 0x00000000⟩,
  ⟨0xE0024, 1, 0x4, 0x00000000, 0x00000000, 0x00000000⟩,
  ⟨0xE0028, 1, 0x4, 0x00000000, 0x00000000, 0x00000000⟩,
  ⟨0xE002C, 1, 0x4, 0x00000000, 0x00000000, 0x00000000⟩,
  ⟨0xE0040, 1, 0x4, 0x00000000, 0x00000000, 0x00000000⟩,
  ⟨0xE0044, 1, 0x4, 0x00000000, 0x00000000, 0x00000000⟩,
  ⟨0xE0048, 1, 0x4, 0x00000000, 0x00000000, 0x00000000⟩,
  ⟨0xE004C, 1, 0x4, 0x00000000, 0x00000000, 0x00000000⟩,
  ⟨0xE0050, 1, 0x4, 0x00000000, 0x00000000, 0x00000000⟩]

/-- Registers from offset 0xF0000. -/
def regRows13 : List RegRow := [
  ⟨0xF0000, 1, 0x4, 0x00000000, 0x00000000, 0x00000000⟩,
  ⟨0xF0004, 1, 0x4, 0x000A0000, 0xFFFF0000, 0x00000000⟩,
  ⟨0xF0008, 1, 0x4, 0x00000001, 0x0000000F, 0x00000000⟩,
  ⟨0xF000C, 1, 0x4, 0x00000000, 0x00000000, 0x00000000⟩,
  ⟨0xF0010, 1, 0x4, 0x003C0000, 0xFFFF0000, 0x00000000⟩,
  ⟨0xF0020, 1, 0x4, 0x00000000, 0x00000000, 0x00000000⟩,
  ⟨0xF0024, 1, 0x4, 0x00000000, 0x00000000, 0x00000000⟩,
  ⟨0xF0028, 1, 0x4, 0x00000000, 0x00000000, 0x00000000⟩,
  ⟨0xF002C, 1, 0x4, 0x00000000, 0x00000000, 0x00000000⟩]

/-- Every implemented register of the control space. -/
def regTable : List RegRow :=
  regRows0 ++ regRows1 ++ regRows2 ++ regRows3 ++ regRows4 ++ regRows5 ++ regRows6 ++ regRows7 ++ regRows8 ++ regRows9 ++ regRows10 ++ regRows11 ++ regRows12 ++ regRows13

/-- Instance of a row that lies at an offset. -/
def RegRow.hits (r : RegRow) (off : Nat) : Bool :=
  r.off ≤ off && (off - r.off) % r.stride == 0 && (off - r.off) / r.stride < r.n

/-- The row of the register at an offset; none where nothing is implemented (R15). -/
def regRow (off : Nat) : Option RegRow := regTable.find? (·.hits off)

/-- Reset value of the register at an offset; zero where nothing is implemented (R15). -/
def regReset (off : Nat) : Word :=
  match regRow off with
  | some r => BitVec.ofNat 32 r.reset
  | none => 0

/-! ### The sparse store -/

/-- What the store lists at an offset, or the register's reset value. -/
def regLook (l : List (Nat × Word)) (off : Nat) : Word :=
  match l with
  | [] => regReset off
  | (o, v) :: t => if o = off then v else regLook t off

/-- The list with the value of one offset replaced: entries stay in rising order, and a value equal to the reset value is
not listed. -/
def regPut (l : List (Nat × Word)) (off : Nat) (v : Word) : List (Nat × Word) :=
  match l with
  | [] => if v = regReset off then [] else [(off, v)]
  | (o, w) :: t =>
    if off < o then (if v = regReset off then (o, w) :: t else (off, v) :: (o, w) :: t)
    else if off = o then (if v = regReset off then t else (off, v) :: t)
    else (o, w) :: regPut t off v

/-- The canonical form of the store: offsets strictly rising and no entry equal to its reset value. -/
def regWf (l : List (Nat × Word)) : Bool :=
  match l with
  | [] => true
  | (o, v) :: t => v ≠ regReset o && (match t with | [] => true | (o2, _) :: _ => o < o2) && regWf t

/-- The stored bits of the register at an offset. -/
def State.reg (s : State) (off : Nat) : Word := regLook s.regs off

/-- The state with the stored bits of one register replaced. -/
def State.setReg (s : State) (off : Nat) (v : Word) : State := { s with regs := regPut s.regs off v }

/-- Bits `hi` to `lo` of a word (R9). -/
def bits (w : Word) (hi lo : Nat) : Nat := (w.toNat / 2 ^ lo) % 2 ^ (hi + 1 - lo)

/-- A word with `n` in bits `lo` upward of a zero word. -/
def atBit (lo n : Nat) : Nat := n * 2 ^ lo

/-- A Bool as a bit. -/
def b2n (b : Bool) : Nat := if b then 1 else 0

/-- A field of a stored register. -/
def State.fld (s : State) (off hi lo : Nat) : Nat := bits (s.reg off) hi lo

/-- The register value after a write of `v` that acts by field type (R12): RW and W1S bits take or set, RW1C bits clear where
`v` has a 1, every other bit stays. `w1s` names the W1S bits. -/
def fieldWrite (old v rw w1c w1s : Nat) : Word :=
  let o := BitVec.ofNat 32 old
  let w := BitVec.ofNat 32 v
  let m := BitVec.ofNat 32 rw
  let c := BitVec.ofNat 32 w1c
  let z := BitVec.ofNat 32 w1s
  ((o &&& ~~~m) ||| (w &&& m) ||| (o &&& z)) &&& ~~~(w &&& c)

/-! ### Event codes -/

/-- (code, severity) from 0x0001. -/
def evRows0 : List (Nat × Nat) := [
  (0x0001, 1), (0x0003, 3), (0x0004, 2), (0x001F, 1), (0x0101, 0), (0x0102, 0), (0x0103, 2), (0x0104, 2),
  (0x0105, 1), (0x0106, 1), (0x0107, 2), (0x0108, 3), (0x0109, 0), (0x011F, 1), (0x0201, 2), (0x0202, 1),
  (0x0203, 3), (0x0204, 1), (0x0205, 1), (0x0206, 0), (0x0207, 4), (0x0208, 1), (0x021F, 1), (0x0301, 3),
  (0x0302, 1), (0x0303, 1), (0x0305, 2), (0x0306, 2), (0x0307, 2), (0x0308, 1), (0x0310, 1), (0x0311, 3),
  (0x0312, 2), (0x0313, 3), (0x031F, 1), (0x0401, 3), (0x0402, 1), (0x0403, 1), (0x0405, 2), (0x0406, 2)]

/-- (code, severity) from 0x0407. -/
def evRows1 : List (Nat × Nat) := [
  (0x0407, 2), (0x0408, 1), (0x041F, 1), (0x0501, 3), (0x0502, 4), (0x0503, 3), (0x0504, 1), (0x0505, 2),
  (0x0506, 2), (0x0507, 1), (0x0508, 1), (0x0509, 3), (0x051F, 1), (0x0601, 1), (0x0602, 1), (0x0603, 1),
  (0x0604, 2), (0x0605, 1), (0x0606, 2), (0x0607, 3), (0x0608, 1), (0x0609, 2), (0x060A, 3), (0x060B, 1),
  (0x060C, 1), (0x060D, 1), (0x060E, 2), (0x0701, 0), (0x0702, 2), (0x0703, 2), (0x0704, 2), (0x0705, 4),
  (0x0706, 1), (0x0707, 1), (0x0708, 0), (0x0709, 2), (0x070A, 2), (0x0801, 2), (0x0802, 3), (0x0803, 1)]

/-- (code, severity) from 0x0804. -/
def evRows2 : List (Nat × Nat) := [
  (0x0804, 2), (0x0805, 1), (0x0806, 2), (0x0807, 1), (0x0808, 1), (0x0809, 2), (0x080B, 4), (0x080C, 0),
  (0x080D, 1), (0x080E, 0), (0x080F, 2), (0x0810, 2), (0x0811, 3), (0x0812, 3), (0x0813, 2), (0x0814, 1),
  (0x0815, 0), (0x081F, 1), (0x0901, 3), (0x0902, 2), (0x0903, 3), (0x0904, 2), (0x0905, 2), (0x0906, 3),
  (0x0907, 3), (0x0908, 1), (0x0909, 2), (0x090A, 2), (0x090B, 2), (0x090C, 1), (0x090D, 2), (0x090E, 2),
  (0x090F, 0), (0x091F, 1), (0x0A01, 3), (0x0A02, 1), (0x0A03, 0), (0x0A04, 2), (0x0A05, 1), (0x0A06, 3)]

/-- (code, severity) from 0x0A07. -/
def evRows3 : List (Nat × Nat) := [
  (0x0A07, 4), (0x0A08, 4), (0x0A09, 3), (0x0A0A, 4), (0x0A0B, 1), (0x0A0C, 1), (0x0A0D, 1), (0x0A0E, 2),
  (0x0A0F, 1), (0x0A10, 1), (0x0A11, 3), (0x0A12, 2), (0x0A13, 2), (0x0A14, 4), (0x0A15, 1), (0x0A1F, 1),
  (0x0B01, 2), (0x0B02, 3), (0x0B03, 2), (0x0B04, 4), (0x0B06, 2), (0x0B1F, 1), (0x0C01, 0), (0x0C02, 2),
  (0x0C03, 2), (0x0C04, 2), (0x0C05, 0), (0x0C06, 0), (0x0C1F, 1), (0x0D01, 0), (0x0D02, 1), (0x0D03, 2),
  (0x0D04, 3), (0x0D05, 1), (0x0D06, 3), (0x0D07, 2), (0x0D08, 0), (0x0D09, 2), (0x0D0A, 2), (0x0D0C, 1)]

/-- (code, severity) from 0x0D1F. -/
def evRows4 : List (Nat × Nat) := [
  (0x0D1F, 1), (0x0E01, 3), (0x0E02, 1), (0x0E03, 3), (0x0E04, 1), (0x0E05, 4), (0x0E06, 1), (0x0E07, 2),
  (0x0E08, 1), (0x0E09, 4), (0x0F01, 1), (0x0F02, 2), (0x0F03, 4), (0x0F04, 3), (0x0F05, 1), (0x0F06, 2),
  (0x0F07, 3), (0x0F08, 2), (0x0F09, 4), (0x0F0B, 3), (0x0F0C, 2), (0x0F1F, 1), (0x1001, 1), (0x1002, 1),
  (0x1003, 3), (0x1004, 1), (0x1005, 3), (0x1006, 1), (0x1007, 3), (0x1008, 4), (0x1009, 1), (0x100A, 3),
  (0x100B, 1), (0x100C, 2), (0x100D, 2), (0x101F, 1)]

/-- The severity of every event code of the chapters' event tables (R85, R135, R172, R220, R257, R301, R355, R380, R423,
R455, R484, R514, R538, R550). -/
def evTable : List (Nat × Nat) := evRows0 ++ evRows1 ++ evRows2 ++ evRows3 ++ evRows4

/-- The severity of a code; none for a code no table lists, which is never recorded (R549). -/
def severity (code : Nat) : Option Nat := (evTable.find? (·.1 == code)).map (·.2)

end Sys2Proof.Machine
end

