-- ==== Sys2Proof/Machine/Flags.lean ====
section
/-! DEFINITION. Status codes of completions, the sticky status words, their summaries and the ALERT_N pin. -/

namespace Sys2Proof.Machine

open Sys2Proof

/-! ### Completion status (R92 STATUS, R128): SC in bits 7:0, SCT in 10:8, DNR in bit 14 -/

/-- The status field of a completion from SCT, SC and DNR. -/
def mkStatus (sct sc : Nat) (dnr : Bool := true) : Nat := sct * 0x100 + sc + (if dnr then 0x4000 else 0)

namespace St

def ok : Nat := 0
def invalidOpcode : Nat := mkStatus 0 0x01
def invalidField : Nat := mkStatus 0 0x02
def cidConflict : Nat := mkStatus 0 0x03
def dataTransferError : Nat := mkStatus 0 0x04 false
def abortRequested : Nat := mkStatus 0 0x07
def abortedSqDeletion : Nat := mkStatus 0 0x08 false
def invalidNamespace : Nat := mkStatus 0 0x0B
def sequenceError : Nat := mkStatus 0 0x0C
def sglLength : Nat := mkStatus 0 0x0F
def sglType : Nat := mkStatus 0 0x11
def abortedPreempt : Nat := mkStatus 0 0x1B false
def sanitizeInProgress : Nat := mkStatus 0 0x1D false
def transientTransport : Nat := mkStatus 0 0x22 false
def lbaOutOfRange : Nat := mkStatus 0 0x80
def reservationConflict : Nat := mkStatus 0 0x83
def formatInProgress : Nat := mkStatus 0 0x84 false
def abortLimit : Nat := mkStatus 1 0x03
def aerLimit : Nat := mkStatus 1 0x05
def invalidLogPage : Nat := mkStatus 1 0x09
def invalidFormat : Nat := mkStatus 1 0x0A
def notSaveable : Nat := mkStatus 1 0x0D
def nsInsufficient : Nat := mkStatus 1 0x15
def nsIdUnavailable : Nat := mkStatus 1 0x16
def nsAttached : Nat := mkStatus 1 0x18
def nsNotAttached : Nat := mkStatus 1 0x1A
def connectIncompatible : Nat := mkStatus 1 0x80
def connectBusy : Nat := mkStatus 1 0x81
def connectInvalidParams : Nat := mkStatus 1 0x82
def connectRestart : Nat := mkStatus 1 0x83
def connectInvalidHost : Nat := mkStatus 1 0x84
def invalidPi : Nat := mkStatus 1 0x81
def copySize : Nat := mkStatus 1 0x83
def sliceNotQuiesced : Nat := mkStatus 1 0xC0
def poolExhausted : Nat := mkStatus 1 0xC1
def carrierBusy : Nat := mkStatus 1 0xC2
def reshapeInProgress : Nat := mkStatus 1 0xC3
def imageInvalid : Nat := mkStatus 1 0xC4
def unrecoveredRead : Nat := mkStatus 2 0x81 false
def guardError : Nat := mkStatus 2 0x82
def appTagError : Nat := mkStatus 2 0x83
def refTagError : Nat := mkStatus 2 0x84
def compareFailure : Nat := mkStatus 2 0x85
def anaInaccessible : Nat := mkStatus 3 0x02 false
def anaTransition : Nat := mkStatus 3 0x03 false

end St

/-- Statuses that add no Error Information entry (R128). -/
def statusNoEntry (st : Nat) : Bool :=
  st == St.ok || st == St.abortRequested || st == St.abortedSqDeletion || st == St.abortedPreempt ||
  st == St.anaInaccessible || st == St.anaTransition

/-! ### Sticky status (R549, R556 to R558) -/

/-- STICKYg. -/
def State.sticky (s : State) (g : Nat) : Word := s.reg (Reg.STICKY + 4 * g)

/-- Sets bit `b` of STICKYg. -/
def State.setSticky (g b : Nat) (s : State) : State :=
  s.setReg (Reg.STICKY + 4 * g) (s.sticky g ||| BitVec.ofNat 32 (2 ^ b))

/-- A write of `v` to STICKYg while the sources in `raised` raise events in the same cycle (R12, R13): a bit that is
cleared and raised at once stays set. -/
def stickyAfter (old v raised : Word) : Word := (old &&& ~~~v) ||| raised

/-- STICKY_SUM0 and STICKY_SUM1: bit g set while STICKYg is non-zero (R557). -/
def State.stickySum (s : State) (from_ n : Nat) : Nat :=
  (List.range n).foldl (fun a g => a + (if s.sticky (from_ + g) = 0 then 0 else 2 ^ g)) 0

/-- ALERT_N is low (R563). -/
def State.alertLow (s : State) : Bool :=
  (List.range 36).any (fun g => s.sticky g &&& s.reg (Reg.ALERT_MASK + 4 * g) != 0) ||
  s.glb.hold.isSome || s.fld Reg.EVT_CFG 8 8 == 1

end Sys2Proof.Machine
end

