-- ==== Sys2Proof/Machine/Operands.lean ====
section
/-! DEFINITION. The fields of a submission queue entry: LBA ranges, lengths, command Dword fields, and the byte views of the
data a command carries. -/

namespace Sys2Proof.Machine

open Sys2Proof

/-- Bits `hi` to `lo` of a Dword. -/
def dwBits (w : Word) (hi lo : Nat) : Nat := (w.toNat / 2 ^ lo) % 2 ^ (hi + 1 - lo)

/-- A Dword's bits outside the mask are zero. -/
def onlyBits (w : Word) (mask : Nat) : Bool := w &&& ~~~(BitVec.ofNat 32 mask) == 0

/-- Little-endian number of a byte list (R10). -/
def leNat (l : List Byte) : Nat := l.foldr (fun b a => b.toNat + 256 * a) 0

/-- `n` bytes of the data from offset `o`, absent bytes zero. -/
def bytesAt (d : List Byte) (o n : Nat) : List Byte := ((d.drop o).take n) ++ List.replicate (n - ((d.drop o).take n).length) 0

/-- ASCII bytes of a name. -/
def nameBytes (s : String) : List Byte := s.toList.map (fun c => BitVec.ofNat 8 c.toNat)

/-- The bytes of a name without the NUL bytes that pad it. -/
def trimNul (l : List Byte) : List Byte := (l.reverse.dropWhile (· == 0)).reverse

/-- Little-endian field of the data. -/
def fieldAt (d : List Byte) (o n : Nat) : Nat := leNat (bytesAt d o n)

/-- `n` little-endian bytes of a number. -/
def natBytes (n v : Nat) : List Byte := (List.range n).map (fun i => BitVec.ofNat 8 (v / 256 ^ i % 256))

/-- A range of Dataset Management (16 bytes each): context, length, SLBA. -/
def dsmRange (d : List Byte) (i : Nat) : Nat × Nat := (fieldAt d (16 * i + 8) 8, fieldAt d (16 * i + 4) 4)

end Sys2Proof.Machine

namespace Sys2Proof

open Sys2Proof.Machine

/-- SLBA: Dwords 10 and 11 of Read, Write, Compare, Verify, Write Zeroes and Copy (SDLBA). -/
def Capsule.slba (c : Capsule) : Nat := c.dw10.toNat + c.dw11.toNat * 2 ^ 32

/-- NLB, zero-based in Dword 12 [15:0], as a count. -/
def Capsule.nlb (c : Capsule) : Nat := dwBits c.dw12 15 0 + 1

/-- The ranges of a Dataset Management: NR in Dword 10 [7:0], zero-based. -/
def Capsule.dsmRanges (c : Capsule) : List (Nat × Nat) :=
  (List.range (dwBits c.dw10 7 0 + 1)).map (dsmRange c.data)

/-- Source range of a Copy, Format 0: SLBA at bytes 8 to 15 of its 32-byte entry, NLB zero-based at bytes 16 to 17. -/
def Capsule.copySrc (c : Capsule) : Nat × Nat := (fieldAt c.data 8 8, fieldAt c.data 16 2 + 1)

end Sys2Proof

namespace Sys2Proof.Machine

/-- Opcode kinds of the NVM command set (R118). -/
def isWriteOp (opc : Nat) : Bool := opc == 0x01
def isReadLike (opc : Nat) : Bool := opc == 0x02 || opc == 0x05 || opc == 0x0C
def isReservationOp (opc : Nat) : Bool := opc == 0x0D || opc == 0x0E || opc == 0x11 || opc == 0x15

end Sys2Proof.Machine
end

