-- ==== Sys2Proof/Machine/Deflate.lean ====
section
/-! DEFINITION. DEFLATE as RFC 1951 defines it: the decoder of the lanes, with its window, its output limit and the ways it fails (R356,
R357, R361, R368). The stream's bits are taken from each byte least significant first. -/

namespace Sys2Proof.Machine

open Sys2Proof

/-- How a decompression fails (R362, R368). -/
inductive DecErr where
  | crc | overrun | short | invalid | header
  deriving DecidableEq, Repr

/-- Its number in events 0x03, 0x04 and 0x06 (R380). -/
def DecErr.code : DecErr → Nat
  | .crc => 1 | .overrun => 2 | .short => 3 | .invalid => 4 | .header => 5

/-! ### Bits -/

/-- The bits of a stream in the order in which they are taken. -/
def bitStream (l : List Byte) : List Bool := l.flatMap (fun b => (List.range 8).map b.getLsbD)

/-- The next `n` bits as a number, the first the least significant, and the rest. -/
def takeBits : Nat → List Bool → Option (Nat × List Bool)
  | 0, l => some (0, l)
  | _ + 1, [] => none
  | n + 1, b :: t => (takeBits n t).map (fun r => (b2n b + 2 * r.1, r.2))

/-! ### Huffman codes -/

/-- A canonical code: how many symbols have each length from 1 to 15, and the symbols by length and number. -/
structure Huff where
  counts : List Nat
  syms : List Nat

/-- The code in which symbol `i` has `lens[i]` bits, 0 for a symbol without a code. -/
def huffOf (lens : List Nat) : Huff :=
  let ofLen (n : Nat) : List Nat := ((lens.zip (List.range lens.length)).filter (·.1 == n)).map (·.2)
  { counts := (List.range 15).map (fun i => lens.count (i + 1)), syms := (List.range 15).flatMap (fun i => ofLen (i + 1)) }

/-- No two codes collide: there are never more codes of a length than the shorter ones leave room for. -/
def Huff.sound (h : Huff) : Bool :=
  (h.counts.foldl (fun (r : Option Nat) c => r.bind (fun n => if 2 * n < c then none else some (2 * n - c))) (some 1)).isSome

/-- The next symbol: one bit after the other joins the code, the first the most significant, until it lies among the codes of its
length; a code that no symbol has ends the stream. -/
def nextSym (syms : List Nat) : List Nat → Nat → Nat → Nat → List Bool → Option (Nat × List Bool)
  | [], _, _, _, _ => none
  | _ :: _, _, _, _, [] => none
  | c :: cs, code, first, index, b :: t =>
    let v := 2 * code + b2n b
    if v < first + c then some (syms.getD (index + (v - first)) 0, t) else nextSym syms cs v (2 * (first + c)) (index + c) t

def Huff.next (h : Huff) (l : List Bool) : Option (Nat × List Bool) := nextSym h.syms h.counts 0 0 0 l

/-- Length codes 257 to 285 and distance codes 0 to 29: least value and extra bits. -/
def lenCodes : List (Nat × Nat) :=
  [(3, 0), (4, 0), (5, 0), (6, 0), (7, 0), (8, 0), (9, 0), (10, 0), (11, 1), (13, 1), (15, 1), (17, 1), (19, 2), (23, 2), (27, 2), (31, 2),
   (35, 3), (43, 3), (51, 3), (59, 3), (67, 4), (83, 4), (99, 4), (115, 4), (131, 5), (163, 5), (195, 5), (227, 5), (258, 0)]
def distCodes : List (Nat × Nat) :=
  [(1, 0), (2, 0), (3, 0), (4, 0), (5, 1), (7, 1), (9, 2), (13, 2), (17, 3), (25, 3), (33, 4), (49, 4), (65, 5), (97, 5), (129, 6), (193, 6),
   (257, 7), (385, 7), (513, 8), (769, 8), (1025, 9), (1537, 9), (2049, 10), (3073, 10), (4097, 11), (6145, 11), (8193, 12),
   (12289, 12), (16385, 13), (24577, 13)]

/-- A length or distance by its code and its extra bits. -/
def coded (table : List (Nat × Nat)) (sym : Nat) (l : List Bool) : Option (Nat × List Bool) :=
  match table[sym]? with
  | none => none
  | some (v, n) => (takeBits n l).map (fun r => (v + r.1, r.2))

/-- The match that a length symbol begins: its length, its distance and the rest of the stream. -/
def matchAt (dist : Huff) (sym : Nat) (l : List Bool) : Option (Nat × Nat × List Bool) :=
  match coded lenCodes (sym - 257) l with
  | none => none
  | some (len, t) =>
    match dist.next t with
    | none => none
    | some (ds, t) => (coded distCodes ds t).map (fun d => (len, d.1, d.2))

/-! ### Blocks -/

/-- A decompression under way: bits left, the output after the window it began with, latest byte first, how many bytes the limit leaves,
and the types of the blocks so far. -/
structure Infl where
  bits : List Bool
  out : List Byte
  room : Nat
  types : List Nat := []

/-- One byte more. -/
def Infl.put (s : Infl) (b : Byte) : Except DecErr Infl :=
  if s.room = 0 then .error .overrun else .ok { s with out := b :: s.out, room := s.room - 1 }

/-- The bytes `d` back, one by one, `n` of them: a distance before the start of the window is invalid (R368). -/
def Infl.copyBack (d : Nat) : Nat → Infl → Except DecErr Infl
  | 0, s => .ok s
  | n + 1, s =>
    match s.out[d - 1]? with
    | none => .error .invalid
    | some b =>
      match s.put b with
      | .error e => .error e
      | .ok s => Infl.copyBack d n s

/-- The symbols of a block up to its end; each takes at least one of the bits `fuel`. -/
def symbols (lit dist : Huff) : List Bool → Infl → Except DecErr Infl
  | [], _ => .error .invalid
  | _ :: fuel, s =>
    match lit.next s.bits with
    | none => .error .invalid
    | some (sym, t) =>
      if sym = 256 then .ok { s with bits := t }
      else if sym < 256 then
        match ({ s with bits := t }).put (BitVec.ofNat 8 sym) with
        | .error e => .error e
        | .ok s => symbols lit dist fuel s
      else
        match matchAt dist sym t with
        | none => .error .invalid
        | some (len, d, t) =>
          match ({ s with bits := t }).copyBack d len with
          | .error e => .error e
          | .ok s => symbols lit dist fuel s

/-- The stream at its next whole byte. -/
def alignBits (l : List Bool) : List Bool := l.drop (l.length % 8)

/-- `n` stored bytes. -/
def rawBytes : Nat → Infl → Except DecErr Infl
  | 0, s => .ok s
  | n + 1, s =>
    match takeBits 8 s.bits with
    | none => .error .invalid
    | some (v, t) =>
      match ({ s with bits := t }).put (BitVec.ofNat 8 v) with
      | .error e => .error e
      | .ok s => rawBytes n s

/-- A stored block: LEN, its complement, and as many bytes. -/
def storedBlock (s : Infl) : Except DecErr Infl :=
  match takeBits 16 (alignBits s.bits) with
  | none => .error .invalid
  | some (n, t) =>
    match takeBits 16 t with
    | none => .error .invalid
    | some (c, t) => if n + c = 65535 then rawBytes n { s with bits := t } else .error .invalid

/-- The fixed codes. -/
def fixedLit : Huff := huffOf (List.replicate 144 8 ++ List.replicate 112 9 ++ List.replicate 24 7 ++ List.replicate 8 8)
def fixedDist : Huff := huffOf (List.replicate 30 5)

/-- The order in which a dynamic block gives the lengths of its code length code. -/
def clOrder : List Nat := [16, 17, 18, 0, 8, 7, 9, 6, 10, 5, 11, 4, 12, 3, 13, 2, 14, 1, 15]

/-- `n` numbers of 3 bits. -/
def threes : Nat → List Bool → Option (List Nat × List Bool)
  | 0, l => some ([], l)
  | n + 1, l => (takeBits 3 l).bind (fun r => (threes n r.2).map (fun x => (r.1 :: x.1, x.2)))

/-- The lengths of a dynamic block's codes, `need` of them, latest first: 16 repeats the last one, 17 and 18 repeat zero. -/
def codeLens (h : Huff) (need : Nat) : List Bool → List Nat → List Bool → Option (List Nat × List Bool)
  | [], _, _ => none
  | _ :: fuel, acc, l =>
    if need ≤ acc.length then (if need = acc.length then some (acc.reverse, l) else none)
    else
      match h.next l with
      | none => none
      | some (sym, t) =>
        if sym < 16 then codeLens h need fuel (sym :: acc) t
        else
          match sym, acc with
          | 16, [] => none
          | 16, p :: _ => (takeBits 2 t).bind (fun r => codeLens h need fuel (List.replicate (3 + r.1) p ++ acc) r.2)
          | 17, _ => (takeBits 3 t).bind (fun r => codeLens h need fuel (List.replicate (3 + r.1) 0 ++ acc) r.2)
          | _, _ => (takeBits 7 t).bind (fun r => codeLens h need fuel (List.replicate (11 + r.1) 0 ++ acc) r.2)

/-- The two codes a dynamic block gives: at most 286 literal and length codes and 30 distance codes. -/
def dynCodes (l : List Bool) : Option (Huff × Huff × List Bool) :=
  match takeBits 14 l with
  | none => none
  | some (v, t) =>
    let nl := v % 32 + 257
    let nd := v / 32 % 32 + 1
    match threes (v / 1024 + 4) t with
    | none => none
    | some (c, t) =>
      let h := huffOf ((List.range 19).map (fun i => c.getD (clOrder.idxOf i) 0))
      if 286 < nl || 30 < nd || !h.sound then none
      else
        match codeLens h (nl + nd) (false :: t) [] t with
        | none => none
        | some (lens, t) =>
          let a := huffOf (lens.take nl)
          let b := huffOf (lens.drop nl)
          if a.sound && b.sound then some (a, b, t) else none

/-- Block after block up to the final one; a chunk of a stream job may end after any block (R373). -/
def inflBlocks (chunk : Bool) : List Bool → Infl → Except DecErr Infl
  | [], _ => .error .invalid
  | _ :: fuel, s =>
    match takeBits 3 s.bits with
    | none => .error .invalid
    | some (v, t) =>
      let s := { s with bits := t, types := v / 2 :: s.types }
      let r : Except DecErr Infl :=
        match v / 2 with
        | 0 => storedBlock s
        | 1 => symbols fixedLit fixedDist t s
        | 2 => match dynCodes t with
          | none => .error .invalid
          | some (a, b, t) => symbols a b t { s with bits := t }
        | _ => .error .invalid
      match r with
      | .error e => .error e
      | .ok s => if v % 2 = 1 || (chunk && s.bits.isEmpty) then .ok s else inflBlocks chunk fuel s

/-- Decompresses a payload after `window`, within a limit: the output and the types of its blocks, latest first; or the first of the
failures of R368 that it meets. Bytes after the final block are zero (R361). -/
def inflate (chunk : Bool) (window : List Byte) (limit : Nat) (payload : List Byte) : Except DecErr (List Byte × List Nat) :=
  let l := bitStream payload
  match inflBlocks chunk l { bits := l, out := window.reverse, room := limit } with
  | .error e => .error e
  | .ok s =>
    if s.room != 0 then .error .short
    else if (alignBits s.bits).any id then .error .invalid
    else .ok ((s.out.take limit).reverse, s.types)

/-- The window that some output leaves to what follows it: its last 32 KiB (R356, R357). -/
def windowOf (window out : List Byte) : List Byte := let l := window ++ out; l.drop (l.length - 32768)

end Sys2Proof.Machine
end

