-- ==== Sys2Proof/Config.lean ====
section
/-! DEFINITION. What the spec leaves open: opaque constants, applied to the operands they depend on or to the counter
`State.free`. Nothing constrains them, so a statement holds for every value of them. -/

namespace Sys2Proof.Config

open Sys2Proof

/-- A value the spec does not state; applied to the counter `State.free`, which the step advances. -/
opaque freeWord : Nat → Word

/-- AF(T) of R247, kept in millionths, is rounded up, for T in whole °C: the rule gives a real number and leaves its rounding
open. -/
opaque afUp : Int → Bool

/-- ROOT_KEY, the fuse no command reads (R151, R488). -/
opaque rootKey : BitVec 256

/-- The 512 bits that draw `n` of the CTR_DRBG gives (R151): its seed is the entropy source's. -/
opaque drbg : Nat → BitVec 512

/-- Bits of the LDPC parity of a payload by its code (R270, R271), and of the scrambler by die index, device block, page slot, plane
and codeword (R273): the spec gives neither the code's matrix nor the sequence. -/
opaque ldpcParity : Nat → List Byte → Nat
opaque scrambler : Nat → Nat → Nat → Nat → Nat → Nat

/-- What encryption makes of a pad granule, by band, stripe and granule: R190 names no key and no tweak for it. -/
opaque padGranule : Nat → Nat → Nat → Nat

/-- Tweak of a page of the map stream under key slot 0, by its identity (R137, R211), and the bytes of a directory page or of band
metadata, by identity and content: the rules give neither the tweak nor these layouts. -/
opaque pageTweak : Nat → Nat → Nat → Nat
opaque pageBytes : Nat → Nat → Nat → List Nat → List Byte

/-- Temperature in °C that the bank thermistor's conversion gives, from the conversion, the nominal resistance and the B
value (R466): the rule names the inputs and gives no formula. -/
opaque thermistor : Int → Nat → Nat → Int

/-- OUT_MAX of slot 16 with a bank at 0 V, from the charging budget left in mW: R467 divides by the bank voltage and states no
result there. -/
opaque chargeAtZero : Nat → Int

/-- CAP.TO and VS of a controller (R123): the spec lists the properties and states neither value. -/
opaque capTo : Nat
opaque nvmeVs : Word

/-- So many µs after a migration began the spare has been filled and step 5 of R408 runs: the rule bounds the fill by 3.6 s and
states no pace. -/
opaque migCopies : Nat → Bool

/-- DRAM_RANKc.MIG_PROGRESS of a migration so many µs after it began, in hundredths of a percent (R408, R418): the rule bounds
the time and states no pace. -/
opaque migProgress : Nat → Nat

end Sys2Proof.Config
end

