-- ==== Sys2Proof/Machine/Cipher.lean ====
section
/-! DEFINITION. The crypto block: AES-256 by FIPS 197, key wrapping by RFC 3394, and XTS with ciphertext stealing over extents and
metadata (R137, R151, R152, R162, R367). The rules name the algorithms; their steps are the standards' (assumption 89). -/

namespace Sys2Proof.Machine

open Sys2Proof

/-! ### GF(2^8) -/

/-- Multiplication by x modulo x^8 + `poly`. -/
def gfDouble (poly b : Byte) : Byte := if b.msb then (b <<< (1 : Nat)) ^^^ poly else b <<< (1 : Nat)

/-- The product of two field elements modulo x^8 + `poly`. -/
def gfMul (poly a b : Byte) : Byte :=
  ((List.range 8).foldl (fun (x : Byte × Byte) i =>
    (if b.getLsbD i then x.1 ^^^ x.2 else x.1, gfDouble poly x.2)) (0, a)).1

/-- The `n`-th power. -/
def gfPow (poly a : Byte) : Nat → Byte
  | 0 => 1
  | n + 1 => gfMul poly a (gfPow poly a n)

/-- Two byte lists XORed, as long as the shorter. -/
def xorBytes (a b : List Byte) : List Byte := List.zipWith (· ^^^ ·) a b

/-! ### AES-256 (FIPS 197) -/

def rotlB (b : Byte) (n : Nat) : Byte := (b <<< n) ||| (b >>> (8 - n))

/-- The multiplicative inverse, b^254: zero for zero. -/
def aesInv (b : Byte) : Byte := gfPow 0x1B b 254

def aesSub (b : Byte) : Byte :=
  let x := aesInv b
  x ^^^ rotlB x 1 ^^^ rotlB x 2 ^^^ rotlB x 3 ^^^ rotlB x 4 ^^^ 0x63

def aesUnsub (b : Byte) : Byte := aesInv (rotlB b 1 ^^^ rotlB b 3 ^^^ rotlB b 6 ^^^ 0x05)

/-- Four bytes of a list from offset `o`. -/
def word4 (l : List Byte) (o : Nat) : List Byte := (l.drop o).take 4

/-- Key expansion: the 240 bytes of the 15 round keys of a 32-byte key. -/
def aesKeys (key : List Byte) : List Byte :=
  (List.range 52).foldl (fun w j =>
    let i := j + 8
    let t := word4 w (4 * i - 4)
    let t := if i % 8 = 0 then
        xorBytes ((t.drop 1 ++ t.take 1).map aesSub) [gfPow 0x1B 2 (i / 8 - 1), 0, 0, 0]
      else if i % 8 = 4 then t.map aesSub else t
    w ++ xorBytes (word4 w (4 * i - 32)) t) key

def aesRoundKey (w : List Byte) (r : Nat) : List Byte := (w.drop (16 * r)).take 16

/-- Row r of the state, kept column by column, moves r places left (`n = 1`) or right (`n = 3`). -/
def aesShift (n : Nat) (s : List Byte) : List Byte :=
  (List.range 16).map (fun i => s.getD (4 * ((i / 4 + n * (i % 4)) % 4) + i % 4) 0)

/-- Each column times a circulant matrix, given by its first row. -/
def aesMix (m : List Byte) (s : List Byte) : List Byte :=
  (List.range 16).map (fun i =>
    (List.range 4).foldl (fun a k => a ^^^ gfMul 0x1B (m.getD ((k + 4 - i % 4) % 4) 0) (s.getD (4 * (i / 4) + k) 0)) 0)

/-- One block enciphered under expanded keys. -/
def aesEncBlock (w : List Byte) (p : List Byte) : List Byte :=
  let s := (List.range 13).foldl (fun s r =>
    xorBytes (aesMix [2, 3, 1, 1] (aesShift 1 (s.map aesSub))) (aesRoundKey w (r + 1))) (xorBytes p (aesRoundKey w 0))
  xorBytes (aesShift 1 (s.map aesSub)) (aesRoundKey w 14)

/-- One block deciphered. -/
def aesDecBlock (w : List Byte) (c : List Byte) : List Byte :=
  let s := (List.range 13).foldl (fun s r =>
    aesMix [14, 11, 13, 9] (xorBytes ((aesShift 3 s).map aesUnsub) (aesRoundKey w (13 - r)))) (xorBytes c (aesRoundKey w 14))
  xorBytes ((aesShift 3 s).map aesUnsub) (aesRoundKey w 0)

/-! ### Key wrapping (RFC 3394) -/

/-- `n` as eight bytes, most significant first. -/
def be8 (n : Nat) : List Byte := (natBytes 8 n).reverse

/-- The bytes in blocks of `n`. -/
def blocksOf (n : Nat) (l : List Byte) : List (List Byte) := (List.range (l.length / n)).map (fun i => (l.drop (n * i)).take n)

/-- Wraps a key of whole 8-byte blocks: 8 bytes more than the key. -/
def keyWrap (kek key : List Byte) : List Byte :=
  let w := aesKeys kek
  let n := key.length / 8
  let r := (List.range (6 * n)).foldl (fun (x : List Byte × List (List Byte)) t =>
    let i := t % n
    let b := aesEncBlock w (x.1 ++ x.2.getD i [])
    (xorBytes (b.take 8) (be8 (t + 1)), x.2.set i (b.drop 8))) (List.replicate 8 0xA6, blocksOf 8 key)
  r.1 ++ r.2.flatten

/-- The key a wrapped form holds; none where its integrity value is wrong. -/
def keyUnwrap (kek c : List Byte) : Option (List Byte) :=
  let w := aesKeys kek
  let n := c.length / 8 - 1
  let r := (List.range (6 * n)).foldl (fun (x : List Byte × List (List Byte)) j =>
    let t := 6 * n - j
    let i := (t - 1) % n
    let b := aesDecBlock w (xorBytes x.1 (be8 t) ++ x.2.getD i [])
    (b.take 8, x.2.set i (b.drop 8))) (c.take 8, blocksOf 8 (c.drop 8))
  if r.1 = List.replicate 8 0xA6 then some r.2.flatten else none

/-- A key or secret under the device root key (R151). -/
def wrapRoot (x : List Byte) : List Byte := keyWrap (natBytes 32 Config.rootKey.toNat) x
def unwrapRoot (x : List Byte) : List Byte := (keyUnwrap (natBytes 32 Config.rootKey.toNat) x).getD []

/-! ### XTS (R152, R367) -/

/-- The tweak of a unit: its number, the NSID and zeroes, little-endian (R152). -/
def tweakOf (nsid mu : Nat) : List Byte := natBytes 8 mu ++ natBytes 4 nsid ++ [0, 0, 0, 0]

/-- The enciphered tweak of the next block. -/
def nextTweak (t : List Byte) : List Byte :=
  let n := leNat t
  natBytes 16 (if 2 ^ 127 ≤ n then (2 * n) % 2 ^ 128 ^^^ 0x87 else 2 * n)

/-- The enciphered tweaks of blocks 0 to `n` − 1. -/
def tweaksFrom (t : List Byte) : Nat → List (List Byte)
  | 0 => []
  | n + 1 => t :: tweaksFrom (nextTweak t) n

/-- The two halves of a 512-bit key: the first enciphers data, the second the tweak. -/
def xtsKey1 (key : Nat) : List Byte := (natBytes 64 key).take 32
def xtsKey2 (key : Nat) : List Byte := (natBytes 64 key).drop 32

/-- One block under its tweak, by the block function `f`. -/
def xex (f : List Byte → List Byte) (t p : List Byte) : List Byte := xorBytes (f (xorBytes p t)) t

/-- A data unit of at least 16 bytes through XTS: whole blocks in order, and the last two with ciphertext stealing where the length
is no multiple of 16; `swap` deciphers, when the stolen block takes the later tweak first. -/
def xtsUnit (f : List Byte → List Byte) (t : List Byte) (swap : Bool) (d : List Byte) : List Byte :=
  let m := d.length / 16
  let b := d.length % 16
  let ts := tweaksFrom t (m + 1)
  let whole := (blocksOf 16 d).zipWith (fun p x => xex f x p) ts
  if b = 0 then whole.flatten
  else
    let ta := ts.getD (if swap then m else m - 1) []
    let tb := ts.getD (if swap then m - 1 else m) []
    let cc := xex f ta ((d.drop (16 * (m - 1))).take 16)
    (whole.take (m - 1)).flatten ++ xex f tb (d.drop (16 * m) ++ cc.drop b) ++ cc.take b

/-- A data unit enciphered and deciphered under a key and a tweak. -/
def xtsEnc (key : Nat) (tweak d : List Byte) : List Byte :=
  xtsUnit (aesEncBlock (aesKeys (xtsKey1 key))) (aesEncBlock (aesKeys (xtsKey2 key)) tweak) false d

def xtsDec (key : Nat) (tweak c : List Byte) : List Byte :=
  xtsUnit (aesDecBlock (aesKeys (xtsKey1 key))) (aesEncBlock (aesKeys (xtsKey2 key)) tweak) true c

end Sys2Proof.Machine
end

