-- ==== Sys2Proof/Machine/Ops.lean ====
section
/-! DEFINITION. The named operations every family shares: time, event capture, counters, free values, the journal and the
settings store, command context entries, completions and notices. -/

namespace Sys2Proof.Machine

open Sys2Proof

/-! ### Lists -/

/-- The list with element `i` changed. -/
def modNth {α : Type} (l : List α) (i : Nat) (f : α → α) : List α :=
  match l, i with
  | [], _ => []
  | a :: t, 0 => f a :: t
  | a :: t, i + 1 => a :: modNth t i f

/-- The first element that satisfies `p` changed. -/
def modFirst {α : Type} (l : List α) (p : α → Bool) (f : α → α) : List α :=
  match l with
  | [] => []
  | a :: t => if p a then f a :: t else a :: modFirst t p f

/-- Every element that satisfies `p` changed. -/
def modAll {α : Type} (l : List α) (p : α → Bool) (f : α → α) : List α := l.map (fun a => if p a then f a else a)

/-- The sum of a measure over a list. -/
def sumBy {α : Type} (l : List α) (f : α → Nat) : Nat := l.foldl (fun a x => a + f x) 0

/-- Rounded up quotient. -/
def ceilDiv (a b : Nat) : Nat := (a + b - 1) / b

/-- A value brought into a range. -/
def clampNat (lo hi v : Nat) : Nat := max lo (min hi v)

/-- Two's complement reading of an `n`-bit field. -/
def signed (n v : Nat) : Int := if v < 2 ^ (n - 1) then (v : Int) else (v : Int) - (2 ^ n : Nat)

/-- `n`-bit two's complement field of a value. -/
def unsigned (n : Nat) (v : Int) : Nat := (v % (2 ^ n : Nat)).toNat

/-! ### Time (R442, R545): SEED_HOURS, SEED_MS, operating time, and the clock durations are measured on -/

/-- SEED_MS as it counts. -/
def State.ms (s : State) : Nat := s.seed.us / 1000

/-- Operating time in milliseconds. -/
def State.opMs (s : State) : Nat := s.seed.hours * 3600000 + s.ms

/-- Operating minutes. -/
def State.opMin (s : State) : Nat := s.opMs / 60000

/-- Microseconds elapsed since a time. -/
def State.since (s : State) (t : Nat) : Nat := s.seed.now - t

/-! ### Free values -/

/-- Draws a value the spec does not state. -/
def State.drawFree (s : State) : Word × State := (Config.freeWord s.free, { s with free := s.free + 1 })

/-! ### Command context entries (R92) -/

def State.entry (s : State) (e : Nat) : Option Cct := s.eng.cct.find? (·.idx == e)

def State.modEntry (e : Nat) (f : Cct → Cct) (s : State) : State :=
  { s with eng := { s.eng with cct := modFirst s.eng.cct (·.idx == e) f } }

def State.ctrl (s : State) (c : Nat) : Option Ctrl := s.eng.ctrls.find? (·.id == c)

def State.modCtrl (c : Nat) (f : Ctrl → Ctrl) (s : State) : State :=
  { s with eng := { s.eng with ctrls := modFirst s.eng.ctrls (·.id == c) f } }

def State.queue (s : State) (q : Nat) : Option Queue := s.eng.queues.find? (·.idx == q)

def State.modQueue (q : Nat) (f : Queue → Queue) (s : State) : State :=
  { s with eng := { s.eng with queues := modFirst s.eng.queues (·.idx == q) f } }

def State.slice (s : State) (n : Nat) : Option SliceS := s.slices.list.find? (·.num == n)

def State.modSlice (n : Nat) (f : SliceS → SliceS) (s : State) : State :=
  { s with slices := { s.slices with list := modFirst s.slices.list (·.num == n) f } }

/-- Adds to counter `i` of a slice's meters: the contribution falls into the bank in use (R167, R168). -/
def State.meterAdd (n i v : Nat) (s : State) : State :=
  s.modSlice n (fun x =>
    { x with meter :=
      if x.meter.sel then { x.meter with bank1 := modNth x.meter.bank1 i (· + v) }
      else { x.meter with bank0 := modNth x.meter.bank0 i (· + v) } })

/-! ### Completions (R104, R106, R128) -/

/-- SQHD a completion on a queue carries (R88). -/
def Queue.head (q : Queue) : Nat := if q.flowOff then 0xFFFF else q.sqhd

/-- Counters a command contributes when its gate closes (R167): index of its command count. -/
def cmdCounter (opc : Nat) : Nat :=
  if opc == 0x02 || opc == 0x05 || opc == 0x0C then 0 else if opc == 0x01 || opc == 0x08 || opc == 0x19 then 1 else 2

/-- Entries that wait on `e` have one conflict less; the last makes them held for QoS (R94). -/
def releaseWaiters (cct : List Cct) (ws : List Nat) (now : Nat) : List Cct :=
  cct.map (fun x =>
    if ws.contains x.idx && x.st == .heldOverlap then
      if x.waits ≤ 1 then { x with waits := 0, st := .heldQos, heldAt := now, warned := false }
      else { x with waits := x.waits - 1 }
    else x)

/-- Extents the map no longer names and no read pins become FREE (R185). -/
def sweepBuf (l : List BufExt) : List BufExt := l.filter (fun b => !(b.superseded && b.pins.isEmpty && b.st == .staged))

/-- Takes entry `e` out of the table: pins, jobs and punnet requests it holds end, an extent still FILLING becomes FREE, entries that wait on
it go on (R94, R98, R185). -/
def State.freeEntry (e : Cct) (s : State) : State :=
  let cct := (s.eng.cct.filter (·.idx != e.idx))
  let cct := if e.orderDone then cct else releaseWaiters cct e.waiters s.seed.now
  let offs := (s.store.jobs.filter (fun j => j.entry == some e.idx && j.stage == 2)).map (·.buf)
  { s with
    eng := { s.eng with
      cct := cct
      ctrls := modFirst s.eng.ctrls (·.id == e.cntl) (fun c => { c with aers := c.aers.filter (· != e.idx) })
      queues := s.eng.queues.filter (fun q => !(q.dead && q.idx == e.queue && !cct.any (·.queue == q.idx))) }
    store := { s.store with
      buf := sweepBuf ((s.store.buf.filter (fun b => !(b.st == .filling && offs.contains b.off))).map
        (fun b => { b with pins := b.pins.filter (· != e.idx) }))
      jobs := s.store.jobs.filter (·.entry != some e.idx) }
    mem := { s.mem with reqs := s.mem.reqs.filter (fun r => r.entry != some e.idx) }
    upkeep := { s.upkeep with bands := s.upkeep.bands.map (fun b => { b with pins := b.pins.filter (· != e.idx) }) } }

/-- A peer's change is done: its entry is free (R90). -/
def State.peerFree (e : Nat) (s : State) : State := match s.entry e with | none => s | some c => s.freeEntry c

/-- Peers' changes of a slice still under way end with it. -/
def State.endPeer (sl : Nat) (s : State) : State :=
  (s.eng.cct.filter (fun c => c.slice == sl && c.origin == 1)).foldl (fun s c => s.peerFree c.idx) s

/-- A sign of a neighbour on the association the device initiates, or on the one the neighbour initiates (R76). -/
def State.heardOn (nb : Nat) (initiator : Bool) (s : State) : State :=
  let fb := s.fabric
  let f (n : Neighbour) : Neighbour := if initiator then { n with heardI := s.seed.now } else { n with heardT := s.seed.now }
  { s with fabric := { fb with nbs := modNth fb.nbs nb f } }

/-- Error Information entries kept per controller: 64, newest first (R122, R128). -/
def Ctrl.addErr (c : Ctrl) (x : ErrEntry) : Ctrl := { c with errs := (x :: c.errs).take 64 }

/-- What a closed I/O command contributes to its slice's meters (R167). -/
def State.meterClosed (e : Cct) (status : Nat) (s : State) : State :=
  let us := s.seed.now - e.arrival
  let sent := if status = St.ok then e.rd else 0
  let rd := sent + (if sent = 0 then 0 else e.pib)
  let wr := e.wr + (if e.wr = 0 then 0 else e.pib)
  let s := s.meterAdd e.slice (cmdCounter e.cap.opc) 1
  let s := if cmdCounter e.cap.opc == 0 then s.meterAdd e.slice 9 us
    else if cmdCounter e.cap.opc == 1 then s.meterAdd e.slice 10 us else s
  let s := ((((s.meterAdd e.slice 11 e.qosUs).meterAdd e.slice 3 rd).meterAdd e.slice 4 wr).meterAdd e.slice 5
    e.zr).meterAdd e.slice 6 e.stored
  let s := s.meterAdd e.slice 13 e.fwd
  let s := s.modSlice e.slice (fun x => { x with readBytes := x.readBytes + sent, writeBytes := x.writeBytes + e.wr })
  if status != St.ok then s.meterAdd e.slice 12 1 else s

/-- One error more in the slice of a command, or in the management slice (R252). -/
def State.countErr (sl : Nat) (s : State) : State :=
  if sl = 0 then { s with slices := { s.slices with mgErrCount := s.slices.mgErrCount + 1 } }
  else s.modSlice sl (fun x => { x with errCount := x.errCount + 1 })

/-- The Error Information entry of a command that failed (R128). -/
def State.recordErr (e : Cct) (status : Nat) (s : State) : State :=
  let s := s.countErr e.slice
  s.modCtrl e.cntl (fun c => c.addErr
    { count := if e.slice = 0 then s.slices.mgErrCount else (s.slice e.slice).elim 0 (·.errCount), sqid := (s.queue e.queue).elim 0 (·.qid),
      cid := e.cap.cid, status := status, lba := e.slba, nsid := e.cap.nsid })

/-- The completion of a command (R88, R104). -/
def State.postCqe (e : Cct) (status : Nat) (result : Word) (s : State) : State :=
  { s with eng := { s.eng with posted := s.eng.posted ++
      [{ queue := e.queue, cid := e.cap.cid, status := status, result := result,
         sqhd := (s.queue e.queue).elim 0xFFFF (·.head), data := if status == St.ok then e.out else .none }] } }

/-- Port of a logical MAC: MAC0 to MAC3 lie on P0 (R48). -/
def macPort (m : Nat) : Nat := m / 4

/-- An interface lies in the management VLAN (R53). -/
def State.mgmtIface (s : State) (i : Nat) : Bool :=
  (s.fabric.ifaces.find? (·.num == i)).elim false (fun x => x.vlan == some s.fabric.mgmtVlan)

/-- Priority of a connection's traffic: the default uses of R56. -/
def State.connPrio (s : State) (y : Conn) : Nat :=
  if y.ring.isSome then 5 else if s.mgmtIface y.iface then 6 else if y.tcp then 0 else 3

/-- The link partner has paused the priority of a connection (R57, R58). -/
def State.connPaused (s : State) (y : Conn) : Bool :=
  ((s.fabric.macs[y.mac]?).bind (fun m => (m.paused[s.connPrio y]?).bind id)).isSome

/-- An entry is held for a resource under R33: held as STATE says, or a replicated write that waits for its peer. -/
def Cct.heldR33 (c : Cct) : Bool := (c.st == .heldResource && !c.waitsOwn) || c.peerWait

/-- An entry held under R33 after its no-return point (R113, R115). -/
def Cct.heldLate (c : Cct) : Bool := c.gate != .open && c.heldR33

/-- The connection an entry came on. -/
def State.connOf (s : State) (c : Cct) : Option Conn := (s.queue c.queue).bind (fun q => s.fabric.conns.find? (·.id == q.conn))

/-- The priority of an entry's connection is paused by the link partner: the command is held and does not fail (R57, R58). -/
def State.sendPaused (s : State) (c : Cct) : Bool := (s.connOf c).elim false s.connPaused

/-- The command of a job waits for a resource (R33). -/
def State.holdRes (e : Option Nat) (s : State) : State :=
  match e with
  | none => s
  | some i => s.modEntry i (fun c =>
      if c.st == .dispatched then { c with st := .heldResource, heldAt := s.seed.now, warned := false } else c)

/-- Its wait is over. -/
def State.unholdRes (e : Option Nat) (s : State) : State :=
  match e with
  | none => s
  | some i => s.modEntry i (fun c => if c.st == .heldResource && !c.parked then { c with st := .dispatched } else c)

/-- Commands that were held before they began, other than for punnets, may be taken up again (R33). -/
def State.wakeHeld (s : State) : State :=
  let f (c : Cct) : Cct :=
    if c.st == .heldResource && !c.parked && c.step == 0 && !s.mem.reqs.any (·.entry == some c.idx) then { c with st := .dispatched } else c
  { s with eng := { s.eng with cct := s.eng.cct.map f } }

/-- Keeps a closed entry whose completion a paused priority holds: what it came to waits in it (R33, R58). -/
def State.park (e : Cct) (status : Nat) (result : Word) (s : State) : State :=
  let x : Cct := { e with st := .heldResource,
                          gate := if [St.abortRequested, St.abortedSqDeletion, St.abortedPreempt].contains status then .closedAborted else .closedNormally,
                          parked := true, status := status, result := result, heldAt := s.seed.now, warned := false, waiters := [],
                          orderDone := true, left := 0, waits := 0 }
  { s with eng := { s.eng with cct := s.eng.cct ++ [x] } }

/-- Sends a closed entry's completion, or leaves it held in the table while its priority is paused (R57, R58); a completion that is
discarded is not sent (R37). -/
def State.sendCqe (e : Cct) (status : Nat) (result : Word) (s : State) : State :=
  if e.discard || s.store.flush.isSome then s.freeEntry e
  else if s.sendPaused e then (s.freeEntry e).park e status result
  else (s.postCqe e status result).freeEntry e

/-- Closes an entry with a status and Dword 0, meters it (R167), records its error entry (R128), posts its completion
unless that is discarded (R37), and frees the entry. -/
def State.post (e : Cct) (status : Nat) (result : Word) (s : State) : State :=
  let s := if e.queue < 8192 then s.meterClosed e status else if status != St.ok && e.slice != 0 then s.meterAdd e.slice 12 1 else s
  let s := if statusNoEntry status then s else s.recordErr e status
  s.sendCqe e status result

/-- Closes a gate aborted (R107): the entry completes with a status that says why. -/
def State.postAborted (e : Cct) (status : Nat) (s : State) : State := s.post e status 0

/-- Sets what a command's meaning found: status, Dword 0 and data; COMMAND_COMPLETE posts it (R92 STATUS, RESULT). -/
def State.finish (e status : Nat) (result : Word) (out : Payload) (s : State) : State :=
  s.modEntry e (fun x => { x with st := .completing, gate := .committed, status := status, result := result, out := out })

/-! ### Asynchronous event notices (R560, R561) -/

/-- Dword 0 of an Asynchronous Event Request completion. -/
def Notice.dword (n : Notice) : Word := BitVec.ofNat 32 (n.type + n.info * 2 ^ 8 + n.lid * 2 ^ 16)

/-- Two notices of the same Type and Information. -/
def Notice.same (a b : Notice) : Bool := a.type == b.type && a.info == b.info

/-- Reports the oldest pending notice that is not masked through the oldest outstanding request, and masks it. -/
def State.reportNotice (c : Nat) (s : State) : State :=
  match s.ctrl c with
  | none => s
  | some k =>
    match k.pendingN.find? (fun n => !k.maskedN.any (·.same n)), k.aers with
    | some n, a :: rest =>
      match s.entry a with
      | none => s
      | some e =>
        let s := s.modCtrl c (fun k =>
          { k with aers := rest, pendingN := k.pendingN.filter (fun m => !(m.same n)), maskedN := n :: k.maskedN })
        s.post e St.ok n.dword
    | _, _ => s

/-- A notice arises on a controller (R560): merged with an identical pending one, and reported when nothing prevents it. No
notice is posted once an emergency flush has begun (R562). -/
def State.notify (c : Nat) (n : Notice) (s : State) : State :=
  if s.store.flush.isSome then s else
  let s := s.modCtrl c (fun k =>
    if k.pendingN.any (·.same n) then k else { k with pendingN := k.pendingN ++ [n] })
  s.reportNotice c

/-- A notice for every controller that satisfies a predicate. -/
def State.notifyAll (p : Ctrl → Bool) (n : Notice) (s : State) : State :=
  (s.eng.ctrls.filter p).foldl (fun s c => s.notify c.id n) s

/-- Controllers of the management slice (R540). -/
def Ctrl.isMgmt (c : Ctrl) : Bool := c.slice == 0 && c.ring.isNone && !c.discovery

/-- Tenant controllers. -/
def Ctrl.isTenant (c : Ctrl) : Bool := c.slice != 0 && c.ring.isNone && !c.discovery

/-! ### Event capture (R546 to R552, R560, R564) -/

/-- L(c): records per rolling minute; none without a limit (R551). -/
def State.evLimit (s : State) (code : Nat) : Option Nat :=
  match (s.events.limits.find? (·.1 == code)).map (·.2) with
  | none => some 8
  | some 0 => some 8
  | some 255 => none
  | some n => some n

/-- FLAGS of a record captured now (R546), without SUMMARY and BOOT. -/
def State.evFlags (s : State) : Nat :=
  (if s.store.flush.isSome then 2 else 0) + (if s.seed.onRc then 8 else 0)

/-- The record of an event captured now (R546). -/
def State.mkRec (s : State) (code sev : Nat) (ps : List Nat) : EvRec :=
  { code := code, sev := sev, flags := s.evFlags, hours := s.seed.hours, ms := s.ms, pcycle := s.seed.pcycle,
    params := (ps ++ List.replicate (4 - ps.length) 0).take 4 |>.map (· % 2 ^ 32) }

/-- What a capture does whether or not it is recorded (R548): sticky status, group counts, vendor notices. -/
def State.evActs (code sev : Nat) (s : State) : State :=
  let g := code / 256
  let s := if sev = 4 && s.fw.probEnd.isSome then { s with fw := { s.fw with probFault := true } } else s
  let s := s.setSticky g (code % 256)
  let s := { s with events := { s.events with
    groups := modNth s.events.groups g (fun x => (min (x.1 + 1) 0xFFFFFFFF, code, sev)) } }
  if sev ≥ min 4 (s.fld Reg.EVT_CFG 2 0) then
    s.notifyAll (·.isMgmt) { type := 7, info := g, lid := 0xC3 }
  else s

/-- An event that is not recorded because the log is full (R552): `n` added to DROPPED, the group's loss bit set. DROPPED that
saturates is itself an event that is not recorded (R550, R564). -/
def State.evDrop (g n : Nat) (s : State) : State :=
  let old := s.events.dropped
  let d := min (old + n) 0xFFFFFFFF
  let s := { s with events := { s.events with dropped := d } }
  let s := s.setSticky g 0
  if d = 0xFFFFFFFF && old != d then (s.evActs 0x001F 1).setSticky 0 0 else s

/-- Highest full-log sequence the log holds (R553). -/
def fullSeqOf (l : List EvRec) : Nat :=
  l.foldl (fun a r => if r.code == 0x0003 then max a (r.params.getD 2 0) else a) 0

/-- Writes a record to the log (R552), or to the boot buffer before step 4 of a cold boot (R548). `n` is what DROPPED
rises by when the record cannot be written. Answers whether it was written. -/
def State.evWrite (r : EvRec) (n : Nat) (s : State) : Bool × State :=
  if s.glb.powered && s.glb.state == .coldBoot && s.glb.bootStep < 4 then
    if s.events.boot.length < 64 then
      (true, { s with events := { s.events with boot := s.events.boot ++ [{ r with flags := r.flags + 4 }] } })
    else (false, ({ s with events := { s.events with bootOvf := true } }).evDrop (r.code / 256) n)
  else if s.events.full then (false, s.evDrop (r.code / 256) n)
  else if s.events.log.length = 262143 then
    let s := s.evDrop (r.code / 256) n
    let q := fullSeqOf s.events.log + 1
    let f := s.mkRec 0x0003 3 [262144, s.events.first, q]
    let s := s.evActs 0x0003 3
    (false, { s with events := { s.events with log := s.events.log ++ [f], full := true, fullSeq := q } })
  else (true, { s with events := { s.events with log := s.events.log ++ [r] } })

/-- Rate-limit entry of a code, or an empty one. -/
def rateOf (l : List CodeRate) (code : Nat) : CodeRate := (l.find? (·.code == code)).getD { code := code }

def setRate (l : List CodeRate) (x : CodeRate) : List CodeRate := x :: l.filter (·.code != x.code)

/-- Captures one event with its parameters (R548, R551). A code that no table lists is never recorded (R549). -/
def State.captureOne (code : Nat) (ps : List Nat) (s : State) : State :=
  match severity code with
  | none => s
  | some sev =>
    let r := s.mkRec code sev ps
    let x := rateOf s.events.rates code
    let now := s.opMs
    let times := x.times.filter (fun t => now < t + 60000)
    let lim := s.evLimit code
    let open_ := match lim with | none => true | some n => decide (times.length < n)
    let s := s.evActs code sev
    if open_ then
      let (ok, s) := s.evWrite r 1
      let times := if ok && lim.isSome then times ++ [now] else times
      { s with events := { s.events with rates := setRate s.events.rates { x with times := times } } }
    else
      let s := s.setSticky (code / 256) 0
      let y : CodeRate :=
        { x with times := times, count := x.count + 1,
                 firstH := if x.count = 0 then r.hours else x.firstH,
                 firstMs := if x.count = 0 then r.ms else x.firstMs,
                 lastP0 := r.params.headD 0 }
      { s with events := { s.events with rates := setRate s.events.rates y } }

/-- EVENTS of a group in page 0xC3 (R559). -/
def State.evCount (s : State) (g : Nat) : Nat := (s.events.groups.getD g (0, 0, 0)).1

/-- Captures an event (R548), and code 0x001F where it saturates EVENTS of its group or of group 0 (R550, R564). -/
def State.capture (code : Nat) (ps : List Nat) (s : State) : State :=
  let g := code / 256
  let n := s.evCount g
  let s := s.captureOne code ps
  if n = 0xFFFFFFFE && s.evCount g = 0xFFFFFFFF then
    let m := s.evCount 0
    let s := s.captureOne 0x001F [0xC3, 72 + 16 * g]
    if m = 0xFFFFFFFE then s.captureOne 0x001F [0xC3, 72] else s
  else s

/-- The summary records of a minute tick: one for each code with suppressed events (R551). -/
def State.evSummaries (s : State) : State :=
  (s.events.rates.filter (·.count > 0)).foldl (fun s x =>
    let r := { s.mkRec x.code ((severity x.code).getD 0) [x.count, x.firstH, x.firstMs, x.lastP0] with
      flags := s.evFlags + 1 }
    let (_, s) := s.evWrite r x.count
    { s with events := { s.events with rates := setRate s.events.rates { x with count := 0 } } }) s

/-- Saturation of a 32-bit count (R564): records code 0x1F of the group once. -/
def State.satEvent (g p0 p1 : Nat) (s : State) : State :=
  if s.events.saturated.contains (g, p0) then s
  else
    let s := { s with events := { s.events with saturated := (g, p0) :: s.events.saturated } }
    s.capture (g * 256 + 0x1F) [p0, p1]

/-! ### Counters of the control space (R83, R134, R298, R354, R379, R416, R422, R454, R513, R537) -/

/-- Event group of the block a counter lies in (R549). -/
def counterGroup (off : Nat) : Nat :=
  match off / 0x10000 with
  | 0x1 => 0x01
  | 0x5 => 0x0C
  | 0x6 => 0x0D
  | 0x8 => 0x09
  | 0x9 => 0x09
  | 0xA => 0x0A
  | 0xB => 0x0B
  | 0xC => 0x03 + (off % 0x10000) / 0x1000
  | 0xD => 0x05
  | 0xE => 0x0F
  | 0xF => 0x10
  | _ => 0x00

/-- A counter rises by `n` and saturates at 0xFFFF_FFFF; reaching it sets bit 31 of the group's word and records 0x1F
(R564). -/
def State.bump (off n : Nat) (s : State) : State :=
  let v := (s.reg off).toNat
  let w := min (v + n) 0xFFFFFFFF
  let s := s.setReg off (BitVec.ofNat 32 w)
  if w = 0xFFFFFFFF ∧ v ≠ w then s.capture (counterGroup off * 256 + 0x1F) [off] else s

/-- Clears `n` counters that lie 4 bytes apart, where bit 0 of the written value is 1 (R298). -/
def State.clearCounters (off n : Nat) (v : Word) (s : State) : State :=
  if v.toNat % 2 = 1 then (List.range n).foldl (fun s i => s.setReg (off + 4 * i) 0) s else s

/-! ### The journal (R207 to R212, R326) -/

/-- Bytes a record takes (R209, R210, R227, R234, R237, R251, R344). -/
def RecBody.size : RecBody → Nat
  | .staging _ _ _ _ _ es => 48 + 8 * es.length
  | .deallocRange .. => 48
  | .commit _ _ is => 32 + 16 * is.length
  | .landing _ _ is => 32 + 16 * is.length
  | .void .. => 32
  | .stripeOpen .. => 32
  | .gcCopy _ _ _ is => 32 + 24 * is.length
  | .eraseStarted _ _ ms => 24 + 8 * ms.length
  | .eraseComplete _ _ ms => 24 + 8 * ms.length
  | .blockRetired .. => 32
  | .lostUnits .. => 48
  | .member .. => 48
  | .rebuildProgress .. => 32
  | .boundary .. => 32
  | .flushStart .. => 32
  | .stop .. => 32
  | .totals .. => 32

/-- Records of the map-update ring (R208); the others lie in the stripe-in-flight ring or the last area of R206. -/
def RecBody.inMapRing : RecBody → Bool
  | .staging .. | .deallocRange .. | .commit .. | .void .. | .landing .. | .gcCopy .. | .eraseStarted ..
  | .eraseComplete .. | .blockRetired .. | .lostUnits .. => true
  | .stripeOpen .. | .member .. | .rebuildProgress .. | .boundary .. | .flushStart .. | .stop .. | .totals .. => false

/-- One Quince die is lost (R326). -/
def Journal.single (j : Journal) : Bool := j.dieLost.any id

/-- Both copies of every waiting group record are programmed: each is durable (R326). -/
def Journal.groupDone (j : Journal) : Journal :=
  { j with recs := j.recs.map (fun r => { r with durable := true }), areaUsed := j.areaUsed + j.group, group := 0 }

/-- A record is handed to the Quince interface and written (R207): durable at once on both dies, or, with a journal area in
use, when its group is programmed, which happens at once when 16 KiB waits (R194, R326). -/
def State.jwrite (b : RecBody) (s : State) : State :=
  let j := s.journal
  let r : JRec := { jseq := j.nextSeq, durable := !j.areaActive, body := b }
  let j1 := { j with nextSeq := j.nextSeq + 1, recs := j.recs ++ [r] }
  let j2 := if j.areaActive then
      { j1 with group := j1.group + b.size, groupAt := if j.group = 0 then s.seed.now else j.groupAt }
    else j1
  let j3 := if j2.group ≥ 16384 then j2.groupDone else j2
  -- A flip mask armed for a Quince die acts on this write (R411): at most two bits, so the word reads corrected.
  let s := { s with journal := j3 }
  if s.fld Reg.Q_FLIP_CTL 8 8 = 1 then
    let die := s.fld Reg.Q_FLIP_CTL 0 0
    let m := s.reg Reg.Q_FLIP_MASK
    let n := (List.range 32).foldl (fun a i => a + bits m i i) 0
    let s := s.setReg Reg.Q_FLIP_CTL (s.reg Reg.Q_FLIP_CTL &&& ~~~(0x100 : Word))
    let s := s.setReg Reg.Q_FLIP_MASK 0
    if n = 0 then s
    else (s.bump (Reg.Q_CNT_CE0 + 4 * die) 1).capture 0x0C05 [die, 0, n]
  else s

/-- Bytes of the map-update ring in use above the truncation point (R206, R212). -/
def Journal.fill (j : Journal) : Nat :=
  sumBy (j.recs.filter (fun r => r.body.inMapRing && r.jseq > j.t)) (·.body.size)

/-- Size of the map-update ring (R206). -/
def ringBytes : Nat := 48 * 1048576

/-- Fill of the map-update ring in whole percent, and whether it is more than `n` % full (R212). -/
def Journal.fillPct (j : Journal) : Nat := j.fill * 100 / ringBytes
def Journal.fuller (j : Journal) (n : Nat) : Bool := decide (n * ringBytes < j.fill * 100)

/-- The map root in force: the copy with a valid CRC and the higher generation (R211, R215, R216). -/
def Journal.root (j : Journal) : MapRoot :=
  match j.mapA.filter (!·.torn), j.mapB.filter (!·.torn) with
  | some a, some b => if a.gen < b.gen then b else a
  | some a, none => a
  | none, some b => b
  | none, none => {}

/-- Its T, its generation and the map its pages hold. -/
def Journal.rootT (j : Journal) : Nat := j.root.t
def Journal.rootGen (j : Journal) : Nat := j.root.gen
def Journal.rootMap (j : Journal) : List MapCell := j.root.map

/-- Writes a root to the copy not used last (R211). -/
def Journal.putRoot (j : Journal) (r : MapRoot) : Journal :=
  if j.rootB then { j with mapA := some r, rootB := false } else { j with mapB := some r, rootB := true }

/-- Every record of the journal is durable. -/
def Journal.allDurable (j : Journal) : Bool := j.recs.all (·.durable)

/-! ### The settings store (R506, R507, R530) -/

/-- The settings as they stand now. -/
def State.settingsNow (s : State) (gen : Nat) : Settings :=
  { gen := gen, fmt := s.fw.running.settingsFmt, arrayId := s.array.arrayId, d := s.array.d, p := s.array.p,
    mapUnitKib := s.array.mapUnitKib, epoch := s.array.epoch, members := s.array.members,
    releasing := (List.range 16).filter (fun k => (s.array.carriers.getD k {}).st == 7),
    slices := s.slices.list.map (fun x => { x with key := 0, outstanding := [], queued := [], mig := none,
                                                   erase := x.erase.filter (·.sanitize),
                                                   quiesce := [], meter := {} }),
    keyGen := s.slices.keyGen, keySlots := s.slices.keySlots.map (fun k => (k.1, wrapRoot (natBytes 64 k.2))),
    mgHost := s.slices.mgHost, mgCtrl := s.slices.mgCtrl, mgPsk := s.slices.mgPsk,
    retiredPages := s.mem.retiredPages, retiredBanks := s.mem.retiredBanks, removedRanks := s.mem.removedRanks,
    huC := s.bank.cUf, huEsr := s.bank.esr, huTestH := s.bank.lastTestH,
    lifeMax := s.thermal.lifeMax, lifeMaxH := s.thermal.lifeMaxH, throttleMin := s.thermal.throttleMin,
    trips := s.thermal.trips, hist := s.thermal.hist,
    ringSecret := s.fabric.ringSecret }

/-- Area B holds the newest valid generation. -/
def Journal.newestB (j : Journal) : Bool :=
  match j.setA, j.setB with
  | none, some b => b.valid
  | some a, some b => b.valid && (!a.valid || a.gen < b.gen)
  | _, none => false

/-- GEN pinned by an image on probation (R530); zero when none. -/
def Fw.pinned (f : Fw) : Nat :=
  match f.recA, f.recB with
  | some a, some b => if a.seq < b.seq then b.pinnedGen else a.pinnedGen
  | some a, none => a.pinnedGen
  | none, some b => b.pinnedGen
  | none, none => 0

/-- Writes a whole new generation into the area that does not hold the newest valid one, or, on probation, into the area
that does not hold the pinned one (R507, R530). -/
def State.writeSettings (s : State) : State :=
  let g := s.journal.gen + 1
  let x := s.settingsNow g
  let pin := s.fw.pinned
  let toA := if pin ≠ 0 then !(s.journal.setA.any (·.gen == pin)) else s.journal.newestB
  let j := { s.journal with gen := g,
                            setA := if toA then some x else s.journal.setA,
                            setB := if toA then s.journal.setB else some x }
  let s := { s with journal := j }
  if pin ≠ 0 then { s with fw := { s.fw with probGens := s.fw.probGens + 1 } } else s

/-! ### The activation record (R520) -/

/-- The valid record: the copy with the higher SEQ. -/
def Fw.act (f : Fw) : ActRec :=
  match f.recA, f.recB with
  | some a, some b => if a.seq < b.seq then b else a
  | some a, none => a
  | none, some b => b
  | none, none => {}

/-- Writes the record, alternating the copies; SEQ increments. -/
def Fw.setAct (f : Fw) (g : ActRec → ActRec) : Fw :=
  let a := f.act
  let n := { g a with seq := a.seq + 1 }
  match f.recA, f.recB with
  | some x, some y => if x.seq < y.seq then { f with recA := some n } else { f with recB := some n }
  | none, _ => { f with recA := some n }
  | some _, none => { f with recB := some n }

/-! ### The outcome every meaning has -/

/-- A step comes to its next state: the spec gives the block no step that stops it. -/
abbrev Out := Host.Outcome State Fault Refusal

end Sys2Proof.Machine
end

