-- ==== Sys2Proof/Machine/Digest.lean ====
section
/-! DEFINITION. SHA-384 by FIPS 180-4, HKDF-SHA-384 by RFC 5869, and the check of an ECDSA P-384 signature by FIPS 186-5 (R162, R488,
R517, R539). The rules name the algorithms; their steps are the standards' (assumption 89). -/

namespace Sys2Proof.Machine

open Sys2Proof

/-! ### SHA-384 (FIPS 180-4) -/

/-- The 80 round constants. -/
def shaK : List (BitVec 64) :=
  [
   0x428A2F98D728AE22, 0x7137449123EF65CD, 0xB5C0FBCFEC4D3B2F, 0xE9B5DBA58189DBBC,
   0x3956C25BF348B538, 0x59F111F1B605D019, 0x923F82A4AF194F9B, 0xAB1C5ED5DA6D8118,
   0xD807AA98A3030242, 0x12835B0145706FBE, 0x243185BE4EE4B28C, 0x550C7DC3D5FFB4E2,
   0x72BE5D74F27B896F, 0x80DEB1FE3B1696B1, 0x9BDC06A725C71235, 0xC19BF174CF692694,
   0xE49B69C19EF14AD2, 0xEFBE4786384F25E3, 0x0FC19DC68B8CD5B5, 0x240CA1CC77AC9C65 ] ++
  [
   0x2DE92C6F592B0275, 0x4A7484AA6EA6E483, 0x5CB0A9DCBD41FBD4, 0x76F988DA831153B5,
   0x983E5152EE66DFAB, 0xA831C66D2DB43210, 0xB00327C898FB213F, 0xBF597FC7BEEF0EE4,
   0xC6E00BF33DA88FC2, 0xD5A79147930AA725, 0x06CA6351E003826F, 0x142929670A0E6E70,
   0x27B70A8546D22FFC, 0x2E1B21385C26C926, 0x4D2C6DFC5AC42AED, 0x53380D139D95B3DF,
   0x650A73548BAF63DE, 0x766A0ABB3C77B2A8, 0x81C2C92E47EDAEE6, 0x92722C851482353B ] ++
  [
   0xA2BFE8A14CF10364, 0xA81A664BBC423001, 0xC24B8B70D0F89791, 0xC76C51A30654BE30,
   0xD192E819D6EF5218, 0xD69906245565A910, 0xF40E35855771202A, 0x106AA07032BBD1B8,
   0x19A4C116B8D2D0C8, 0x1E376C085141AB53, 0x2748774CDF8EEB99, 0x34B0BCB5E19B48A8,
   0x391C0CB3C5C95A63, 0x4ED8AA4AE3418ACB, 0x5B9CCA4F7763E373, 0x682E6FF3D6B2B8A3,
   0x748F82EE5DEFB2FC, 0x78A5636F43172F60, 0x84C87814A1F0AB72, 0x8CC702081A6439EC ] ++
  [
   0x90BEFFFA23631E28, 0xA4506CEBDE82BDE9, 0xBEF9A3F7B2C67915, 0xC67178F2E372532B,
   0xCA273ECEEA26619C, 0xD186B8C721C0C207, 0xEADA7DD6CDE0EB1E, 0xF57D4F7FEE6ED178,
   0x06F067AA72176FBA, 0x0A637DC5A2C898A6, 0x113F9804BEF90DAE, 0x1B710B35131C471B,
   0x28DB77F523047D84, 0x32CAAB7B40C72493, 0x3C9EBE0A15C9BEBC, 0x431D67C49C100D4C,
   0x4CC5D4BECB3E42B6, 0x597F299CFC657E2A, 0x5FCB6FAB3AD6FAEC, 0x6C44198C4A475817 ]

/-- The initial hash value of SHA-384. -/
def shaInit : List (BitVec 64) :=
  [
   0xCBBB9D5DC1059ED8, 0x629A292A367CD507, 0x9159015A3070DD17, 0x152FECD8F70E5939,
   0x67332667FFC00B31, 0x8EB44A8768581511, 0xDB0C2E0D64F98FA7, 0x47B5481DBEFA4FA4 ]

def shaS0 (x : BitVec 64) : BitVec 64 := x.rotateRight 28 ^^^ x.rotateRight 34 ^^^ x.rotateRight 39
def shaS1 (x : BitVec 64) : BitVec 64 := x.rotateRight 14 ^^^ x.rotateRight 18 ^^^ x.rotateRight 41
def shaG0 (x : BitVec 64) : BitVec 64 := x.rotateRight 1 ^^^ x.rotateRight 8 ^^^ (x >>> (7 : Nat))
def shaG1 (x : BitVec 64) : BitVec 64 := x.rotateRight 19 ^^^ x.rotateRight 61 ^^^ (x >>> (6 : Nat))

/-- Big-endian number of some bytes, and a number in `n` big-endian bytes. -/
def beNat (l : List Byte) : Nat := leNat l.reverse
def beBytes (n v : Nat) : List Byte := (natBytes n v).reverse

/-- The message schedule of a block, newest word first: `n` words more. -/
def shaSchedule (w : List (BitVec 64)) : Nat → List (BitVec 64)
  | 0 => w
  | n + 1 => shaSchedule ((shaG1 (w.getD 1 0) + w.getD 6 0 + shaG0 (w.getD 14 0) + w.getD 15 0) :: w) n

/-- One round over the eight working words. -/
def shaRound (v : List (BitVec 64)) (kw : BitVec 64 × BitVec 64) : List (BitVec 64) :=
  match v with
  | [a, b, c, d, e, f, g, h] =>
    let t1 := h + shaS1 e + ((e &&& f) ^^^ (~~~e &&& g)) + kw.1 + kw.2
    let t2 := shaS0 a + ((a &&& b) ^^^ (a &&& c) ^^^ (b &&& c))
    [t1 + t2, a, b, c, d + t1, e, f, g]
  | _ => v

/-- The compression of one 128-byte block. -/
def shaBlock (h : List (BitVec 64)) (block : List Byte) : List (BitVec 64) :=
  let w := (blocksOf 8 block).map (fun x => BitVec.ofNat 64 (beNat x))
  let v := (List.zip shaK (shaSchedule w.reverse 64).reverse).foldl shaRound h
  List.zipWith (· + ·) h v

/-- The padding of a message of `n` bytes. -/
def shaPad (n : Nat) : List Byte := 0x80 :: List.replicate ((239 - n % 128) % 128) 0 ++ beBytes 16 (8 * n)

/-- SHA-384 of a message: 48 bytes. -/
def sha384 (m : List Byte) : List Byte :=
  (((blocksOf 128 (m ++ shaPad m.length)).foldl shaBlock shaInit).flatMap (fun x => beBytes 8 x.toNat)).take 48

/-! ### HKDF-SHA-384 (RFC 5869) -/

/-- HMAC-SHA-384. -/
def hmac384 (key m : List Byte) : List Byte :=
  let k := bytesAt (if key.length ≤ 128 then key else sha384 key) 0 128
  sha384 (k.map (· ^^^ 0x5C) ++ sha384 (k.map (· ^^^ 0x36) ++ m))

/-- HKDF-SHA-384 with one block of output or less: `n` bytes, at most 48 (R162, R539). -/
def hkdf384 (n : Nat) (ikm salt info : List Byte) : List Byte := (hmac384 (hmac384 salt ikm) (info ++ [1])).take n

/-! ### ECDSA over P-384 (FIPS 186-5, SEC 1) -/

def p384P : Nat := 2 ^ 384 - 2 ^ 128 - 2 ^ 96 + 2 ^ 32 - 1
def p384N : Nat := 0xFFFFFFFFFFFFFFFFFFFFFFFFFFFFFFFFFFFFFFFFFFFFFFFFC7634D81F4372DDF581A0DB248B0A77AECEC196ACCC52973
def p384B : Nat := 0xB3312FA7E23EE7E4988E056BE3F82D19181D9C6EFE8141120314088F5013875AC656398D8A2ED19D2A85C8EDD3EC2AEF
def p384G : Nat × Nat :=
  (0xAA87CA22BE8B05378EB1C71EF320AD746E1D3B628BA79B9859F741E082542A385502F25DBF55296C3A545E3872760AB7,
   0x3617DE4A96262C6F5D9E98BF9292DC29F8F41DBD289A147CE9DA3113B5F0B8C00A60B1CE1D7E819D7A431D7C90EA0E5F)

/-- a to the power e modulo m, over `fuel` bits of e. -/
def powMod (m a e : Nat) : Nat → Nat
  | 0 => 1 % m
  | fuel + 1 =>
    let r := powMod m (a * a % m) (e / 2) fuel
    if e % 2 = 1 then a * r % m else r

/-- The inverse modulo a prime below 2^384. -/
def invMod (m a : Nat) : Nat := powMod m (a % m) (m - 2) 384

/-- The sum of two points of the curve; none is the point at infinity. -/
def ecAdd (x y : Option (Nat × Nat)) : Option (Nat × Nat) :=
  match x, y with
  | none, q => q
  | p, none => p
  | some (x1, y1), some (x2, y2) =>
    let m := p384P
    if x1 = x2 && (y1 + y2) % m = 0 then none
    else
      let l := if x1 = x2 then (3 * x1 * x1 + (m - 3)) * invMod m (2 * y1) % m else (y2 + m - y1) * invMod m (x2 + m - x1) % m
      let x3 := (l * l + 2 * m - x1 - x2) % m
      some (x3, (l * (x1 + m - x3) + m - y1) % m)

/-- A point times a number, over `fuel` bits of it. -/
def ecMul (k : Nat) (x : Option (Nat × Nat)) : Nat → Option (Nat × Nat)
  | 0 => none
  | fuel + 1 =>
    let r := ecMul (k / 2) (ecAdd x x) fuel
    if k % 2 = 1 then ecAdd x r else r

/-- A public key is an uncompressed point of the curve: 0x04, X, Y (R515). -/
def keyPoint (key : List Byte) : Option (Nat × Nat) :=
  let x := beNat ((key.drop 1).take 48)
  let y := beNat ((key.drop 49).take 48)
  let m := p384P
  if key.length = 97 && key.head? == some 0x04 && x < m && y < m && (y * y) % m == (x * x * x + (m - 3) * x + p384B) % m then some (x, y)
  else none

/-- The signature r and s, 48 bytes each, verifies under a key over a message hashed with SHA-384 (R515, R517). -/
def ecdsaOk (key msg sig : List Byte) : Bool :=
  let r := beNat (sig.take 48)
  let s := beNat ((sig.drop 48).take 48)
  let n := p384N
  match keyPoint key with
  | none => false
  | some q =>
    if r = 0 || s = 0 || n ≤ r || n ≤ s then false
    else
      let w := invMod n s
      let e := beNat (sha384 msg)
      match ecAdd (ecMul (e * w % n) (some p384G) 384) (ecMul (r * w % n) (some q) 384) with
      | none => false
      | some p => p.1 % n == r

/-! ### The device NQN (R539) -/

/-- A lower-case hexadecimal digit. -/
def hexDigit (n : Nat) : Byte := BitVec.ofNat 8 (if n < 10 then 0x30 + n else 0x57 + n)

/-- Bytes in hexadecimal. -/
def hexBytes (l : List Byte) : List Byte := l.flatMap (fun b => [hexDigit (b.toNat / 16), hexDigit (b.toNat % 16)])

/-- A UUID of 16 bytes in the form of RFC 9562, its version 8 and its variant 0b10. -/
def uuidText (l : List Byte) : List Byte :=
  let l := modNth (modNth l 6 (fun b => b &&& 0x0F ||| 0x80)) 8 (fun b => b &&& 0x3F ||| 0x80)
  let h (a n : Nat) : List Byte := hexBytes ((l.drop a).take n)
  h 0 4 ++ 0x2D :: h 4 2 ++ 0x2D :: h 6 2 ++ 0x2D :: h 8 2 ++ 0x2D :: h 10 6

/-- The device NQN: a UUID of HKDF-SHA-384 of the device root key, with an empty salt and the info string FVID. -/
def deviceNqn : List Byte :=
  nameBytes "nqn.2014-08.org.nvmexpress:uuid:" ++ uuidText (hkdf384 16 (natBytes 32 Config.rootKey.toNat) [] (nameBytes "FVID"))

end Sys2Proof.Machine
end

