-- ==== Sys2Proof/Machine/PunPool.lean ====
section
/-! DEFINITION. The punnet pool itself: what a class may hold, grants at once, chains given back (R381 to R388). -/

namespace Sys2Proof.Machine

open Sys2Proof

/-- Punnets of the pool (R381). -/
def punnetCount : Nat := 16384

/-- RESERVE, LIMIT and use of a class (R383, R414). -/
def State.punReserve (s : State) (c : Nat) : Nat := s.fld (Reg.PN_CLASS + 4 * c) 14 0
def State.punLimit (s : State) (c : Nat) : Nat := s.fld (Reg.PN_CLASS + 4 * c) 30 16
def State.punUse (s : State) (c : Nat) : Nat := (s.mem.punnets.filter (·.cls == c)).length

/-- Free punnets. -/
def State.punFree (s : State) : Nat := punnetCount - s.mem.punnets.length

/-- R384 allows a request now; from the trigger of an emergency flush only classes 0 and 4 are served (R388). -/
def State.punMay (s : State) (c n : Nat) : Bool :=
  let u := s.punUse c
  let owed := sumBy ((List.range 7).filter (· != c)) (fun d => s.punReserve d - s.punUse d)
  decide (u + n ≤ s.punLimit c) && decide (n ≤ s.punFree) &&
  (decide (u + n ≤ s.punReserve c) || decide (owed ≤ s.punFree - n)) &&
  (s.store.flush.isNone || c == 0 || c == 4)

/-- The first `n` free punnets from number `i`. -/
def freeNums (used : List Nat) : Nat → Nat → Nat → List Nat
  | _, 0, _ => []
  | 0, _ + 1, _ => []
  | fuel + 1, n + 1, i => if used.contains i then freeNums used fuel (n + 1) (i + 1) else i :: freeNums used fuel n (i + 1)

/-- Enters a granted chain in the descriptors: each punnet linked to the next with REF 1 (R382). -/
def State.enterChain (cls : Nat) (l : List Nat) (s : State) : State :=
  let ps := (List.range l.length).map (fun i => ({ num := l.getD i 0, next := l[i + 1]?, cls := cls } : Punnet))
  { s with mem := { s.mem with punnets := s.mem.punnets ++ ps } }

/-- Grants `n` punnets of a class at once where R384 allows it and nothing of the class waits: the chains, of at most 32 punnets each
(R382). -/
def State.takePun (cls n : Nat) (s : State) : Option (List Nat × State) :=
  if n = 0 then some ([], s)
  else if s.punMay cls n && !s.mem.reqs.any (·.cls == cls) then
    let l := freeNums (s.mem.punnets.map (·.num)) punnetCount n 0
    some (l, (List.range (ceilDiv n 32)).foldl (fun s i => s.enterChain cls ((l.drop (32 * i)).take 32)) s)
  else none

/-- A chain is given back: each punnet has one reference less, and at zero returns to the pool (R386). -/
def State.freeChain (l : List Nat) (s : State) : State :=
  let m := s.mem
  let ps := (m.punnets.map (fun p => if l.contains p.num then { p with ref := p.ref - 1 } else p)).filter
    (fun p => !(l.contains p.num && p.ref == 0))
  { s with mem := { m with punnets := ps } }

end Sys2Proof.Machine
end

