-- ==== Sys2Proof/Machine/Geometry.lean ====
section
/-! DEFINITION. Geometry of dies, members, stripes and bands, wear, the capacity pool, and the dirty limit. -/

namespace Sys2Proof.Machine

open Sys2Proof

/-! ### Dies and carriers -/

def State.carrier (s : State) (k : Nat) : Carrier := s.array.carriers.getD k {}

def State.modCarrier (k : Nat) (f : Carrier → Carrier) (s : State) : State :=
  { s with array := { s.array with carriers := modNth s.array.carriers k f } }

/-- Channel of a die index, and the carrier that holds the channel (R178, R258). -/
def dieChan (d : Nat) : Nat := d / 64
def dieCar (d : Nat) : Nat := d / 128

/-- The die now at an index (R308). -/
def State.die (s : State) (d : Nat) : Option Die := s.array.dies.find? (fun x => x.idx == d && !x.old)

/-- The die of an index and generation (R308). -/
def State.dieGen (s : State) (d g : Nat) : Option Die := s.array.dies.find? (fun x => x.idx == d && x.gen == g)

def State.modDie (d : Nat) (f : Die → Die) (s : State) : State :=
  { s with array := { s.array with dies := modFirst s.array.dies (fun x => x.idx == d && !x.old) f } }

def State.chan (s : State) (c : Nat) : Chan := s.array.chans.getD c {}

def State.modChan (c : Nat) (f : Chan → Chan) (s : State) : State :=
  { s with array := { s.array with chans := modNth s.array.chans c f } }

/-- Usable carriers: state online or degraded (R306). -/
def State.usable (s : State) : List Nat :=
  (List.range 16).filter (fun k => (s.carrier k).st == 5 || (s.carrier k).st == 6)

/-- Code of R271 a spare area selects (R272): none when no code fits. -/
def codeOf (spare : Nat) : Option Nat :=
  [(0, 4692), (1, 4588), (2, 4488), (3, 4392)].findSome? (fun (c, n) => if 4 * n ≤ 16384 + spare then some c else none)

/-- Codeword length N and hard-decode limit of a code (R271). -/
def codeN (c : Nat) : Nat := [4692, 4588, 4488, 4392].getD c 4692
def hardLimit (c : Nat) : Nat := [340, 270, 200, 130].getD c 340

/-- Granules in one page slot across the planes: G of R264. -/
def slotGran (f : DieFacts) : Nat := 32 * f.planes

/-- Granules of one member: the die's program unit (R263). -/
def memberGran (f : DieFacts) (slc : Bool) : Nat := slotGran f * (if slc then 1 else f.cell)

/-- Band written in SLC mode (R203, R205, R222). -/
def Band.slc (b : Band) : Bool := b.kind == .pslc || b.kind == .landing

/-- Facts of a member's die. -/
def State.memFacts (s : State) (m : Member) : DieFacts := ((s.dieGen m.die m.gen).map (·.facts)).getD {}

/-- Facts that fix a band's stripes: those of its first member (assumption 9). -/
def State.bandFacts (s : State) (b : Band) : DieFacts := (b.members.head?.map s.memFacts).getD {}

/-- Granules of one member of a band, of a stripe's data members, and stripes in a band (R182, R263, R264). -/
def State.bandMem (s : State) (b : Band) : Nat := memberGran (s.bandFacts b) b.slc
def State.stripeGran (s : State) (b : Band) : Nat := b.d * s.bandMem b
def State.bandStripes (s : State) (b : Band) : Nat := (s.bandFacts b).npb / max 1 (s.bandFacts b).cell

/-- Data granules of a band. -/
def State.bandGran (s : State) (b : Band) : Nat := s.stripeGran b * s.bandStripes b

/-- The member of band `b` that holds member index `m` of stripe `st` (R304). -/
def Band.memberAt (b : Band) (st m : Nat) : Option Member := b.members[(st + m) % max 1 b.members.length]?

/-- GRANULE of granule offset `off` of stripe `st` of a band (R178, R182, R264, R304). -/
def State.granOf (s : State) (b : Band) (st off : Nat) : Nat :=
  let mg := max 1 (s.bandMem b)
  match b.memberAt st (off / mg) with
  | none => 0
  | some m =>
    let f := s.memFacts m
    let slot := m.block * f.npb + (if b.slc then st else st * f.cell)
    m.die * 2 ^ 31 + slot * slotGran f + off % mg

/-- Decoding of a die-relative granule offset (R264): block, page slot, plane, codeword, granule within the codeword. -/
def decodeGran (f : DieFacts) (o : Nat) : Nat × Nat × Nat × Nat × Nat :=
  let g := slotGran f
  let slot := o / g
  let r := o - slot * g
  let block := slot / f.npb
  let plane := r / 32
  let c := (r - plane * 32) / 8
  (block, slot - block * f.npb, plane, c, r - plane * 32 - c * 8)

/-! ### Blocks and wear (R241) -/

def State.block (s : State) (d b : Nat) : Block :=
  (s.upkeep.blocks.find? (fun x => x.die == d && x.block == b)).getD { die := d, block := b }

def State.modBlock (d b : Nat) (f : Block → Block) (s : State) : State :=
  let x := f (s.block d b)
  { s with upkeep := { s.upkeep with
    blocks := x :: s.upkeep.blocks.filter (fun y => !(y.die == d && y.block == b)) } }

/-- Rated cycles of a die's carrier (R241). -/
def State.rated (s : State) (d : Nat) : Nat := ((s.carrier (dieCar d)).facts.map (·.eeprom.rated)).getD 1

/-- Wear fraction of a member's block as numerator and denominator. -/
def State.memWear (s : State) (m : Member) : Nat × Nat := ((s.block m.die m.block).wear, 16 * max 1 (s.rated m.die))

/-- One fraction is below another. -/
def fracLt (a b : Nat × Nat) : Bool := a.1 * b.2 < b.1 * a.2

/-- A band's wear fraction: that of its most-worn member block (R241). -/
def State.bandWear (s : State) (b : Band) : Nat × Nat :=
  b.members.foldl (fun w m => if fracLt w (s.memWear m) then s.memWear m else w) (0, 1)

/-- Usable blocks of a carrier and the sum of their wear. -/
def State.wearSum (s : State) (k : Nat) : Nat × Nat :=
  let dies := s.array.dies.filter (fun d => !d.old && dieCar d.idx == k && !d.refused && d.st != 0)
  let n := dies.length * ((s.carrier k).facts.elim 0 (·.eeprom.blocks))
  let l := s.upkeep.blocks.filter (fun b => dieCar b.die == k)
  (n - (l.filter (·.retired)).length, sumBy (l.filter (!·.retired)) (·.wear))

/-- W of a carrier as a fraction: mean wear over rated cycles of its usable blocks (R241). -/
def State.wFrac (s : State) (k : Nat) : Nat × Nat :=
  let (n, w) := s.wearSum k
  (w, max 1 (16 * max 1 (((s.carrier k).facts.map (·.eeprom.rated)).getD 1) * n))

/-- W of a carrier in 10^-6. -/
def State.wPpm (s : State) (k : Nat) : Nat := (s.wFrac k).1 * 1000000 / (s.wFrac k).2

/-! ### Bands -/

def State.band (s : State) (n : Nat) : Option Band := s.upkeep.bands.find? (·.num == n)

def State.modBand (n : Nat) (f : Band → Band) (s : State) : State :=
  { s with upkeep := { s.upkeep with bands := modFirst s.upkeep.bands (·.num == n) f } }

/-- A member is readable directly (R308, R311). -/
def State.direct (s : State) (m : Member) : Bool :=
  match s.dieGen m.die m.gen with
  | none => false
  | some x => x.st == 1 || x.st == 2 || (x.st == 4 && x.direct)

/-- A member's die is failed or rebuilding (R308). -/
def State.memDown (s : State) (m : Member) : Bool :=
  match s.dieGen m.die m.gen with
  | none => true
  | some x => x.st == 3 || x.st == 4

/-- Unreadable members of a band. -/
def State.unreadable (s : State) (b : Band) : Nat := (b.members.filter (fun m => !s.direct m)).length

/-- Native bands (R222, R229): native and pSLC-capable ones. -/
def Band.nativeCap (b : Band) : Bool := b.kind == .native || b.kind == .pslc

/-- The free count (R229). -/
def State.freeCount (s : State) : Nat := (s.upkeep.bands.filter (fun b => b.nativeCap && b.st == .erased)).length

def State.nativeBands (s : State) : Nat := (s.upkeep.bands.filter (·.nativeCap)).length

/-- FREE_TARGET, FREE_LOW, FREE_CRIT in bands (R229). -/
def State.freeTarget (s : State) : Nat := s.nativeBands * s.fld Reg.MNT_GC_CFG 29 20 / 1000
def State.freeLow (s : State) : Nat := s.nativeBands * s.fld Reg.MNT_GC_CFG 19 10 / 1000
def State.freeCrit (s : State) : Nat := s.nativeBands * s.fld Reg.MNT_GC_CFG 9 0 / 1000

/-! ### Geometry in force (R306) -/

/-- D of the geometry in force for new bands, for an array geometry; none when no band can be formed. -/
def State.dForce (s : State) (d p : Nat) : Option Nat :=
  let x := min d (s.usable.length - p)
  if x < 2 then none else some x

/-- The geometry a newly formed band of number `n` takes: the new one below the boundary of a reshape (R328, R331). -/
def State.geomAt (s : State) (n : Nat) : Nat × Nat :=
  match s.array.reshape with
  | some (dn, pn, b, _) => if n < b then (dn, pn) else (s.array.d, s.array.p)
  | none => (s.array.d, s.array.p)

/-! ### The capacity pool (R218) -/

/-- DRAM in GiB and the map region in MiB (R175). -/
def State.mapRegionMib (s : State) : Nat :=
  let g := s.glb.dramGib
  (g - max 8 (g / 8) - 16) * 1024 - s.mem.lostMib

/-- Nominal code rate in hundredths (R271): the rate R218 and R468 compute with in their examples. -/
def codeRate (c : Nat) : Nat := [88, 90, 92, 94].getD c 88

/-- OP_PCT of the image (R219). -/
def State.opPct (s : State) : Nat :=
  (s.cfg.image.records.findSome? (fun r => match r with | .array _ _ _ o _ _ _ => some o | _ => none)).getD 7

/-- avail of R218 times 41,280,000 × d × the raw bytes, and the raw bytes, over the dies of a list of carriers for a geometry in force. The
b of the SLC reserve is the mean over the dies by raw bytes (assumption 10). -/
def State.availTimes (s : State) (cars : List Nat) (df p : Nat) : Nat × Nat :=
  let dies := s.array.dies.filter (fun x => !x.old && !x.refused && cars.contains (dieCar x.idx))
  let raw (x : Die) : Nat :=
    ((s.carrier (dieCar x.idx)).facts.map (·.eeprom.blocks)).getD 0 * x.facts.npb * x.facts.planes *
      (16384 + x.facts.spareBytes)
  let sum := max 1 (sumBy dies raw)
  let code := sumBy dies (fun x => raw x * codeRate ((codeOf x.facts.spareBytes).getD 0)) * 4096
  let b := sumBy dies (fun x => raw x * x.facts.cell)
  let region := s.mapRegionMib * 1048576
  (code * 98 * df * sum - (32 * 2 ^ 30 * b * df + 2 * region * (df + p) * sum) * 41280000, sum)

/-- The media term of R218 in GiB, rounded down; exact up to the last rounding. -/
def State.mediaGib (s : State) (cars : List Nat) (df p : Nat) : Nat :=
  let r := s.availTimes cars df p
  r.1 * 15 * (100 - s.opPct) / (41280000 * r.2 * 16 * max 1 (df + p) * 100) / 2 ^ 30

/-- The data term of R218 in granules for the usable carriers, rounded down. -/
def State.dataGran (s : State) : Nat :=
  let p := s.array.p
  match s.dForce s.array.d p with
  | none => 0
  | some df =>
    let r := s.availTimes s.usable df p
    r.1 * 15 / (41280000 * r.2 * 16 * max 1 (df + p)) / 512

/-- The map term of R218 in GiB. -/
def State.mapGib (s : State) : Nat :=
  let m := (s.mapRegionMib * 1048576 - 16 * 1048576) / 8 * (s.array.mapUnitKib * 1024)
  (if s.array.mapUnitKib = 4 then min m (100 * 10 ^ 12) else m) / 2 ^ 30

/-- The pool of R218 in GiB for a list of carriers and an array geometry, which narrows to the geometry in force (R306). -/
def State.poolFor (s : State) (cars : List Nat) (d p : Nat) : Nat :=
  let df := min d (cars.length - p)
  if df < 2 then 0 else min (s.mediaGib cars df p) s.mapGib

/-- The pool by the present carriers; during a reshape the lesser of the old and new pools (R328). -/
def State.poolNow (s : State) : Nat :=
  match s.array.arrayId with
  | none => 0
  | some _ =>
    let u := s.usable
    match s.array.reshape with
    | some (dn, pn, _, _) => min (s.poolFor u s.array.d s.array.p) (s.poolFor u dn pn)
    | none => s.poolFor u s.array.d s.array.p

def State.setPool (s : State) : State := { s with array := { s.array with poolGib := s.poolNow } }

/-- Sum of the slices' CAP_MIB. -/
def State.capSum (s : State) : Nat := sumBy s.slices.list (·.desc.capMib)

/-! ### Dirty amount and dirty limit (R186) -/

/-- Granules of every extent not in FREE, in one copy. -/
def State.dirty (s : State) : Nat := sumBy s.store.buf (·.len)

def State.dirtyKib (s : State) : Nat := (s.dirty + 1) / 2

/-- Erased data capacity of the landing zone in granules (R186, R205). -/
def State.landingFree (s : State) : Nat :=
  sumBy (s.upkeep.bands.filter (fun b => b.kind == .landing && b.st == .erased)) s.bandGran

/-- The dirty limit in granules: the least of the three values of R186. -/
def State.dirtyLimit (s : State) : Nat := min (s.bank.limit / 512) (min (s.landingFree * 4 / 5) (6 * 2 ^ 30 / 512))

end Sys2Proof.Machine
end

