-- ==== Sys2Proof/Machine/MapOps.lean ====
section
/-! DEFINITION. Map units and their entries, extents and their headers, the lost-range list, the write buffer, and what the
map holds of a unit. -/

namespace Sys2Proof.Machine

open Sys2Proof

/-! ### Sizes (R174, R179, R180, R363, R366) -/

/-- LBA data size of a format (R125). -/
def lbaSize (lbaf : Nat) : Nat := if lbaf = 0 then 512 else 4096

def State.unitBytes (s : State) : Nat := s.array.mapUnitKib * 1024

/-- LBAs of a map unit (R174). -/
def State.unitLbas (s : State) (lbaf : Nat) : Nat := s.unitBytes / lbaSize lbaf

/-- Original length of a map unit: LBA data, then on LBAF2 the metadata (R174). -/
def State.origLen (s : State) (lbaf : Nat) : Nat := s.unitBytes + (if lbaf = 2 then s.unitLbas lbaf * 8 else 0)

/-- Raw length in granules (R179). -/
def State.rawGran (s : State) (lbaf : Nat) : Nat := ceilDiv (16 + s.origLen lbaf) 512

/-- Largest compressed extent in granules (R179, R363). -/
def State.compLimit (s : State) (lbaf : Nat) : Nat := min 64 (s.rawGran lbaf - 1)

/-- Map units of a namespace (R174). -/
def State.nsUnits (s : State) (n : Ns) : Nat := ceilDiv (n.nsze * lbaSize n.lbaf) s.unitBytes

/-- Bytes of user capacity a namespace is charged (R174). -/
def State.nsCharge (s : State) (n : Ns) : Nat := s.nsUnits n * s.unitBytes

/-- Bytes one LBA takes on the host side: extended LBAs carry their metadata (R125). -/
def lbaXfer (lbaf : Nat) : Nat := if lbaf = 2 then 4104 else lbaSize lbaf

/-! ### Cyclic redundancy checks -/

/-- One bit step of a reflected CRC-32C (polynomial 0x82F63B78). -/
def crc32cBit (c : Word) : Word := if c.toNat % 2 = 1 then (c >>> 1) ^^^ 0x82F63B78 else c >>> 1

/-- CRC-32C of a byte list. -/
def crc32c (l : List Byte) : Word :=
  (l.foldl (fun c b =>
    let c := c ^^^ (b.setWidth 32)
    crc32cBit (crc32cBit (crc32cBit (crc32cBit (crc32cBit (crc32cBit (crc32cBit (crc32cBit c)))))))) 0xFFFFFFFF)
    ^^^ 0xFFFFFFFF

/-- One bit step of the 16-bit guard CRC (polynomial 0x8BB7). -/
def crc16Bit (c : BitVec 16) : BitVec 16 := if c.msb then (c <<< 1) ^^^ 0x8BB7 else c <<< 1

/-- The 16-bit guard of protection information (R127). -/
def crc16 (l : List Byte) : BitVec 16 :=
  l.foldl (fun (c : BitVec 16) (b : Byte) =>
    let w : BitVec 16 := b.setWidth 16
    let c := c ^^^ (w <<< (8 : Nat))
    crc16Bit (crc16Bit (crc16Bit (crc16Bit (crc16Bit (crc16Bit (crc16Bit (crc16Bit c)))))))) 0

/-- Original bytes of a unit: the LBAs' data in order, then on LBAF2 their metadata (R174). -/
def origBytes (lbaf : Nat) (l : List Lba) : List Byte :=
  (l.map (fun x => natBytes (lbaSize lbaf) x.data)).flatten ++
  (if lbaf = 2 then (l.map (fun x => natBytes 8 x.pi)).flatten else [])

/-- What a deallocated LBA reads as: zero data, and on LBAF2 the guard of 4,096 zero bytes (zero), application tag 0xFFFF
and reference tag 0xFFFF_FFFF, each most significant byte first (R127). -/
def zeroLba (lbaf : Nat) : Lba := { data := 0, pi := if lbaf = 2 then 0xFFFFFFFFFFFF0000 else 0 }

/-! ### Map entries -/

def State.entryAt (s : State) (sl ns mu : Nat) : MapEntry :=
  ((s.store.map.find? (fun c => c.slice == sl && c.nsid == ns && c.mu == mu)).map (·.e)).getD {}

/-- The map with one entry replaced; a deallocated unit is not listed. -/
def mapPut (l : List MapCell) (sl ns mu : Nat) (e : MapEntry) : List MapCell :=
  let r := l.filter (fun c => !(c.slice == sl && c.nsid == ns && c.mu == mu))
  if e = {} then r else { slice := sl, nsid := ns, mu := mu, e := e } :: r

/-- Map page of a unit: 512 entries of one namespace (R176). -/
def pageOf (mu : Nat) : Nat := mu / 512

/-- A page changed by a record takes the record's JSEQ if it was clean (R211). -/
def dirtyPut (l : List (Nat × Nat × Nat × Nat)) (sl ns pg j : Nat) : List (Nat × Nat × Nat × Nat) :=
  if l.any (fun x => x.1 == sl && x.2.1 == ns && x.2.2.1 == pg) then l else l ++ [(sl, ns, pg, j)]

/-- Changes a map entry; its page is dirty since the record last written. -/
def State.setEntry (sl ns mu : Nat) (e : MapEntry) (s : State) : State :=
  let m := mapPut s.store.map sl ns mu e
  let d := dirtyPut s.store.dirtyPages sl ns (pageOf mu) (s.journal.nextSeq - 1)
  { s with store := { s.store with map := m, dirtyPages := d } }

/-- The 64 bits of a map entry (R177, R178). -/
def MapEntry.encode (e : MapEntry) : BitVec 64 :=
  let g : Nat := match e.loc with | .dealloc => 0 | .buffered o => o | .band g => g | .landing g => g | .gone => 2 ^ 42 - 1
  let flag : Nat := match e.loc with | .dealloc => 1 | .buffered _ => 0x10 | .band _ => 0 | .landing _ => 8 | .gone => 0
  match e.loc with
  | .dealloc => 1
  | _ => BitVec.ofNat 64 (g * 2 ^ 22 + e.len * 2 ^ 16 + flag + (if e.lost then 4 else 0) + (if e.comp then 2 else 0))

/-- Granules an extent named by an entry takes (R177, R179): LEN, 0 for 64, when compressed; the raw length otherwise. -/
def State.entryLen (s : State) (lbaf : Nat) (e : MapEntry) : Nat :=
  if e.comp then (if e.len = 0 then 64 else e.len) else s.rawGran lbaf

/-- LEN field of an extent of `n` granules (R177). -/
def lenField (comp : Bool) (n : Nat) : Nat := if comp then (if n = 64 then 0 else n) else 0

/-! ### Extents (R360 to R363) -/

/-- Stored length of an extent in bytes (R360). -/
def extBytes (x : Extent) : Nat := 16 + x.payloadLen

/-- Granules of an extent (R182). -/
def extGran (x : Extent) : Nat := ceilDiv (extBytes x) 512

/-- The LBA format of an extent: format 2 by its flag, else by the length of its original (R125). -/
def extLbaf (x : Extent) : Nat := if x.pi then 2 else if x.origLen = 512 * x.orig.length then 0 else 1

/-- The 16-byte header (R360). -/
def extHeader (x : Extent) : List Byte :=
  natBytes 1 x.format ++ natBytes 1 (b2n x.compressed + 2 * b2n x.pi) ++ natBytes 2 x.seq ++ natBytes 4 x.payloadLen ++
    natBytes 4 x.origLen ++ natBytes 4 x.crc.toNat

/-- An extent before encryption: its header and its payload, which raw is the original (R360, R363). -/
def extPlain (x : Extent) : List Byte :=
  extHeader x ++ (if x.compressed then x.payload else origBytes (extLbaf x) x.orig)

/-- An extent as it is stored: one XTS data unit under its slice's key (R152, R367). -/
def extStored (x : Extent) : List Byte := xtsEnc x.key (tweakOf x.nsid x.mu) (extPlain x)

/-- Granule `i` of an extent as stored: beyond its end zero (R182). -/
def extGranule (x : Extent) (i : Nat) : List Byte := bytesAt (extStored x) (512 * i) 512

/-- The extent a lane forms of an original: compressed to a payload, or raw (R363). -/
def State.mkExtent (s : State) (lbaf key ns mu : Nat) (orig : List Lba) (payload : Option (List Byte)) : Extent :=
  { compressed := payload.isSome, pi := lbaf == 2, payloadLen := payload.elim (s.origLen lbaf) (·.length), origLen := s.origLen lbaf,
    payload := payload.getD [],
    crc := crc32c (origBytes lbaf orig), key := key, nsid := ns, mu := mu, orig := orig }

/-- Header checks of R362 against the map entry, under the key of the slice and the tweak of the unit (R152): an extent
encrypted under another key or bound to another unit decrypts to noise and fails. -/
def State.headerOk (s : State) (lbaf key ns mu : Nat) (e : MapEntry) (x : Extent) : Bool :=
  x.key == key && x.nsid == ns && x.mu == mu && x.format == 1 && x.seq == 0 && x.compressed == e.comp &&
  x.pi == (lbaf == 2) && x.origLen == s.origLen lbaf &&
  (if e.comp then
    let n := s.entryLen lbaf e
    decide ((n - 1) * 512 + 1 ≤ extBytes x ∧ extBytes x ≤ n * 512)
  else x.payloadLen == x.origLen)

/-- The failure an extent's bytes meet: of the header, of the decompression, or of the CRC over the whole original (R28, R362, R368,
R369). -/
def State.extentFault (s : State) (lbaf key ns mu : Nat) (e : MapEntry) (x : Extent) : Option DecErr :=
  let o := origBytes lbaf x.orig
  if !s.headerOk lbaf key ns mu e x then some .header
  else if x.compressed then
    match inflate false [] x.origLen x.payload with
    | .error c => some c
    | .ok r => if crc32c r.1 = x.crc && r.1 == o then none else some .crc
  else if crc32c o = x.crc then none else some .crc

/-! ### The lost-range list (R181, R202, R322, R323) -/

/-- Merges a range into the list: entries of the same slice, namespace and cause that are contiguous become one. LBAs
already listed keep their entry (R322). Answers the list and whether it changed. -/
def lostAdd (l : List LostRange) (r : LostRange) : List LostRange :=
  match l.find? (fun x => x.slice == r.slice && x.nsid == r.nsid && x.cause == r.cause &&
      (x.slba + x.nlb == r.slba || r.slba + r.nlb == x.slba)) with
  | some x =>
    let y : LostRange := { x with slba := min x.slba r.slba, nlb := x.nlb + r.nlb,
                                  repair := x.repair || r.repair, band := if x.band = r.band then x.band else none }
    y :: l.filter (· != x)
  | none => r :: l

/-- An LBA is listed as lost. -/
def State.lbaLost (s : State) (sl ns lba : Nat) : Bool :=
  s.store.lost.any (fun r => r.slice == sl && r.nsid == ns && r.slba ≤ lba && lba < r.slba + r.nlb)

/-- Removes LBAs `a` to `a + n − 1` from the list, splitting entries (R202, R322). -/
def lostRemove (l : List LostRange) (sl ns a n : Nat) : List LostRange :=
  l.flatMap (fun r =>
    if r.slice == sl && r.nsid == ns && r.slba < a + n && a < r.slba + r.nlb then
      (if r.slba < a then [{ r with nlb := a - r.slba }] else []) ++
      (if a + n < r.slba + r.nlb then [{ r with slba := a + n, nlb := r.slba + r.nlb - (a + n) }] else [])
    else [r])

/-- The DRAM part holds 4,194,304 entries; beyond it the list spills and event 0x08 is recorded once spilling begins
(R322, R355). -/
def State.lostSpill (s : State) : State :=
  if s.store.lost.length > 4194304 then
    if s.store.overflow then s
    else ({ s with store := { s.store with overflow := true } }).capture 0x0A08 [s.store.lost.length]
  else { s with store := { s.store with overflow := false } }

/-- Adds the LBAs of a range that are not listed yet; GENERATION increments when the list changes (R322, R323). -/
def State.addLost (r : LostRange) (s : State) : State :=
  let new := (List.range r.nlb).filter (fun i => !s.lbaLost r.slice r.nsid (r.slba + i))
  if new.isEmpty then s
  else
    let l := new.foldl (fun l i => lostAdd l { r with slba := r.slba + i, nlb := 1, hours := s.seed.hours }) s.store.lost
    ({ s with store := { s.store with lost := l, lostGen := s.store.lostGen + 1 } }).lostSpill

/-- Removes LBAs from the list. -/
def State.removeLost (sl ns a n : Nat) (s : State) : State :=
  let l := lostRemove s.store.lost sl ns a n
  if l = s.store.lost then s
  else ({ s with store := { s.store with lost := l, lostGen := s.store.lostGen + 1 } }).lostSpill

def State.nsOf (s : State) (sl ns : Nat) : Option Ns := (s.slice sl).bind (fun x => x.nss.find? (·.nsid == ns))

def State.lbafOf (s : State) (sl ns : Nat) : Nat := ((s.nsOf sl ns).map (·.lbaf)).getD 1

/-- Puts something onto the fabric. -/
def State.send (x : Sent) (s : State) : State := { s with fabric := { s.fabric with sent := s.fabric.sent ++ [x] } }

/-- Resync region of a unit: 4,096 units (R158). -/
def regionOf (mu : Nat) : Nat := mu / 4096

/-- A lost unit of a replicated source can be repaired from the replica: reachable, region bit clear (R159). -/
def State.canRepair (s : State) (sl ns mu : Nat) : Bool :=
  ((s.slice sl).map (fun x => x.desc.replicated && x.state != .replica && (x.repl == 1 || x.repl == 2) &&
    !x.resync.contains (ns, regionOf mu))).getD false

/-- What a unit's loss starts on a replicated slice (R159): a source asks its replica for the extent or records event 0x0A, a
replica reports the unit to its source. -/
def State.afterLoss (sl ns mu : Nat) (s : State) : State :=
  match s.slice sl with
  | none => s
  | some x =>
    if x.state == .replica then s.send (.lostReport sl ns mu)
    else if !x.desc.replicated then s
    else if s.canRepair sl ns mu then s.send (.repairRequest sl ns mu)
    else s.capture 0x060A [sl, ns, mu % 2 ^ 32, if x.repl == 1 || x.repl == 2 then 2 else 1]

/-- The lost-units record of a range, its entry in page 0xC5, and what follows of it (R251, R323); `old` is the unit's entry
before. -/
def State.recordLoss (sl ns mu slba nlb cause : Nat) (whole : Bool) (band : Option Nat) (old : MapEntry) (s : State) : State :=
  let r : LostRange := { slice := sl, nsid := ns, slba := slba, nlb := nlb, cause := cause, repair := s.canRepair sl ns mu,
                         band := band }
  let s := s.addLost r
  let s := s.modSlice sl (fun x => { x with lostUnits := x.lostUnits + (if old.lost then 0 else 1) })
  if old.lost && !whole then s else s.afterLoss sl ns mu

/-- LBAs from `a` on, at most `n`, that a namespace has. -/
def State.lbasUpTo (s : State) (sl ns a n : Nat) : Nat := match s.nsOf sl ns with | some x => min n (x.nsze - a) | none => n

/-- Marks a run of `k` map units lost in every LBA, in the form of R181, with one lost-units record and their entries in page 0xC5, which
list no LBA beyond the namespace (R202, R251, R320, R370). -/
def State.loseUnits (sl ns mu k cause : Nat) (band : Option Nat) (s : State) : State :=
  let n := s.unitLbas (s.lbafOf sl ns)
  let s := s.jwrite (.lostUnits sl ns k mu (mu * n) (k * n) true)
  (List.range k).foldl (fun s i =>
    let old := s.entryAt sl ns (mu + i)
    let a := (mu + i) * n
    (s.setEntry sl ns (mu + i) { loc := .gone, lost := true }).recordLoss sl ns (mu + i) a (s.lbasUpTo sl ns a n) cause true band old) s

/-- One unit lost in every LBA. -/
def State.loseUnit (sl ns mu cause : Nat) (band : Option Nat) (s : State) : State := s.loseUnits sl ns mu 1 cause band

/-- Marks some LBAs of a raw unit lost: the entry keeps GRANULE and LEN and sets LOST (R251 step 2). -/
def State.losePart (sl ns mu slba nlb cause : Nat) (band : Option Nat) (s : State) : State :=
  let s := s.jwrite (.lostUnits sl ns 1 mu slba nlb false)
  let old := s.entryAt sl ns mu
  let s := s.setEntry sl ns mu { old with lost := true }
  s.recordLoss sl ns mu slba nlb cause false band old

/-! ### What the map holds of a unit -/

def State.bufAt (s : State) (off : Nat) : Option BufExt := s.store.buf.find? (·.off == off)

def State.placedAt (s : State) (gran : Nat) (landing : Bool) : Option Placed :=
  s.store.placed.find? (fun x => x.gran == gran && x.landing == landing)

/-- The extent an entry names (R181). -/
def State.extentOf (s : State) (e : MapEntry) : Option Extent :=
  match e.loc with
  | .dealloc | .gone => none
  | .buffered o => (s.bufAt o).map (·.x)
  | .band g => (s.placedAt g false).map (·.x)
  | .landing g => (s.placedAt g true).map (·.x)

/-- Content of a unit by LBA: the extent's original, or what a deallocated LBA reads as (R181, R187, R201). -/
def State.unitContent (s : State) (sl ns mu : Nat) : List Lba :=
  let lbaf := s.lbafOf sl ns
  match s.extentOf (s.entryAt sl ns mu) with
  | some x => x.orig
  | none => List.replicate (s.unitLbas lbaf) (zeroLba lbaf)

/-- Band an entry's extent lies in. -/
def State.bandOf (s : State) (e : MapEntry) : Option Nat :=
  match e.loc with
  | .band g => (s.placedAt g false).map (·.band)
  | .landing g => (s.placedAt g true).map (·.band)
  | _ => none

/-- A placed extent is valid: the map names its location (R188, R222). -/
def State.isValid (s : State) (p : Placed) : Bool :=
  (s.entryAt p.slice p.nsid p.mu).loc == (if p.landing then Loc.landing p.gran else Loc.band p.gran)

/-- Valid granules of a band (R222, R223). -/
def State.validGran (s : State) (b : Nat) : Nat :=
  sumBy (s.store.placed.filter (fun p => p.band == b && s.isValid p)) (·.len)

/-- Extents of a band that the map names. -/
def State.validIn (s : State) (b : Nat) : List Placed := s.store.placed.filter (fun p => p.band == b && s.isValid p)

/-! ### Staging and superseding (R185, R188, R209) -/

/-- The buffer extent a newer staging or deallocation replaces: FREE if STAGED and unpinned, else flagged (R185). -/
def State.supersede (old : MapEntry) (s : State) : State :=
  match old.loc with
  | .buffered o =>
    let l := sweepBuf (modFirst s.store.buf (fun b => b.off == o && !b.superseded) (fun b => { b with superseded := true }))
    { s with store := { s.store with buf := l } }
  | _ => s

/-- The map takes a new entry for a unit, superseding what it named (R187, R188). -/
def State.stageEntry (sl ns mu : Nat) (e : MapEntry) (s : State) : State :=
  (s.supersede (s.entryAt sl ns mu)).setEntry sl ns mu e

/-- Deallocates a unit (R199, R200, R202): its lost LBAs leave the list. -/
def State.deallocUnit (sl ns mu : Nat) (s : State) : State :=
  let n := s.unitLbas (s.lbafOf sl ns)
  let s := if (s.entryAt sl ns mu).lost then s.removeLost sl ns (mu * n) n else s
  s.stageEntry sl ns mu {}

/-- A granule offset of the write buffer at which `len` granules are free in both copies (R184): 16,777,216 granules. -/
def State.bufFree (s : State) (off len : Nat) : Bool :=
  off + len ≤ 16777216 && s.store.buf.all (fun b => b.off + b.len ≤ off || off + len ≤ b.off)

end Sys2Proof.Machine
end

