-- ==== Sys2Proof/Machine/Metering.lean ====
section
/-! DEFINITION. Metering of the slices: the millisecond sums, the minute switch of the banks and its snapshots (R167 to
R169). -/

namespace Sys2Proof.Machine

open Sys2Proof

/-- Granules that hold a slice's extents: those the map names (R167). -/
def State.allocGran (s : State) (n : Nat) : Nat :=
  sumBy (s.store.map.filter (·.slice == n)) (fun c =>
    match c.e.loc with
    | .dealloc | .gone => 0
    | _ => s.entryLen (s.lbafOf c.slice c.nsid) c.e)

/-- Granules of namespace size of a slice (R167). -/
def provGran (x : SliceS) : Nat := sumBy x.nss (fun n => n.nsze * lbaSize n.lbaf / 512)

/-- Controllers of a slice. -/
def State.ctrlCount (s : State) (n : Nat) : Nat := (s.eng.ctrls.filter (fun c => c.isTenant && c.slice == n)).length

/-- `ms` milliseconds of the three integral counters of every slice (R167). -/
def State.meterMs (ms : Nat) (s : State) : State :=
  s.slices.list.foldl (fun s x =>
    ((s.meterAdd x.num 7 (ms * s.allocGran x.num)).meterAdd x.num 8 (ms * provGran x)).meterAdd x.num 14
      (ms * s.ctrlCount x.num)) s

/-- Sums of two counter rows. -/
def addRows (a b : List Nat) : List Nat := (a.zip b).map (fun x => x.1 + x.2)

/-- A slice's meter after its banks switch: one snapshot more, at most 120 kept (R168). -/
def Meter.switch (m : Meter) (hours ms pcycle : Nat) (part : Bool) : Meter :=
  let d := if m.sel then m.bank1 else m.bank0
  let z := List.replicate 16 0
  let n : Snap := { seq := m.seq + 1, hours := hours, ms := ms, pcycle := pcycle, partMin := part, migrated := m.migrated,
                    deltas := d }
  { m with totals := addRows m.totals d, sel := !m.sel, seq := m.seq + 1, snaps := (n :: m.snaps).take 120,
           bank0 := if m.sel then m.bank0 else z, bank1 := if m.sel then z else m.bank1, migrated := false }

end Sys2Proof.Machine

namespace Sys2Proof.Machine

open Sys2Proof

/-- One Seed minute tick of the meters, `ago` ms before now: every bank of every slice switches at once; the totals are written to
the journal with the Seed counters (R168, R169, R170, R444). -/
def State.meterTick (part : Bool) (ago : Nat) (s : State) : State :=
  let t := s.opMs - ago
  let l := s.slices.list.map (fun x => { x with meter := x.meter.switch (t / 3600000) (t % 3600000) s.seed.pcycle part })
  let s := { s with slices := { s.slices with list := l } }
  let s := s.jwrite (.totals s.seed.hours s.seed.us s.seed.pcycle)
  let j := s.journal
  { s with journal := { j with totals := s.slices.list.map (fun x => (x.num, x.meter.totals)),
                               snaps := s.slices.list.filterMap (fun x => x.meter.snaps.head?.map (fun n => (x.num, n))),
                               savedSeed := some (s.seed.hours, s.ms, s.seed.pcycle) } }

end Sys2Proof.Machine
end

