-- ==== Sys2Proof/Machine/BandOps.lean ====
section
/-! DEFINITION. Forming, choosing, closing and re-forming bands, the GC regimes, block retirement and member states of dies. -/

namespace Sys2Proof.Machine

open Sys2Proof

/-! ### Totals of log page 0xC0 (R254), by position from HOST_GRAN -/

/-- Adds to total `i` of page 0xC0: 0 HOST_GRAN, 1 RELOC_GRAN, 2 MAP_GRAN, 3 BANDS_MOVED, 4 ERASES, 5 SUSPENDS,
6 RE_ERASES, 7 PROGRAM_FAILS, 8 ERASE_FAILS, 9 RETIRED, 10 PATROL_CW, 11 PATROL_LAPS, 12 REFRESH_RET, 13 REFRESH_RD,
14 REFRESH_BER, 15 UNREQ_UNC, 16 UNREQ_FIXED, 17 UNREQ_LOST, 18 ORPHANS, 19 URGENT_MS, 20 HELD_MS. -/
def State.health (i n : Nat) (s : State) : State :=
  { s with upkeep := { s.upkeep with totals := modNth s.upkeep.totals i (· + n) } }

/-! ### Map bands -/

/-- Identity of the directory page that holds the locations of a map page and its 511 neighbours, of a map page or of the band
metadata as the map stream writes them (R189, R211, R223; assumption 90). -/
def dirPage (pg : Nat × Nat × Nat) : Nat × Nat × Nat := (pg.1 + 65536, pg.2.1, pg.2.2 / 512)
def metaPage : Nat × Nat × Nat := (131072, 0, 0)

/-- A page is a map page; a directory page. -/
def isMapPage (pg : Nat × Nat × Nat) : Bool := decide (pg.1 < 65536)
def isDirPage (pg : Nat × Nat × Nat) : Bool := decide (65536 ≤ pg.1) && decide (pg.1 < 131072)

def PageAt.id (p : PageAt) : Nat × Nat × Nat := (p.slice, p.nsid, p.page)

/-- Pages of the map stream that lie in a band and that a root names or may come to name. -/
def Store.pagesIn (st : Store) (b : Nat) : List PageAt := (st.pagesAt ++ st.writtenPages ++ st.namedPages).filter (·.band == b)

/-- Valid granules, pages of the map stream counted for map bands: 8 granules each (R211, R222, R228). -/
def State.validAll (s : State) (b : Nat) : Nat := s.validGran b + 8 * (s.store.pagesIn b).length

/-! ### Regimes (R230, R231) -/

/-- u of a band: valid and data granules (R225). -/
def State.bandU (s : State) (b : Band) : Nat × Nat := (s.validAll b.num, max 1 (s.bandGran b))

/-- Minutes since a band closed. -/
def State.bandAge (s : State) (b : Band) : Nat := s.opMin - b.closedMin

/-- Score (1 − u) × age ÷ (1 + u) as a fraction (R225). -/
def State.score (s : State) (b : Band) : Nat × Nat :=
  let (v, d) := s.bandU b
  ((d - v) * s.bandAge b, d + v)

/-- The class 4 victim: greatest score, or least u in the urgent regime; ties to the lower number (R225). -/
def State.gcVictim (s : State) : Option Band :=
  let l := s.upkeep.bands.filter (fun b => b.st == .full && (b.kind == .native || b.kind == .map))
  l.foldl (fun best b =>
    match best with
    | none => some b
    | some a =>
      let better := if s.upkeep.regime != .urgent then fracLt (s.score a) (s.score b) || (!fracLt (s.score b) (s.score a) && b.num < a.num)
        else fracLt (s.bandU b) (s.bandU a) || (!fracLt (s.bandU a) (s.bandU b) && b.num < a.num)
      if better then some b else some a) none

/-- The class 4 victim an engine moves now, else the one it would take next (R231). -/
def State.currentVictim (s : State) : Option Band :=
  match s.upkeep.bands.find? (fun b => b.st == .victim && b.moveKind == 1) with
  | some b => some b
  | none => s.gcVictim

/-- H of R231 in parts per million; none is unlimited. -/
def State.hostLimit (s : State) : Option Nat :=
  match s.currentVictim with
  | none => none
  | some b =>
    let (v, d) := s.bandU b
    if v = 0 then none
    else some ((d - v) * (s.freeCount - s.freeCrit) * 1000000 / (v * max 1 (s.freeLow - s.freeCrit)))

/-- The regime by the free count; urgent and held are left only at FREE_LOW (R230). -/
def State.regimeFor (s : State) : Regime :=
  let f := s.freeCount
  if f ≥ s.freeLow then .normal
  else if f < s.freeCrit then .held
  else if s.upkeep.regime == .held then .held else .urgent

/-- Takes the regime the free count gives, with its event and the time spent (R230, R254, R257). -/
def State.setRegime (s : State) : State :=
  let r := s.regimeFor
  let o := s.upkeep.regime
  if r = o then s
  else
    let dur := s.since s.upkeep.regimeAt / 1000
    let s := if o = .urgent then s.health 19 dur else if o = .held then s.health 20 dur else s
    let u := { s.upkeep with regime := r, hPpm := s.hostLimit, hostSince := 0, relocSince := 0,
                             regimeAt := s.seed.now }
    let s := { s with upkeep := u }
    match r with
    | .urgent =>
      let m := ((s.gcVictim.map s.bandU).map (fun x => x.1 * 1000 / x.2)).getD 0
      s.capture 0x0801 [s.freeCount, s.freeLow, m]
    | .held => s.capture 0x0802 [s.freeCount, s.freeCrit,
        (s.upkeep.bands.filter (fun b => b.st == .erasePending || b.st == .erasing)).length]
    | .normal => s.capture 0x0803 [s.freeCount, dur]

/-! ### Write-path parameters (R219, R498) -/

/-- A record of the configuration in force: a live value stands over the image's. -/
def State.cfgFind {α : Type} (s : State) (f : ImgRecord → Option α) : Option α :=
  match s.cfg.live.findSome? f with
  | some x => some x
  | none => s.cfg.image.records.findSome? f

/-- PAD_IDLE_MS, PSLC_EN and JRNL_HIGH_PCT of the ARRAY record, or their defaults (R219). -/
def State.arrayParams (s : State) : Nat × Nat × Nat :=
  (s.cfgFind (fun r => match r with | .array _ _ _ _ a b c => some (a, b, c) | _ => none)).getD (2000, 1, 75)

def State.padIdleMs (s : State) : Nat := s.arrayParams.1
def State.pslcEn (s : State) : Bool := s.arrayParams.2.1 == 1
def State.jrnlHigh (s : State) : Nat := s.arrayParams.2.2

/-! ### pSLC size (R203, R204) -/

/-- Free fraction in hundredths of a percent: the data capacity of R218 less the granules of valid extents (R203, R229). -/
def State.freeFrac (s : State) : Nat :=
  let data := s.dataGran
  let used := sumBy (s.store.placed.filter s.isValid) (·.len)
  if data = 0 then 10000 else (data - min data used) * 10000 / data

/-- Rows of R203: lower bound of f in hundredths of a percent, size in GiB. -/
def pslcRows : List (Nat × Nat) := [(4000, 1024), (3000, 768), (2000, 512), (1500, 256), (1000, 128), (0, 16)]

/-- The size a free fraction gives, with steps up only at 2 points above a row's bound (R204). -/
def pslcSize (cur f : Nat) : Nat :=
  let down := ((pslcRows.find? (fun r => r.1 ≤ f)).map (·.2)).getD 16
  if down < cur then down
  else ((pslcRows.find? (fun r => r.2 ≤ cur || r.1 + 200 < f)).map (fun r => max cur r.2)).getD cur

/-- Data size of the pSLC buffer in granules: none while PSLC_EN is clear (R204, R219). -/
def State.pslcGoal (s : State) : Nat := if s.pslcEn then s.store.pslcGib * 2097152 else 0

/-- ERASED pSLC bands above the size are released to native use (R204). -/
def State.trimPslc (s : State) : State :=
  (s.upkeep.bands.filter (fun b => b.kind == .pslc && b.st == .erased)).foldl (fun s b =>
    let total := sumBy (s.upkeep.bands.filter (fun b => b.kind == .pslc)) s.bandGran
    if s.pslcGoal + s.bandGran b ≤ total then s.modBand b.num (fun x => { x with kind := .native }) else s) s

/-- Takes the pSLC size that the fill gives; each step records event 0x08 of the write path (R204). -/
def State.setPslc (s : State) : State :=
  let f := s.freeFrac
  let n := pslcSize s.store.pslcGib f
  if n = s.store.pslcGib || s.array.arrayId.isNone then s
  else (({ s with store := { s.store with pslcGib := n } }).trimPslc).capture 0x0708 [n, f / 100]

/-! ### Forming bands (R303, R306, R317) -/

/-- Bands a die belongs to. -/
def State.bandsOfDie (s : State) (d g : Nat) : Nat :=
  (s.upkeep.bands.filter (fun b => b.members.any (fun m => m.die == d && m.gen == g))).length

/-- Bands with a valid extent and a member on the die. -/
def State.validBandsOfDie (s : State) (d g : Nat) : List Band :=
  s.upkeep.bands.filter (fun b => b.members.any (fun m => m.die == d && m.gen == g) && s.validAll b.num != 0)

/-- The online die of a carrier that belongs to the fewest bands, lowest index first (R303). -/
def State.leastDie (s : State) (k : Nat) : Option Die :=
  let l := s.array.dies.filter (fun x => !x.old && dieCar x.idx == k && (x.st == 1 || x.st == 2) && !x.refused)
  l.foldl (fun best x =>
    match best with
    | none => some x
    | some a =>
      let ca := s.bandsOfDie a.idx a.gen
      let cx := s.bandsOfDie x.idx x.gen
      if cx < ca || (cx == ca && x.idx < a.idx) then some x else some a) none

/-- The lowest block of a die that no band and no retirement holds and that lies outside the reserve (R221, R237). -/
def State.freeBlock (s : State) (d : Die) : Option Nat :=
  let n := ((s.carrier (dieCar d.idx)).facts.map (·.eeprom.blocks)).getD 0
  (List.range (n - d.reserve)).find? (fun b =>
    !(s.block d.idx b).retired &&
    !s.upkeep.bands.any (fun x => x.members.any (fun m => m.die == d.idx && m.gen == d.gen && m.block == b)))

/-- The reserve block that replaces a retired one: the lowest not retired and in no band, from the top of the die. -/
def State.reserveBlock (s : State) (d : Die) : Option Nat :=
  if d.reserve = 0 then none
  else
    let n := ((s.carrier (dieCar d.idx)).facts.map (·.eeprom.blocks)).getD 0
    (List.range d.reserve).findSome? (fun i =>
      let b := n - d.reserve + i
      if (s.block d.idx b).retired ||
         s.upkeep.bands.any (fun x => x.members.any (fun m => m.die == d.idx && m.gen == d.gen && m.block == b))
      then none else some b)

/-- Insertion of a carrier by its least-loaded die's bands, then slot. -/
def carOrder (l : List (Nat × Nat)) (x : Nat × Nat) : List (Nat × Nat) :=
  match l with
  | [] => [x]
  | y :: t => if x.2 < y.2 || (x.2 == y.2 && x.1 < y.1) then x :: y :: t else y :: carOrder t x

/-- Carriers for a new band, those whose least-loaded dies belong to the fewest bands first (R303). -/
def State.carChoice (s : State) (skip : List Nat) : List Nat :=
  ((s.usable.filter (fun k => !skip.contains k)).foldl (fun l k =>
    match s.leastDie k with
    | some d => if (s.freeBlock d).isSome then carOrder l (k, s.bandsOfDie d.idx d.gen) else l
    | none => l) []).map (·.1)

/-- Number the next band takes. -/
def State.nextBand (s : State) : Nat := s.upkeep.bands.foldl (fun a b => max a (b.num + 1)) 0

/-- A newly formed band of a kind on n = D + P distinct carriers, members in ascending slot order; none when it cannot be
formed (R303, R306). -/
def State.newBand (s : State) (num : Nat) (kind : BandKind) : Option Band :=
  let (d, p) := s.geomAt num
  match s.dForce d p with
  | none => none
  | some df =>
    let cars := (s.carChoice []).take (df + p)
    if cars.length < df + p then none
    else
      let slots := (List.range 16).filter cars.contains
      let ms := slots.filterMap (fun k => (s.leastDie k).bind (fun x =>
        (s.freeBlock x).map (fun b => ({ die := x.idx, gen := x.gen, block := b } : Member))))
      some { num := num, kind := kind, d := df, p := p, members := ms }

/-- Erased data capacity of the landing zone asked for: 7.5 GiB in granules (R205). -/
def landingGoal : Nat := 15728640

/-- Data capacity of the landing zone, erased or not. -/
def State.landingCap (s : State) : Nat := sumBy (s.upkeep.bands.filter (·.kind == .landing)) s.bandGran

/-- Kind the next formed band takes: landing until the landing zone holds 7.5 GiB, then pSLC up to its size, then native (R203,
R205). -/
def State.kindWanted (s : State) : BandKind :=
  let pslc := sumBy (s.upkeep.bands.filter (fun b => b.kind == .pslc)) s.bandGran
  if s.landingCap < landingGoal then .landing
  else if pslc < s.pslcGoal then .pslc
  else .native

/-- Forms ERASED bands from erased blocks while any can be formed, at most `fuel` of them (R229, R303, R340). -/
def State.formBands (s : State) : Nat → State
  | 0 => s
  | fuel + 1 =>
    match s.newBand s.nextBand s.kindWanted with
    | none => s
    | some b => State.formBands { s with upkeep := { s.upkeep with bands := s.upkeep.bands ++ [b] } } fuel

/-- The member that replaces one on a failed or rebuilding die when its band is re-formed (R317 steps 1 and 2). -/
def State.replacement (s : State) (b : Band) (m : Member) : Option Member :=
  let pick (k : Nat) : Option Member :=
    (s.leastDie k).bind (fun x => (s.freeBlock x).map (fun n => { die := x.idx, gen := x.gen, block := n }))
  let own := if s.usable.contains (dieCar m.die) then pick (dieCar m.die) else none
  match own with
  | some x => some x
  | none => ((s.carChoice (b.members.map (fun y => dieCar y.die))).head?).bind pick

/-- Re-forms an erased band without its failed or rebuilding dies (R317). -/
def State.reform (num : Nat) (s : State) : State :=
  match s.band num with
  | none => s
  | some b =>
    let ms := b.members.map (fun m => if s.memDown m then s.replacement b m else some m)
    if ms.all (·.isSome) then s.modBand num (fun x => { x with members := ms.filterMap id })
    else
      -- step 3: the geometry in force, with fewer data members
      let (d, p) := s.geomAt num
      match s.dForce d p with
      | some df => s.modBand num (fun x => { x with members := (ms.filterMap id).take (df + p), d := df, p := p })
      | none => s.modBand num (fun x => { x with members := ms.filterMap id, closed := true })

/-- Re-forms an ERASED band in the geometry its number takes, as a new one (R329). -/
def State.reformNew (num : Nat) (s : State) : State :=
  match s.band num with
  | none => s
  | some b =>
    let s0 := { s with upkeep := { s.upkeep with bands := s.upkeep.bands.filter (·.num != num) } }
    match s0.newBand num b.kind with
    | some nb => s.modBand num (fun _ => nb)
    | none => s

/-- An ERASED landing band whose geometry is no longer the one in force is formed anew in that one (R205). -/
def State.reformLanding (s : State) : State :=
  (s.upkeep.bands.filter (fun b => b.kind == .landing && b.st == .erased)).foldl (fun s b =>
    let g := s.geomAt b.num
    if (s.dForce g.1 g.2).any (fun d => d != b.d || g.2 != b.p) then s.reformNew b.num else s) s

/-- Erased native bands become landing bands, in the geometry in force, until the landing zone holds 7.5 GiB again; nothing is done
before it has bands (R205). -/
def State.fillLanding (s : State) : State :=
  if s.upkeep.bands.all (·.kind != .landing) then s
  else
    (s.upkeep.bands.filter (fun b => b.kind == .native && b.st == .erased)).foldl (fun s b =>
      if s.landingCap < landingGoal then (s.modBand b.num (fun x => { x with kind := .landing })).reformNew b.num else s) s

/-- ERASED bands with a failed or rebuilding member are formed again without it, and the landing zone anew (R205, R317;
assumption 17). -/
def State.reformErased (s : State) : State :=
  let s := (s.upkeep.bands.filter (fun b => b.st == .erased && b.members.any s.memDown)).foldl (fun s b => s.reform b.num) s
  s.reformLanding.fillLanding

/-! ### Bands that empty (R222) -/

/-- A maintenance engine whose victim has emptied is idle again. -/
def Upkeep.freeEngine (u : Upkeep) (num : Nat) : Upkeep :=
  { u with jobs := (u.jobs.zip u.moving).map (fun x => if x.2 == some num then 0 else x.1),
           moving := u.moving.map (fun m => if m == some num then none else m) }

/-- A band whose valid count has reached zero becomes ERASE_PENDING, once no stripe of it is gathering or flushing. -/
def State.settleBand (b : Band) (s : State) : State :=
  if (b.st == .full || b.st == .victim) && s.validAll b.num == 0 && !s.store.stripes.any (·.band == b.num) then
    let s := s.modBand b.num (fun x => { x with st := .erasePending, reqs := [] })
    let s := { s with upkeep := s.upkeep.freeEngine b.num }
    if b.st == .victim then s.health 3 1 else s
  else s

/-- Every band that has emptied. -/
def State.settleBands (s : State) : State := s.upkeep.bands.foldl (fun s b => s.settleBand b) s

/-! ### Rebuild set and periods (R314, R319) -/

/-- Failed or rebuilding dies of any generation. -/
def State.downDies (s : State) : Nat := (s.array.dies.filter (fun x => x.st == 3 || x.st == 4)).length

/-- Bands of the rebuild set (R314). -/
def State.rebuildSet (s : State) : List Band :=
  s.upkeep.bands.filter (fun b => b.members.any s.memDown && s.validAll b.num != 0 && b.st != .erased)

/-- A rebuild period begins when a die becomes failed or rebuilding while none is (R319). -/
def State.beginPeriod (s : State) : State :=
  match s.upkeep.rebuildAt with
  | some _ => s
  | none =>
    let u := { s.upkeep with rebuildAt := some s.seed.now, rebuildBands := 0, rebuildBytes := 0, rebuildLost := 0 }
    { s with upkeep := u }

/-- Dies leave rebuilding when no band with valid extents includes them: released, or absent when the carrier is gone
(R309, R319); the period ends, with event 0x05, when no die is failed or rebuilding. -/
def State.settleDies (s : State) : State :=
  let dies := s.array.dies.map (fun x =>
    if x.st == 4 && (s.validBandsOfDie x.idx x.gen).isEmpty then
      { x with st := if x.old || !(s.carrier (dieCar x.idx)).present then 0 else 5 }
    else if x.st == 3 && (x.old || !(s.carrier (dieCar x.idx)).present) && (s.validBandsOfDie x.idx x.gen).isEmpty then { x with st := 0 }
    else x)
  let s := { s with array := { s.array with dies := dies } }
  match s.upkeep.rebuildAt with
  | some t =>
    if s.downDies = 0 then
      let u := s.upkeep
      let s := { s with upkeep := { u with rebuildAt := none, setBytes := 0, noSpace := false } }
      s.capture 0x0A05 [u.rebuildBands, u.rebuildBytes / 2 ^ 30, s.since t / 1000000, u.rebuildLost]
    else s
  | none => s

/-- Carrier state after a change of its dies: online, or degraded while one is failed or rebuilding (R337). -/
def State.settleCarrier (k : Nat) (s : State) : State :=
  let bad := s.array.dies.any (fun x => !x.old && dieCar x.idx == k && (x.st == 3 || x.st == 4))
  s.modCarrier k (fun c => if c.st == 5 || c.st == 6 then { c with st := if bad then 6 else 5 } else c)

/-! ### Member states (R308, R309, R344) -/

/-- The member-state record of a change (R344). -/
def State.memberRec (slot cause die st : Nat) (direct : Bool) (s : State) : State :=
  s.jwrite (.member slot cause die st direct s.array.epoch s.array.members)

/-- STR_CNT_MOVED_GIB: whole GiB moved, a part carries over (R354). -/
def State.movedBytes (n : Nat) (s : State) : State :=
  let t := s.upkeep.gibPart + n
  let s := { s with upkeep := { s.upkeep with gibPart := t % 2 ^ 30 } }
  if t / 2 ^ 30 = 0 then s else s.bump Reg.STR_CNT_MOVED_GIB (t / 2 ^ 30)

/-! ### Granules lost (R251 step 2, R320) -/

/-- Consecutive numbers of a rising list as runs (first, count). -/
def runs (l : List Nat) : List (Nat × Nat) :=
  l.foldr (fun x acc =>
    match acc with
    | (a, n) :: t => if x + 1 = a then (x, n + 1) :: t else (x, 1) :: (a, n) :: t
    | [] => [(x, 1)]) []

/-- LBAs of a raw extent's unit with a data or metadata byte in the extent's granules `gs` (R174, R251, R361). -/
def State.lbasIn (s : State) (lbaf : Nat) (gs : List Nat) : List Nat :=
  let b := lbaSize lbaf
  let u := s.unitBytes
  let hit (a n : Nat) : Bool := gs.any (fun g => a < 512 * g + 512 && 512 * g < a + n)
  (List.range (s.unitLbas lbaf)).filter (fun i =>
    hit (16 + i * b) b || (lbaf == 2 && hit (16 + u + 8 * i) 8))

/-- A number entered in a rising list. -/
def insNat (x : Nat) : List Nat → List Nat
  | [] => [x]
  | y :: t => if x ≤ y then x :: y :: t else y :: insNat x t

/-- A list in rising order. -/
def sortNat (l : List Nat) : List Nat := l.foldr insNat []

/-- Marks lost what lies in the granules given of each extent of a band: whole units of compressed extents, in runs, and the LBAs there
of raw ones, whose granules copies will hold as zeroes (R251 step 2). Answers the runs of units and the units lost in part, as (slice,
NSID, first unit, count). -/
def State.loseExtents (band cause : Nat) (l : List (Placed × List Nat)) (s : State) : List (Nat × Nat × Nat × Nat) × State :=
  let l := l.filter (fun x => !x.2.isEmpty && s.isValid x.1)
  let whole := l.filter (·.1.x.compressed)
  let keys := (whole.map (fun x => (x.1.slice, x.1.nsid))).dedup
  let rs := keys.flatMap (fun k =>
    (runs (sortNat ((whole.filter (fun x => x.1.slice == k.1 && x.1.nsid == k.2)).map (·.1.mu)))).map (fun r => (k.1, k.2, r.1, r.2)))
  let s := rs.foldl (fun s r => s.loseUnits r.1 r.2.1 r.2.2.1 r.2.2.2 cause (some band)) s
  let raw := l.filter (!·.1.x.compressed)
  let part (s : State) (x : Placed × List Nat) : State :=
    let p := x.1
    let lbaf := s.lbafOf p.slice p.nsid
    let n := s.unitLbas lbaf
    let mark (q : Placed) : Placed := { q with bad := (q.bad ++ x.2).dedup }
    let st := { s.store with placed := modAll s.store.placed (fun q => q.gran == p.gran && q.landing == p.landing) mark }
    (runs (s.lbasIn lbaf x.2)).foldl (fun s r =>
      let a := p.mu * n + r.1
      s.losePart p.slice p.nsid p.mu a (s.lbasUpTo p.slice p.nsid a r.2) cause (some band)) { s with store := st }
  (rs ++ raw.map (fun x => (x.1.slice, x.1.nsid, x.1.mu, 1)), raw.foldl part s)

/-- Extent granules that lie in member index `mem`, codeword `cw` of it. -/
def State.granIn (s : State) (p : Placed) (mem cw : Nat) : List Nat :=
  match s.band p.band with
  | none => []
  | some b =>
    let mg := max 1 (s.bandMem b)
    (List.range p.len).filter (fun i => (p.off + i) / mg == mem && (p.off + i) % mg / 8 == cw)

/-! ### Losses beyond redundancy (R320) -/

/-- Extent granules on data members that cannot be read directly. -/
def State.unreadGran (s : State) (b : Band) (p : Placed) : List Nat :=
  let mg := max 1 (s.bandMem b)
  (List.range p.len).filter (fun i =>
    match b.memberAt p.stripe ((p.off + i) / mg) with
    | none => false
    | some m => !s.direct m)

/-- The loss of an extent's granules is not marked yet. -/
def State.fresh (s : State) (p : Placed) (gs : List Nat) : Bool :=
  !gs.isEmpty &&
  (p.x.compressed ||
    (let lbaf := s.lbafOf p.slice p.nsid
     let n := s.unitLbas lbaf
     (s.lbasIn lbaf gs).any (fun i => !s.lbaLost p.slice p.nsid (p.mu * n + i))))

/-- A band with more unreadable members than P loses what lies on unreadable data members (R320). -/
def State.loseBand (b : Band) (s : State) : State :=
  if s.unreadable b ≤ b.p then s
  else
    let un := s.unreadable b
    (List.range b.nextStripe).foldl (fun s st =>
      let l := (s.validIn b.num).filter (fun p => p.stripe == st && s.fresh p (s.unreadGran b p))
      if l.isEmpty then s
      else
        let s := (s.loseExtents b.num 1 (l.map (fun p => (p, s.unreadGran b p)))).2
        let u := { s.upkeep with rebuildLost := s.upkeep.rebuildLost + l.length }
        ({ s with upkeep := u }).capture 0x0A07 [b.num, st, l.length, un]) s

/-- Every band that has more unreadable members than its parity recovers loses what they held, at once (R39, R320). -/
def State.loseBeyond (s : State) : State := s.upkeep.bands.foldl (fun s b => s.loseBand b) s

end Sys2Proof.Machine
end

