-- ==== Sys2Proof/Machine/StripeOps.lean ====
section
/-! DEFINITION. Gather streams and their stripes: choosing bands, placing, padding, flushing, committing and voiding; slow and
failed dies, retired blocks, lost granules. -/

namespace Sys2Proof.Machine

open Sys2Proof

/-! ### Durable records (R194, R326) -/

/-- Writes a record that must be durable before the step goes on: with a journal area in use its group is programmed within
the step (assumption 14). -/
def State.jsync (b : RecBody) (s : State) : State :=
  let s := s.jwrite b
  if s.journal.areaActive then { s with journal := s.journal.groupDone } else s

/-! ### Bands of a stream (R189, R203, R242, R306, R330) -/

/-- A band that a stream may open: erased, whole, and with no failed or rebuilding member. -/
def State.openable (s : State) (b : Band) : Bool :=
  b.st == .erased && !b.closed && b.members.length == b.d + b.p && !b.members.any s.memDown

/-- The band of a list with the lowest or, for `high`, the highest wear fraction; ties to the lower number (R242). -/
def State.byWear (s : State) (high : Bool) (l : List Band) : Option Band :=
  l.foldl (fun best b =>
    match best with
    | none => some b
    | some a =>
      let lt := if high then fracLt (s.bandWear a) (s.bandWear b) else fracLt (s.bandWear b) (s.bandWear a)
      let gt := if high then fracLt (s.bandWear b) (s.bandWear a) else fracLt (s.bandWear a) (s.bandWear b)
      if lt || (!gt && b.num < a.num) then some b else some a) none

/-- During a reshape the streams take bands below the boundary first (R330). -/
def State.belowFirst (s : State) (l : List Band) : List Band :=
  match s.array.reshape with
  | none => l
  | some (_, _, b, _) =>
    let lo := l.filter (·.num < b)
    if lo.isEmpty then l else lo

/-- The ERASED band a stream takes next: host pSLC bands first, then native ones with the lowest wear; relocation the native
one with the highest; the map stream a native one with the lowest (assumption 15); landing the lowest number. -/
def State.eraseChoice (s : State) (stream : Nat) : Option Band :=
  let l := s.upkeep.bands.filter s.openable
  let native := l.filter (·.kind == .native)
  let pslc := if s.pslcEn then l.filter (·.kind == .pslc) else []
  match stream with
  | 0 => s.byWear false (s.belowFirst (if pslc.isEmpty then native else pslc))
  | 1 => s.byWear true (s.belowFirst native)
  | 2 => s.byWear false (s.belowFirst native)
  | _ => (l.filter (·.kind == .landing)).head?

/-- The OPEN band a stream is placing in, with a stripe left. -/
def State.openBandOf (s : State) (stream : Nat) : Option Band :=
  s.upkeep.bands.find? (fun b => b.st == .opened && b.stream == stream && !b.closed && b.nextStripe < s.bandStripes b)

/-- The stripe a stream is filling. -/
def State.openOf (s : State) (stream : Nat) : Option Stripe :=
  s.store.stripes.find? (fun t => t.stream == stream && !t.flushing)

def State.stripe (s : State) (b n : Nat) : Option Stripe :=
  s.store.stripes.find? (fun t => t.band == b && t.stripe == n)

def State.modStripe (b n : Nat) (f : Stripe → Stripe) (s : State) : State :=
  { s with store := { s.store with stripes := modFirst s.store.stripes (fun t => t.band == b && t.stripe == n) f } }

/-- A stripe ends; its punnets go back to the pool (R30, R386). -/
def State.dropStripe (b n : Nat) (s : State) : State :=
  let l := (s.store.stripes.filter (fun t => t.band == b && t.stripe == n)).flatMap (·.chain)
  let s := if l.isEmpty then s else s.freeChain l
  { s with store := { s.store with stripes := s.store.stripes.filter (fun t => !(t.band == b && t.stripe == n)) } }

/-- What a stripe's programs have left on flash stays until its band is erased (R182, R270). -/
def State.onFlash (t : Stripe) (committed : Bool) (s : State) : State :=
  let inPgs (c : MapCell) : Bool := t.pages.contains (c.slice, c.nsid, pageOf c.mu)
  let all := List.range (t.d + t.p)
  let x := { t with flushing := false, committed := committed, chain := [], passed := if committed then all else t.passed,
                    cells := if t.pages.isEmpty then [] else s.store.map.filter inPgs }
  if x.passed.isEmpty then s else { s with store := { s.store with flash := s.store.flash ++ [x] } }

/-- Opens the next stripe of a stream, taking an ERASED band when no OPEN one has a stripe left; unchanged when there is no
band for it. -/
def State.openStripe (stream kind : Nat) (s : State) : State :=
  let pick := match s.openBandOf stream with | some b => some b | none => s.eraseChoice stream
  match pick with
  | none => s
  | some b =>
    if s.bandStripes b ≤ b.nextStripe then s
    else
      let k := if stream = 2 then BandKind.map else b.kind
      let s1 := s.modBand b.num (fun x => { x with st := .opened, stream := stream, kind := k,
                                                   nextStripe := x.nextStripe + 1 })
      let t : Stripe := { stream := stream, band := b.num, stripe := b.nextStripe, d := b.d, p := b.p, kind := kind,
                          firstAt := s.seed.now, lastAt := s.seed.now }
      { s1 with store := { s1.store with stripes := s1.store.stripes ++ [t] } }

/-- Granules an open stripe has left. -/
def State.stripeRoom (s : State) (t : Stripe) : Nat :=
  match s.band t.band with
  | none => 0
  | some b => s.stripeGran b - (t.fill + t.pad)

/-- Places `len` granules in the stream's open stripe, `add` entering them at the write point; answers whether it was placed.
What does not fit closes the stripe with pad granules, since an extent never crosses into another stripe (R182); a relocation
stripe holds extents of one KIND (R227). -/
def State.place (stream kind len : Nat) (add : Stripe → Stripe) (s : State) : Bool × State :=
  let s := if (s.openOf stream).isNone then s.openStripe stream kind else s
  match s.openOf stream with
  | none => (false, s)
  | some t =>
    let room := s.stripeRoom t
    if len ≤ room && (t.fill == 0 || t.kind == kind) then
      (true, s.modStripe t.band t.stripe (fun t =>
        let t := add t
        { t with kind := kind, fill := t.fill + len, lastAt := s.seed.now,
                 firstAt := if t.fill = 0 then s.seed.now else t.firstAt }))
    else if t.fill = 0 then (false, s)
    else (false, s.modStripe t.band t.stripe (fun t => { t with pad := t.pad + room }))

/-- Enters an extent at the write point of a stripe. -/
def Stripe.addItem (t : Stripe) (i : Item) : Stripe := { t with items := t.items ++ [{ i with off := t.fill }] }

/-- Enters a map page at the write point. -/
def Stripe.addPage (t : Stripe) (pg : Nat × Nat × Nat) : Stripe := { t with pages := t.pages ++ [pg] }

/-! ### Read counts and requests (R224, R250, R277) -/

/-- Read count of a member's block rises by `n` (R250, R277). -/
def State.countReads (m : Member) (n : Nat) (s : State) : State :=
  s.modBlock m.die m.block (fun b => { b with reads := b.reads + n })

/-- A request to move a band, kept once for each class (R224). -/
def State.request (num cls kind : Nat) (s : State) : State :=
  s.modBand num (fun b =>
    if b.reqs.any (·.1 == cls) then b else { b with reqs := b.reqs ++ [(cls, s.seed.now, kind)] })

/-- Read threshold of a band (R250, R256). -/
def State.readLimit (s : State) (b : Band) : Nat :=
  let w := s.reg Reg.MNT_RD_CFG
  1000 * max 1 (if b.slc then bits w 29 20 else if (s.bandFacts b).cell = 4 then bits w 9 0 else bits w 19 10)

/-- The read count of a member's block has risen from `old`: at half its threshold the band moves to the front of the lap, at the
threshold it becomes a class 1 victim with event 0x0D (R250). -/
def State.readsRose (b : Band) (m : Member) (old : Nat) (s : State) : State :=
  let n := (s.block m.die m.block).reads - old
  let lim := s.readLimit b
  let s := if old * 2 < lim && lim ≤ (old + n) * 2 && !s.upkeep.lapFront.contains b.num then
      { s with upkeep := { s.upkeep with lapFront := s.upkeep.lapFront ++ [b.num] } } else s
  if old < lim && lim ≤ old + n then
    ((s.request b.num 1 3).health 13 1).capture 0x080D [b.num, m.die, m.block, old + n]
  else s

/-- Reads of a member's block (R250, R277). -/
def State.readBlock (b : Band) (m : Member) (n : Nat) (s : State) : State :=
  (s.countReads m n).readsRose b m (s.block m.die m.block).reads

/-- Pages an extent spans, by member index (R182, R264). -/
def State.pagesOf (s : State) (b : Band) (off len : Nat) : List Nat :=
  let mg := max 1 (s.bandMem b)
  (((List.range len).map (fun i => (off + i) / 32)).dedup).map (fun pg => pg * 32 / mg)

/-- The other members of a stripe that can be read directly. -/
def State.others (s : State) (b : Band) (st mem : Nat) : List Member :=
  (((List.range b.members.length).filter (· != mem)).filterMap (b.memberAt st)).filter s.direct

/-- A member's die runs or has suspended an operation. -/
def State.memBusy (s : State) (m : Member) : Bool := (s.die m.die).any (fun d => d.op != 0 || d.suspended != 0)

/-- Codewords that an extent's granules lie in. -/
def cwSpan (off len : Nat) : Nat := (off + len + 7) / 8 - off / 8

/-- Reading an extent off its members, by reconstruction from D others where one cannot be read directly or is busy (R226, R281, R311); each
codeword of it is decoded. -/
def State.readExtent (p : Placed) (s : State) : State :=
  match s.band p.band with
  | none => s
  | some b =>
    ((s.pagesOf b p.off p.len).foldl (fun s m =>
      match b.memberAt p.stripe m with
      | none => s
      | some x =>
        let o := s.others b p.stripe m
        if s.direct x && !(s.memBusy x && decide (b.d ≤ o.length)) then s.readBlock b x 1
        else (o.take b.d).foldl (fun s y => s.readBlock b y 1) s) s).bump Reg.LDPC_CNT_HD (cwSpan p.off p.len)

/-! ### Placing extents of the relocation stream (R226, R240) -/

/-- An extent already waits in a relocation stripe, or to be placed in one again. -/
def State.movingNow (s : State) (p : Placed) : Bool :=
  s.store.stripes.any (fun t => t.stream == 1 && t.items.any (fun i => i.src == some (p.gran, p.landing))) ||
  s.store.again.any (fun x => x.2.src == some (p.gran, p.landing))

/-- Places one extent in the relocation stream as stored, its data in punnets of class 5 (R226, R383). Answers whether it was placed. -/
def State.moveOne (kind : Nat) (p : Placed) (s : State) : Bool × State :=
  match s.takePun 5 (ceilDiv p.len 8) with
  | none => (false, s)
  | some (l, s1) =>
    let it : Item := { slice := p.slice, nsid := p.nsid, mu := p.mu, x := p.x, len := p.len, off := 0,
                       src := some (p.gran, p.landing), bad := p.bad }
    let r := s1.place 1 kind p.len (fun t => { t.addItem it with chain := t.chain ++ l })
    if r.1 then
      let u := { r.2.upkeep with relocSince := r.2.upkeep.relocSince + p.len }
      (true, (({ r.2 with upkeep := u }).health 1 p.len).readExtent p)
    else (false, r.2.freeChain l)

/-- Places extents until one cannot be placed. -/
def State.moveList (kind : Nat) (l : List Placed) (s : State) : State :=
  match l with
  | [] => s
  | p :: t =>
    let r := s.moveOne kind p
    if r.1 then State.moveList kind t r.2 else r.2

/-- Places relocation extents again that a void stripe held, each read from its source anew; what its entry no longer names needs no copy,
and what cannot be placed now goes on waiting (R240 step 2). -/
def State.replaceList (l : List (Nat × Item)) (s : State) : State :=
  match l with
  | [] => { s with store := { s.store with again := [] } }
  | x :: t =>
    match x.2.src.bind (fun g => s.placedAt g.1 g.2) with
    | none => State.replaceList t s
    | some p =>
      if !s.isValid p then State.replaceList t s
      else
        let r := s.moveOne x.1 p
        if r.1 then State.replaceList t r.2 else { r.2 with store := { r.2.store with again := x :: t } }

def State.replaceAll (s : State) : State := if s.store.again.isEmpty then s else s.replaceList s.store.again

/-- The extents of a relocation stripe that ends without a commit wait to be placed again, and are as far as they can be. -/
def State.againOf (t : Stripe) (s : State) : State :=
  let st := s.store
  ({ s with store := { st with again := st.again ++ t.items.map (fun i => (t.kind, i)) } }).replaceAll

/-! ### The host stream (R183, R189, R230, R231) -/

/-- The host stream may place `n` granules now. -/
def State.hostMay (s : State) (n : Nat) : Bool :=
  s.store.flush.isNone &&
  (match s.upkeep.regime with
   | .normal => true
   | .held => false
   | .urgent =>
     match s.upkeep.hPpm with
     | none => true
     | some h => decide ((s.upkeep.hostSince + n) * 1000000 ≤ h * s.upkeep.relocSince))

/-- Gathers one STAGED extent into the host stream's open stripe. -/
def State.gatherOne (b : BufExt) (s : State) : State :=
  if !s.hostMay b.len then s
  else
    let it : Item := { slice := b.slice, nsid := b.nsid, mu := b.mu, x := b.x, len := b.len, off := 0, buf := some b.off }
    let r := s.place 0 0 b.len (·.addItem it)
    if r.1 then
      let l := modFirst r.2.store.buf (fun y => y.off == b.off && y.st == .staged) (fun y => { y with st := .gathered })
      let u := { r.2.upkeep with hostSince := r.2.upkeep.hostSince + b.len }
      ({ r.2 with store := { r.2.store with buf := l }, upkeep := u }).health 0 b.len
    else r.2

/-- Gathers STAGED extents in the order in which they entered STAGED (R183), until one cannot be placed. -/
def State.gatherList (l : List BufExt) (s : State) : State :=
  match l with
  | [] => s
  | b :: t =>
    let s1 := s.gatherOne b
    if (s1.store.buf.any (fun y => y.off == b.off && y.st == .staged)) then s1 else State.gatherList t s1

/-- The host stream gathers what it can, extents of void relocation stripes are placed again, and the regime follows the free count
(R230, R240). -/
def State.gatherHost (s : State) : State :=
  ((s.gatherList (s.store.buf.filter (fun b => b.st == .staged && !b.superseded))).replaceAll).setRegime

/-! ### Padding (R190, R195) -/

/-- Completes a stream's open stripe with pad granules and records event 0x01; unchanged when it holds nothing. -/
def State.padStream (stream : Nat) (s : State) : State :=
  match s.openOf stream with
  | none => s
  | some t =>
    let room := s.stripeRoom t
    if t.fill = 0 || room = 0 then s
    else (s.modStripe t.band t.stripe (fun t => { t with pad := t.pad + room })).capture 0x0701
           [t.band, t.stripe, room, t.stream]

/-! ### Die operations (R275, R288) -/

/-- Puts an operation into a die's queue. -/
def State.enqueueOp (d cls kind band stripe mem : Nat) (s : State) : State :=
  let o : DieOp := { id := s.array.nextOp, cls := cls, kind := kind, band := band, stripe := stripe, mem := mem,
                     at_ := s.seed.now }
  let s := s.modDie d (fun x => { x with queue := x.queue ++ [o] })
  { s with array := { s.array with nextOp := s.array.nextOp + 1 } }

/-- Ends an operation of a die: it leaves the queue, and the die is idle if it was the running one. -/
def State.endOp (d id busy : Nat) (s : State) : State :=
  s.modDie d (fun x =>
    { x with queue := x.queue.filter (·.id != id), op := if x.opId = id then 0 else x.op, busyUs := busy })

/-- Operations of a stripe that have not started leave the queues. -/
def State.dropProgs (band stripe : Nat) (s : State) : State :=
  let f (x : Die) : Die :=
    { x with queue := x.queue.filter (fun o => !(o.kind == 2 && o.band == band && o.stripe == stripe && !o.started)) }
  { s with array := { s.array with dies := s.array.dies.map f } }

/-- Channel counter of a die. -/
def State.bumpCh (off d n : Nat) (s : State) : State := s.bump (off + 0x1000 * dieChan d) n

/-! ### Flushing (R189, R191, R270, R300, R304, R318) -/

/-- Rebuild bytes placed in the last `ms` milliseconds. -/
def State.rebuildBytesIn (s : State) (ms : Nat) : Nat :=
  sumBy (s.upkeep.rateLog.filter (fun x => s.seed.now < x.1 + ms * 1000)) (·.2)

/-- Class of a stripe's programs: host and map 2, relocation 3, or 2 for rebuild below its minimum rate (R275, R318). -/
def State.progClass (s : State) (t : Stripe) : Nat :=
  if t.stream = 3 then 0
  else if t.stream = 1 then
    let low := s.rebuildBytesIn 100 < max 1 (s.fld Reg.STR_REBUILD_CFG 15 0) * 100000
    if (t.kind == 7 || t.kind == 8) && low then 2 else 3
  else 2

/-- 1 bits of a word. -/
def onesOf (w : Word) : Nat := (List.range 32).foldl (fun a i => a + bits w i i) 0

/-- The next codeword encoded for the armed channel takes the flip mask (R300). -/
def State.takeFlip (t : Stripe) (b : Band) (s : State) : State :=
  let ch := s.fld Reg.LDPC_FLIP_CTL 4 0
  if s.fld Reg.LDPC_FLIP_CTL 8 8 = 0 then s
  else
    match (List.range (t.d + t.p)).find? (fun m => ((b.memberAt t.stripe m).map (fun x => dieChan x.die)) == some ch) with
    | none => s
    | some m =>
      let w := s.reg Reg.LDPC_FLIP_MASK
      let n := onesOf w
      let s := s.setReg Reg.LDPC_FLIP_CTL (s.reg Reg.LDPC_FLIP_CTL &&& ~~~(0x100 : Word))
      let s := s.setReg Reg.LDPC_FLIP_MASK 0
      if n = 0 then s
      else { s with array := { s.array with flipped := (t.band, t.stripe, m, w) :: s.array.flipped } }

/-- A full stripe can begin flushing: no emergency flush, fewer than 128 flushing, room in each member die's queue, and no
member's program gate closed (R189, R276, R289). -/
def State.canFlush (s : State) (t : Stripe) (b : Band) : Bool :=
  s.store.flush.isNone && !t.flushing && 0 < t.fill && s.stripeRoom t == 0 &&
  (s.store.stripes.filter (·.flushing)).length < 128 &&
  b.members.all (fun m => !s.memDown m && !(s.carrier (dieCar m.die)).gateClosed &&
    ((s.die m.die).elim false (fun d => d.queue.length < 32)))

/-- Punnets that hold the parity members of a stripe until they are programmed (R30, R383). -/
def State.parityPun (s : State) (t : Stripe) (b : Band) : Nat := ceilDiv (t.p * s.bandMem b) 8

/-- Engines show a job while one of the lowest number that has none does it; and none shows it (R256). -/
def Upkeep.show (u : Upkeep) (j : Nat) : Upkeep :=
  if u.jobs.contains j then u
  else match (List.range 4).find? (fun i => u.jobs.getD i 1 == 0) with
    | some i => { u with jobs := u.jobs.set i j }
    | none => u

def Upkeep.unshow (u : Upkeep) (j : Nat) : Upkeep := { u with jobs := u.jobs.map (fun x => if x == j then 0 else x) }

/-- The member programs of a full stripe enter their dies' queues and its buffer extents are FLUSHING (R185, R191). -/
def State.startProgs (t : Stripe) (b : Band) (l : List Nat) (s : State) : State :=
  let cls := s.progClass t
  let s := s.jsync (.stripeOpen t.band t.stripe t.d t.p)
  let seq := s.journal.nextSeq - 1
  let s := s.modStripe t.band t.stripe (fun t => { t with flushing := true, openSeq := seq, copyB := t.band % 2 == 1, chain := t.chain ++ l })
  let offs := t.items.filterMap (·.buf)
  let buf := modAll s.store.buf (fun y => offs.contains y.off && y.st == .gathered) (fun y => { y with st := .flushing })
  let s := { s with store := { s.store with buf := buf }, upkeep := s.upkeep.show 1 }
  let s := (List.range (t.d + t.p)).foldl (fun s m =>
    match b.memberAt t.stripe m with
    | none => s
    | some x => s.enqueueOp x.die cls 2 t.band t.stripe m) s
  let s := s.bump Reg.LDPC_CNT_ENC ((t.d + t.p) * s.bandMem b / 8)
  s.takeFlip t b

/-- Writes the open record and starts the member programs of a full stripe, its parity members in punnets of class 4; without these it
waits (R30, R33, R191). -/
def State.flushStripe (t : Stripe) (s : State) : State :=
  match s.band t.band with
  | none => s
  | some b =>
    if !s.canFlush t b then s
    else
      match s.takePun 4 (s.parityPun t b) with
      | none => s
      | some (l, s) => s.startProgs t b l

/-! ### Committing (R188, R192, R210, R211, R227) -/

/-- Where an item of a stripe lies once committed. -/
def State.itemGran (s : State) (t : Stripe) (i : Item) : Nat :=
  match s.band t.band with
  | none => 0
  | some b => s.granOf b t.stripe i.off

/-- The extents of a stripe as its record lists them (R210, R227). -/
def State.recItems (s : State) (t : Stripe) (l : List Item) : List Item := l.map (fun i => { i with gran := s.itemGran t i })

/-- Applies one extent of a host or landing record: the entry changes only if it still names the extent's own buffer offset
(R188). -/
def State.commitBuf (t : Stripe) (landing : Bool) (i : Item) (s : State) : State :=
  let e := s.entryAt i.slice i.nsid i.mu
  let g := s.itemGran t i
  if e.loc = .buffered (i.buf.getD 0) then
    let s := s.setEntry i.slice i.nsid i.mu { e with loc := if landing then .landing g else .band g }
    let p : Placed := { gran := g, len := i.len, slice := i.slice, nsid := i.nsid, mu := i.mu, x := i.x, band := t.band,
                        stripe := t.stripe, off := i.off, landing := landing }
    { s with store := { s.store with placed := s.store.placed ++ [p] } }
  else s

/-- Applies one extent of a GC copy record: the entry changes only if it still names SRC (R227). -/
def State.commitCopy (t : Stripe) (i : Item) (s : State) : State :=
  let e := s.entryAt i.slice i.nsid i.mu
  let src := i.src.getD (0, false)
  let g := s.itemGran t i
  if e.loc = (if src.2 then Loc.landing src.1 else Loc.band src.1) then
    let s := s.setEntry i.slice i.nsid i.mu { e with loc := .band g }
    let p : Placed := { gran := g, len := i.len, slice := i.slice, nsid := i.nsid, mu := i.mu, x := i.x, band := t.band,
                        stripe := t.stripe, off := i.off, bad := i.bad }
    { s with store := { s.store with placed := s.store.placed ++ [p] } }
  else s

/-- Buffer space of committed extents becomes FREE, once no read pins it (R185). -/
def State.freeBufs (offs : List Nat) (s : State) : State :=
  let l := modAll s.store.buf (fun y => offs.contains y.off && y.st == .flushing)
    (fun y => { y with st := .staged, superseded := true })
  { s with store := { s.store with buf := sweepBuf l } }

/-- Band metadata as it stands (R223). -/
def Upkeep.metaNow (u : Upkeep) : BandMeta :=
  { ages := u.bands.map (fun b => (b.num, b.age)), reads := u.blocks.map (fun x => (x.die, x.block, x.reads)) }

/-- A page of the map stream has its place on flash, with its content at the commit of its stripe (assumption 16). A map page waits for its
directory page, which becomes dirty; a directory page on flash names what was written of its map pages (R211). -/
def State.commitPage (t : Stripe) (pg : Nat × Nat × Nat) (s : State) : State :=
  let inPg (c : MapCell) : Bool := c.slice == pg.1 && c.nsid == pg.2.1 && pageOf c.mu == pg.2.2
  let st := s.store
  let g := ((s.band t.band).map (fun b => s.granOf b t.stripe (8 * t.pages.idxOf pg))).getD 0
  let at_ : PageAt := { slice := pg.1, nsid := pg.2.1, page := pg.2.2, band := t.band, gran := g }
  let j := ((st.dirtyPages.find? (fun x => (x.1, x.2.1, x.2.2.1) == pg)).map (·.2.2.2)).getD (s.journal.nextSeq - 1)
  let dirty := st.dirtyPages.filter (fun x => !(x.1 == pg.1 && x.2.1 == pg.2.1 && x.2.2.1 == pg.2.2))
  if isMapPage pg then
    let d := dirPage pg
    { s with store := { st with
        dirtyPages := dirtyPut dirty d.1 d.2.1 d.2.2 j
        writtenPages := at_ :: st.writtenPages.filter (·.id != pg)
        writtenCells := st.map.filter inPg ++ st.writtenCells.filter (fun c => !inPg c) } }
  else if isDirPage pg then
    let mine (x : Nat × Nat × Nat) : Bool := dirPage x == pg
    let ofCell (c : MapCell) : Bool := mine (c.slice, c.nsid, pageOf c.mu)
    let new := st.writtenPages.filter (fun x => mine x.id)
    let fresh (x : PageAt) : Bool := x.id != pg && !new.any (fun y => y.id == x.id)
    let done (c : MapCell) : Bool := new.any (fun y => y.id == (c.slice, c.nsid, pageOf c.mu))
    { s with store := { st with
        dirtyPages := dirty
        writtenPages := st.writtenPages.filter (fun x => !mine x.id)
        writtenCells := st.writtenCells.filter (fun c => !ofCell c)
        namedPages := at_ :: new ++ st.namedPages.filter fresh
        namedCells := st.writtenCells.filter ofCell ++ st.namedCells.filter (fun c => !done c) } }
  else
    { s with store := { st with namedPages := at_ :: st.namedPages.filter (·.id != pg), writtenMeta := some s.upkeep.metaNow } }

/-- A band with no stripe left, or closed, becomes FULL when its last stripe has ended (R222). -/
def State.fillBand (num : Nat) (s : State) : State :=
  match s.band num with
  | none => s
  | some b =>
    if b.st == .opened && (b.closed || s.bandStripes b ≤ b.nextStripe) &&
       (b.closed || !s.store.stripes.any (·.band == num)) then
      s.modBand num (fun x => { x with st := .full, closedMin := s.opMin })
    else s

/-- Bytes a relocation stripe of KIND 7 or 8 moved count for the rebuild and for the slots they came from (R346, R354). -/
def State.countMoved (t : Stripe) (s : State) : State :=
  if t.stream = 1 && (t.kind == 7 || t.kind == 8) then
    let n := 512 * sumBy t.items (·.len)
    let u := s.upkeep
    let s := { s with upkeep := { u with
      rebuildBytes := u.rebuildBytes + n, setBytes := u.setBytes + n,
      rateLog := (s.seed.now, n) :: u.rateLog.filter (fun x => s.seed.now < x.1 + 1000000) } }
    let f (s : State) (i : Item) : State :=
      match i.src with
      | none => s
      | some (g, l) =>
        match s.placedAt g l with
        | none => s
        | some p =>
          match s.band p.band with
          | none => s
          | some b =>
            -- the slots whose failed, rebuilding or released dies the source band holds
            ((b.members.filter s.memDown).map (fun m => dieCar m.die)).dedup.foldl (fun s k =>
              s.modCarrier k (fun c => { c with moved := c.moved + 512 * i.len,
                                                releaseBytes := c.releaseBytes + 512 * i.len })) s
    (t.items.foldl f s).movedBytes n
  else s

/-- H is computed again at each relocation stripe commit (R231). -/
def State.newH (s : State) : State :=
  let u := { s.upkeep with hPpm := s.hostLimit, hostSince := 0, relocSince := 0 }
  { s with upkeep := u }

/-- With no stripe flushing any more, no engine shows the flush (R256). -/
def State.endFlushJob (s : State) : State :=
  if s.store.stripes.any (·.flushing) then s else { s with upkeep := s.upkeep.unshow 1 }

/-- Every member has passed: the commit, landing or copy record is written, its extents take their places, and buffer space
is freed (R192, R227). -/
def State.commitStripe (t : Stripe) (s : State) : State :=
  let s : State :=
    match t.stream with
    | 0 =>
      let s := s.jsync (.commit t.band t.stripe (s.recItems t t.items))
      let s := t.items.foldl (fun s i => s.commitBuf t false i) s
      s.freeBufs (t.items.filterMap (·.buf))
    | 1 =>
      let s := s.jsync (.gcCopy t.band t.stripe t.kind (s.recItems t t.items))
      let s := s.countMoved t
      let s := t.items.foldl (fun s i => s.commitCopy t i) s
      let u := { s.store with relocated := s.store.relocated + (if t.kind = 4 then t.items.length else 0) }
      ({ s with store := u }).newH
    | 2 =>
      let s := s.jsync (.commit t.band t.stripe [])
      t.pages.foldl (fun s pg => s.commitPage t pg) s
    | _ => s
  ((((s.onFlash t true).dropStripe t.band t.stripe).fillBand t.band)).endFlushJob

/-! ### Voiding (R193, R240, R312) -/

/-- Extents of a void host stripe return to STAGED, in order, or are freed when superseded meanwhile. -/
def State.restage (offs : List Nat) (s : State) : State :=
  let back := (s.store.buf.filter (fun y => offs.contains y.off && (y.st == .gathered || y.st == .flushing))).map
    (fun y => { y with st := .staged })
  let rest := s.store.buf.filter (fun y => !(offs.contains y.off && (y.st == .gathered || y.st == .flushing)))
  { s with store := { s.store with buf := sweepBuf (rest ++ back) } }

/-- Closes a band to further stripes (R193, R222). -/
def State.closeBand (num : Nat) (s : State) : State :=
  (s.modBand num (fun x => { x with closed := true })).fillBand num

/-- Voids a stripe that has begun flushing: void record, extents gathered again, band closed (R193, R240). -/
def State.voidStripe (t : Stripe) (cause die : Nat) (s : State) : State :=
  let s := s.jsync (.void t.band t.stripe cause)
  let s := (((s.onFlash t false).dropProgs t.band t.stripe).dropStripe t.band t.stripe).endFlushJob
  let s := s.closeBand t.band
  let s := s.capture 0x0702 [t.band, t.stripe, cause, die]
  match t.stream with
  | 0 => s.restage (t.items.filterMap (·.buf))
  | 1 =>
    let s := s.againOf t
    (s.request t.band 1 1).capture 0x0806 [t.band, t.stripe, die, t.items.length]
  | _ => s

/-- A stripe still gathering whose band lost a member ends without a record: nothing of it is programmed (R312). -/
def State.dropGathering (t : Stripe) (s : State) : State :=
  let s := (s.dropStripe t.band t.stripe).closeBand t.band
  match t.stream with
  | 0 => s.restage (t.items.filterMap (·.buf))
  | 1 => s.againOf t
  | _ => s

/-- Every stripe of a band that includes a die ends, and OPEN bands with it take no further stripes (R312). -/
def State.endStripesOf (d g cause : Nat) (s : State) : State :=
  let hit (t : Stripe) : Bool :=
    ((s.band t.band).map (fun b => b.members.any (fun m => m.die == d && m.gen == g))).getD false
  let s := (s.store.stripes.filter hit).foldl (fun s t =>
    if t.flushing then s.voidStripe t cause d else s.dropGathering t) s
  (s.upkeep.bands.filter (fun b => b.st == .opened && b.members.any (fun m => m.die == d && m.gen == g))).foldl
    (fun s b => s.closeBand b.num) s

/-! ### What follows a change of valid counts (R204, R222, R319, R341) -/

/-- Bands of the rebuild set that have just emptied: a progress record and the period's count (R319, R344). -/
def State.progress (before : List Band) (s : State) : State :=
  let left := s.rebuildSet
  (before.filter (fun b => !left.any (·.num == b.num))).foldl (fun s b =>
    let u := { s.upkeep with rebuildBands := s.upkeep.rebuildBands + 1 }
    ({ s with upkeep := u }).jwrite (.rebuildProgress b.num left.length s.upkeep.rebuildBytes)) s

/-- Bands that emptied, dies that leave rebuilding, the pSLC size and the regime. -/
def State.settle (before : List Band) (s : State) : State :=
  let s := s.progress before
  let s := s.settleBands.settleDies
  let s := (List.range 16).foldl (fun s k => s.settleCarrier k) s
  let s := if s.rebuildSet.isEmpty then { s with upkeep := { s.upkeep with setBytes := 0, noSpace := false } } else s
  s.setPslc.setRegime

/-! ### Failing dies (R309, R312, R313, R315, R337) -/

/-- GLB_DEGRADE: the Critical Warning inputs that a member failure changes are read from State (R46, R253). -/
def State.failDie (d cause voidCause : Nat) (s : State) : State :=
  match s.die d with
  | none => s
  | some x =>
    if x.st != 1 && x.st != 2 then s
    else
      let before := s.rebuildSet
      let n := s.bandsOfDie d x.gen
      let s := s.beginPeriod
      let s := (s.memberRec (dieCar d) cause d 3 false).memberRec (dieCar d) cause d 4 false
      let s := s.modDie d (fun x => { x with st := 4, direct := false, queue := [], op := 0, suspended := 0 })
      let s := s.capture 0x0A01 [d, cause, dieCar d, n]
      let s := s.bump Reg.STR_CNT_DIE_FAIL 1
      let s := (s.endStripesOf d x.gen voidCause).loseBeyond
      let s := s.reformErased
      let s := (s.settleCarrier (dieCar d)).capture 0x0A04 [dieCar d, 1, s.rebuildSet.length, 0]
      (s.settle before).gatherHost

/-! ### Slow operations (R288, R309) -/

/-- Maximum of an operation's kind in µs from the parameter page. -/
def maxUs (f : DieFacts) (kind : Nat) : Nat := if kind = 2 then f.tProgMax else f.tBersMax

/-- An operation whose busy time exceeds twice its maximum is slow (R288); SLOW_N of them within ten minutes make the die slow
(R309). -/
def State.slowOp (d kind busy : Nat) (s : State) : State :=
  match s.die d with
  | none => s
  | some x =>
    if busy ≤ 2 * maxUs x.facts kind then s
    else
      let s := s.bumpCh Reg.CH_CNT_SLOW d 1
      let s := s.capture 0x0908 [d, kind, busy, maxUs x.facts kind]
      let times := (x.slowTimes.filter (fun t => s.seed.now < t + 600000000)) ++ [s.seed.now]
      let s := s.modDie d (fun y => { y with slowTimes := times })
      if x.st = 1 && max 1 (s.fld Reg.STR_MEMBER_CFG 15 8) ≤ times.length then
        let s := s.modDie d (fun y => { y with st := 2, slowSince := s.seed.now })
        (s.memberRec (dieCar d) 10 d 2 false).capture 0x0A02 [d, times.length]
      else s

/-- MEMBER_TMO_MS in µs (R350). -/
def State.memberTmoUs (s : State) : Nat := max 50 (s.fld Reg.STR_MEMBER_CFG 31 16) * 1000

/-! ### Blocks retired (R237) -/

/-- Carrier end-of-life record of a slot. -/
def State.modEol (k : Nat) (f : Eol → Eol) (s : State) : State :=
  { s with upkeep := { s.upkeep with eol := modFirst s.upkeep.eol (·.slot == k) f } }

/-- Reserve blocks that remain on a die. -/
def State.reserveLeft (s : State) (d : Die) : Nat :=
  let n := ((s.carrier (dieCar d.idx)).facts.map (·.eeprom.blocks)).getD 0
  ((List.range d.reserve).filter (fun i =>
    let b := n - d.reserve + i
    !((s.block d.idx b).retired) &&
    !s.upkeep.bands.any (fun x => x.members.any (fun m => m.die == d.idx && m.gen == d.gen && m.block == b)))).length

/-- Reserve blocks left on a carrier. -/
def State.resLeftOf (s : State) (k : Nat) : Nat :=
  sumBy (s.array.dies.filter (fun d => !d.old && dieCar d.idx == k && !d.refused && d.st != 0)) s.reserveLeft

/-- A carrier whose W has reached 1, or whose reserve has fallen below 10 % of the initial one, is at its end of life: event 0x11 (R244). -/
def State.endOfLife (k : Nat) (s : State) : State :=
  match s.upkeep.eol.find? (·.slot == k) with
  | none => s
  | some x =>
    let w := s.wPpm k
    let left := s.resLeftOf k
    let online := (s.carrier k).st == 5 || (s.carrier k).st == 6
    if online && !x.reached && (decide (1000000 ≤ w) || decide (left * 10 < x.resInit)) then
      (s.modEol k (fun y => { y with reached := true })).capture 0x0811 [k, if 1000000 ≤ w then 1 else 2, w / 100, left]
    else s

/-- Retires the block of member position `pos` of a band: the die's reserve replaces it, or, with none left, the die fails
(R237). -/
def State.retireBlock (band pos cause : Nat) (s : State) : State :=
  match (s.band band).bind (·.members[pos]?) with
  | none => s
  | some m =>
    match s.dieGen m.die m.gen with
    | none => s
    | some d =>
      let new := s.reserveBlock d
      let s := s.jsync (.blockRetired m.die cause m.block band new)
      let s := s.modBlock m.die m.block (fun b => { b with retired := true })
      let s := (s.health 9 1).modEol (dieCar m.die) (fun e => { e with retired := e.retired + 1 })
      let s := (s.capture 0x0805 [m.die, m.block, cause, new.getD 0xFFFFFFFF]).endOfLife (dieCar m.die)
      match new with
      | some n => s.modBand band (fun b => { b with members := modNth b.members pos (fun x => { x with block := n }) })
      | none =>
        let r := ((s.upkeep.eol.find? (·.slot == dieCar m.die)).map (·.retired)).getD 0
        (s.capture 0x0812 [m.die, dieCar m.die, r]).failDie m.die 3 1

end Sys2Proof.Machine
end

