-- ==== Sys2Proof/Machine/PowerOps.lean ====
section
/-! DEFINITION. Idleness, the tolerance and the allowed power state, entries into and exits from the power states (R424 to
R440, R454). -/

namespace Sys2Proof.Machine

open Sys2Proof

/-! ### States -/

/-- Code of a power state (R424). -/
def PState.code : PState → Nat
  | .l0 => 0 | .l1 => 1 | .l2 => 2 | .l3 => 3 | .l4 => 4

/-- The power state of a code. -/
def pstateOf : Nat → PState
  | 1 => .l1 | 2 => .l2 | 3 => .l3 | 4 => .l4 | _ => .l0

/-- Exit latency in µs (R424); also EXLAT of the power state descriptors (R432). -/
def PState.exitUs : PState → Nat
  | .l0 => 0 | .l1 => 2 | .l2 => 30 | .l3 => 500 | .l4 => 20000

/-! ### Power domains (R26, R426, R449) -/

/-- Place of a domain other than a carrier domain in `Power.doms`. -/
def domIdx (d : Nat) : Nat := if d < 12 then d else d - 16

/-- The condition of a power domain. -/
def State.domain (s : State) (d : Nat) : DomCond :=
  if 12 ≤ d && d < 28 then s.power.carDom.getD (d - 12) .off else s.power.doms.getD (domIdx d) .off

/-- The sequencer puts domains into a condition. -/
def State.putDoms (l : List Nat) (c : DomCond) (s : State) : State :=
  let p := s.power
  { s with power := { p with doms := l.foldl (fun x d => modNth x (domIdx d) (fun _ => c)) p.doms } }

/-- The sequencer's order: domains other than the carriers' as they are switched on; off is the reverse (R449). -/
def domOrder : List Nat := [5, 35, 28, 29, 30, 31, 6, 7, 8, 9, 10, 11, 1, 2, 3, 4, 32, 33, 34]

/-- The condition of a domain other than a carrier's in a power state, with the L4_LINK of its port (R426). -/
def domCond (st : PState) (l4link : Nat) (d : Nat) : DomCond :=
  if d = 0 then .on
  else if d ≤ 2 then (if st != .l4 || l4link = 0 then .on else if l4link = 1 then .lpi else .off)
  else if d ≤ 4 then (if st == .l4 then .wakeOnly else .on)
  else if 6 ≤ d && d ≤ 11 then (match st with | .l0 => .on | .l4 => .off | _ => .gated)
  else if 28 ≤ d && d ≤ 31 then (match st with | .l0 | .l1 => .on | .l2 => .powerDown | .l3 => .gated | .l4 => .off)
  else if 32 ≤ d && d ≤ 34 then (match st with | .l3 | .l4 => .off | _ => .on)
  else if st == .l4 then .off else .on

/-- The sequencer brings every domain but the carriers' into its condition for a power state. -/
def State.seqDoms (st : PState) (s : State) : State :=
  let f (d : Nat) : DomCond := domCond st (s.fabric.l4link.getD ((d + 1) % 2) 0) d
  domOrder.foldl (fun s d => s.putDoms [d] (f d)) s

/-! ### Idleness (R427) -/

/-- The L1 conditions: no CCT entry in use, no capsule waiting, every maintenance engine idle or on patrol or scrub. -/
def State.idle1 (s : State) : Bool :=
  s.eng.cct.isEmpty && s.eng.queues.all (·.ring.isEmpty) &&
  s.upkeep.jobs.all (fun j => j == 0 || j == 5 || j == 7 || j == 8)

/-- The L3 conditions: die queues empty, no erase running or suspended, nothing dirty. -/
def State.idle3 (s : State) : Bool :=
  s.idle1 && s.array.dies.all (fun d => d.queue.isEmpty && d.suspended == 0) &&
  s.upkeep.bands.all (fun b => b.st != .erasing) && s.dirty == 0

/-- Idleness as time passes: it starts at the last moment at which a condition failed to hold (R427). -/
def State.trackIdle (s : State) : State :=
  let a := if s.idle1 then (match s.power.idleAt with | some t => some t | none => some s.seed.now) else none
  let b := if s.idle3 then (match s.power.idle3At with | some t => some t | none => some s.seed.now) else none
  { s with power := { s.power with idleAt := a, idle3At := b } }

/-- A command or an operation ends idleness (R427). -/
def State.busyNow (s : State) : State := { s with power := { s.power with idleAt := none, idle3At := none } }

/-- The device stays in L0 whatever the tolerances (R429). -/
def State.mustStay (s : State) : Bool :=
  s.glb.state != .ready || !s.rebuildSet.isEmpty || s.array.reshape.isSome ||
  s.array.carriers.any (fun c => c.st == 4 || c.st == 7) ||
  s.slices.list.any (fun x => x.mig.isSome || x.repl == 2) ||
  s.store.landingAt.isSome || s.bank.step != 0 || s.power.maintDue

/-! ### Tolerance (R434) -/

/-- Tolerance of a controller in µs. -/
def State.ctrlLt (s : State) (c : Ctrl) : Nat :=
  let t := if c.lt = 0xFFFFFFFF then (pstateOf c.ps).exitUs else c.lt.toNat
  if c.isTenant then max t (((s.slice c.slice).map (·.desc.ltMin)).getD 0) else t

/-- Contributors in order: (tolerance, kind, identifier). Kind 0 controller, 1 ring association. -/
def State.tolerances (s : State) : List (Nat × Nat × Nat) :=
  (s.eng.ctrls.filter (fun c => c.isMgmt || c.isTenant)).map (fun c => (s.ctrlLt c, 0, c.id)) ++
  ((List.range 2).filter (fun n => ((s.fabric.nbs[n]?).map (fun x => x.assocInit || x.assocTarget)).getD false)).map
    (fun n => (s.fld Reg.PS_RING_LT 31 0, 1, n))

/-- The smallest tolerance, first contributor on a tie; none without a contributor. -/
def State.smallest (s : State) : Option (Nat × Nat × Nat) :=
  s.tolerances.foldl (fun best x =>
    match best with
    | none => some x
    | some b => if x.1 < b.1 then some x else some b) none

/-- EN bit of a state in PS_CFG (R452). -/
def State.enState (s : State) (n : Nat) : Bool := s.fld Reg.PS_CFG n n == 1

/-- Deepest state a tolerance allows; none is infinite. -/
def State.allowedFor (s : State) (lt : Option Nat) : PState :=
  ([4, 3, 2, 1].find? (fun n =>
    s.enState n && (match lt with | none => true | some t => decide ((pstateOf n).exitUs ≤ t)))).elim .l0 pstateOf

/-- Evaluates R434: PS_LT, PS_LT_SRC and ALLOWED. -/
def State.evalTolerance (s : State) : State :=
  let x := s.smallest
  let p := { s.power with
    lt := match x with | none => 0xFFFFFFFF | some y => BitVec.ofNat 32 (min y.1 0xFFFFFFFF)
    ltKind := match x with | none => 2 | some y => y.2.1
    ltId := match x with | none => 0 | some y => y.2.2
    allowed := s.allowedFor (x.map (·.1)) }
  { s with power := p }

/-! ### Leaving and entering -/

/-- Whole seconds of the state being left join its counter (R454). -/
def State.countState (s : State) : State :=
  let n := s.power.state.code
  let secs := s.since s.power.enteredAt / 1000000
  if n = 0 || secs = 0 then s else s.bump (Reg.PS_CNT_SEC_L1 + 4 * (n - 1)) secs

/-- PS_LT_SRC (R453). -/
def State.ltSrc (s : State) : Nat := atBit 30 s.power.ltKind + atBit 0 s.power.ltId

/-- SEED_WAKE (R451). -/
def State.wakeWord (s : State) : Nat := atBit 28 s.seed.wakeFrom + s.seed.wake.toNat

/-- Minutes spent in L4, up to SEED_RTC `fin`, take their snapshots at exit, their integral counters computed from the allocation
(R169, R438). -/
def State.l4Minutes (secs fin : Nat) (s : State) : State :=
  let entry := fin - secs
  let n := fin / 60 - entry / 60
  if n = 0 then s.meterMs (secs * 1000)
  else
    let ago (i : Nat) : Nat := (fin % 60 + 60 * (n - 1 - i)) * 1000 + s.seed.rtcUs / 1000
    let s := (s.meterMs ((60 - entry % 60) * 1000)).meterTick false (ago 0)
    let s := (List.range (n - 1)).foldl (fun s i => (s.meterMs 60000).meterTick false (ago (i + 1))) s
    s.meterMs (fin % 60 * 1000)

/-- The events the Seed island latched are captured; event 0x03 says how long the internal oscillator has run (R441, R548). -/
def State.captureLatched (l : List (Nat × List Nat)) (s : State) : State :=
  l.foldl (fun s e => s.capture e.1 (if e.1 = 0x0103 then [s.since s.seed.crystalAt / 1000] else e.2)) s

/-- Exit from L4 (R440): each slot resumes from its measured value (R465), DRAM leaves self-refresh, held frames are processed, the Seed island's latched events are captured,
events 0x07 and 0x02 recorded. -/
def State.exitL4 (lateUs : Nat) (s : State) : State :=
  let secs := s.since s.power.enteredAt / 1000000
  let sd := { s.seed with refReq := true, refLate := decide (0 < lateUs), l4Entry := none }
  let fb := { s.fabric with
    macs := s.fabric.macs.map (fun m => { m with lpi := false }) }
  let lp : List Slot := s.loops.map (fun x => { x with arm := true })
  let s := { s with seed := sd, power := { s.power with selfRefresh := false }, fabric := fb, loops := lp }
  let s := s.l4Minutes secs s.seed.rtc.toNat
  let l := s.seed.latched
  let s := { s with seed := { s.seed with latched := [] } }
  let s := s.captureLatched l
  let s := if lateUs = 0 then s else s.capture 0x0107 [lateUs]
  s.capture 0x0102 [s.wakeWord, secs, 20000 + lateUs]

/-- On exit from self-refresh each channel runs one retraining step on every rank that is accessed (R396). -/
def State.retrainAll (s : State) : State :=
  s.bump Reg.DRAM_CNT_RETRAIN (sumBy s.mem.ranks (fun l => (l.filter (fun r => [1, 3, 4, 5, 7].contains r)).length))

/-- Moves toward L0: to a shallower state, with the cause and the state left in SEED_WAKE (R436). -/
def State.leaveTo (target : PState) (bit lateUs : Nat) (s : State) : State :=
  let old := s.power.state
  if old.code ≤ target.code then s
  else
    let s := s.countState
    let s := { s with seed := { s.seed with wake := BitVec.ofNat 9 (2 ^ bit), wakeFrom := old.code } }
    let s := if s.power.selfRefresh && target.code < 3 then s.retrainAll else s
    let s := if old = PState.l4 then s.exitL4 lateUs else s
    let p := s.power
    let s := { s with power := { p with state := target, enteredAt := s.seed.now,
                                        selfRefresh := p.selfRefresh && target.code ≥ 3,
                                        belowAt := if target = PState.l0 then none else p.belowAt } }
    (s.seqDoms target).busyNow

/-- A PHY type that may use Low Power Idle: 10GBASE-KR, 25GBASE-KR and 25GBASE-CR (R50). -/
def lpiPhy (mode phy : Nat) : Bool := (mode == 5 && phy == 0) || (mode == 4 && phy ≤ 1)

/-- A MAC in L4, by its port's L4_LINK: Low Power Idle for 0b01 on a type that may use it, its link down for 0b10 (R50, R79,
R431). -/
def l4Mac (pmode mode : Nat) (m : Mac) : Mac :=
  if mode = 1 then { m with lpi := m.present && lpiPhy pmode m.phy } else if mode = 2 then { m with link := false } else m

/-- Conditions of the connections and the Seed counters saved at L4 entry (R431, R444), the stop record written (R501), REFCLK_REQ_N
released (R447). -/
def State.enterL4 (s : State) : State :=
  let j := s.journal
  let jn := { j with savedSeed := some (s.seed.hours, s.ms, s.seed.pcycle) }
  let sd := { s.seed with refReq := false, l4Entry := some s.seed.now }
  let pw := { s.power with selfRefresh := true, carDom := List.replicate 16 .off }
  let l : List Mac := s.fabric.macs.zipIdx.map (fun x => l4Mac (s.fabric.modes.getD (x.2 / 4) 0) (s.fabric.l4link.getD (x.2 / 4) 0) x.1)
  let fb := { s.fabric with macs := l }
  let ar := s.array
  let ar := { ar with chans := ar.chans.map (fun c => if c.st == 4 then c else { c with st := 0 }) }
  let s := ({ s with journal := jn, seed := sd, power := pw, fabric := fb, array := ar }).jwrite (.stop 3 s.dirtyKib)
  s.capture 0x0101 [s.power.lt.toNat, s.ltSrc]

/-- Enters a deeper state (R427, R431, R454). -/
def State.enterState (n : Nat) (s : State) : State :=
  let s := s.countState
  let s := if n = 4 then s.enterL4 else s
  let p := s.power
  let s := { s with power := { p with state := pstateOf n, enteredAt := s.seed.now, selfRefresh := decide (3 ≤ n),
                                      belowAt := match p.belowAt with | some t => some t | none => some s.seed.now } }
  (s.seqDoms (pstateOf n)).bump (Reg.PS_CNT_ENTRY_L1 + 4 * (n - 1)) 1

/-- Dwell of a state in µs (R427, R452). -/
def State.dwellUs (s : State) (n : Nat) : Nat :=
  match n with
  | 1 => s.fld Reg.PS_IDLE0 31 16
  | 2 => s.fld Reg.PS_IDLE0 15 0 * 1000
  | 3 => s.fld Reg.PS_IDLE1 31 16 * 1000
  | _ => s.fld Reg.PS_IDLE1 15 0 * 1000000

/-- A state's idle conditions and dwell hold (R427). -/
def State.dwellMet (s : State) (n : Nat) : Bool :=
  match (if n ≤ 2 then s.power.idleAt else s.power.idle3At) with
  | none => false
  | some t => (if n ≤ 2 then s.idle1 else s.idle3) && decide (s.dwellUs n ≤ s.since t)

/-- The deepest allowed state whose conditions and dwell hold. -/
def State.deepest (s : State) : Nat :=
  ([4, 3, 2, 1].find? (fun n => decide (n ≤ s.power.allowed.code) && s.enState n && s.dwellMet n)).getD 0

/-- The first frame in L4 makes the port's wake logic send XOFF on every lossless priority, held until L0; of how many PFC frames that
takes, only that it is at least one is stated (R431). -/
def State.wakeXoff (port : Nat) (s : State) : State :=
  let l := (List.range 8).filter (fun i => (s.fabric.dcb.getD i (false, 0)).1)
  if l.isEmpty then s
  else
    let x := s.drawFree
    let s := l.foldl (fun s i => s.send (.xoff port i)) x.2
    s.bump (Reg.PORT_CNT_PFC_TX + 0x1000 * port) (max 1 x.1.toNat)

/-- The port whose wake logic got a frame, where the command names none: one whose link is not down in L4. -/
def State.wakePort (s : State) : Nat × State :=
  if s.fabric.l4link.getD 0 0 = 2 then (1, s)
  else if s.fabric.l4link.getD 1 0 = 2 then (0, s)
  else
    let x := s.drawFree
    (x.1.toNat % 2, x.2)

/-- A wake source of the Seed island (R436): from a state below L0 to L0. -/
def State.seedWake (bit : Nat) (s : State) : State := s.leaveTo PState.l0 bit 0

/-- Bit of SEED_WAKE for a wake source (R451). -/
def wakeBit : WakeSource → Nat
  | .capsule => 0 | .frame => 1 | .tolerance => 2 | .carrier => 3 | .power => 4 | .hubLow => 5 | .overTemp => 6
  | .maintenance => 7 | .keepAlive => 8

end Sys2Proof.Machine
end

