-- ==== Sys2Proof/Machine/Clock.lean ====
section
/-! DEFINITION. The passing of time on an empty queue (R427, R442, R445): one microsecond. -/

namespace Sys2Proof.Machine

open Sys2Proof

/-- SEED_HOURS and the microseconds of the hour one microsecond later. The hour ends in the SEED_HOUR_ROLLOVER command, so
the count stands at its last microsecond until that command has run (R442). -/
def Seed.tickHours (x : Seed) : Seed := if x.us + 1 < 3600000000 then { x with us := x.us + 1 } else x

/-- The real-time clock one microsecond later (R445). -/
def Seed.tickRtc (x : Seed) : Seed :=
  if x.rtcUs + 1 < 1000000 then { x with rtcUs := x.rtcUs + 1 } else { x with rtcUs := 0, rtc := x.rtc + 1 }

/-- One microsecond passes: the clock runs while VDD_SEED is in range, the operating hours while VDD_CORE is (R442, R445), and
idleness is followed (R427); nothing else changes. -/
def idleTick (s : State) : State :=
  let x := { s.seed with now := s.seed.now + 1 }
  let x := if x.vdd && s.glb.powered then x.tickHours else x
  let x := if x.vdd then x.tickRtc else x
  ({ s with seed := x }).trackIdle

end Sys2Proof.Machine
end

