-- ==== Sys2Proof/Machine/Codeword.lean ====
section
/-! DEFINITION. Codewords: the payload of a data member, the parity members over GF(2^8), the LDPC parity, the flip mask and the
scrambler, and what a sense brings to the decoder (R270, R271, R273, R300, R305). -/

namespace Sys2Proof.Machine

open Sys2Proof

/-- Page slot of a codeword within its member, native members having one slot for each of the cell's pages. -/
def slotOf (f : DieFacts) (cw : Nat) : Nat := cw / max 1 (4 * f.planes)

/-! ### User granules (R182, R190, R211, R251) -/

/-- The entries of a map page as a stripe holds them (R177, R211). -/
def Stripe.mapPage (t : Stripe) (pg : Nat × Nat × Nat) : List Byte :=
  let e (i : Nat) : MapEntry :=
    ((t.cells.find? (fun c => c.slice == pg.1 && c.nsid == pg.2.1 && c.mu == 512 * pg.2.2 + i)).map (·.e)).getD {}
  (List.range 512).flatMap (fun i => natBytes 8 (e i).encode.toNat)

/-- A page of the map stream as written: enciphered under key slot 0 (R137, R211). -/
def State.pageStored (s : State) (t : Stripe) (pg : Nat × Nat × Nat) : List Byte :=
  let key := ((s.slices.keySlots.find? (·.1 == 0)).map (·.2)).getD 0
  let named : List Nat := ((s.store.namedPages ++ s.store.pagesAt).filter (fun p => dirPage p.id == pg)).flatMap (fun p => [p.page, p.band, p.gran])
  let plain := if isMapPage pg then t.mapPage pg else bytesAt (Config.pageBytes pg.1 pg.2.1 pg.2.2 named) 0 4096
  xtsEnc key (natBytes 16 (Config.pageTweak pg.1 pg.2.1 pg.2.2)) plain

/-- The item of a stripe whose granules take in granule `g` of its data members. -/
def Stripe.itemAt (t : Stripe) (g : Nat) : Option Item := t.items.find? (fun i => i.off ≤ g && g < i.off + i.len)

/-- User granule `g` of a stripe's data members: of an extent as stored, zero where a lost codeword held it, of a page, or pad. -/
def State.granuleAt (s : State) (t : Stripe) (g : Nat) : List Byte :=
  match t.itemAt g with
  | some i => if i.bad.contains (g - i.off) then natBytes 512 0 else extGranule i.x (g - i.off)
  | none =>
    match t.pages[g / 8]? with
    | some pg => bytesAt (s.pageStored t pg) (512 * (g % 8)) 512
    | none => natBytes 512 (Config.padGranule t.band t.stripe g)

/-! ### Payload (R270) -/

/-- The first extent whose header begins in the eight granules from `g`. -/
def Stripe.beginsIn (t : Stripe) (g : Nat) : Option Item :=
  (List.range 8).findSome? (fun k => t.items.find? (fun i => i.off == g + k))

/-- KIND of a codeword: the stream of its stripe, 4 where all of it is padding. -/
def Stripe.kindAt (t : Stripe) (g : Nat) : Nat :=
  if (List.range 8).any (fun k => (t.itemAt (g + k)).isSome) || g / 8 < t.pages.length then t.stream else 4

/-- Bytes 0 to 4,123 of the payload of codeword `cw` of data member `mem`; `mg` granules make a member. -/
def State.payloadHead (s : State) (t : Stripe) (mg mem cw : Nat) : List Byte :=
  let g := mem * mg + 8 * cw
  let i := t.beginsIn g
  (List.range 8).flatMap (fun k => s.granuleAt t (g + k)) ++
    natBytes 4 (i.elim 0 (·.nsid)) ++ natBytes 6 (i.elim 0 (·.mu)) ++ natBytes 1 (i.elim 0xFF (fun x => x.off - g)) ++
    natBytes 1 (t.kindAt g) ++ natBytes 4 t.band ++ natBytes 8 t.openSeq ++ natBytes 2 t.stripe ++ natBytes 1 mem ++ natBytes 1 cw

/-- The payload of a data member's codeword, with its CRC-32C. -/
def State.payload (s : State) (t : Stripe) (mg mem cw : Nat) : List Byte :=
  let h := s.payloadHead t mg mem cw
  h ++ natBytes 4 (crc32c h).toNat

/-! ### Parity members (R305) -/

/-- A payload multiplied by α^k in GF(2^8) with polynomial 0x11D. -/
def scalePayload (k : Nat) (l : List Byte) : List Byte := l.map (gfMul 0x1D (gfPow 0x1D 2 k))

/-- Parity member `j` over the payloads of the data members, in member order. -/
def parityOf (j : Nat) (l : List (List Byte)) : List Byte :=
  (List.range l.length).foldl (fun a i => xorBytes a (scalePayload (j * i) (l.getD i []))) (natBytes 4128 0)

/-- The payload at codeword `cw` of member `mem`: data, or parity over the data members. -/
def State.memberPayload (s : State) (t : Stripe) (mg mem cw : Nat) : List Byte :=
  if mem < t.d then s.payload t mg mem cw else parityOf (mem - t.d) ((List.range t.d).map (fun i => s.payload t mg i cw))

/-! ### Encoding, flip mask and scrambler (R271, R273, R300) -/

/-- Length N of the codewords of a die, by its spare bytes (R271, R272). -/
def dieCodeLen (f : DieFacts) : Nat := codeN ((codeOf f.spareBytes).getD 0)

/-- A payload with the LDPC parity of a die's code behind it. -/
def ldpcEncode (f : DieFacts) (payload : List Byte) : List Byte :=
  payload ++ natBytes (dieCodeLen f - payload.length) (Config.ldpcParity ((codeOf f.spareBytes).getD 0) payload)

/-- The bytes that the flip mask inverts: payload bytes 0 to 3 (R300). -/
def flipWord (w : Word) (l : List Byte) : List Byte := xorBytes (l.take 4) (natBytes 4 w.toNat) ++ l.drop 4

/-- The codeword at `cw` of member `mem` as encoded, with a flip mask it took (R270, R300). -/
def State.encodedAt (s : State) (t : Stripe) (b : Band) (m : Member) (mem cw : Nat) : List Byte :=
  let w := ldpcEncode (s.memFacts m) (s.memberPayload t (s.bandMem b) mem cw)
  match s.array.flipped.find? (fun x => x.1 == t.band && x.2.1 == t.stripe && x.2.2.1 == mem) with
  | some x => if cw = 0 then flipWord x.2.2.2 w else w
  | none => w

/-- The scrambler sequence of a codeword: by die index, device block, page slot, plane and codeword index (R264, R273). SLC and native
pages use the same one. -/
def State.sequenceAt (s : State) (t : Stripe) (b : Band) (m : Member) (cw n : Nat) : List Byte :=
  let f := s.memFacts m
  let slot := (if b.slc then t.stripe else t.stripe * f.cell) + slotOf f cw
  let r := cw % max 1 (4 * f.planes)
  natBytes n (Config.scrambler m.die m.block slot (r / 4) (r % 4))

/-- A codeword XORed with its sequence: before programming it scrambles, after sensing it descrambles (R273). -/
def State.scramble (s : State) (t : Stripe) (b : Band) (m : Member) (cw : Nat) (w : List Byte) : List Byte :=
  xorBytes w (s.sequenceAt t b m cw w.length)

/-- What the page of a member holds at a codeword once it is programmed (R273). -/
def State.cellsAt (s : State) (t : Stripe) (b : Band) (m : Member) (mem cw : Nat) : List Byte :=
  s.scramble t b m cw (s.encodedAt t b m mem cw)

/-- The stripe whose programs wrote the codeword that a read names. -/
def State.stripeOnFlash (s : State) (band stripe : Nat) : Option Stripe :=
  match s.store.flash.find? (fun t => t.band == band && t.stripe == stripe) with
  | some t => some t
  | none => ((s.stripe band stripe).filter (·.flushing)).map (fun t => { t with cells := s.store.map })

/-- What a sense of an operation's codeword brings to the decoder: the page's bits with the scrambler removed; its bit errors are the
decode's operand. Nothing where no stripe was programmed. -/
def State.sensed (s : State) (o : DieOp) : List Byte :=
  match s.stripeOnFlash o.band o.stripe, s.band o.band with
  | some t, some b =>
    match b.memberAt o.stripe o.mem with
    | some m => s.scramble t b m o.cw (s.cellsAt t b m o.mem o.cw)
    | none => []
  | _, _ => []

end Sys2Proof.Machine
end

