-- ==== Sys2Proof/Machine/LoopOps.lean ====
section
/-! DEFINITION. The arithmetic and the slots of the control engine: Q1.31 with saturation, a sample, enabling, targets, the
package limit, the dirty-limit computation (R456 to R468, R472). -/

namespace Sys2Proof.Machine

open Sys2Proof

/-! ### Q1.31 (R458) -/

/-- Saturation at −1.0 and 1 − 2^−31: the value and whether it saturated. -/
def satQ (x : Int) : Int × Bool :=
  if x < -2147483648 then (-2147483648, true) else if 2147483647 < x then (2147483647, true) else (x, false)

/-- A product: rounded toward zero, then shifted left by KSHIFT, saturating at each (R458). -/
def mulQ (a b : Int) (k : Nat) : Int × Bool :=
  let p := satQ (Int.tdiv (a * b) 2147483648)
  let q := satQ (p.1 * (2 ^ k : Nat))
  (q.1, p.2 || q.2)

/-- The clamp to OUT_MIN and OUT_MAX, which is no saturation (R458). -/
def clampQ (lo hi x : Int) : Int := if x < lo then lo else if hi < x then hi else x

/-! ### Slots -/

def State.slot (s : State) (k : Nat) : Slot := s.loops.getD k {}

def State.modSlot (k : Nat) (f : Slot → Slot) (s : State) : State := { s with loops := modNth s.loops k f }

/-- A slot's register (R479 to R481). -/
def State.loopReg (s : State) (off k : Nat) : Word := s.reg (off + 0x40 * k)

/-- A slot's Q1.31 register. -/
def State.loopQ (s : State) (off k : Nat) : Int := (s.loopReg off k).toInt

/-- A field of LOOP_CTL. -/
def State.loopCtl (s : State) (k hi lo : Nat) : Nat := bits (s.loopReg Reg.LOOP_CTL k) hi lo

def State.loopEn (s : State) (k : Nat) : Bool := s.loopCtl k 31 31 == 1

/-- EN of a slot set or cleared by the device. -/
def State.setEn (k : Nat) (b : Bool) (s : State) : State :=
  let w := s.loopReg Reg.LOOP_CTL k
  s.setReg (Reg.LOOP_CTL + 0x40 * k) (if b then w ||| 0x80000000 else w &&& 0x7FFFFFFF)

/-- A TARGET write by the device: the ramp restarts from the measured value at the next sample (R460). -/
def State.setTarget (k : Nat) (v : Int) (s : State) : State :=
  (s.setReg (Reg.LOOP_TARGET + 0x40 * k) (BitVec.ofInt 32 v)).modSlot k (fun x => { x with arm := true })

/-- EN from 0 to 1 with a target (R460). -/
def State.startSlot (k : Nat) (v : Int) (s : State) : State :=
  ((s.setEn k true).setTarget k v).modSlot k (fun x => { x with feSince := none, maxSince := none })

/-- A carrier's switch opens: u goes to OUT_MIN at once, and the slot stops (R462, R465). -/
def State.openSwitch (k : Nat) (s : State) : State :=
  let u := s.loopQ Reg.LOOP_OUT_MIN k
  let s := (s.setEn k false).modSlot k (fun x =>
    { x with u := u, i := u, ramping := false, arm := false, feSince := none, maxSince := none, driven := true })
  s.modCarrier k (fun c => { c with pwrOn := false, rampAt := none })

/-! ### The grant of the package limiter (R261, R457, R472) -/

/-- Work that the limiter paces: channel operations, LDPC decodes, compression lane starts, maintenance engine work. -/
inductive Paced where
  | channel | decode | lane | engine
  deriving DecidableEq, Repr

/-- Place of a kind of work in `Thermal.pace`. -/
def Paced.idx : Paced → Nat
  | .channel => 0 | .decode => 1 | .lane => 2 | .engine => 3

/-- A grant fraction of 1.0. -/
def fullGrant : Nat := 2147483647

/-- The grant fraction: u of slot 17, 1.0 until the slot has driven it. -/
def State.grantQ (s : State) : Nat := let x := s.slot 17; if x.driven then x.u.toNat else fullGrant

/-- A start of paced work asks for its share: each one that could start adds the grant fraction, and one starts for every full share, so
that at most u times the unpaced starts happen (assumption 92). Answers whether it starts. -/
def State.paced (k : Paced) (s : State) : Bool × State :=
  if fullGrant ≤ s.grantQ then (true, s)
  else
    let c := s.thermal.pace.getD k.idx 0 + s.grantQ
    let ok := decide (fullGrant ≤ c)
    (ok, { s with thermal := { s.thermal with pace := s.thermal.pace.set k.idx (if ok then c - fullGrant else c) } })

/-- A start that is granted, or waits with nothing but its share taken. -/
def State.granted (k : Paced) (s : State) (f : State → Out) : Out :=
  let r := s.paced k
  if r.1 then f r.2 else .next r.2

/-! ### Full scales (R456, R498) -/

/-- Full scale of SNS0 to SNS15 in mA, and CAR_V in mV (CARRIER_SLOT records). -/
def State.carFs (s : State) (k : Nat) : Nat :=
  (s.cfgFind (fun r => match r with | .carrierSlot n _ _ _ f => if n = k then some f else none | _ => none)).getD 1

def State.carV (s : State) (k : Nat) : Nat :=
  (s.cfgFind (fun r => match r with | .carrierSlot n _ _ v _ => if n = k then some v else none | _ => none)).getD 0

/-- Full scale of SNS16 to SNS23 (SENSE record). -/
def State.snsFs (s : State) (n : Nat) : Nat :=
  if n < 16 then s.carFs n
  else (s.cfgFind (fun r => match r with | .sense fs _ _ => some (fs.getD (n - 16) 1) | _ => none)).getD 1

/-- Newest conversion of an input, in its unit. -/
def State.snsVal (s : State) (n : Nat) : Int := s.bank.sense.getD n 0 * (s.snsFs n : Int) / 2048

/-- A value as a fraction of a full scale in Q1.31; above full scale it acts as full scale (R463). -/
def fracQ (v fs : Nat) : Int := min 2147483647 ((v * 2147483648 / max 1 fs : Nat) : Int)

/-! ### Limits (R466, R467, R472, R475, R482) -/

/-- HU_VSET_MV, brought into its range. -/
def State.vset (s : State) : Nat := clampNat 30000 36000 (s.fld Reg.HU_CFG0 31 16)

/-- PKG_LIMIT and PLIM_FLOOR in W, brought into their ranges (R483). -/
def State.pkgLimit (s : State) : Nat := clampNat 20 52 (s.fld Reg.TH_PLIM 31 24)
def State.plimFloor (s : State) : Nat := clampNat 10 40 (s.fld Reg.TH_PLIM 23 16)

/-- p_lim: the lesser of PKG_LIMIT and the thermal limit (R472). -/
def State.pLim (s : State) : Nat := min s.pkgLimit s.thermal.limit

/-- The package power estimate of R472 in mW. -/
def State.pkgMw (s : State) : Int :=
  (s.snsVal 19 + s.snsVal 20) * 3 / 4 + (s.fld Reg.TH_PLIM 15 8 * 1000 : Nat)

/-- Measured value of a slot in Q1.31: SNSk for slots 0 to 16, the power estimate over 64 W for slot 17, the INPUT for slots 18
and 19 (R456, R472, R479). -/
def State.measured (s : State) (k : Nat) : Int :=
  if k = 17 then (satQ (s.pkgMw * 2147483648 / 64000)).1
  else s.bank.sense.getD (if k < 17 then k else min 23 (s.loopCtl k 4 0)) 0 * 1048576

/-- OUT_MAX that the charging budget leaves slot 16 (R467). -/
def State.chargeMax (s : State) : Int :=
  let used := sumBy (List.range 16) (fun k =>
    let c := s.carrier k
    if c.rampAt.isSome then (c.facts.map (·.eeprom.inrushMa)).getD 0 * s.carV k / 1000 else 0)
  let mw := s.fld Reg.HU_CFG3 15 0 * 1000 - used
  if s.bank.vMv = 0 then Config.chargeAtZero mw else fracQ (mw * 1000 / s.bank.vMv) (s.snsFs 17)

/-! ### One sample (R457, R458, R460, R461) -/

/-- sp one step of RAMP nearer to TARGET, and whether it goes on ramping. -/
def rampStep (sp target ramp : Int) : Int × Bool :=
  let r := if ramp < 0 then -ramp else ramp
  if ramp = 0 then (target, false)
  else if sp < target then (if sp + r < target then (sp + r, true) else (target, false))
  else if target < sp then (if target < sp - r then (sp - r, true) else (target, false))
  else (target, false)

/-- Slot `k` after one sample, before its flags, with the saturations of the sample as LOOP_STAT marks them. -/
def State.rawSample (s : State) (k : Nat) : Slot × BitVec 5 :=
  let x := s.slot k
  let pv := s.measured k
  let lo := s.loopQ Reg.LOOP_OUT_MIN k
  let hi := s.loopQ Reg.LOOP_OUT_MAX k
  let sh := s.loopCtl k 27 25
  let (sp, ramping, i0) :=
    if x.arm then (pv, true, x.u)
    else if x.ramping then
      let r := rampStep x.sp (s.loopQ Reg.LOOP_TARGET k) (s.loopQ Reg.LOOP_RAMP k)
      (r.1, r.2, x.i)
    else (x.sp, false, x.i)
  let e := satQ (sp - pv)
  let ki := mulQ (s.loopQ Reg.LOOP_KI k) e.1 sh
  let si := satQ (i0 + ki.1)
  let i := clampQ lo hi si.1
  let kp := mulQ (s.loopQ Reg.LOOP_KP k) e.1 sh
  let kf := mulQ (s.loopQ Reg.LOOP_KFF k) sp sh
  let o := satQ (kp.1 + i + kf.1)
  let u := clampQ lo hi o.1
  let fl : BitVec 5 := BitVec.ofNat 5
    (b2n e.2 + 2 * b2n (ki.2 || kp.2 || kf.2) + 4 * b2n si.2 + 8 * b2n o.2)
  let dir := s.loopCtl k 30 29
  let lim := s.loopQ Reg.LOOP_FE_LIMIT k
  let counts := !ramping && ((dir % 2 == 1 && decide (lim < pv - sp)) || (2 ≤ dir && decide (lim < sp - pv)))
  ({ x with pv := pv, sp := sp, i := i, u := u, ramping := ramping, arm := false, driven := true,
            feSince := if counts then (match x.feSince with | some t => some t | none => some s.seed.now) else none,
            maxSince := if u = hi then (match x.maxSince with | some t => some t | none => some s.seed.now) else none }, fl)

/-- The saturations of a slot's next sample (R458). -/
def State.satMarks (s : State) (k : Nat) : BitVec 5 := (s.rawSample k).2

/-- Slot `k` after one sample: each saturation sets its sticky flag (R458). -/
def State.slotSample (s : State) (k : Nat) : Slot :=
  let r := s.rawSample k
  { r.1 with flags := (s.slot k).flags ||| r.2 }

/-- LOOP_STAT (R480). -/
def State.loopStat (s : State) (k : Nat) : Nat :=
  let x := s.slot k
  x.flags.toNat + atBit 7 (b2n x.ramping) + atBit 6 (b2n (x.driven && x.u == s.loopQ Reg.LOOP_OUT_MAX k)) +
    atBit 5 (b2n (x.driven && x.u == s.loopQ Reg.LOOP_OUT_MIN k))

/-! ### The dirty limit (R468) -/

/-- Transfer rate of a rate code in MB/s (R259). -/
def rateMb (code : Nat) : Nat :=
  ([(0, 3600), (1, 3200), (2, 2400), (3, 1600), (4, 800), (8, 2400), (9, 1600), (10, 1200), (11, 800),
    (12, 400)].find? (·.1 == code)).elim 0 (·.2)

/-- Bus bandwidth of the channels of usable carriers in MB/s. -/
def State.busMb (s : State) : Nat :=
  sumBy s.usable (fun k => rateMb (s.chan (2 * k)).rate + rateMb (s.chan (2 * k + 1)).rate)

/-- The lowest code rate in use, in hundredths (R271, R468); zero without a usable carrier. -/
def State.lowRate (s : State) : Nat :=
  s.usable.foldl (fun a k =>
    match (s.carrier k).facts with
    | none => a
    | some f =>
      let r := codeRate ((codeOf f.eeprom.spareBytes).getD 0)
      if a = 0 then r else min a r) 0

/-- c in µF: the last completed measurement, or HU_CMIN (R468). -/
def State.capUf (s : State) : Nat := s.bank.cUf.getD (s.fld Reg.HU_CFG2 31 16)

/-- The energy-derived term of the dirty limit in bytes, every quotient rounded down (R468). -/
def State.energyLimit (s : State) : Nat :=
  let (d, p) := s.geomAt 0xFFFFFFFF
  let df := (s.dForce d p).getD 0
  -- e_bank in 10^-14 J: eff% × µF × (mV² − 12,000²) ÷ 2
  let v := s.bank.vMv
  let e := min 100 (s.fld Reg.HU_CFG0 7 0) * s.capUf * (v * v - 144000000) / 2
  -- t_e in ns
  let t := e / (max 1 (s.fld Reg.HU_CFG1 31 16)) / 100000
  if t ≤ 25000000 then 0
  else
    let te := min 95000000 (t - 25000000)
    let k := min 52 s.pLim
    -- rate_f in bytes per second
    let rate := s.busMb * 1000000 * s.lowRate * 4096 * df * k / (100 * 4128 * max 1 (df + p) * 52)
    min 100 (s.fld Reg.HU_CFG0 15 8) * rate * te / 100000000000

end Sys2Proof.Machine
end

