-- ==== Sys2Proof/Machine/EngineOps.lean ====
section
/-! DEFINITION. Running a command of the command context table: which entry may run, and how a vendor command answers. -/

namespace Sys2Proof.Machine

open Sys2Proof

/-- An entry of an I/O queue: queue indices below 8,192 (R86). -/
def Cct.isIo (c : Cct) : Bool := decide (c.queue < 8192)

/-- Runs a command on an entry that is dispatched with that opcode on that kind of queue; otherwise nothing changes
(assumption 2). -/
def State.withCmd (e opc : Nat) (io : Bool) (f : Cct → State → State) (s : State) : State :=
  match s.entry e with
  | none => s
  | some c => if c.st == .dispatched && c.cap.opc == opc && c.isIo == io then f c s else s

/-- Answers a command with a status and Dword 0 and no data. -/
def State.answer (c : Cct) (status : Nat) (result : Word) (s : State) : State := s.finish c.idx status result .none

/-- Answers with a status alone. -/
def State.reply (c : Cct) (status : Nat) (s : State) : State := s.answer c status 0

/-- Answers a command that waited and was taken out of `dispatched` long before: the entry, if it is still there. -/
def State.answerEntry (e : Option Nat) (status : Nat) (result : Word) (s : State) : State :=
  match e with
  | none => s
  | some i =>
    match s.entry i with
    | none => s
    | some c => s.answer c status result

/-- Restricted Dwords of a vendor command: bits outside the masks are reserved (R128). -/
def onlyDws (c : Capsule) (m10 m11 m12 m13 m14 m15 : Nat) : Bool :=
  onlyBits c.dw10 m10 && onlyBits c.dw11 m11 && onlyBits c.dw12 m12 && onlyBits c.dw13 m13 && onlyBits c.dw14 m14 &&
  onlyBits c.dw15 m15

end Sys2Proof.Machine
end

