-- ==== Sys2Proof/Machine/CarrierOps.lean ====
section
/-! DEFINITION. Carriers and array membership: array records and the epoch, identification and calibration of dies, admission,
release, loss, and the program gate (R259 to R269, R289, R334 to R342). -/

namespace Sys2Proof.Machine

open Sys2Proof

/-! ### Array records and the epoch (R334, R336) -/

/-- The valid array record: the copy with the higher GEN. -/
def Carrier.record (c : Carrier) : Option ArrayRec :=
  match c.recA, c.recB with
  | some a, some b => if a.gen < b.gen then some b else some a
  | some a, none => some a
  | none, x => x

/-- Writes a record into the copy that does not hold the valid one. -/
def Carrier.putRec (c : Carrier) (r : ArrayRec) : Carrier :=
  match c.recA, c.recB with
  | some a, some b => if a.gen < b.gen then { c with recA := some r } else { c with recB := some r }
  | some _, none => { c with recB := some r }
  | none, _ => { c with recA := some r }

/-- Writes the array record of a carrier that can be reached; a write that fails twice records event 0x13 (R336). -/
def State.writeRec (k st : Nat) (s : State) : State :=
  let c := s.carrier k
  if !c.present then s
  else if c.facts.any (·.writeFails) then s.capture 0x0A13 [k]
  else
    let old := c.record
    let r : ArrayRec := { gen := (old.elim 0 (·.gen)) + 1, arrayId := s.array.arrayId.getD 0, slot := k, state := st,
                          epoch := s.array.epoch, admitH := if st = 2 then (old.elim s.seed.hours (·.admitH)) else s.seed.hours }
    s.modCarrier k (fun c => c.putRec r)

/-- Member carriers of the MEMBERS bitmap. -/
def State.memberSlots (s : State) : List Nat := (List.range 16).filter (fun k => s.array.members.testBit k)

/-- A change of membership: the epoch rises, the member-state record is written, then every member's array record, the
settings with them (R336, R506). -/
def State.newMembers (members slot cause st : Nat) (bump : Bool) (s : State) : State :=
  let a := s.array
  let s := { s with array := { a with members := members, epoch := if bump then a.epoch + 1 else a.epoch } }
  let s := s.jsync (.member slot cause 0xFFFF st false s.array.epoch s.array.members)
  let s := s.memberSlots.foldl (fun s k => s.writeRec k 2) s
  s.writeSettings

/-! ### Identification of dies (R259, R262, R266, R267, R272) -/

/-- Die indices of a carrier by its EEPROM: two channels, CES chip enables, LUNS each. -/
def carrierDies (k : Nat) (f : CarrierFacts) : List (Nat × DieFacts) :=
  (List.range 2).flatMap (fun c => (List.range f.eeprom.ces).flatMap (fun ce => (List.range f.eeprom.luns).map (fun l =>
    let key := c * 64 + ce * 8 + l
    ((2 * k + c) * 64 + ce * 8 + l, ((f.badDies.find? (·.1 == key)).map (·.2)).getD f.die))))

/-- Why a die is refused: the CAUSE of event 0x03; none when it is admitted (R263 to R266, R272). -/
def dieCause (e : Eeprom) (f : DieFacts) : Option Nat :=
  if !f.signature then some 1
  else if !f.paramCrc then some 2
  else if !f.features then some 3
  else if !(f.planes == e.planes && f.npb == e.npb && f.cell == e.cell && f.spareBytes == e.spareBytes) then some 4
  else if (codeOf f.spareBytes).isNone then some 5
  else if 2 ^ 31 - 2 < e.blocks * f.npb * slotGran f - 1 then some 6
  else none

/-- A rate code a die supports at least at this family's order: rates from the configured one down. -/
def rateOrder (family : Nat) : List Nat := if family = 0 then [0, 1, 2, 3, 4] else [8, 9, 10, 11, 12]

/-- Configured rate of a carrier's channels and its family (CARRIER_SLOT record). -/
def State.slotRec (s : State) (k : Nat) : Option (Nat × Nat) :=
  s.cfgFind (fun r => match r with | .carrierSlot n f m _ _ => if n = k then some (f, m) else none | _ => none)

/-- Rate a channel takes (R259): with event 0x02 when it lies below the configured one. -/
def State.setRate (ch : Nat) (s : State) : State :=
  let k := ch / 2
  let (fam, cfg) := (s.slotRec k).getD (0, 0)
  let dies := s.array.dies.filter (fun d => !d.old && dieChan d.idx == ch && !d.refused)
  let r := ((rateOrder fam).find? (fun c => decide (cfg ≤ c) && dies.all (fun d => d.facts.rates.contains c))).getD
    (if fam = 0 then 4 else 12)
  let s := s.modChan ch (fun c => { c with rate := r, rateCfg := cfg })
  if r = cfg then s
  else
    let lim := (dies.find? (fun d => !d.facts.rates.contains cfg)).elim 0 (·.idx)
    s.capture 0x0902 [ch, r, cfg, lim]

/-- Events of the dies refused, and calibration of the two channels (R266, R267). -/
def State.calibrate (k : Nat) (f : CarrierFacts) (s : State) : State :=
  let s := (carrierDies k f).foldl (fun s x =>
    match dieCause f.eeprom x.2 with
    | some c => s.capture 0x0903 [x.1, c]
    | none => s) s
  (List.range 2).foldl (fun s c =>
    let ch := 2 * k + c
    match f.calFail.find? (·.1 == c) with
    | some x => (s.modChan ch (fun y => { y with st := 4 })).capture 0x0901 [ch, x.2]
    | none =>
      let s := s.modChan ch (fun y => { y with st := 2, zqAt := s.seed.now, calTemp := (s.carrier k).temp })
      s.setRate ch) s

/-- A die of a carrier fails a check of its own, or lies on a channel whose calibration failed (R266, R267). -/
def dieBad (k : Nat) (f : CarrierFacts) (x : Nat × DieFacts) : Bool :=
  (dieCause f.eeprom x.2).isSome || f.calFail.any (fun c => 2 * k + c.1 == dieChan x.1)

/-- Resets, identifies and checks a carrier's dies and calibrates its channels: each die takes state `st`, a refused one counts
as failed (R266, R267, R309). -/
def State.identify (k st gen : Nat) (s : State) : State :=
  match (s.carrier k).facts with
  | none => s
  | some f =>
    -- earlier generations stay while a band with valid extents holds them (R308)
    let keep := (s.array.dies.map (fun d =>
      if dieCar d.idx == k && !d.old then { d with old := true } else d)).filter (fun d =>
        dieCar d.idx != k || !(s.validBandsOfDie d.idx d.gen).isEmpty && (d.st == 3 || d.st == 4))
    let new := (carrierDies k f).map (fun x =>
      let bad := dieBad k f x
      ({ idx := x.1, gen := gen, st := if bad then 3 else st, facts := x.2, refused := bad } : Die))
    State.calibrate k f { s with array := { s.array with dies := keep ++ new } }

/-- Every die of the carrier is refused (R355 event 0x0E cause 5). -/
def State.allRefused (s : State) (k : Nat) : Bool :=
  (s.array.dies.filter (fun d => !d.old && dieCar d.idx == k)).all (·.refused)

/-- A carrier that is not powered (R335): refused, with its cause. -/
def State.refuseCarrier (k cause : Nat) (s : State) : State :=
  (s.modCarrier k (fun c => { c with st := 10, cause := cause, i2cErr := c.i2cErr || cause == 1 })).capture 0x0A0E [k, cause]

/-- Cause of refusal found in the EEPROM (R335, R355); none when it is accepted. -/
def State.eepromCause (s : State) (k : Nat) (e : Eeprom) : Option Nat :=
  if !e.readable then some 1
  else if !e.tagOk || !e.crcOk then some 2
  else if !([2, 4, 6, 8].contains e.planes && 0 < e.npb && e.npb ≤ 4096 && (e.cell == 3 || e.cell == 4) &&
            1 ≤ e.ces && e.ces ≤ 8 && 1 ≤ e.luns && e.luns ≤ 8) then some 3
  else if ((s.slotRec k).map (·.1)) != some e.family then some 4
  else if e.inrushMa = 0 || e.runMa = 0 then some 6
  else none

/-- Class of an accepted carrier inserted while running: 2 pending, 3 stale (R335). -/
def Carrier.classOf (c : Carrier) : Nat :=
  match c.record with
  | none => 2
  | some r => if r.state = 3 then 2 else 3

/-- Removes every non-old die of a slot whose bands hold nothing valid, the others stay with their state (R309). -/
def State.diesAbsent (k : Nat) (s : State) : State :=
  let dies := s.array.dies.map (fun d =>
    if dieCar d.idx == k && !d.old && !((d.st == 3 || d.st == 4) && !(s.validBandsOfDie d.idx d.gen).isEmpty) then
      { d with st := 0, queue := [], op := 0, suspended := 0 }
    else d)
  { s with array := { s.array with dies := dies } }

/-- Domain of a carrier set to a condition, with its channels' state (R26, R293, R426). -/
def State.setDom (k : Nat) (d : DomCond) (s : State) : State :=
  let s := { s with power := { s.power with carDom := modNth s.power.carDom k (fun _ => d) } }
  let st := match d with | .on => 2 | .gated => 3 | _ => 0
  (List.range 2).foldl (fun s c => s.modChan (2 * k + c) (fun y => if y.st == 4 then y else { y with st := st })) s

/-! ### Health values of a slot (R253 to R255) -/

/-- A u32 field of page 0xC0 that comes to saturate records event 0x1F (R254). -/
def State.satField (off old new : Nat) (s : State) : State :=
  if decide (old < 0xFFFFFFFF) && decide (0xFFFFFFFF ≤ new) then s.satEvent 8 off 0 else s

/-- A slot without an admitted carrier has no end-of-life record (R253, R255). -/
def State.dropEol (k : Nat) (s : State) : State :=
  { s with upkeep := { s.upkeep with eol := s.upkeep.eol.filter (·.slot != k) } }

/-! ### Admission (R340, R333) -/

/-- Step 1 of an admission: the member-state record, the array record in STATE admitting, the dies admitting. -/
def State.startAdmit (k : Nat) (s : State) : State :=
  let s := s.jsync (.member k 8 0xFFFF 7 false s.array.epoch s.array.members)
  let s := s.writeRec k 1
  let n := ((s.carrier k).facts.map (·.eeprom.blocks)).getD 0
  let dies := s.array.dies.map (fun d =>
    if dieCar d.idx == k && !d.old && !d.refused then
      { d with st := 7, admitLeft := n, reserve := n * 2 / 100 } else d)
  ({ s with array := { s.array with dies := dies } }).modCarrier k (fun c =>
    { c with st := 4, admitRetired := 0 })

/-- Failed dies of a carrier whose rebuild waits enter rebuilding (R315). -/
def State.startRebuild (k delay : Nat) (s : State) : State :=
  let n := (s.array.dies.filter (fun d => dieCar d.idx == k && d.st == 3 && !d.refused)).length
  let hit := (s.array.dies.filter (fun d => dieCar d.idx == k && d.st == 3 && !d.refused)).map (·.idx)
  let s := hit.foldl (fun s d => s.memberRec k 5 d 4 false) s
  let dies := s.array.dies.map (fun d =>
    if dieCar d.idx == k && d.st == 3 && !d.refused then { d with st := 4, direct := false } else d)
  let u := { s.upkeep with delayed := s.upkeep.delayed.filter (·.1 != k) }
  let before := s.rebuildSet
  let s := ({ s with array := { s.array with dies := dies }, upkeep := u }).capture 0x0A04 [k, n, before.length, delay]
  s.settle before

/-- Step 3 of an admission, when every admitting die's blocks are erased (R340): membership, dies online, bands formed. An array
creation keeps epoch 1 (R333). -/
def State.finishAdmit (s : State) : State :=
  let ks := (List.range 16).filter (fun k => (s.carrier k).st == 4)
  let left := s.array.dies.any (fun d => !d.old && d.st == 7 && d.admitLeft != 0)
  if ks.isEmpty || left then s
  else
    let create := s.array.members == 0
    let members := ks.foldl (fun m k => m ||| (2 ^ k)) s.array.members
    let s := s.newMembers members (ks.headD 0xFF) 8 1 (!create)
    let dies := s.array.dies.map (fun d =>
      if !d.old && d.st == 7 then { d with st := 1, gen := s.array.epoch } else d)
    let s := { s with array := { s.array with dies := dies } }
    let s := ks.foldl (fun s k =>
      let n := (s.array.dies.filter (fun d => !d.old && dieCar d.idx == k && !d.refused)).length
      let res := sumBy (s.array.dies.filter (fun d => !d.old && dieCar d.idx == k && !d.refused)) (·.reserve)
      let c := s.carrier k
      let s := s.modCarrier k (fun c => { c with st := 5, moved := 0 })
      let w := s.wFrac k
      let x : Eol := { slot := k, resInit := res, resLeft := res, retired := 0, admitH := s.seed.hours, hist := [(s.seed.hours, w.1, w.2, 0)] }
      let s := { s with upkeep := { s.upkeep with eol := x :: s.upkeep.eol.filter (·.slot != k) } }
      (s.capture 0x0A0F [k, n, c.admitRetired, s.array.epoch]).settleCarrier k) s
    let s := (s.upkeep.delayed.map (·.1)).foldl (fun s k => s.startRebuild k 0) s
    let fuel := sumBy s.array.dies (fun d => ((s.carrier (dieCar d.idx)).facts.map (·.eeprom.blocks)).getD 0)
    ((s.reformLanding.formBands fuel).setPool.setPslc.setRegime).gatherHost

/-- A block of an admitting die whose erase has been reported (R340 step 2): a failed block is retired and takes a reserve
block; a die left with no reserve is refused. -/
def State.admitErase (d block : Nat) (ok : Bool) (s : State) : State :=
  match s.die d with
  | none => s
  | some x =>
    if x.st != 7 || x.admitLeft = 0 then s
    else
      let s := s.modDie d (fun y => { y with admitLeft := y.admitLeft - 1 })
      let s :=
        if ok then (s.modBlock d block (fun b => { b with wear := b.wear + 16, reads := 0, opt := 0, off := 0 })).health 4 1
        else
          let s := (s.modBlock d block (fun b => { b with retired := true })).modDie d
            (fun y => { y with reserve := y.reserve - 1 })
          let s := s.modCarrier (dieCar d) (fun c => { c with admitRetired := c.admitRetired + 1 })
          let s := s.jsync (.blockRetired d 2 block 0xFFFFFFFF none)
          let s := ((s.health 8 1).health 9 1).capture 0x0905 [d, block]
          if x.reserve ≤ 1 then s.modDie d (fun y => { y with st := 3, refused := true, admitLeft := 0 }) else s
      s.finishAdmit

/-- Releases whose carrier no band includes any more come to step 3 (R341). -/
def State.settleRelease (s : State) : State :=
  (List.range 16).foldl (fun s k =>
    let c := s.carrier k
    let held := s.upkeep.bands.any (fun b => b.members.any (fun m =>
      dieCar m.die == k && ((s.dieGen m.die m.gen).elim false (fun d => !d.old))))
    if c.st != 7 || held then s
    else
      let members := s.array.members &&& (0xFFFF ^^^ (2 ^ k))
      let s := s.newMembers members k 7 5 true
      let s := s.writeRec k 3
      let dies := s.array.dies.map (fun d => if dieCar d.idx == k && !d.old then { d with st := 5, direct := false } else d)
      let s := { s with array := { s.array with dies := dies } }
      let s := ((s.setTarget k 0).modCarrier k (fun c => { c with st := 8 })).dropEol k
      let s := (s.setDom k .gated).setPool
      let s := s.capture 0x0A10 [k, c.releaseBytes / 2 ^ 30, s.since c.releaseAt / 1000000, s.array.epoch]
      s.settleDies) s

/-! ### Erases without a member (R342, R316) -/

/-- Members of a band whose erase is still awaited: those whose die is neither failed nor rebuilding. -/
def State.eraseLeft (s : State) (b : Band) : List Nat :=
  (List.range b.members.length).filter (fun i =>
    !b.erased.contains i && ((b.members[i]?).map (fun m => !s.memDown m)).getD false)

/-- Kind a band takes when it becomes ERASED: landing bands stay, another may be wanted as landing or pSLC, else native
(R203 to R205; assumption 18). -/
def State.erasedKind (s : State) (b : Band) : BandKind :=
  if b.kind == .landing then .landing
  else { s with upkeep := { s.upkeep with bands := s.upkeep.bands.filter (·.num != b.num) } }.kindWanted

/-- Landing relocation ends once every landing band is erased again: event 0x07 (R217). -/
def State.landingDone (s : State) : State :=
  match s.store.landingAt with
  | none => s
  | some t =>
    if s.upkeep.bands.any (fun b => b.kind == .landing && b.st != .erased) then s
    else
      let st := s.store
      ({ s with store := { st with landingAt := none, relocated := 0 } }).capture 0x0707 [st.relocated, s.since t / 1000]

/-- An erased band is none that a Sanitize still waits for (R154). -/
def State.sanBand (num : Nat) (s : State) : State :=
  let sl := s.slices
  let f (x : SliceS) : SliceS := { x with erase := x.erase.map (fun j => { j with bands := j.bands.filter (· != num) }) }
  { s with slices := { sl with list := sl.list.map f } }

/-- Wear of one erase (R241). -/
def State.eraseWear (s : State) (slc : Bool) : Nat := if slc then max 1 (s.fld Reg.MNT_WL_CFG 11 8) else 16

/-- A copy of the band metadata as an erase-complete record of a band corrects it (R223): age and read counts are zero. -/
def BandMeta.erased (m : BandMeta) (num : Nat) (ms : List (Nat × Nat)) : BandMeta :=
  { ages := m.ages.filter (·.1 != num), reads := m.reads.filter (fun x => !ms.contains (x.1, x.2.1)) }

def Journal.erasedMeta (j : Journal) (num : Nat) (ms : List (Nat × Nat)) : Journal :=
  let f (r : MapRoot) : MapRoot := { r with bands := r.bands.erased num ms }
  { j with mapA := j.mapA.map f, mapB := j.mapB.map f }

/-- A band every remaining member of which has been erased: retirements, the erase-complete record, ERASED, re-formed without
failed dies (R233, R237, R317, R329). -/
def State.finishErase (num : Nat) (s : State) : State :=
  match s.band num with
  | none => s
  | some b =>
    if b.st != .erasing || !(s.eraseLeft b).isEmpty then s
    else
      let ms := (b.erased.filterMap (fun i => (b.members[i]?).map (fun m => (m.die, m.block))))
      let s := s.jsync (.eraseComplete num b.slc ms)
      let dur := s.since b.erasingAt / 1000
      let old := s.upkeep.maxEraseMs
      let u := { s.upkeep with maxEraseMs := max old dur }
      let s := ({ s with upkeep := u }).satField 380 old (max old dur)
      let kind := s.erasedKind b
      let s := s.modBand num (fun b =>
        { b with st := .erased, kind := kind, nextStripe := 0, closed := false, age := 0, erased := [], starved := false,
                 listed := [], reqs := [], moveKind := 0, again := false })
      let st := s.store
      let s := { s with
        store := { st with placed := st.placed.filter (·.band != num), flash := st.flash.filter (·.band != num),
                           writtenMeta := st.writtenMeta.map (fun (m : BandMeta) => m.erased num ms) },
        journal := s.journal.erasedMeta num ms,
        array := { s.array with flipped := s.array.flipped.filter (·.1 != num) } }
      let s := if b.members.any s.memDown then s.reform num else s
      let s := match s.array.reshape with
        | some (_, _, bb, _) => if num < bb then s.reformNew num else s
        | none => s
      (s.sanBand num).landingDone.setPslc.setRegime.settleRelease

/-! ### Loss of a carrier (R337, R342) -/

/-- CAUSE of the member-state record for a cause of event 0x11 (R344, R355). -/
def lossRec : Nat → Nat
  | 1 => 5 | 2 => 6 | 3 => 7 | _ => 2

/-- A member carrier is lost: its dies fail, stripes are voided, the epoch rises, rebuild waits for its delay (R342). `rec` is the CAUSE
of the member-state record. -/
def State.loseMember (k cause rec : Nat) (s : State) : State :=
  let before := s.rebuildSet
  let s := s.openSwitch k
  let bands := (s.upkeep.bands.filter (fun b => b.members.any (fun m => dieCar m.die == k))).length
  let hit := s.array.dies.filter (fun d => !d.old && dieCar d.idx == k && (d.st == 1 || d.st == 2))
  let s := if hit.isEmpty then s else s.beginPeriod
  let dies := s.array.dies.map (fun d =>
    if dieCar d.idx == k && !d.old then
      let d := { d with queue := [], op := 0, suspended := 0 }
      if d.st == 1 || d.st == 2 then { d with st := 3, direct := false }
      else if d.st == 4 then { d with direct := false } else d
    else d)
  let s := { s with array := { s.array with dies := dies } }
  let s := s.bump Reg.STR_CNT_DIE_FAIL hit.length
  let s := (hit.foldl (fun s d => s.endStripesOf d.idx d.gen 1) s).loseBeyond
  let s := (s.upkeep.bands.filter (·.st == .erasing)).foldl (fun s b => s.finishErase b.num) s
  let members := s.array.members &&& (0xFFFF ^^^ (2 ^ k))
  let c := s.carrier k
  let s := (s.modCarrier k (fun c => { c with st := if c.present then 9 else 0, cause := cause })).dropEol k
  let s := s.newMembers members k rec 3 true
  let s := (s.setDom k .off).capture 0x0A11 [k, cause, bands, s.array.epoch]
  let s := s.bump Reg.STR_CNT_LOSS 1
  let u := { s.upkeep with delayed := s.upkeep.delayed ++ [(k, s.seed.now)] }
  let s := { s with upkeep := u }
  let (d, p) := s.geomAt s.nextBand
  let s := if (s.dForce d p).isNone then s.capture 0x0A14 [s.usable.length, p] else s
  let s := s.reformErased.setPool
  let s := if c.present then s else s.diesAbsent k
  (s.settle before).gatherHost

def State.loseCarrier (k cause : Nat) (s : State) : State := s.loseMember k cause (lossRec cause)

/-! ### The program gate (R268, R289) -/

/-- Program range of a carrier: TG_LOW, TG_HIGH, TG_HYST in °C (R296). -/
def State.tgate (s : State) (k : Nat) : Int × Int × Int :=
  let w := s.reg (Reg.CH_TGATE + 0x2000 * k)
  (signed 8 (bits w 23 16), signed 8 (bits w 31 24), max 1 (bits w 15 8 : Int))

/-- The gate acts on the carrier's temperature, and calibration on a move of 5 °C. -/
def State.gateOn (k : Nat) (s : State) : State :=
  let c := s.carrier k
  let t := c.temp
  let (lo, hi, hy) := s.tgate k
  let s :=
    if !c.gateClosed && (decide (t < lo) || decide (hi < t)) then
      (s.modCarrier k (fun c => { c with gateClosed := true, gateAt := s.seed.now })).capture 0x090B
        [k, unsigned 32 t, unsigned 32 lo, unsigned 32 hi]
    else if c.gateClosed && decide (lo + hy ≤ t) && decide (t ≤ hi - hy) then
      (s.modCarrier k (fun c => { c with gateClosed := false })).capture 0x090C
        [k, unsigned 32 t, s.since c.gateAt / 1000]
    else s
  (List.range 2).foldl (fun s i =>
    s.modChan (2 * k + i) (fun y =>
      if y.calTemp + 5 ≤ t || t + 5 ≤ y.calTemp then { y with calTemp := t, zqAt := s.seed.now } else y)) s

end Sys2Proof.Machine
end

