-- ==== Sys2Proof/Machine/UpkeepOps.lean ====
section
/-! DEFINITION. Moving bands, losses beyond redundancy, read counts, wear levelling, end-of-life prediction, erasing bands
(R224 to R251, R315, R320). -/

namespace Sys2Proof.Machine

open Sys2Proof

/-! ### Moving a band (R224, R226, R316, R372) -/

/-- Valid map pages of a band are not copied: they become dirty and the map stream rewrites them (R228). -/
def State.dirtyPagesOf (num : Nat) (s : State) : State :=
  let l := (s.store.pagesIn num).filter (fun x => x.id != metaPage)
  let d := l.foldl (fun d x => dirtyPut d x.slice x.nsid x.page (s.journal.nextSeq - 1)) s.store.dirtyPages
  { s with store := { s.store with dirtyPages := d } }

/-- Moves what fits of a victim's valid extents, in stripe order; what remains is taken by the next move step. -/
def State.moveBand (num kind : Nat) (s : State) : State :=
  match s.band num with
  | none => s
  | some b =>
    let s := s.loseBand b
    let s := s.modBand num (fun x => { x with st := if x.st == .full then .victim else x.st, moveKind := kind })
    let s := s.dirtyPagesOf num
    let l := (List.range b.nextStripe).flatMap (fun st => (s.validIn num).filter (·.stripe == st))
    let before := s.rebuildSet
    ((s.moveList kind (l.filter (fun p => !s.movingNow p))).settle before)

/-- The first of the least elements by a time. -/
def earliest (l : List (Nat × Nat × Nat)) : Option (Nat × Nat) :=
  (l.foldl (fun (best : Option (Nat × Nat × Nat)) x =>
    match best with
    | none => some x
    | some y => if x.1 < y.1 then some x else some y) none).map (·.2)

/-- The oldest request of a class among the FULL bands. -/
def State.oldest (s : State) (cls : Nat) : Option (Nat × Nat) :=
  earliest ((s.upkeep.bands.filter (·.st == .full)).filterMap (fun b =>
    (b.reqs.find? (·.1 == cls)).map (fun r => (r.2.1, b.num, r.2.2))))

/-- The pSLC buffer is to be folded: more than half full, in the data capacity of its FULL bands, above its size, or disabled (R204, R219). -/
def State.foldDue (s : State) : Bool :=
  let l := s.upkeep.bands.filter (·.kind == .pslc)
  let full := sumBy (l.filter (fun b => b.st == .full || b.st == .victim)) s.bandGran
  !s.pslcEn || sumBy l s.bandGran < 2 * full ||
    l.any (fun b => s.pslcGoal + s.bandGran b ≤ sumBy l s.bandGran)

/-- The class 3 band that closed first, a landing band or, while folding is due, a pSLC one, with its KIND (R204, R217, R224; assumption 91). -/
def State.classThree (s : State) : Option (Nat × Nat) :=
  earliest ((s.upkeep.bands.filter (fun b => b.st == .full && (b.kind == .landing || (b.kind == .pslc && s.foldDue)))).map (fun b =>
    (b.closedMin, b.num, if b.kind == .landing then 4 else 2)))

/-- The next victim: (band, KIND, job), in the order of the classes (R224, R225). -/
def State.nextVictim (s : State) : Option (Nat × Nat × Nat) :=
  match s.oldest 1 with
  | some (n, k) => some (n, k, 4)
  | none =>
    match s.oldest 2 with
    | some (n, k) => some (n, k, 4)
    | none =>
      match s.classThree with
      | some (n, k) => some (n, k, 3)
      | none =>
        match if s.freeCount < s.freeTarget then s.gcVictim else none with
        | some b => some (b.num, 1, 2)
        | none => (s.oldest 5).map (fun x => (x.1, 5, 2))

/-- Rebuild order: a key that sorts lower first (R315). -/
def State.rebuildKey (s : State) (b : Band) : Nat × Nat × Nat × Nat :=
  let n := (b.members.filter s.memDown).length
  (if b.p ≤ n then 0 else 1, 16 - n, if b.kind == .map then 0 else 1, b.num)

/-- The first class of R315 sorts map bands first among bands of any count at or above P, later ones within each count. -/
def keyLt (a b : Nat × Nat × Nat × Nat) : Bool :=
  if a.1 != b.1 then a.1 < b.1
  else if a.1 == 0 && a.2.2.1 != b.2.2.1 then a.2.2.1 < b.2.2.1
  else if a.2.1 != b.2.1 then a.2.1 < b.2.1
  else if a.2.2.1 != b.2.2.1 then a.2.2.1 < b.2.2.1
  else a.2.2.2 < b.2.2.2

/-- A member's die has entered rebuilding. -/
def State.rebuilding (s : State) (m : Member) : Bool :=
  match s.dieGen m.die m.gen with
  | none => false
  | some d => d.st == 4

/-- The band rebuild takes next (R315): one with a rebuilding member. -/
def State.nextRebuild (s : State) : Option Band :=
  ((s.rebuildSet.filter (fun b => (b.st == .full || b.st == .victim) && b.members.any s.rebuilding)).foldl
    (fun (best : Option Band) b =>
      match best with
      | none => some b
      | some a => if keyLt (s.rebuildKey b) (s.rebuildKey a) then some b else some a) none)

/-- KIND of a rebuild move: 8 when every down member is being released, else 7 (R316). -/
def State.rebuildKind (s : State) (b : Band) : Nat :=
  if (b.members.filter s.memDown).all s.direct then 8 else 7

/-! ### Erasing (R233 to R237) -/

/-- An erase may start: the band waits, nothing pins it, its dies' queues have room, and no emergency flush runs. -/
def State.canErase (s : State) (b : Band) : Bool :=
  b.st == .erasePending && b.pins.isEmpty && s.store.flush.isNone &&
  b.members.all (fun m => s.memDown m || ((s.die m.die).elim false (fun d => d.queue.length < 32)))

/-- Starts the erases of a band: blocks flagged for retirement are retired first, then the erase-started record is durable
before the first erase (R233, R237, R240). -/
def State.startErase (num : Nat) (s : State) : State :=
  match s.band num with
  | none => s
  | some b =>
    if !s.canErase b then s
    else
      let s := b.retire.foldl (fun s r => s.retireBlock num r.1 r.2) s
      let s := s.modBand num (fun x => { x with retire := [], st := .erasing, erasingAt := s.seed.now, erased := [],
                                                starved := false })
      match s.band num with
      | none => s
      | some b =>
        let live := (List.range b.members.length).filter (fun i => ((b.members[i]?).map (fun m => !s.memDown m)).getD false)
        let ms := live.filterMap (fun i => (b.members[i]?).map (fun m => (m.die, m.block)))
        let s := (s.jsync (.eraseStarted num b.slc ms)).modBand num (fun x => { x with listed := ms })
        let s := live.foldl (fun s i =>
          match b.members[i]? with
          | none => s
          | some m => s.enqueueOp m.die 4 3 num 0 i) s
        s.finishErase num

/-! ### Static wear levelling (R243) -/

/-- Blocks of a carrier's dies and their wear: (least, greatest), retired blocks left out; unlisted blocks have no wear. -/
def State.wearSpan (s : State) (k : Nat) : Nat × Nat :=
  let dies := s.array.dies.filter (fun d => !d.old && dieCar d.idx == k && !d.refused && d.st != 0)
  let n := dies.length * ((s.carrier k).facts.elim 0 (·.eeprom.blocks))
  let l := s.upkeep.blocks.filter (fun b => dieCar b.die == k && !b.retired)
  let r := (s.upkeep.blocks.filter (fun b => dieCar b.die == k && b.retired)).length
  let hi := l.foldl (fun a b => max a b.wear) 0
  let lo := if l.length + r < n then 0 else l.foldl (fun a b => min a b.wear) hi
  (lo, hi)

/-- Makes a class 5 victim where a carrier's wear spread is too great and none is being moved (R243). -/
def State.levelWear (k : Nat) (s : State) : State :=
  let busy := s.upkeep.bands.any (fun b => b.reqs.any (·.1 == 5) || (b.st == .victim && b.moveKind == 5))
  let (lo, hi) := s.wearSpan k
  let rated := 16 * max 1 (((s.carrier k).facts.map (·.eeprom.rated)).getD 1)
  let pct := max 1 (s.fld Reg.MNT_WL_CFG 7 0)
  if busy || (hi - lo) * 100 ≤ pct * rated then s
  else
    let l := s.upkeep.bands.filter (fun b => b.st == .full &&
      b.members.any (fun m => dieCar m.die == k && (s.block m.die m.block).wear == lo))
    match l.foldl (fun (best : Option Band) b =>
        match best with
        | none => some b
        | some a => if b.closedMin < a.closedMin then some b else some a) none with
    | none => s
    | some b => (s.request b.num 5 5).capture 0x0815 [k, b.num, (hi - lo) * 10000 / rated]

/-! ### End of life (R244) -/

/-- What the history says of a carrier at the start of a window, shortened to the time since admission (R244). -/
def State.eolFrom (s : State) (x : Eol) (win : Nat) : Nat × Nat × Nat × Nat :=
  let h := s.seed.hours
  let w := s.wFrac x.slot
  (x.hist.find? (fun y => decide (h ≤ y.1 + min win (h - x.admitH)))).getD (h, w.1, w.2, x.retired)

/-- Rise of W over the last 168 operating hours, as a fraction, and the hours it is taken over (R244). -/
def State.wearRise (s : State) (x : Eol) : Nat × Nat × Nat :=
  let a := s.eolFrom x 168
  let w := s.wFrac x.slot
  (w.1 * a.2.2.1 - a.2.1 * w.2, w.2 * a.2.2.1, s.seed.hours - a.1)

/-- r of R244 in parts per million of W per day (R255). -/
def State.wearRate (s : State) (x : Eol) : Nat :=
  let r := s.wearRise x
  if r.2.2 = 0 then 0 else r.1 * 24000000 / (r.2.1 * r.2.2)

/-- The prediction of a carrier in days, with its cause; none is infinite or absent (R244). -/
def State.predict (s : State) (x : Eol) : Option Nat × Nat :=
  if s.seed.hours < x.admitH + 24 then (none, 0)
  else
    let r := s.wearRise x
    let w := s.wFrac x.slot
    -- (1 − W) ÷ r
    let t1 := if r.1 = 0 then none else some ((w.2 - w.1) * r.2.1 * r.2.2 / (24 * r.1 * w.2))
    let c := s.eolFrom x 720
    let qh := s.seed.hours - c.1
    let dr := x.retired - c.2.2.2
    let left := s.resLeftOf x.slot * 10 - x.resInit
    let t2 := if dr = 0 then none else some (left * qh / (240 * dr))
    match t1, t2 with
    | none, none => (none, 0)
    | some a, none => (some a, 1)
    | none, some b => (some b, 2)
    | some a, some b => if b < a then (some b, 2) else (some a, 1)

/-- Predicts every online carrier's end of life, with events 0x10 and 0x11 (R244). -/
def State.predictAll (s : State) : State :=
  s.upkeep.eol.foldl (fun s x =>
    let st := (s.carrier x.slot).st
    if st != 5 && st != 6 then s
    else
      let (days, cause) := s.predict x
      let w := s.wPpm x.slot
      let f := s.wFrac x.slot
      let rate := s.wearRate x
      let left := s.resLeftOf x.slot
      let low := (days.map (fun d => decide (d < s.fld Reg.MNT_WL_CFG 31 16))).getD false
      let s := s.modEol x.slot (fun y =>
        { y with days := days, cause := cause, warned := low, resLeft := left, rate := rate,
                 predicted := y.predicted || decide (y.admitH + 24 ≤ s.seed.hours),
                 hist := (y.hist.filter (fun z => s.seed.hours ≤ z.1 + 744)) ++ [(s.seed.hours, f.1, f.2, y.retired)] })
      let s := if low && !x.warned then s.capture 0x0810 [x.slot, days.getD 0, cause, w / 100] else s
      s.endOfLife x.slot) s

/-! ### Patrol laps (R245) -/

/-- Written stripes of a band, in stripe order (R245). -/
def State.writtenStripes (s : State) (n : Nat) : List Nat :=
  sortNat ((s.store.flash.filter (fun t => t.band == n && t.committed)).map (·.stripe))

/-- Bands patrol reads: FULL and OPEN ones with written stripes. -/
def State.patrolBands (s : State) : List Nat :=
  (s.upkeep.bands.filter (fun b => (b.st == .full || b.st == .opened) && !(s.writtenStripes b.num).isEmpty)).map (·.num)

/-- The band patrol reads now: bands moved to the front first, then in band order. -/
def State.patrolNext (s : State) : Option Nat :=
  let left := s.patrolBands.filter (fun n => !s.upkeep.lapDone.contains n)
  match s.upkeep.lapFront.find? left.contains with
  | some n => some n
  | none => left.foldl (fun (a : Option Nat) n => match a with | none => some n | some m => some (min m n)) none

/-- Progress of the lap in hundredths of a percent. -/
def State.lapProgress (s : State) : Nat :=
  let l := s.patrolBands
  if l.isEmpty then 0 else (l.filter s.upkeep.lapDone.contains).length * 10000 / l.length

/-- The lap starts again from the first band. -/
def State.newLap (s : State) : State :=
  let u := { s.upkeep with lapAt := s.seed.now, lapCw := 0, lapRefresh := 0, lapUnc := 0, lapDone := [], lapPos := [], lapOver := false }
  { s with upkeep := u }

end Sys2Proof.Machine
end

