-- ==== Sys2Proof/Machine/ReadOps.lean ====
section
/-! DEFINITION. Reads of a die: the queue and what may start, suspending and resuming, the ladder, reconstruction, and what a
codeword that cannot be read comes to (R251, R275 to R287, R310). -/

namespace Sys2Proof.Machine

open Sys2Proof

/-! ### Channel parameters (R294, R295) -/

/-- A channel's register of a die. -/
def State.chFld (s : State) (off d hi lo : Nat) : Nat := s.fld (off + 0x1000 * dieChan d) hi lo

def State.reconWaitUs (s : State) (d : Nat) : Nat := max 100 (s.chFld Reg.CH_SUSP d 15 0)

def State.resumeMinUs (s : State) (d : Nat) (f : DieFacts) : Nat := max (s.chFld Reg.CH_SUSP d 27 16) f.resumeMin

def State.ageMs (s : State) (d : Nat) : Nat := max 1 (s.chFld Reg.CH_SCHED d 15 8)

/-! ### Uncorrectable codewords (R251, R286) -/

/-- Valid extents of a band with a granule in a codeword of a stripe's member. -/
def State.extentsIn (s : State) (b : Band) (st mem cw : Nat) : List Placed :=
  (s.validIn b.num).filter (fun p => p.stripe == st && !(s.granIn p mem cw).isEmpty)

/-- Step 1 of R251: the codeword was reconstructed, its valid extents are placed in a relocation stripe of KIND 6 and the band
becomes a class 1 victim. -/
def State.repairCw (b : Band) (st mem cw : Nat) (s : State) : State :=
  let l := if mem < b.d then s.extentsIn b st mem cw else []
  let s := s.moveList 6 (l.filter (fun p => !s.movingNow p))
  let die := ((b.memberAt st mem).map (·.die)).getD 0
  (s.request b.num 1 6).capture 0x0809 [die, b.num, st, l.length]

/-- Step 2 of R251: what cannot be recovered of every unit with a granule in the codeword is lost; event 0x0B of each run of units.
Answers the units. -/
def State.loseCw (b : Band) (st mem cw cause : Nat) (s : State) : Nat × State :=
  let r := s.loseExtents b.num cause ((s.extentsIn b st mem cw).map (fun p => (p, s.granIn p mem cw)))
  (sumBy r.1 (·.2.2.2), r.1.foldl (fun s x => s.capture 0x080B [x.1, x.2.1, x.2.2.1 % 2 ^ 32, x.2.2.2]) r.2)

/-- L of a band in hours (R248, R256). -/
def State.retLimit (s : State) (b : Band) : Nat :=
  max 1 (if b.slc then s.fld Reg.MNT_RET_CFG1 15 0
         else if (s.bandFacts b).cell = 4 then s.fld Reg.MNT_RET_CFG0 15 0 else s.fld Reg.MNT_RET_CFG0 31 16)

/-- Hours in the unit of a band's equivalent age (R247). -/
def ageUnit : Nat := 60000000

/-- e^(n ÷ d) in units of 10^-30: 24 terms of the series of a 64th of the exponent, then squared six times. -/
def expFix (n : Int) (d : Nat) : Int :=
  let one : Int := 10 ^ 30
  let y : Int := n * one / (64 * d)
  let p := (List.range 24).foldl (fun (a : Int × Int) (k : Nat) =>
    let t := a.1 * y / (one * ((k : Int) + 1))
    (t, a.2 + t)) (one, one)
  (List.range 6).foldl (fun e _ => e * e / one) p.2

/-- AF(T) = exp(12,766 × (1 ÷ 313.15 − 1 ÷ (T + 273.15))) in millionths (R247): the whole ones, and one more where the device
rounds up. -/
def afMillionths (t : Int) : Nat :=
  let k := (100 * t + 27315).toNat
  (if t < -200 then 0 else (expFix (1276600 * (100 * t - 4000)) (31315 * max 1 k) / 10 ^ 24).toNat) + b2n (Config.afUp t)

/-- A ladder failure of a young, little-read block is a grown defect: the block is retired at its next erase (R287). -/
def State.grownDefect (b : Band) (st mem : Nat) (s : State) : State :=
  match b.memberAt st mem with
  | none => s
  | some m =>
    if b.age * 10 < s.retLimit b * ageUnit && (s.block m.die m.block).reads * 2 < s.readLimit b then
      let pos := (st + mem) % max 1 b.members.length
      (s.modBand b.num (fun x => if x.retire.any (·.1 == pos) then x else { x with retire := x.retire ++ [(pos, 4)] })).capture
        0x090A [m.die, m.block]
    else s

/-! ### Reconstruction (R281, R282, R310, R311) -/

/-- Other members on idle dies. -/
def State.idleOthers (s : State) (b : Band) (st mem : Nat) : Nat :=
  ((s.others b st mem).filter (fun m => (s.die m.die).elim false (fun d => d.op == 0 && d.suspended == 0))).length

/-- At least D other members can be read. -/
def State.canRecon (s : State) (b : Band) (st mem : Nat) : Bool := b.d ≤ (s.others b st mem).length

/-- Serves an operation by reconstruction: it waits for RECONSTRUCTION_COMPLETE, its target's channel counts it, and so do the
slices whose units it serves (R167). -/
def State.startRecon (o : DieOp) (b : Band) (s : State) : State :=
  let s := (s.others b o.stripe o.mem).take b.d |>.foldl (fun s m =>
    (s.readBlock b m 1).bump (Reg.CH_CNT_READ + 0x1000 * dieChan m.die) 1) s
  let die := ((b.memberAt o.stripe o.mem).map (·.die)).getD 0
  let s := s.bumpCh Reg.CH_CNT_RECON die 1
  let s := (s.extentsIn b o.stripe o.mem o.cw).foldl (fun s p => s.meterAdd p.slice 15 1) s
  { s with array := { s.array with decode := s.array.decode ++ [{ o with recon := true }] } }

/-- Takes an operation out of a die's queue; a running read of it ends. -/
def State.dropOp (id : Nat) (s : State) : State :=
  let f (x : Die) : Die :=
    if x.queue.any (·.id == id) then
      { x with queue := x.queue.filter (·.id != id), op := if x.opId == id && x.op == 1 then 0 else x.op }
    else x
  let a := s.array
  { s with array := { a with dies := a.dies.map f, decode := a.decode.filter (·.id != id) } }

/-- An operation by its identity, wherever it waits. -/
def State.findOp (s : State) (id : Nat) : Option DieOp :=
  match s.array.decode.find? (·.id == id) with
  | some o => some o
  | none => s.array.dies.findSome? (fun d => d.queue.find? (·.id == id))

/-! ### Starting, suspending, resuming (R276, R278, R279, R289, R290) -/

/-- Starts an operation of a die's queue; queued reads of the same page slot join it (R276). -/
def State.startOp (d : Nat) (o : DieOp) (s : State) : State :=
  let same (f : DieFacts) (x : DieOp) : Bool :=
    x.id == o.id || (o.kind == 1 && x.kind == 1 && x.band == o.band && x.stripe == o.stripe && x.mem == o.mem &&
      x.step == o.step && slotOf f x.cw == slotOf f o.cw)
  let s := s.modDie d (fun x =>
    { x with op := o.kind, opId := o.id, startedAt := s.seed.now,
             queue := x.queue.map (fun y => if same x.facts y then { y with started := true } else y),
             suspends := if o.kind = 1 then x.suspends else 0,
             busyUs := if o.kind = 1 then x.busyUs else 0 })
  if o.kind = 2 then s.bumpCh Reg.CH_CNT_PROG d 1
  else if o.kind = 3 then s.bumpCh Reg.CH_CNT_ERASE d 1
  else s

/-- A read of class 1 waits that has not started. -/
def Die.waits1 (x : Die) : Bool := x.queue.any (fun o => o.kind == 1 && o.cls == 1 && !o.started)

/-- Suspends the running program or erase of a die (R278); the suspends of an erase count in page 0xC0 (R232). -/
def State.suspendOp (d : Nat) (s : State) : State :=
  match s.die d with
  | none => s
  | some x =>
    let s := s.modDie d (fun y =>
      { y with suspended := y.op, op := 0, suspends := min (y.suspends + 1) 0xFFFFFFFF,
               busyUs := y.busyUs + s.since y.startedAt })
    let s := s.bumpCh Reg.CH_CNT_SUSP d 1
    if x.op != 3 then s
    else
      let n := min (x.suspends + 1) 0xFFFFFFFF
      let old := s.upkeep.maxSuspends
      let u := s.upkeep
      (({ s with upkeep := { u with maxSuspends := max old n } }).satField 376 old (max old n)).health 5 1

/-- The suspended operation of a die resumes: it is running again (R279). -/
def State.resumeOp (d : Nat) (s : State) : State :=
  s.modDie d (fun x =>
    match x.queue.find? (fun o => o.kind == x.suspended && o.started) with
    | some o => { x with op := x.suspended, opId := o.id, suspended := 0, startedAt := s.seed.now,
                         lastResume := some s.seed.now }
    | none => { x with suspended := 0 })

/-- A suspended operation resumes when no read of class 1 waits and the gate is open; in an emergency flush it stays suspended
(R279, R280, R289). -/
def State.resumeDue (d : Nat) (s : State) : State :=
  match s.die d with
  | none => s
  | some x =>
    if x.op = 0 && x.suspended != 0 && !x.waits1 && !(s.carrier (dieCar d)).gateClosed && s.store.flush.isNone then
      s.resumeOp d
    else s

/-- An operation may start on a die now. -/
def State.mayStart (s : State) (x : Die) (o : DieOp) : Bool :=
  let closed := (s.carrier (dieCar x.idx)).gateClosed
  !o.started &&
  (if o.kind == 1 then x.suspended == 0 || o.cls == 1 || closed
   else x.suspended == 0 && !closed && s.store.flush.isNone)

/-- The oldest operation of the lowest-numbered class that is ready (R276). -/
def State.nextOpOf (s : State) (x : Die) : Option DieOp :=
  (x.queue.filter (s.mayStart x)).foldl (fun (best : Option DieOp) o =>
    match best with
    | none => some o
    | some a => if o.cls < a.cls then some o else some a) none

/-- Typical time of an operation of a die in µs. -/
def typUs (f : DieFacts) : Nat → Nat
  | 1 => f.tR | 2 => f.tProg | 3 => f.tBers | _ => 0

/-- The estimated wait of a read: the rest of the running operation and the class 0 and class 1 operations ahead (R278). -/
def State.estWait (s : State) (x : Die) : Nat :=
  (typUs x.facts x.op - (x.busyUs + s.since x.startedAt)) +
    sumBy (x.queue.filter (fun o => !o.started && o.cls ≤ 1)) (fun o => typUs x.facts o.kind)

/-- Enters a read in a die's queue, not started. -/
def State.queueRead (d : Nat) (o : DieOp) (s : State) : State := s.modDie d (fun x => { x with queue := x.queue ++ [o] })

/-- A class 1 read reaches its die (R278, R310): started, suspending an operation, reconstructed or queued. -/
def State.readArrives (x : Die) (b : Band) (o : DieOp) (s : State) : State :=
  let d := x.idx
  let m := (b.memberAt o.stripe o.mem).getD { die := 0, gen := 0, block := 0 }
  let recon := s.canRecon b o.stripe o.mem
  let mode := s.chFld Reg.CH_SUSP d 31 30
  let enough := decide (b.d ≤ s.idleOthers b o.stripe o.mem)
  let susp := (x.op == 2 || x.op == 3) && mode != 2 && x.suspended == 0 &&
    (match x.lastResume with | none => true | some t => decide (s.resumeMinUs d x.facts ≤ s.since t)) && s.glb.state != .flush
  -- a start that the package limiter does not grant waits in the queue (R261)
  let p := s.paced .channel
  if !s.direct m then (if recon then s.startRecon o b else s)
  else if x.st == 2 && enough then s.startRecon o b
  else if x.op == 0 then (if p.1 then (p.2.queueRead d o).startOp d o else p.2.queueRead d o)
  else if susp then
    if mode == 1 && enough then s.startRecon o b
    else if p.1 then ((p.2.suspendOp d).queueRead d o).startOp d o else p.2.queueRead d o
  else if decide (s.reconWaitUs d < s.estWait x) && recon then s.startRecon o b
  else s.queueRead d o

/-! ### The ladder (R283 to R287) -/

/-- R of R283: the lesser of the die's options and RETRY_MAX. -/
def State.retryMax (s : State) (d : Nat) (f : DieFacts) : Nat := min f.retryOptions (s.chFld Reg.CH_LADDER d 7 4)

/-- The step after one that failed: options 1 to R, V as 100, S as 200; none when the ladder has failed. -/
def State.nextStep (s : State) (d : Nat) (f : DieFacts) (step : Nat) : Option Nat :=
  let v := s.chFld Reg.CH_LADDER d 8 8 == 1
  let soft := s.chFld Reg.CH_LADDER d 9 9 == 1
  if step < s.retryMax d f then some (step + 1)
  else if step < 100 && v then some 100
  else if step < 200 && soft then some 200
  else none

/-- Senses of a step (R283). -/
def sensesOf (step : Nat) : Nat := if step = 100 then 6 else if step = 200 then 7 else 1

/-- Step of a read whose ladder has failed and that waits for a reconstruction. -/
def ladderFailed : Nat := 300

/-- A decode has a unit of the LDPC bank: 48 hard and 8 soft ones, each bank's queue first in, first out (R33, R274). -/
def State.decoding (s : State) (o : DieOp) : Bool :=
  let soft (x : DieOp) : Bool := x.step == 200
  let l := s.array.decode.filter (fun x => !x.recon && x.step != ladderFailed && soft x == soft o)
  (l.take (if soft o then 8 else 48)).any (fun x => x.id == o.id)

/-- TRACK_PCT % of the hard-decode limit is reached (R284). -/
def State.tracks (s : State) (d : Nat) (f : DieFacts) (n : Nat) : Bool :=
  decide (min 100 (s.chFld Reg.CH_LADDER d 31 24) * hardLimit ((codeOf f.spareBytes).getD 0) ≤ n * 100)

/-- Bits a read of a codeword reports corrected: those of a flip mask it was encoded with, else what its decode found (R300). -/
def State.flippedAt (s : State) (band st mem cw : Nat) : Option Nat :=
  if cw = 0 then (s.array.flipped.find? (fun x => x.1 == band && x.2.1 == st && x.2.2.1 == mem)).map (fun x => onesOf x.2.2.2) else none

/-- A decode succeeds with `n` bits corrected at a step (R284): the read-offset table takes the thresholds of a later step; at
step 0 a high count asks for step V. Thresholds of steps V and S are the die's, which the spec does not state. -/
def State.decoded (o : DieOp) (m : Member) (f : DieFacts) (n : Nat) (s : State) : State :=
  if o.step = 0 then
    if s.tracks m.die f n then s.modBlock m.die m.block (fun b => { b with track := true }) else s
  else if o.step < 100 then s.modBlock m.die m.block (fun b => { b with opt := o.step, off := 0 })
  else
    let r := s.drawFree
    r.2.modBlock m.die m.block (fun b => { b with off := r.1.toInt })

/-- The ladder of a read has failed (R286, R287): counted and classed, and the read waits for a reconstruction, or its codeword
is handled as lost where there is none; a parity codeword holds no data and its band is only moved (R251). -/
def State.ladderFails (o : DieOp) (b : Band) (die : Nat) (s : State) : State :=
  let s := (s.bumpCh Reg.CH_CNT_UNC die 1).grownDefect b o.stripe o.mem
  let s := if o.cls = 1 then s else s.health 15 1
  let running := s.array.decode.any (fun x => x.id == o.id && x.recon)
  let o := { o with step := ladderFailed }
  if running then
    let a := s.array
    { s with array := { a with decode := a.decode.map (fun x => if x.id == o.id then { x with step := ladderFailed } else x) } }
  else if !s.canRecon b o.stripe o.mem then
    if b.d ≤ o.mem then s.repairCw b o.stripe o.mem o.cw
    else
      let r := s.loseCw b o.stripe o.mem o.cw (if o.cls = 1 then 4 else 2)
      if o.cls = 1 then r.2 else r.2.health 17 r.1
  else s.startRecon o b

end Sys2Proof.Machine
end

