-- ==== Sys2Proof/Machine/Health.lean ====
section
/-! DEFINITION. GLB_DEGRADE, the Critical Warning of each controller, and the notices its bits raise (R46, R253, R474, R560,
R561). -/

namespace Sys2Proof.Machine

open Sys2Proof

/-- Spare cores 16 and 17 that are neither in use nor failed, and whether one has taken over (R44, R46). -/
def State.sparesLeft (s : State) : Nat :=
  ([16, 17].filter (fun i => !s.glb.coreActive.getLsbD i && !s.glb.coreFailed.getLsbD i)).length

def State.spareInUse (s : State) : Bool := s.glb.coreActive.getLsbD 16 || s.glb.coreActive.getLsbD 17

/-- Online carriers (R337). -/
def State.onlineCars (s : State) : List Nat := s.usable

/-- GLB_DEGRADE (R46, R70, R326, R408, R409, R462). -/
def State.glbDegrade (s : State) : Nat :=
  atBit 8 s.sparesLeft +
  atBit 5 (b2n ((List.range 16).any (fun k => (s.slot k).faulted && (s.carrier k).present))) +
  atBit 4 (b2n (s.fabric.macs.any (fun m => m.present && !m.up))) +
  atBit 3 (b2n s.journal.single) +
  atBit 2 (b2n (!s.mem.migrating.isEmpty || s.mem.rankLost)) +
  atBit 1 (b2n (s.downDies != 0)) +
  atBit 0 (b2n s.spareInUse)

/-- Composite Temperature in kelvin (R474). -/
def State.compositeK (s : State) : Nat := ((s.thermal.tj * 100 + 437040 + 800) / 1600).toNat

/-- Available Spare in percent (R252): the lowest over the online carriers, 100 without one. -/
def State.spare (s : State) : Nat :=
  (s.upkeep.eol.filter (fun x => s.onlineCars.contains x.slot)).foldl (fun a x =>
    min a (if x.resInit = 0 then 0 else s.resLeftOf x.slot * 100 / x.resInit)) 100

/-- Critical Warning of a controller (R253): bits 2 and 4 on the management slice only. -/
def State.critWarn (s : State) (c : Ctrl) : Nat :=
  let t := s.compositeK
  let b0 := b2n (decide (s.spare < 10))
  let b1 := b2n (decide (c.tOver ≤ t) || decide (t < c.tUnder))
  let b2 := b2n (c.isMgmt && (s.upkeep.eol.any (·.reached) || !s.store.lost.isEmpty || s.glbDegrade / 2 % 32 != 0))
  let b4 := b2n (c.isMgmt && s.bank.failed)
  b0 + 2 * b1 + 4 * b2 + 16 * b4

/-- A notice of a Critical Warning bit that goes from 0 to 1, if feature 0x0B enables it (R560, R561). -/
def State.warnBit (c : Ctrl) (old new bit info : Nat) (s : State) : State :=
  if !old.testBit bit && new.testBit bit && c.evCfg.getLsbD bit then
    s.notify c.id { type := 1, info := info, lid := 0x02 } else s

/-- Every controller's Critical Warning is examined again. -/
def State.smartCheck (s : State) : State :=
  s.eng.ctrls.foldl (fun s c =>
    let w := s.critWarn c
    if w = c.warn then s
    else
      let s := s.modCtrl c.id (fun k => { k with warn := w })
      let s := s.warnBit c c.warn w 2 0
      let s := s.warnBit c c.warn w 4 0
      let s := s.warnBit c c.warn w 1 1
      s.warnBit c c.warn w 0 2) s

/-- The next state of a step that may change what a Critical Warning reports. -/
def State.done (s : State) : Out := .next s.smartCheck

end Sys2Proof.Machine
end

