-- ==== Sys2Proof/Machine/Carriers.lean ====
section
/-! DEFINITION. The commands of the carriers: insertion, power, removal, sensors, domains, release, admission, reshape and array
creation, and the loss of a Quince die (chapter 08, R268, R269, R289, R463, R584). -/

namespace Sys2Proof.Machine

open Sys2Proof

/-! ### Sensors and the program gate (R268, R289, R584) -/

/-- A 100 ms sensor read (R289): the temperature drives the gate and calibration. -/
def execCarrierTempSample (k : Nat) (t : Int) (s : State) : Out :=
  if 16 ≤ k || !(s.carrier k).present then .next s
  else
    let s := s.modCarrier k (fun c =>
      { c with temp := t, minuteMax := some (c.minuteMax.elim t (max t)), subst := false, sensorBadAt := none, i2cErr := false })
    .next (s.gateOn k)

/-- The carrier with the highest temperature read among the others. -/
def State.hottestOther (s : State) (k : Nat) : Option Nat :=
  ((List.range 16).filter (fun j => j != k && (s.carrier j).present && !(s.carrier j).subst)).foldl
    (fun (best : Option Nat) j =>
      match best with
      | none => some j
      | some b => if (s.carrier b).temp < (s.carrier j).temp then some j else some b) none

/-- The sensor has not been read for 1 s: the temperature is substituted (R289). Without another carrier the spec gives no
value, and it is a free one. -/
def execCarrierSensorTimeout (k : Nat) (s : State) : Out :=
  if 16 ≤ k || !(s.carrier k).present || (s.carrier k).subst then .next s
  else
    let r : Int × Nat × State :=
      match s.hottestOther k with
      | some j => ((s.carrier j).temp + 5, j, s)
      | none =>
        let x := s.drawFree
        (x.1.toInt, 0xFFFFFFFF, x.2)
    let s := r.2.2.modCarrier k (fun c => { c with temp := r.1, minuteMax := some (c.minuteMax.elim r.1 (max r.1)), subst := true })
    .next ((s.capture 0x090D [k, unsigned 32 r.1, r.2.1]).gateOn k)

/-- A target stretches the clock for more than 10 ms: the access fails (R584). -/
def execI2cStretchTimeout (k : Nat) (s : State) : Out :=
  if 16 ≤ k then .next s
  else .next (s.modCarrier k (fun c =>
    { c with i2cErr := true, sensorBadAt := match c.sensorBadAt with | some t => some t | none => some s.seed.now }))

/-! ### Carrier domains (R236, R269, R430) -/

/-- The sequence of R269: the domain is powered again and its channels calibrated; a die that shows a suspended operation is
reset, and the operation restarts. -/
def execCarrierDomainWake (k us : Nat) (s : State) : Out :=
  if 16 ≤ k || !(s.carrier k).pwrOn || s.power.carDom.getD k .off == .on then .next s
  else
    let s := s.setDom k .on
    let t := (s.carrier k).temp
    let s := (List.range 2).foldl (fun s i =>
      s.modChan (2 * k + i) (fun c => { c with zqAt := s.seed.now, calTemp := t })) s
    let a := s.array
    let dies := a.dies.map (fun d =>
      if dieCar d.idx == k && !d.old && d.suspended != 0 then
        { d with suspended := 0, op := 0,
                 queue := d.queue.map (fun o => { o with started := false }) }
      else d)
    .next (({ s with array := { a with dies := dies } }).capture 0x090F [k, us])

/-- In L2 and L3 a domain is gated while its dies' queues are empty and no erase is in ERASING or suspended (R430). -/
def execCarrierDomainGate (k : Nat) (s : State) : Out :=
  let quiet := s.array.dies.all (fun d =>
    dieCar d.idx != k || d.old || (d.queue.isEmpty && d.op == 0 && d.suspended == 0))
  let erasing := s.upkeep.bands.any (fun b => b.st == .erasing && b.members.any (fun m => dieCar m.die == k))
  if k < 16 && (s.power.state == .l2 || s.power.state == .l3) && s.power.carDom.getD k .off == .on && quiet && !erasing then
    .next (s.setDom k .gated)
  else .next s

/-! ### Insertion (R335, R339, R463) -/

/-- What the device knows of a carrier that its presence pin shows (R339 steps 1 and 2). -/
def State.seat (k : Nat) (f : CarrierFacts) (s : State) : State :=
  s.modCarrier k (fun _ =>
    { st := 0, present := true, facts := some f, recA := f.recA, recB := f.recB, temp := f.temp, minuteMax := some f.temp,
      insertH := s.seed.hours })

/-- A carrier is inserted: presence confirmed, EEPROM read, class decided, and the power ramp started (R335, R339 steps 1 to
4, R463). Before the device is ready only its presence is kept: COLD_BOOT runs the steps. -/
def execCarrierInsert (k : Nat) (f : CarrierFacts) (s : State) : Out :=
  if 16 ≤ k || (s.carrier k).present then .next s
  else
    let s := (s.seat k f).seedWake 3
    if s.glb.state != .ready then .next s
    else
      let s := s.bump Reg.STR_CNT_INSERT 1
      let s := s.modCarrier k (fun c => { c with st := 1 })
      match s.eepromCause k f.eeprom with
      | some c => .next (s.refuseCarrier k c)
      | none =>
        let s := s.startSlot k (fracQ f.eeprom.inrushMa (s.carFs k))
        .next (s.modCarrier k (fun c => { c with class_ := c.classOf, rampAt := some s.seed.now }))

/-- The state of a die of a carrier by the carrier's class (R309): pending or stale. -/
def dieClass (class_ : Nat) : Nat := if class_ = 3 then 6 else 8

/-- Another admission or release runs (R343). -/
def State.moveRuns (s : State) (k : Nat) : Bool :=
  (List.range 16).any (fun j => j != k && ((s.carrier j).st == 4 || (s.carrier j).st == 7))

/-- Steps 5 to 7 of R339 once power is good: dies identified, channels calibrated, the carrier pending or stale, or refused
when every die is; AUTO_ADMIT admits a blank one. -/
def State.powerGood (k : Nat) (f : CarrierFacts) (s : State) : State :=
  let s := s.setTarget k (fracQ f.eeprom.runMa (s.carFs k))
  let s := (s.modCarrier k (fun c => { c with rampAt := none, pwrOn := true })).setDom k .on
  let s := { s with upkeep := { s.upkeep with blocks := s.upkeep.blocks.filter (fun b => dieCar b.die != k) } }
  let c := s.carrier k
  let s := s.identify k (dieClass c.class_) s.array.epoch
  if s.allRefused k then ((s.openSwitch k).setDom k .off).refuseCarrier k 5
  else
    let s := s.modCarrier k (fun c => { c with st := c.class_ })
    let s := s.capture 0x0A0D [k, c.class_, (c.record.elim 0 (·.epoch)) % 2 ^ 32]
    let auto := s.fld Reg.CAR_CFG 0 0 == 1 && s.array.arrayId.isSome && c.class_ == 2 && c.record.isNone &&
      s.array.reshape.isNone && !s.moveRuns k
    if auto then (s.startAdmit k).finishAdmit else s

/-- u has stayed at OUT_MAX for 5 ms: power is good (R463). -/
def execCarrierPowerGood (k : Nat) (s : State) : Out :=
  let c := s.carrier k
  match c.facts, c.rampAt, (s.slot k).maxSince with
  | some f, some _, some m =>
    if k < 16 && c.st == 1 && decide (5000 ≤ s.since m) then (s.powerGood k f).done else .next s
  | _, _, _ => .next s

/-- Power not good 100 ms after the ramp began: the switch opens and the carrier is failed; nothing was a member (R463). -/
def execCarrierPowerGoodTimeout (k : Nat) (s : State) : Out :=
  let c := s.carrier k
  match c.rampAt with
  | some t =>
    if k < 16 && c.st == 1 && decide (100000 ≤ s.since t) then
      let x := s.slot k
      let s := s.openSwitch k
      let s := s.modCarrier k (fun c => { c with st := 9 })
      .next (s.capture 0x0E03 [k, unsigned 32 x.pv, unsigned 32 x.u])
    else .next s
  | none => .next s

/-! ### Removal and loss (R309, R337, R339, R342) -/

/-- CAR_PRSNT_N deasserts for more than 1 µs: a member carrier is lost, another slot is empty again; the slot is no longer
disabled (R462, R463). -/
def execCarrierRemove (k : Nat) (s : State) : Out :=
  let c := s.carrier k
  if 16 ≤ k || !c.present then .next s
  else
    let s := (s.modCarrier k (fun c => { c with present := false })).seedWake 3
    let s := if c.st == 5 || c.st == 6 || c.st == 7 then (s.loseCarrier k 1).settleRelease
      else
        let s := (s.openSwitch k).setDom k .off
        let s := s.modCarrier k (fun c => { c with st := 0, cause := 0, gateClosed := false, subst := false })
        ((s.diesAbsent k).settleDies).finishAdmit
    (s.modSlot k (fun x => { x with faulted := false })).done

/-- REBUILD_DELAY_MIN after the loss of a carrier its dies enter rebuilding (R315). -/
def execRebuildDelayExpiry (k : Nat) (s : State) : Out :=
  let min := s.fld Reg.STR_REBUILD_CFG 31 24
  match s.upkeep.delayed.find? (·.1 == k) with
  | some (_, t) => if min * 60000000 ≤ s.since t then ((s.startRebuild k min).settleRelease).done else .next s
  | none => .next s

/-! ### The attention pin (R338, R346) -/

/-- Removing a carrier would leave some band that holds valid extents with more than P unreadable members (R338, R343). -/
def State.removalUnsafe (s : State) (k : Nat) : Bool :=
  s.upkeep.bands.any (fun b => s.validAll b.num != 0 &&
    decide (b.p < (b.members.filter (fun m => !s.direct m || dieCar m.die == k)).length))

/-- CAR_ATTN_N as a code: 0 off, 1 slow blink, 2 fast blink, 3 steady; CAR_LED stands over it (R338, R353). -/
def State.carAttn (s : State) (k : Nat) : Nat :=
  let o := s.fld Reg.CAR_LED (2 * k + 1) (2 * k)
  if o = 1 then 0 else if o = 2 then 1 else if o = 3 then 3
  else
    match (s.carrier k).st with
    | 0 => 0
    | 1 => 1
    | 4 => 1
    | 5 => if s.removalUnsafe k then 2 else 0
    | 6 => if s.removalUnsafe k then 2 else 0
    | 7 => if s.removalUnsafe k then 2 else 1
    | _ => 3

/-! ### Release, admission (R340, R341, R343) -/

/-- The status a Carrier Release that acts completes with; zero when it is accepted (R343). -/
def State.releaseStatus (s : State) (k : Nat) (imm cancel : Bool) : Nat × Word :=
  let st := (s.carrier k).st
  if !(st == 5 || st == 6 || st == 7) || (cancel && st != 7) then (St.invalidField, 0)
  else if s.array.reshape.isSome then (St.reshapeInProgress, 0)
  else if s.moveRuns k then (St.carrierBusy, 0)
  else if cancel then (St.ok, 0)
  else if s.removalUnsafe k then (St.carrierBusy, 0)
  else
    let left := s.usable.filter (· != k)
    if !imm && left.length < s.array.p + 2 then (St.carrierBusy, 0)
    else if s.poolFor left s.array.d s.array.p * 1024 < s.capSum then (St.poolExhausted, 0x10)
    else (St.ok, 0)

/-- Step 1 of a planned release (R341): the dies rebuild with DIRECT set, stripes being gathered or programmed on them end, and
no new band includes them. -/
def State.startRelease (k : Nat) (s : State) : State :=
  let before := s.rebuildSet
  let s := s.beginPeriod
  let hit := s.array.dies.filter (fun d => !d.old && dieCar d.idx == k && (d.st == 1 || d.st == 2))
  let s := hit.foldl (fun s d => s.memberRec k 7 d.idx 4 true) s
  let a := s.array
  let dies := a.dies.map (fun d =>
    if !d.old && dieCar d.idx == k && (d.st == 1 || d.st == 2) then { d with st := 4, direct := true } else d)
  let s := ({ s with array := { a with dies := dies } }).modCarrier k (fun c =>
    { c with st := 7, releaseAt := s.seed.now, releaseBytes := 0 })
  let s := hit.foldl (fun s d => s.endStripesOf d.idx d.gen 1) s
  let s := s.reformErased
  let s := (s.upkeep.bands.filter (·.st == .erasing)).foldl (fun s b => s.finishErase b.num) s
  (((s.writeSettings.setPool).settle before).settleRelease).gatherHost

/-- CANCEL returns the dies to online; bands already moved stay as re-formed (R341). -/
def State.cancelRelease (k : Nat) (s : State) : State :=
  let hit := s.array.dies.filter (fun d => !d.old && dieCar d.idx == k && d.st == 4 && d.direct)
  let s := hit.foldl (fun s d => s.memberRec k 7 d.idx 1 false) s
  let a := s.array
  let dies := a.dies.map (fun d =>
    if !d.old && dieCar d.idx == k && (d.st == 5 || (d.st == 4 && d.direct)) then { d with st := 1, direct := false } else d)
  let s := ({ s with array := { a with dies := dies } }).modCarrier k (fun c => { c with st := 5 })
  (((s.settleCarrier k).reformLanding.writeSettings.setPool).settleDies).gatherHost

/-- Carrier Release (0xCC; R341, R343). -/
def execCarrierRelease (e : Nat) (s : State) : Out :=
  (s.withCmd e 0xCC false (fun c s =>
    let k := dwBits c.cap.dw10 3 0
    let imm := c.cap.dw11.getLsbD 0
    let cancel := c.cap.dw11.getLsbD 1
    if !onlyDws c.cap 0xF 0x3 0 0 0 0 then s.reply c St.invalidField
    else if (s.carrier k).st == 7 && !imm && !cancel then s.reply c St.ok
    else
      let r := s.releaseStatus k imm cancel
      if r.1 != St.ok then s.answer c r.1 r.2
      else
        let s := if cancel then s.cancelRelease k
          else if imm then (s.loseCarrier k 3).settleRelease
          else s.startRelease k
        s.reply c St.ok)).done

/-- Carrier Admit (0xCD; R340, R343). -/
def execCarrierAdmit (e : Nat) (s : State) : Out :=
  (s.withCmd e 0xCD false (fun c s =>
    let k := dwBits c.cap.dw10 3 0
    let ok := c.cap.dw11.getLsbD 0
    let x := s.carrier k
    if !onlyDws c.cap 0xF 0x1 0 0 0 0 || s.array.arrayId.isNone || !(x.st == 2 || x.st == 3) ||
       (!ok && (x.st == 3 || x.record.isSome)) then s.reply c St.invalidField
    else if s.array.reshape.isSome then s.reply c St.reshapeInProgress
    else if s.moveRuns k then s.reply c St.carrierBusy
    else ((s.startAdmit k).finishAdmit).reply c St.ok)).done

/-! ### Reshape and array creation (R302, R328, R333) -/

/-- A geometry R302 allows. -/
def geomOk (d p : Nat) : Bool := 1 ≤ p && p ≤ 3 && 2 ≤ d && d ≤ 15 && d + p ≤ 16

/-- MAP_UNIT, D and P of the ARRAY record of the image in force, or their defaults (R173, R302, R498). -/
def State.arrayRec (s : State) : Nat × Nat × Nat :=
  (s.cfg.image.records.findSome? (fun r => match r with | .array m d p _ _ _ _ => some (m, d, p) | _ => none)).getD
    (16, 14, 2)

/-- The status a Reshape without CREATE completes with (R328). -/
def State.reshapeStatus (s : State) (dn pn : Nat) (erase : Bool) : Nat × Word :=
  if s.array.arrayId.isNone || erase || !geomOk dn pn || s.usable.length < dn + pn ||
     (dn == s.array.d && pn == s.array.p) then (St.invalidField, 0)
  else if s.array.reshape.isSome then (St.reshapeInProgress, 0)
  else if s.moveRuns 16 then (St.carrierBusy, 0)
  else if s.poolFor s.usable dn pn * 1024 < s.capSum then (St.poolExhausted, 0x10)
  else (St.ok, 0)

/-- An accepted Reshape: the first boundary record, the pool, event 0x0B (R328). -/
def State.startReshape (dn pn : Nat) (s : State) : State :=
  let a := s.array
  let s := { s with array := { a with reshape := some (dn, pn, 0, s.seed.now) } }
  ((s.jsync (.boundary 0 a.d a.p dn pn)).setPool).capture 0x0A0B [a.d, a.p, dn, pn]
/-- Creates the array: identity, geometry, epoch 1, and the admission of the carriers (R333). -/
def State.createArray (d p unit : Nat) (cars : List Nat) (arrayId : BitVec 128) (s : State) : State :=
  let a := s.array
  let s := { s with array := { a with arrayId := some arrayId, d := d, p := p, mapUnitKib := unit, epoch := 1 } }
  let s := cars.foldl (fun s k => s.startAdmit k) s
  ((s.writeSettings).capture 0x0A15 [d, p, cars.length, unit]).finishAdmit

/-- Reshape (0xCE; R328, R333). `arrayId` is the identity the device's DRBG draws. -/
def execReshape (e : Nat) (arrayId : BitVec 128) (s : State) : Out :=
  (s.withCmd e 0xCE false (fun c s =>
    let dn := dwBits c.cap.dw10 3 0
    let pn := dwBits c.cap.dw10 7 4
    let create := c.cap.dw10.getLsbD 8
    let erase := c.cap.dw10.getLsbD 9
    if !onlyDws c.cap 0x3FF 0 0 0 0 0 then s.reply c St.invalidField
    else if create then
      let (unit, d0, p0) := s.arrayRec
      let zero := dn == 0 && pn == 0
      let (d, p) := if zero then (d0, p0) else (dn, pn)
      let cars := (List.range 16).filter (fun k => (s.carrier k).st == 2 || (erase && (s.carrier k).st == 3))
      if s.array.arrayId.isSome || (!zero && !geomOk dn pn) || cars.length < d + p then s.reply c St.invalidField
      else if s.array.carriers.any (·.st == 1) then s.reply c St.carrierBusy
      else (s.createArray d p unit cars arrayId).reply c St.ok
    else
      let r := s.reshapeStatus dn pn erase
      if r.1 != St.ok then s.answer c r.1 r.2 else (s.startReshape dn pn).reply c St.ok)).done

/-! ### The loss of a Quince die and the journal areas (R325 to R327) -/

/-- A Quince die fails (R326, R327): the first loss opens journal area 0, the second leaves the two copies of the area. -/
def State.quinceFail (d : Nat) (s : State) : State :=
  let j := s.journal
  if 2 ≤ d || j.dieLost.getD d true then s
  else
    let lost := modNth j.dieLost d (fun _ => true)
    if j.single then ({ s with journal := { j with dieLost := lost } }).capture 0x0A0A [2, d]
    else
      ({ s with journal := { j with dieLost := lost, areaActive := true, area := 0, areaUsed := 0, group := 0 } }).capture
        0x0A09 [d, 0]

def execQuinceDieFailure (d : Nat) (s : State) : Out := (s.quinceFail d).done

/-- A full journal area: a new snapshot goes to the other one, and the full one is erased (R326). -/
def execJournalAreaFull (s : State) : Out :=
  let j := s.journal
  if j.areaActive && 268435456 ≤ j.areaUsed then .next { s with journal := { j with area := 1 - j.area, areaUsed := 0 } }
  else .next s

/-- A group of records is programmed 20 µs after its first record (R326). -/
def execJournalGroupTimeout (s : State) : Out :=
  let j := s.journal
  if j.areaActive && 0 < j.group && decide (20 ≤ s.since j.groupAt) then .next { s with journal := j.groupDone }
  else .next s

end Sys2Proof.Machine
end

