-- ==== Sys2Proof/Machine/SliceOps.lean ====
section
/-! DEFINITION. What a change of a slice's content does for its replica and its migration: forwarded runs of map units, the
resync bitmap, synchronising, the loss and the return of a peer, and when a write is done (R155 to R159, R164, R194). -/

namespace Sys2Proof.Machine

open Sys2Proof

/-- The list with an element added unless it is there. -/
def addNew {α : Type} [BEq α] (l : List α) (x : α) : List α := if l.contains x then l else l ++ [x]

/-! ### Change regions of a migration (R164) -/

/-- A write to a region of 256 map units marks it for the next pass. -/
def State.markMig (sl ns mu : Nat) (s : State) : State :=
  s.modSlice sl (fun x =>
    { x with mig := x.mig.map (fun m => { m with marked := addNew m.marked (ns, mu / 256) }) })

/-! ### The resync bitmap (R158) -/

/-- Sets a slice's marked regions, also in the Quince journal. -/
def State.setResync (sl : Nat) (l : List (Nat × Nat)) (s : State) : State :=
  let rs : List (Nat × Nat × Nat) := s.journal.resync.filter (·.1 != sl) ++ l.map (fun r => (sl, r.1, r.2))
  let s := { s with journal := { s.journal with resync := rs } }
  s.modSlice sl (fun x => { x with resync := l })

/-- Marks the regions of a run of units. -/
def State.markRun (sl ns mu n : Nat) (s : State) : State :=
  match s.slice sl with
  | none => s
  | some x =>
    let rs := (List.range (regionOf (mu + n - 1) + 1 - regionOf mu)).map (fun i => (ns, regionOf mu + i))
    s.setResync sl (rs.foldl addNew x.resync)

/-- Every region of every namespace of a slice. -/
def State.allRegions (s : State) (x : SliceS) : List (Nat × Nat) :=
  x.nss.flatMap (fun n => (List.range (ceilDiv (s.nsUnits n) 4096)).map (fun i => (n.nsid, i)))

/-- The regions of one namespace. -/
def State.nsRegions (s : State) (n : Ns) : List (Nat × Nat) :=
  (List.range (ceilDiv (s.nsUnits n) 4096)).map (fun i => (n.nsid, i))

/-! ### Forwarding (R156, R157) -/

/-- Two runs of map units share a unit. -/
def overlapRun (a b : Nat × Nat × Nat × Option Nat) : Bool :=
  a.1 == b.1 && a.2.1 < b.2.1 + b.2.2.1 && b.2.1 < a.2.1 + a.2.2.1

/-- A run's present content as a change: one unit's extent, or a deallocation. -/
def State.runForm (s : State) (sl : Nat) (r : Nat × Nat × Nat × Option Nat) : PeerChange :=
  if r.2.2.1 = 1 then
    match s.extentOf (s.entryAt sl r.1 r.2.1) with
    | some x => .extent r.1 r.2.1 x
    | none => .dealloc r.1 r.2.1 1
  else .dealloc r.1 r.2.1 r.2.2.1

/-- Extent bytes a change carries (R167 REPL_BYTES). -/
def changeBytes : PeerChange → Nat
  | .extent _ _ x => extBytes x
  | _ => 0

/-- Sends a run: it is outstanding until the replica acknowledges it, and its bytes are metered with its command. -/
def State.sendRun (sl : Nat) (r : Nat × Nat × Nat × Option Nat) (s : State) : State :=
  let c := s.runForm sl r
  let s := s.send (.peerChange sl c)
  let s := match r.2.2.2 with
    | some e => s.modEntry e (fun y => { y with fwd := y.fwd + changeBytes c })
    | none => s.meterAdd sl 13 (changeBytes c)
  s.modSlice sl (fun x => { x with outstanding := x.outstanding ++ [r] })

/-- Queues a run behind those outstanding. -/
def State.queueRun (sl : Nat) (r : Nat × Nat × Nat × Option Nat) (s : State) : State :=
  s.modSlice sl (fun x => { x with queued := x.queued ++ [r] })

/-- Sends a run, or queues it while an earlier change of one of its units is outstanding or queued (R156). -/
def State.sendOrQueue (sl : Nat) (r : Nat × Nat × Nat × Option Nat) (s : State) : State :=
  match s.slice sl with
  | none => s
  | some x => if x.outstanding.any (overlapRun r) || x.queued.any (overlapRun r) then s.queueRun sl r else s.sendRun sl r

/-- The entry of a forwarded change waits for the replica. -/
def State.waitPeer (e : Option Nat) (s : State) : State :=
  match e with
  | none => s
  | some i => s.modEntry i (fun y => { y with peerWait := true })

/-- Forwards a changed run of a replicated source: sent or queued with its entry waiting; held without the peer under
REPL_HOLD; its regions marked while degraded (R156 to R158). -/
def State.forward (sl : Nat) (r : Nat × Nat × Nat × Option Nat) (s : State) : State :=
  match s.slice sl with
  | none => s
  | some x =>
    if !x.desc.replicated || x.state == .replica then s
    else
      match x.repl with
      | 1 => (s.sendOrQueue sl r).waitPeer r.2.2.2
      | 2 => (s.sendOrQueue sl r).waitPeer r.2.2.2
      | 3 => s.markRun sl r.1 r.2.1 r.2.2.1
      | 4 => (s.queueRun sl r).waitPeer r.2.2.2
      | _ => s

/-- A slice's writes go to its replica, at once or when the peer is back (R156, R157). -/
def State.forwards (s : State) (sl : Nat) : Bool :=
  (s.slice sl).elim false (fun x => x.desc.replicated && x.state != .replica && (x.repl == 1 || x.repl == 2 || x.repl == 4))

/-- Forwards a change other than to map units. While the peer is away it waits, and is sent on its return; of a changed key the key as it
then is, with the layout (R156, R158). -/
def State.forwardChange (sl : Nat) (c : PeerChange) (s : State) : State :=
  match s.slice sl with
  | none => s
  | some x =>
    if !x.desc.replicated || x.state == .replica then s
    else if x.repl == 1 || x.repl == 2 then s.send (.peerChange sl c)
    else if x.repl == 3 || x.repl == 4 then
      match c with
      | .cryptoErase => s.modSlice sl (fun y => { y with keySend := true })
      | .keys _ _ => s.modSlice sl (fun y => { y with keySend := true })
      | _ => s.modSlice sl (fun y => { y with away := y.away ++ [c] })
    else s

/-- A namespace as a change carries it: its format, then its reservation state (R155, R156, R165). -/
def Ns.layout (n : Ns) : List PeerChange :=
  [.nsCreate n.nsid n.nsze n.lbaf n.pi, .reservation n.nsid n.resv.regs n.resv.holder n.resv.rtype n.resv.gen n.resv.ptpl]

/-- The key-transport key of a pairing or migration with a neighbour (R162): HKDF-SHA-384 of the ring secret, salted with its PAIR_ID or
MIGRATION_ID, with "FVKT" and the NQNs of the source and of the destination. -/
def State.ktk (s : State) (nb id : Nat) (source : Bool) : List Byte :=
  let peer := ((s.fabric.nbs[nb]?).map (·.nqn)).getD []
  let own := deviceNqn
  let nqns := if source then own ++ peer else peer ++ own
  hkdf384 32 (unwrapRoot s.fabric.ringSecret) (natBytes 4 id) (nameBytes "FVKT" ++ nqns)

/-- A slice's key and secrets as they travel, wrapped under the key-transport key (R155, R162). -/
def State.keyChange (s : State) (x : SliceS) (nb id : Nat) : PeerChange :=
  let shut (b : List Byte) : List Byte := keyWrap (s.ktk nb id true) b
  let secret (n : Nat) (w : List Byte) : Nat × List Byte := (n, if n = 0 then [] else shut (unwrapRoot w))
  .keys (shut (natBytes 64 x.key))
    [secret x.desc.hostLen x.desc.hostSecret, secret x.desc.ctrlLen x.desc.ctrlSecret, secret x.desc.pskLen x.desc.psk]

/-- Sends a list of changes of a slice. -/
def State.sendAll (sl : Nat) (l : List PeerChange) (s : State) : State := l.foldl (fun s c => s.send (.peerChange sl c)) s

/-! ### When a write is done (R157, R194) -/

/-- A write-like command that has begun, has every unit staged and waits for no peer is complete. -/
def State.writeDone (e : Nat) (s : State) : State :=
  match s.entry e with
  | none => s
  | some c =>
    if c.step == 1 && c.left == 0 && !c.peerWait && (c.st == .dispatched || c.st == .heldResource) then
      s.finish e St.ok 0 .none
    else s

/-- An entry none of whose changes is outstanding or queued waits for the replica no longer. -/
def State.peerDone (sl e : Nat) (s : State) : State :=
  match s.slice sl with
  | none => s
  | some x =>
    if (x.outstanding ++ x.queued).any (fun r => r.2.2.2 == some e) then s
    else (s.modEntry e (fun y => { y with peerWait := false })).writeDone e

/-- Sends what is queued and no longer has an earlier change outstanding. -/
def State.pumpQueued (sl : Nat) (s : State) : State :=
  match s.slice sl with
  | none => s
  | some x =>
    x.queued.foldl (fun s r => s.sendOrQueue sl r) (s.modSlice sl (fun y => { y with queued := [] }))

/-! ### Synchronising (R158) -/

/-- In sync once no region is marked (R158). -/
def State.syncDone (sl : Nat) (s : State) : State :=
  match s.slice sl with
  | none => s
  | some x =>
    if x.repl == 2 && x.resync.isEmpty then
      (s.modSlice sl (fun y => { y with repl := 1 })).capture 0x0608 [sl, x.copied, s.since x.syncAt / 1000000]
    else s

/-- A marked region none of whose copies is outstanding is copied: its bit clears. -/
def State.syncRegion (sl ns reg : Nat) (s : State) : State :=
  match s.slice sl with
  | none => s
  | some x =>
    let busy := (x.outstanding ++ x.queued).any (fun r =>
      r.2.2.2.isNone && r.1 == ns && regionOf r.2.1 ≤ reg && reg ≤ regionOf (r.2.1 + r.2.2.1 - 1))
    if x.repl != 2 || busy || !x.resync.contains (ns, reg) then s
    else
      let s := s.setResync sl (x.resync.filter (· != (ns, reg)))
      (s.modSlice sl (fun y => { y with copied := y.copied + 1 })).syncDone sl

/-- The runs that copy a region: each unit with an extent, and the gaps between as deallocations; a unit with a lost LBA is
left as the replica holds it. -/
def State.regionRuns (s : State) (sl ns first stop : Nat) : List (Nat × Nat × Nat × Option Nat) :=
  let cells := s.store.map.filter (fun c => c.slice == sl && c.nsid == ns && first ≤ c.mu && c.mu < stop)
  let r := (sortNat (cells.map (·.mu))).foldl (fun (a : List (Nat × Nat × Nat × Option Nat) × Nat) mu =>
    let gap := if a.2 < mu then [(ns, a.2, mu - a.2, none)] else []
    let own := if (s.entryAt sl ns mu).lost then [] else [(ns, mu, 1, none)]
    (a.1 ++ gap ++ own, mu + 1)) ([], first)
  if r.2 < stop then r.1 ++ [(ns, r.2, stop - r.2, none)] else r.1

/-- Copies a marked region to the replica. -/
def State.copyRegion (sl ns reg : Nat) (s : State) : State :=
  match s.nsOf sl ns with
  | none => s.syncRegion sl ns reg
  | some n =>
    let stop := min (s.nsUnits n) (4096 * (reg + 1))
    ((s.regionRuns sl ns (4096 * reg) stop).foldl (fun s r => s.sendOrQueue sl r) s).syncRegion sl ns reg

/-- The slice becomes syncing: the changes that waited for the peer go first, then, at pairing or where the key changed, the key and secrets
and the namespace layout with its reservations, then every marked region, then what was held (R155 to R158). -/
def State.startSync (sl : Nat) (s : State) : State :=
  match s.slice sl with
  | none => s
  | some x =>
    let s := s.sendAll sl x.away
    let s := if x.keySend then
        ((s.send (.pairing sl x.desc.pairId x.desc.subnqn)).sendAll sl [s.keyChange x 1 x.desc.pairId]).sendAll sl (x.nss.flatMap (·.layout))
      else s
    let s := s.modSlice sl (fun y => { y with repl := 2, syncAt := s.seed.now, copied := 0, keySend := false, away := [] })
    let s := x.resync.foldl (fun s r => s.copyRegion sl r.1 r.2) s
    (s.pumpQueued sl).syncDone sl

/-! ### A peer that is lost and returns (R157, R158) -/

/-- A replicated source whose peer is the downstream neighbour (R155). -/
def SliceS.isSource (x : SliceS) : Bool := x.desc.replicated && x.state != .replica

/-- Lost ranges of a slice that wait for the replica's extents and satisfy a predicate stay lost: event 0x0A for each, and what waited for
them goes on (R159). -/
def State.dropRepairs (sl cause : Nat) (p : LostRange → Bool) (s : State) : State :=
  let hit (r : LostRange) : Bool := r.slice == sl && r.repair && p r
  let l := s.store.lost.filter hit
  if l.isEmpty then s
  else
    let lost : List LostRange := modAll s.store.lost hit (fun r => { r with repair := false })
    let s := { s with store := { s.store with lost := lost } }
    (l.foldl (fun s r =>
      s.capture 0x060A [sl, r.nsid, r.slba / max 1 (s.unitLbas (s.lbafOf sl r.nsid)) % 2 ^ 32, cause]) s).wakeHeld

/-- The regions of a run are marked, and a repair awaited in one of them ends (R158, R159). -/
def State.markLost (sl ns mu n : Nat) (s : State) : State :=
  let s := s.markRun sl ns mu n
  let u := max 1 (s.unitLbas (s.lbafOf sl ns))
  s.dropRepairs sl 2 (fun r => r.nsid == ns && decide (regionOf mu ≤ regionOf (r.slba / u)) && decide (regionOf (r.slba / u) ≤ regionOf (mu + n - 1)))

/-- Its peer is declared unreachable: held under REPL_HOLD, else degraded, with the regions of what was outstanding marked and
held writes completed. -/
def State.peerLost (sl : Nat) (s : State) : State :=
  match s.slice sl with
  | none => s
  | some x =>
    if !x.isSource || !(x.repl == 1 || x.repl == 2) then s
    else
      let s := s.dropRepairs sl 1 (fun _ => true)
      let waiting := s.eng.cct.filter (fun c => c.slice == sl && c.peerWait)
      let all := x.outstanding ++ x.queued
      if x.desc.replHold then
        (s.modSlice sl (fun y => { y with repl := 4, outstanding := [], queued := all.filter (·.2.2.2.isSome) })).capture
          0x0607 [sl, 4, waiting.length]
      else
        let s := s.modSlice sl (fun y => { y with repl := 3, outstanding := [], queued := [] })
        let s := all.foldl (fun s r => s.markRun sl r.1 r.2.1 r.2.2.1) s
        let s := s.capture 0x0607 [sl, 3, waiting.length]
        waiting.foldl (fun s c => s.peerDone sl c.idx) s

/-- Its peer has returned. -/
def State.peerBack (sl : Nat) (s : State) : State :=
  match s.slice sl with
  | none => s
  | some x => if x.isSource && (x.repl == 3 || x.repl == 4) then s.startSync sl else s

end Sys2Proof.Machine
end

