-- ==== Sys2Proof/Machine/MeterPages.lean ====
section
/-! DEFINITION. Fields of log pages, what the pools have unreserved, and the pages of log page 0xC1: the pool summary and the slices'
records, of which one capture is taken as a Get Log Page is admitted (R140, R143, R170). -/

namespace Sys2Proof.Machine

open Sys2Proof

/-- Fields of a page: (first byte, bytes, value). -/
abbrev Fields := List (Nat × Nat × Nat)

/-- Fields of a part of a page moved to its place. -/
def shiftF (o : Nat) (l : Fields) : Fields := l.map (fun x => (x.1 + o, x.2))

/-- Fields of the elements of a list, `step` bytes apart from `o`. -/
def rowsF {α : Type} (o step : Nat) (l : List α) (f : α → Fields) : Fields :=
  (l.zip (List.range l.length)).flatMap (fun x => shiftF (o + step * x.2) (f x.1))

/-- Two's complement field of 16 bits, and of 8. -/
def i16 (v : Int) : Nat := unsigned 16 v
def i8 (v : Int) : Nat := unsigned 8 v

/-- A saturating field of 32 bits. -/
def u32 (v : Nat) : Nat := min v 0xFFFFFFFF

/-! ### Pools (R140, R143, R144) -/

/-- A slice's part of the tenant CCT pool: its reservation, or what it still uses above a lowered one (R144). -/
def State.cctPart (s : State) (x : SliceS) : Nat :=
  max x.desc.cct (s.eng.cct.filter (fun c => c.slice == x.num && c.origin == 0)).length

/-- Unreserved: queue pairs, CCT entries, controllers, namespaces, MiB, IOPS floor, bandwidth floor. -/
def State.freePools (s : State) : List Nat :=
  let l := s.slices.list
  [8192 - sumBy l (·.desc.qpairs), 126976 - sumBy l s.cctPart, 2040 - sumBy l (·.desc.ctrls), 4096 - sumBy l (·.desc.ns),
   s.array.poolGib * 1024 - s.capSum, 16000000 - sumBy l (·.desc.iopsFloor), 72000 - sumBy l (·.desc.bwFloor)]

/-! ### Log page 0xC1 (R146, R170) -/

/-- Code of a slice state (R146). -/
def SliceState.code : SliceState → Nat
  | .unused => 0 | .active => 1 | .quiescing => 2 | .quiesced => 3 | .frozen => 4 | .moved => 5 | .inDoubt => 6
  | .restoring => 7 | .replica => 8

/-- FLAGS of a descriptor. -/
def Desc.flagBits (d : Desc) : Nat := b2n d.replicated + 2 * b2n d.replHold + 4 * b2n d.authReq + 8 * b2n d.tlsReq

/-- The pool summary (LSI 0xFFFF). ENTRY[0], the management slice's, reads zero (DESIGN CHOICE, assumption 87). -/
def State.poolPage (s : State) : Nat × Fields :=
  let p := s.freePools
  let g (i : Nat) : Nat := p.getD i 0
  (16528, [(0, 4, g 0), (4, 4, g 1), (8, 4, g 2), (12, 4, g 3), (16, 8, g 4), (24, 4, g 5), (28, 4, g 6),
    (32, 4, s.slices.list.length)] ++
    s.slices.list.flatMap (fun x => shiftF (128 + 16 * x.num)
      [(0, 1, x.state.code), (1, 1, x.desc.flagBits), (2, 1, x.repl), (3, 1, x.migState), (4, 4, x.meter.seq),
       (8, 8, x.desc.capMib)]))

/-- A slice's record; `gone` for the last record of a deleted slice. -/
def State.slicePage (s : State) (x : SliceS) (gone : Bool) : Nat × Fields :=
  let f := b2n x.desc.replicated + 2 * b2n x.desc.replHold + 4 * b2n x.meter.restarted + 8 * b2n gone
  (18560, [(0, 2, x.num), (2, 1, if gone then 0 else x.state.code), (3, 1, f), (4, 4, x.meter.seq), (8, 2, x.meter.snaps.length),
    (10, 1, x.repl), (11, 1, x.migState),
    (16, 8, x.mig.elim 0 (fun m => m.marked.length * 256 * s.unitBytes)), (24, 8, x.resync.length * 4096 * s.unitBytes)] ++
    rowsF 64 16 x.meter.totals (fun t => [(0, 16, t)]) ++
    rowsF 320 152 x.meter.snaps (fun n =>
      [(0, 4, n.seq), (4, 4, n.hours), (8, 4, n.ms), (12, 4, n.pcycle), (16, 1, b2n n.partMin + 2 * b2n n.migrated)] ++
        rowsF 24 8 n.deltas (fun d => [(0, 8, d)])))

/-- LID and LSI of a Get Log Page. -/
def lidOf (c : Capsule) : Nat := dwBits c.dw10 7 0
def lsiOf (c : Capsule) : Nat := dwBits c.dw11 31 16

/-- 0xC1; none for an LSI it does not have. A slice number never used reads as an unused slice. -/
def State.pageC1 (s : State) (lsi : Nat) : Option (Nat × Fields) :=
  if lsi = 0xFFFF then some s.poolPage
  else if 1 ≤ lsi && lsi ≤ 1024 then
    match s.slice lsi with
    | some x => some (s.slicePage x false)
    | none =>
      match s.slices.gone.find? (·.num == lsi) with
      | some x => some (s.slicePage x true)
      | none => some (18560, [(0, 2, lsi)])
  else none

end Sys2Proof.Machine
end

