-- ==== Sys2Proof/Machine/WritePath.lean ====
section
/-! DEFINITION. The write buffer, stripe flushing and padding, and the map's persistence (R183 to R198, R206 to R212,
R428). -/

namespace Sys2Proof.Machine

open Sys2Proof

/-! ### Jobs of map units -/

def State.job (s : State) (id : Nat) : Option UnitJob := s.store.jobs.find? (·.id == id)

def State.modJob (id : Nat) (f : UnitJob → UnitJob) (s : State) : State :=
  { s with store := { s.store with jobs := modFirst s.store.jobs (·.id == id) f } }

def State.dropJob (id : Nat) (s : State) : State :=
  { s with store := { s.store with jobs := s.store.jobs.filter (·.id != id) } }

/-- Adds a job for a map unit; it takes the next identity. -/
def State.addJob (j : UnitJob) (s : State) : State :=
  let st := s.store
  { s with store := { st with jobs := st.jobs ++ [{ j with id := st.nextJob }], nextJob := st.nextJob + 1 } }

/-- The unit's new original: the job's LBAs over the present content, lost LBAs read as zeroes (R187, R202). -/
def State.merged (s : State) (j : UnitJob) : List Lba :=
  let lbaf := s.lbafOf j.slice j.nsid
  let n := s.unitLbas lbaf
  let cur := s.unitContent j.slice j.nsid j.mu
  (List.range n).map (fun i =>
    match (j.wrote.zip j.orig).find? (·.1 == i) with
    | some x => x.2
    | none => if s.lbaLost j.slice j.nsid (j.mu * n + i) then zeroLba lbaf else cur.getD i (zeroLba lbaf))

/-! ### WRITE_BUFFER_ALLOCATE (R184 to R186) -/

/-- An extent that fits within the dirty limit at free granules of both copies enters FILLING; one that does not holds its
command. -/
def execWriteBufferAllocate (id off : Nat) (s : State) : Out :=
  match s.job id with
  | none => .next s
  | some j =>
    match j.x with
    | none => .next s
    | some x =>
      let n := extGran x
      if j.stage != 1 || j.reading || s.store.flush.isSome then .next s
      else if s.dirtyLimit < s.dirty + n || !s.bufFree off n then .next (s.holdRes j.entry)
      else
        let b : BufExt := { off := off, len := n, slice := j.slice, nsid := j.nsid, mu := j.mu, x := x }
        let s := s.modJob id (fun y => { y with stage := 2, buf := off })
        .next ({ s with store := { s.store with buf := s.store.buf ++ [b] } }.unholdRes j.entry)

/-! ### STAGING_DURABLE (R187, R194, R202, R209, R212) -/

/-- The fill of the map-update journal holds new staging and range records (R212): event 0x03 when it begins. -/
def State.journalHolds (s : State) : Bool := s.journal.fuller s.jrnlHigh

def State.noteHeld (s : State) : State :=
  if s.store.jrnlHeld then s
  else ({ s with store := { s.store with jrnlHeld := true } }).capture 0x0703
         [s.journal.fillPct, s.store.dirtyPages.length]

/-- A FILLING extent enters STAGED, behind those already staged (R183, R185). -/
def State.fillToStaged (off : Nat) (s : State) : State :=
  let l := s.store.buf.filter (fun b => !(b.off == off && b.st == .filling))
  let n := (s.store.buf.filter (fun b => b.off == off && b.st == .filling)).map
    (fun b => { b with st := .staged, since := s.seed.now })
  { s with store := { s.store with buf := l ++ n } }

/-- Frees a FILLING extent. -/
def State.freeFilling (off : Nat) (s : State) : State :=
  { s with store := { s.store with buf := s.store.buf.filter (fun b => !(b.off == off && b.st == .filling)) } }

/-- The map takes the new extents of a run of consecutive units, each with its buffer offset and the offsets in the unit written: one
staging record of the run is durable, what they replace is superseded, and lost LBAs they wrote leave the list; LOST stays while another
is listed (R187, R194, R202, R209). -/
def State.stageRun (sl ns first : Nat) (l : List (Nat × Extent × List Nat)) (entry : Option Nat) (s : State) : State :=
  let n := s.unitLbas (s.lbafOf sl ns)
  let unit (i : Nat) : Nat := first + i
  let none' : Extent :=
    { compressed := false, pi := false, payloadLen := 0, origLen := 0, crc := 0, key := 0, nsid := 0, mu := 0, orig := [] }
  let one (i : Nat) : Nat × Extent × List Nat := l.getD i (0, none', [])
  let s := (List.range l.length).foldl (fun s i =>
    if (s.entryAt sl ns (unit i)).lost then (one i).2.2.foldl (fun s k => s.removeLost sl ns (unit i * n + k) 1) s else s) s
  let e (i : Nat) : MapEntry :=
    let x := (one i).2.1
    { loc := .buffered (one i).1, len := lenField x.compressed (extGran x), comp := x.compressed,
      lost := (s.entryAt sl ns (unit i)).lost && (List.range n).any (fun k => s.lbaLost sl ns (unit i * n + k)) }
  let es := (List.range l.length).map e
  let seq := (entry.bind s.entry).elim 0 (·.seq)
  let s := s.jsync (.staging sl ns first (entry.getD 0) seq es)
  (List.range l.length).foldl (fun s i => (s.stageEntry sl ns (unit i) (es.getD i {})).fillToStaged (one i).1) s

/-- One unit staged. -/
def State.stageExtent (sl ns mu off : Nat) (x : Extent) (wrote : List Nat) (entry : Option Nat) (s : State) : State :=
  s.stageRun sl ns mu [(off, x, wrote)] entry

/-- Bytes of an extent stored for a command or for the slice (R167 STORED_BYTES). -/
def State.countStored (sl : Nat) (entry : Option Nat) (n : Nat) (s : State) : State :=
  match entry with
  | some e => s.modEntry e (fun c => { c with stored := c.stored + n })
  | none => s.meterAdd sl 6 n

/-! ### STRIPE_FLUSH, STRIPE_PAD_IDLE, L3_PAD_FLUSH (R189 to R191, R195, R428) -/

/-- The first full stripe of a stream in a band starts flushing. -/
def execStripeFlush (stream band : Nat) (s : State) : Out :=
  match s.store.stripes.find? (fun t => t.stream == stream && t.band == band && !t.flushing && s.stripeRoom t == 0) with
  | none => .next s
  | some t => .next ((s.flushStripe t).gatherHost)

/-- Pads a stream's open stripe and starts its flush. -/
def State.padFlush (stream : Nat) (s : State) : State :=
  match s.openOf stream with
  | none => s
  | some t =>
    let s := s.padStream stream
    match s.stripe t.band t.stripe with
    | none => s
    | some t => s.flushStripe t

/-- The moment at which the oldest extent of a stripe entered STAGED; for extents not of the buffer, the stripe. -/
def State.oldestIn (s : State) (t : Stripe) : Nat :=
  let offs := t.items.filterMap (·.buf)
  (s.store.buf.filter (fun b => offs.contains b.off && b.st == .gathered)).foldl (fun a b => min a b.since) t.firstAt

/-- PAD_IDLE_MS has passed without an extent, or five times that since the oldest extent was staged (R190); in a device shutdown a
stripe waits for neither (R116). -/
def State.padDue (s : State) (t : Stripe) : Bool :=
  decide (0 < t.fill) && (s.eng.shutdown.isSome || decide (s.padIdleMs * 1000 ≤ s.since t.lastAt) ||
    decide (5 * s.padIdleMs * 1000 ≤ s.since (s.oldestIn t)))

/-- The timer of R190 expires: the stripe is padded and flushed; in L1 or L2 the device returns to L0 for it (R428). -/
def execStripePadIdle (stream : Nat) (s : State) : Out :=
  match s.openOf stream with
  | none => .next s
  | some t =>
    if !s.padDue t then .next s
    else .next ((((s.leaveTo .l0 7 0).padFlush stream).gatherHost).busyNow)

/-- Pads and flushes every open stripe. -/
def State.padAll (s : State) : State := (((s.padFlush 0).padFlush 1).padFlush 2).padFlush 3

/-- L3_IDLE_MS of the L1 conditions while L3 or L4 is allowed (R428). -/
def State.l3PadDue (s : State) : Bool :=
  decide (3 ≤ s.power.allowed.code) && s.idle1 &&
  (match s.power.idleAt with | none => false | some t => decide (s.dwellUs 3 ≤ s.since t))

def execL3PadFlush (s : State) : Out :=
  if s.l3PadDue then .next (((s.leaveTo .l0 7 0).padAll.gatherHost).busyNow) else .next s

/-! ### MAP_PAGE_WRITE, MAP_ROOT_WRITE, JOURNAL_TRUNCATE (R198, R211, R212) -/

/-- A page already waits in a map stripe. -/
def State.pageWaits (s : State) (pg : Nat × Nat × Nat) : Bool :=
  s.store.stripes.any (fun t => t.pages.contains pg)

/-- The dirty page whose oldest change is the earliest among those that do not wait in a stripe (R211). -/
def State.nextPage (s : State) : Option (Nat × Nat × Nat) :=
  ((s.store.dirtyPages.filter (fun x => !s.pageWaits (x.1, x.2.1, x.2.2.1))).foldl
    (fun (best : Option (Nat × Nat × Nat × Nat)) x =>
      match best with
      | none => some x
      | some y => if x.2.2.2 < y.2.2.2 then some x else some y) none).map (fun x => (x.1, x.2.1, x.2.2.1))

/-- Places up to `n` dirty pages in the map stream, in the order of their oldest record: 8 granules each (R211). -/
def State.writePages (s : State) : Nat → State
  | 0 => s
  | n + 1 =>
    match s.nextPage with
    | none => s
    | some pg =>
      let r := s.place 2 0 8 (·.addPage pg)
      if r.1 then (r.2.health 2 8).writePages n else r.2

/-- The band metadata goes with the map pages placed, in a page of its own (R223; assumption 90). -/
def State.writeMeta (s : State) : State :=
  if s.pageWaits metaPage then s
  else
    let r := s.place 2 0 8 (·.addPage metaPage)
    if r.1 then r.2.health 2 8 else r.2

/-- Dirty pages are placed in the map stream, map pages and directory pages alike, and with them the band metadata. -/
def execMapPageWrite (n : Nat) (s : State) : Out :=
  if s.store.flush.isSome || s.nextPage.isNone || n = 0 then .next s else .next ((s.writePages n).writeMeta)

/-- The unit a staging record, a landing record or an extent is about still depends on that record (R198). -/
def State.recNeeded (s : State) (r : JRec) : Bool :=
  match r.body with
  | .staging sl ns first _ _ es => (List.range es.length).any (fun i =>
      (match (s.entryAt sl ns (first + i)).loc with | .buffered _ => true | _ => false))
  | .landing _ _ items => items.any (fun i =>
      (match (s.entryAt i.slice i.nsid i.mu).loc with | .landing _ => true | _ => false))
  | _ => false

/-- T: every record up to it is covered by pages on flash, and none up to it is still needed (R198). -/
def State.truncPoint (s : State) : Nat :=
  let a := s.store.dirtyPages.foldl (fun a x => min a (x.2.2.2 - 1)) (s.journal.nextSeq - 1)
  (s.journal.recs.filter s.recNeeded).foldl (fun a r => min a (r.jseq - 1)) a

/-- The next map root: it names the directory pages on flash, with the map pages these name, and T (R198, R211). -/
def State.nextRoot (s : State) : MapRoot :=
  let st := s.store
  let old := s.journal.root
  let new (c : MapCell) : Bool := st.namedPages.any (fun p => p.id == (c.slice, c.nsid, pageOf c.mu))
  { gen := old.gen + 1, t := max old.t s.truncPoint, map := st.namedCells ++ old.map.filter (fun c => !new c),
    pages := st.namedPages ++ st.pagesAt.filter (fun x => !st.namedPages.any (fun p => p.id == x.id)),
    bands := st.writtenMeta.getD old.bands }

/-- A map root is written to the copy not used last (R211). -/
def execMapRootWrite (s : State) : Out :=
  if s.store.flush.isSome then .next s
  else
    let r := s.nextRoot
    let st := s.store
    let before := s.rebuildSet
    let s := { s with journal := s.journal.putRoot r,
                      store := { st with pagesAt := r.pages, namedPages := [], namedCells := [], writtenMeta := none } }
    .next (s.settle before)

/-- A record of the rings that a truncation up to `t` leaves: those above it, and the open records of stripes under way. -/
def State.keepRec (s : State) (t : Nat) (r : JRec) : Bool :=
  decide (t < r.jseq) ||
  (match r.body with
   | .stripeOpen b n _ _ => s.store.stripes.any (fun x => x.band == b && x.stripe == n)
   | _ => !r.body.inMapRing)

/-- The map-update journal is truncated up to `t`, which a durable root names (R198); a hold of R212 ends when it fits. -/
def execJournalTruncate (t : Nat) (s : State) : Out :=
  let j := s.journal
  if t ≤ j.t || j.rootT < t then .next s
  else
    let s := { s with journal := { j with t := t, recs := j.recs.filter (s.keepRec t) } }
    if s.journalHolds then .next s
    else .next ({ s with store := { s.store with jrnlHeld := false } }.wakeHeld)

end Sys2Proof.Machine
end

