-- ==== Sys2Proof/Machine/PunnetOps.lean ====
section
/-! DEFINITION. Requests for punnets: grants to jobs and commands, waiting requests, shares and releases (R366, R381 to R388). -/

namespace Sys2Proof.Machine

open Sys2Proof

/-- The first `n` bytes of a chain have been written: the watermarks of its punnets rise (R382). -/
def State.markChain (l : List Nat) (n : Nat) (s : State) : State :=
  let f (p : Punnet) : Punnet :=
    if l.contains p.num then { p with mark := max p.mark (min 4096 (n - 4096 * l.idxOf p.num)) } else p
  { s with mem := { s.mem with punnets := s.mem.punnets.map f } }

/-- Gives a granted chain to the job or the command it was asked for. -/
def State.giveChain (job entry : Option Nat) (l : List Nat) (s : State) : State :=
  match job with
  | some j => s.modJob j (fun y => { y with chain := l })
  | none =>
    match entry with
    | some e => s.modEntry e (fun c => { c with chain := c.chain ++ l })
    | none => s

/-- Asks for `n` punnets of a class: granted whole at once when R384 allows and nothing of the class waits, else queued with
its command held (R384, R385). The numbers are the lowest free ones (DESIGN CHOICE: R381 leaves them open). -/
def State.requestPun (cls n : Nat) (job entry : Option Nat) (s : State) : State :=
  if n = 0 then s
  else if s.punMay cls n && !s.mem.reqs.any (·.cls == cls) then
    let l := freeNums (s.mem.punnets.map (·.num)) punnetCount n 0
    (s.enterChain cls l).giveChain job entry l
  else
    let r : PunReq := { id := s.mem.nextReq, cls := cls, n := n, at_ := s.seed.now, job := job, entry := entry }
    let s := { s with mem := { s.mem with reqs := s.mem.reqs ++ [r], nextReq := s.mem.nextReq + 1 } }
    (s.bump Reg.PN_CNT_WAIT 1).holdRes entry

/-- A request of a command waits. -/
def State.waitsPun (s : State) (e : Nat) : Bool := s.mem.reqs.any (·.entry == some e)

/-- A request is the oldest of its class and no older head of another class could be granted (R385). -/
def State.punTurn (s : State) (r : PunReq) : Bool :=
  let heads := s.mem.reqs.filter (fun x => (s.mem.reqs.find? (·.cls == x.cls)).map (·.id) == some x.id)
  heads.any (·.id == r.id) && s.punMay r.cls r.n &&
  heads.all (fun x => x.id ≥ r.id || !s.punMay x.cls x.n)

/-- Whoever shares a chain adds one to each REF; an increment at 255 is refused, and the sharer asks for a chain of its own of
class `cls` (R386). -/
def State.shareChain (cls : Nat) (l : List Nat) (s : State) : State :=
  let full := (s.mem.punnets.filter (fun p => l.contains p.num && decide (255 ≤ p.ref))).length
  let f (p : Punnet) : Punnet := if l.contains p.num && decide (p.ref < 255) then { p with ref := p.ref + 1 } else p
  ({ s with mem := { s.mem with punnets := s.mem.punnets.map f } }).requestPun cls full none none

/-- Something still holds a punnet as its only reference. -/
def State.punHeld (s : State) (p : Nat) : Bool :=
  s.store.jobs.any (·.chain.contains p) || s.eng.cct.any (·.chain.contains p)

/-- A holder that has finished gives up its reference; the punnet returns to the pool at zero (R386). -/
def execPunnetRelease (p : Nat) (s : State) : Out :=
  match s.mem.punnets.find? (·.num == p) with
  | none => .next s
  | some x =>
    if 1 < x.ref then
      .next { s with mem := { s.mem with punnets := modFirst s.mem.punnets (·.num == p) (fun y => { y with ref := y.ref - 1 }) } }
    else if s.punHeld p then .next s
    else .next { s with mem := { s.mem with punnets := s.mem.punnets.filter (·.num != p) } }

/-- A request that has waited longer than PN_WAIT_WARN_MS records event 0x04 once (R385). -/
def execPunnetWaitWarn (req : Nat) (s : State) : Out :=
  match s.mem.reqs.find? (·.id == req) with
  | none => .next s
  | some r =>
    let ms := s.fld Reg.PN_CFG 31 16
    let w := s.since r.at_ / 1000
    if ms = 0 || r.warned || s.since r.at_ ≤ ms * 1000 then .next s
    else
      let s := { s with mem := { s.mem with reqs := modFirst s.mem.reqs (·.id == req) (fun y => { y with warned := true }) } }
      .next (s.capture 0x0C04 [r.cls, r.n, w])

end Sys2Proof.Machine
end

