-- ==== Sys2Proof/Machine/Lanes.lean ====
section
/-! DEFINITION. The compression lanes: which lane a unit takes, how its work ends, lane faults, staging of what a lane formed,
and stream jobs (R187, R194, R356 to R380). -/

namespace Sys2Proof.Machine

open Sys2Proof

/-! ### Lanes in service (R359, R375, R376) -/

def State.lane (s : State) (l : Nat) : Lane := s.comp.lanes.getD l {}

def State.modLane (l : Nat) (f : Lane → Lane) (s : State) : State :=
  { s with comp := { s.comp with lanes := modNth s.comp.lanes l f } }

/-- LANE_EN as it acts: 0x00 as 0x01. -/
def State.laneEn (s : State) : Nat := let v := s.fld Reg.CMP_CFG 15 8; if v = 0 then 1 else v

/-- Lanes in service: enabled and not taken out; when every enabled one is out, the lowest that is not. -/
def State.lanesActive (s : State) : List Nat :=
  let well := (List.range 8).filter (fun l => !(s.lane l).faulted)
  let on := well.filter (fun l => s.laneEn.testBit l)
  if on.isEmpty then well.take 1 else on

/-- Units queued on a lane. -/
def State.laneLoad (s : State) (l : Nat) : Nat := (s.store.jobs.filter (fun j => j.stage == 0 && j.lane == l)).length

/-- The lane in service with the least queued work, the lowest number first. -/
def State.laneFor (s : State) : Nat :=
  ((s.lanesActive.foldl (fun (b : Option (Nat × Nat)) l =>
    let n := s.laneLoad l
    match b with
    | none => some (l, n)
    | some x => if n < x.2 then some (l, n) else some x) none).map (·.1)).getD 0

/-- Gives units queued on a lane to the lanes in service, one after the other, all but the first `keep`. -/
def State.moveQueued (l keep : Nat) (s : State) : State :=
  ((s.store.jobs.filter (fun j => j.stage == 0 && j.lane == l)).drop keep).foldl
    (fun s j => s.modJob j.id (fun y => { y with lane := s.laneFor })) s

/-! ### Giving a unit to a lane (R359, R366) -/

/-- Punnets of a unit's output chain: the raw length, or the original for a decompression. -/
def State.chainLen (s : State) (j : UnitJob) : Nat :=
  let n := s.origLen (s.lbafOf j.slice j.nsid)
  ceilDiv (if j.reading then n else 16 + n) 4096

/-- Puts a job into a lane's queue and asks for its output chain. -/
def State.giveLane (id : Nat) (s : State) : State :=
  -- the unit itself is not work queued on a lane
  let l := (s.dropJob id).laneFor
  let s := s.modJob id (fun y => { y with stage := 0, x := if y.reading then y.x else none, chain := [], lane := l, raw := none })
  match s.job id with
  | none => s
  | some j => s.requestPun (if j.reading then 1 else 3) (s.chainLen j) (some id) j.entry

/-- Starts a job of a unit in a lane. -/
def State.startJob (j : UnitJob) (s : State) : State :=
  let id := s.store.nextJob
  (s.addJob j).giveLane id

/-! ### Lane faults (R364, R370, R375) -/

/-- A failure charged to a lane: FAULT_N of them within one second take it out, unless it is the last in service. -/
def State.laneFail (l : Nat) (s : State) : State :=
  let now := s.seed.now
  let f := now :: (s.lane l).fails.filter (fun t => now < t + 1000000)
  let s := s.modLane l (fun x => { x with fails := f })
  if f.length < max 1 (s.fld Reg.CMP_CFG 23 16) || (s.lane l).faulted || s.lanesActive == [l] then s
  else
    let s := s.modLane l (fun x => { x with faulted := true })
    (s.moveQueued l 0).capture 0x0B02 [l, f.length, s.lanesActive.length]

/-! ### How a lane's work ends -/

/-- Bytes join CMP_CNT_IN_GIB and CMP_CNT_OUT_GIB and the minute's ratio (R378, R379). -/
def State.laneBytes (orig stored gran : Nat) (s : State) : State :=
  let c := s.comp
  let a := c.inPart + orig
  let b := c.outPart + stored
  let s := { s with comp := { c with inPart := a % 2 ^ 30, outPart := b % 2 ^ 30, origBytes := c.origBytes + orig,
                                     storedBytes := c.storedBytes + 512 * gran } }
  (s.bump Reg.CMP_CNT_IN_GIB (a / 2 ^ 30)).bump Reg.CMP_CNT_OUT_GIB (b / 2 ^ 30)

/-- MODE is store-raw: 0b10 and 0b11 act as 0b00 (R365, R377). -/
def State.storeRaw (s : State) : Bool := s.fld Reg.CMP_CFG 1 0 == 1

/-- MODE for a unit: the one in force when its lane started it (R365). -/
def State.jobRaw (s : State) (j : UnitJob) : Bool := j.raw.getD s.storeRaw

/-- The extent of a unit is complete: unused punnets of the chain are given up (R363, R366). -/
def State.formExtent (j : UnitJob) (payload : Option (List Byte)) (s : State) : State :=
  let lbaf := s.lbafOf j.slice j.nsid
  let key := (s.slice j.slice).elim 0 (·.key)
  let x := s.mkExtent lbaf key j.nsid j.mu (s.merged j) payload
  let s := s.modJob j.id (fun y => { y with stage := 1, x := some x, chain := y.chain.take (ceilDiv (extBytes x) 4096) })
  (s.markChain j.chain (extBytes x)).laneBytes x.origLen (extBytes x) (extGran x)

/-- The verify decoder has found a payload that is not the unit's: it is discarded for a raw extent (R364). -/
def State.verifyFails (lane : Nat) (j : UnitJob) (s : State) : State :=
  let s := ((s.bump Reg.CMP_CNT_RAW 1).bump Reg.CMP_CNT_VERIFY 1).capture 0x0B01 [lane, j.slice, j.nsid, j.mu]
  (s.formExtent j none).laneFail lane

/-- The unit has content that a merge reads (R187). -/
def State.mergeReads (s : State) (j : UnitJob) : Bool :=
  decide (j.wrote.length < s.unitLbas (s.lbafOf j.slice j.nsid)) && (s.extentOf (s.entryAt j.slice j.nsid j.mu)).isSome

/-- A read-like command none of whose units is in a lane is complete, with the status its meaning or a failed unit set; a Copy
goes on to its destination (R118). -/
def State.readDone (e : Nat) (s : State) : State :=
  match s.entry e with
  | none => s
  | some c =>
    if c.step == 0 || c.left != 0 || s.waitsPun e || !(c.st == .dispatched || c.st == .heldResource) then s
    else if c.step == 2 then s.modEntry e (fun c => { c with step := 3, st := .dispatched })
    else
      s.finish e c.status c.result (if c.status == St.ok then c.out else .none)

/-- Compare and Verify: they compare or check unit by unit (R105). -/
def checksUnits (opc : Nat) : Bool := opc == 0x05 || opc == 0x0C

/-- A reading job ends; its command is complete with its last one. The first unit compared or checked is the no-return point of a
Compare or Verify (R105). -/
def State.endRead (j : UnitJob) (s : State) : State :=
  let s := s.dropJob j.id
  match j.entry with
  | none => s
  | some e => (s.modEntry e (fun c =>
      { c with left := c.left - 1, gate := if checksUnits c.cap.opc && c.gate == .open then .committed else c.gate })).readDone e

/-- Writes a recovered extent back: over the bad buffer copy, or through the relocation stream with KIND 6 (R370). -/
def State.writeBack (e : MapEntry) (s : State) : State :=
  match e.loc with
  | .buffered o =>
    let l := modFirst s.store.buf (fun b => b.off == o && !b.superseded) (fun b => { b with goodA := true, goodB := true })
    { s with store := { s.store with buf := l } }
  | .band g => match s.placedAt g false with
    | some p => (s.moveOne 6 p).2
    | none => s
  | .landing g => match s.placedAt g true with
    | some p => (s.moveOne 6 p).2
    | none => s
  | .dealloc | .gone => s

/-- A recovery step applies to a unit (R370). -/
def State.stepApplies (s : State) (j : UnitJob) (e : MapEntry) (step : Nat) : Bool :=
  match step with
  | 1 => true
  | 2 => (match e.loc with | .buffered _ => true | _ => false)
  | 3 => (match e.loc with | .band _ | .landing _ => true | _ => false)
  | 4 => s.canRepair j.slice j.nsid j.mu
  | _ => false

/-- A decode failure of a unit (R370): the first recovery step that served it, or, when none did, the unit is lost. -/
def State.decodeFail (lane : Nat) (j : UnitJob) (cause step : Nat) (s : State) : State :=
  let e := s.entryAt j.slice j.nsid j.mu
  let s := s.bump Reg.CMP_CNT_DEC_FAIL 1
  if s.stepApplies j e step then
    let s := if step = 1 then s.laneFail lane else if step = 4 then s.send (.repairRequest j.slice j.nsid j.mu)
      else s.writeBack e
    s.capture 0x0B03 [j.slice, j.mu, cause, step]
  else
    let s := (s.bump Reg.CMP_CNT_UNREC 1).loseUnit j.slice j.nsid j.mu 5 (s.bandOf e)
    s.capture 0x0B04 [j.slice, j.nsid, j.mu, cause]

/-- A decode failure of a reading job: served by a recovery step, waiting for the peer, or Unrecovered Read Error (R370). -/
def State.readFails (lane : Nat) (j : UnitJob) (cause step : Nat) (s : State) : State :=
  let e := s.entryAt j.slice j.nsid j.mu
  let ok := s.stepApplies j e step
  let s := s.decodeFail lane j cause step
  if ok && step = 4 then s.holdRes j.entry
  else if ok then s.endRead j
  else
    let s := match j.entry with
      | none => s
      | some i => s.modEntry i (fun c => { c with status := St.unrecoveredRead })
    s.endRead j

/-- The failure that the extent a reading job decompresses meets, or the one whose unit a merge reads: a raw extent whose entry has LOST
set is not checked (R362, R368, R369). -/
def State.jobFault (s : State) (j : UnitJob) : Option DecErr :=
  let key := (s.slice j.slice).elim 0 (·.key)
  let lbaf := s.lbafOf j.slice j.nsid
  let e := s.entryAt j.slice j.nsid j.mu
  if j.reading then
    j.x.elim (some .header) (fun x => s.extentFault lbaf key j.nsid j.mu { comp := x.compressed, len := lenField x.compressed (extGran x) } x)
  else if s.mergeReads j && !(e.lost && !e.comp) then (s.extentOf e).bind (s.extentFault lbaf key j.nsid j.mu e)
  else none

/-- The recovery step that serves a unit whose bytes are bad wherever they are read: its replica's extent, or none (R370). -/
def State.badStep (s : State) (j : UnitJob) : Nat := if s.canRepair j.slice j.nsid j.mu then 4 else 0

/-- A lane has compressed a unit: its payload within the limit becomes the extent; one that does not decode to the unit is found by the
verify decoder, which leaves a raw extent (R356, R361, R363, R364). A payload no lane forms, outside the limit or with a stored block, is
none. -/
def State.laneCompressed (lane : Nat) (j : UnitJob) (p : List Byte) (s : State) : State :=
  let lbaf := s.lbafOf j.slice j.nsid
  let r := inflate false [] (s.origLen lbaf) p
  let good := match r with | .ok x => x.1 == origBytes lbaf (s.merged j) | .error _ => false
  let kinds := match r with | .ok x => x.2.all (fun k => k == 1 || k == 2) | .error _ => true
  if p.length < 16 || 512 * s.compLimit lbaf < 16 + p.length || !kinds then s
  else if good || s.fld Reg.CMP_CFG 4 4 = 0 then s.formExtent j (some p)
  else s.verifyFails lane j

/-- A lane ends its work on a unit. A write's unit becomes an extent, compressed within the limit of R363 or raw; a merge that
cannot read its unit goes on after R370 and R371; a read's unit is delivered once its whole original has passed the checks. A unit whose start waits for its grant is not done (R472). -/
def execLaneUnitComplete (lane job : Nat) (r : LaneResult) (s : State) : Out :=
  match s.job job with
  | none => .next s
  | some j =>
    if j.stage != 0 || j.lane != lane || j.chain.isEmpty || s.store.flush.isSome then .next s
    else s.granted .lane fun s =>
    if j.reading then
      match r with
      | .decompressed =>
        match s.jobFault j with
        | none => ((s.markChain j.chain (j.x.elim 0 (·.origLen))).endRead j).done
        | some f => (s.readFails lane j f.code (s.badStep j)).done
      | .decodeFailed cause step => (s.readFails lane j cause step).done
      | .compressed _ | .overLimit | .verifyFailed => .next s
    else
      match r, s.jobFault j with
      | .decodeFailed cause step, _ => if s.mergeReads j then (s.decodeFail lane j cause step).done else .next s
      | _, some f => (s.decodeFail lane j f.code (s.badStep j)).done
      | .compressed p, none => .next (if s.jobRaw j then s.formExtent j none else s.laneCompressed lane j p)
      | .overLimit, none => .next ((if s.jobRaw j then s else s.bump Reg.CMP_CNT_RAW 1).formExtent j none)
      | .verifyFailed, none => .next (if s.jobRaw j || s.fld Reg.CMP_CFG 4 4 = 0 then s else s.verifyFails lane j)
      | .decompressed, none => .next s

/-! ### STAGING_DURABLE (R187, R194, R202, R209, R212) -/

/-- A command's units that one staging record takes, from the one of job `j` on: consecutive ones in FILLING whose content is what was
formed, at most `n` more (R209). -/
def State.runFrom (s : State) (j : UnitJob) : Nat → List UnitJob
  | 0 => [j]
  | n + 1 =>
    match s.store.jobs.find? (fun y => j.entry.isSome && y.entry == j.entry && !j.peer && !y.peer && y.slice == j.slice && y.nsid == j.nsid &&
        y.mu == j.mu + 1 && y.stage == 2 && !y.reading && y.x.any (fun x => s.merged y == x.orig)) with
    | none => [j]
    | some y => j :: s.runFrom y n

/-- What follows once a unit's staging is durable: it is forwarded, its change marked, its stored bytes counted, and its job ends. -/
def State.unitStaged (j : UnitJob) (s : State) : State :=
  let n := j.x.elim 0 extBytes
  -- an extent that is both buffered and forwarded shares its chain with the ring (R386)
  let s := if s.forwards j.slice then s.shareChain 6 j.chain else s
  let s := (s.countStored j.slice (if j.peer then none else j.entry) n).dropJob j.id
  let s := (s.markMig j.slice j.nsid j.mu).forward j.slice (j.nsid, j.mu, 1, j.entry)
  if j.peer then (s.send (.peerAck j.slice)).peerFree (j.entry.getD 0) else s

/-- Both copies of a FILLING extent are written and its staging record is durable: the unit, and the command's next ones that the record
takes with it, are staged, forwarded and gathered, and the write is done when its last unit is. A merge whose unit changed meanwhile goes
to a lane again (R187). -/
def execStagingDurable (id : Nat) (s : State) : Out :=
  match s.job id with
  | none => .next s
  | some j =>
    match j.x with
    | none => .next s
    | some x =>
      if j.stage != 2 || j.reading || s.store.flush.isSome then .next s
      else if s.journalHolds then .next (s.noteHeld.holdRes j.entry)
      else if !j.peer && s.merged j != x.orig then
        .next ((s.freeFilling j.buf).giveLane id)
      else
        let l := s.runFrom j 255
        -- the first map update staged is the no-return point (R105)
        let s := match j.entry with
          | none => s
          | some e => (s.unholdRes (some e)).modEntry e (fun c =>
              { c with gate := .committed, left := c.left - l.length, durable := c.durable + l.length })
        let before := s.rebuildSet
        let all := List.range (s.unitLbas (s.lbafOf j.slice j.nsid))
        let s := s.stageRun j.slice j.nsid j.mu (l.map (fun y => (y.buf, y.x.getD x, if y.peer then all else y.wrote))) j.entry
        let s := l.foldl (fun s y => s.unitStaged y) s
        let s := (s.settle before).gatherHost
        match j.entry with
        | none => s.done
        | some e => (s.writeDone e).done

/-! ### LANE_EN_WRITE (R376, R377) -/

/-- The unit each lane holds keeps the MODE it was started under (R365). -/
def State.keepModes (s : State) : State :=
  let m := s.storeRaw
  (List.range 8).foldl (fun s l =>
    match s.store.jobs.find? (fun j => j.stage == 0 && j.lane == l && !j.reading) with
    | none => s
    | some j => if j.raw.isSome || j.chain.isEmpty then s else s.modJob j.id (fun y => { y with raw := some m })) s

/-- CMP_CFG takes a written value: a lane whose bit is cleared finishes the unit it holds, and its other units move. -/
def State.laneCfg (v : Word) (s : State) : State :=
  let s := s.keepModes.setReg Reg.CMP_CFG (v &&& 0x00FFFF13)
  ((List.range 8).filter (fun l => !s.lanesActive.contains l)).foldl (fun s l => s.moveQueued l 1) s

def execLaneEnWrite (v : Word) (s : State) : Out := .next (s.laneCfg v)

/-! ### Stream jobs (R373, R374) -/

def State.modStream (id : Nat) (f : StreamJob → StreamJob) (s : State) : State :=
  { s with comp := { s.comp with jobs := modFirst s.comp.jobs (·.id == id) f } }

/-- The job is one of the four of its direction that run; a fifth waits (R373). -/
def State.streamRuns (s : State) (sender : Bool) (id : Nat) : Bool :=
  ((s.comp.jobs.filter (fun j => j.sender == sender)).take 4).any (·.id == id)

/-- What a lane makes of a chunk after the window of its job: its original, or how it fails (R357, R360, R361, R368, R373). -/
def chunkOrig (c : Chunk) (window : List Byte) : Except DecErr (List Byte) :=
  let ok := c.format == 1 && c.stream && decide (c.origLen ≤ 65536) &&
    (if c.compressed then decide (16 ≤ c.payload.length) else c.payload.length == c.origLen)
  let r := if c.compressed then (inflate true window c.origLen c.payload).map (·.1) else .ok c.payload
  if !ok then .error .header
  else
    match r with
    | .error e => .error e
    | .ok o => if crc32c o = c.crc then .ok o else .error .crc

/-- A chunk at the receiver: taken when it follows the previous chunk and the lane accepts it, or when it restarts the job at
the first discarded SEQ with an empty window; else it and every later one are discarded and its SEQ is reported, with the failure. -/
def execStreamChunkReceived (job : Nat) (c : Chunk) (s : State) : Out :=
  match s.comp.jobs.find? (fun j => j.id == job && !j.sender) with
  | none => .next s
  | some j =>
    if !s.streamRuns false job then .next s else
    let w := if c.dictReset then [] else j.window
    let r := chunkOrig c w
    let why := match r with | .ok _ => none | .error e => some e.code
    let follows := match j.discard with
      | none => c.seq == j.seq
      | some d => c.seq == d && c.dictReset
    match r, follows && (c.dictReset || !j.windowEmpty) with
    | .ok o, true =>
      .next (s.modStream job (fun j =>
        { j with seq := (c.seq + 1) % 65536, windowEmpty := false, window := windowOf w o, discard := none }))
    | _, _ =>
      match j.discard with
      | some d =>
        -- the restart itself failed: it is reported again; chunks sent before it are only discarded
        .next (if c.seq == d && c.dictReset then s.send (.restartRequest job d why) else s)
      | none => .next ((s.modStream job (fun j => { j with discard := some c.seq })).send (.restartRequest job c.seq why))

/-- The sender restarts from the reported chunk with an empty window; the job continues. -/
def execStreamRestartRequest (job seq cause : Nat) (s : State) : Out :=
  match s.comp.jobs.find? (fun j => j.id == job && j.sender) with
  | none => .next s
  | some j =>
    if !s.streamRuns true job then .next s else
    let s := s.modStream job (fun j => { j with seq := seq, windowEmpty := true, window := [] })
    let s := (s.send (.streamRestart job seq)).bump Reg.CMP_CNT_STREAM_RST 1
    .next (s.capture 0x0B06 [j.nb, j.migId, seq, cause])

end Sys2Proof.Machine
end

