-- ==== Sys2Proof/Machine/EngineAdmit.lean ====
section
/-! DEFINITION. What a capsule touches and transfers, the validation of R93, admission, aborting entries, ending queues and
controllers, and the release pass (R86 to R117, R150). -/

namespace Sys2Proof.Machine

open Sys2Proof

/-! ### LBAs, map units and lengths (R92, R98, R174) -/

/-- Map units of LBAs `a` to `a + n − 1`: first and count. -/
def State.unitSpan (s : State) (lbaf a n : Nat) : Nat × Nat :=
  let u := s.unitBytes
  let b := lbaSize lbaf
  if n = 0 then (a * b / u, 0) else (a * b / u, (a + n - 1) * b / u + 1 - a * b / u)

/-- A Write, Read or other command with an LBA range in Dwords 10 to 12. -/
def hasRange (opc : Nat) : Bool :=
  opc == 0x01 || opc == 0x02 || opc == 0x05 || opc == 0x08 || opc == 0x0C || opc == 0x19

/-- Whether Dataset Management deallocates: attribute AD in Dword 11 [2]. -/
def dsmDealloc (c : Capsule) : Bool := c.dw11.getLsbD 2

/-- The ranges or source entries a Dataset Management or Copy names were carried in its capsule. -/
def listHere (c : Capsule) : Bool :=
  if c.opc == 0x09 then decide (16 * (dwBits c.dw10 7 0 + 1) ≤ c.data.length)
  else if c.opc == 0x19 then decide (32 ≤ c.data.length) else true

/-- Length of the destination range of a Copy: that of its one source range. -/
def copyLen (c : Capsule) : Nat := (c.copySrc).2

/-- NLB of R92 for a command. -/
def cmdNlb (c : Capsule) : Nat :=
  if c.opc == 0x19 then (if listHere c then copyLen c else 0) else if hasRange c.opc then c.nlb else 0

/-- Runs of map units a command reads and writes (R98). A list that is fetched after admission may touch the whole
namespace until it has arrived (State.knowList). -/
def State.touches (s : State) (n : Ns) (c : Capsule) : List (Nat × Nat) × List (Nat × Nat) :=
  let span := fun (r : Nat × Nat) => s.unitSpan n.lbaf r.1 r.2
  let all := [(0, s.nsUnits n)]
  match c.opc with
  | 0x01 => ([], [span (c.slba, c.nlb)])
  | 0x08 => ([], [span (c.slba, c.nlb)])
  | 0x02 => ([span (c.slba, c.nlb)], [])
  | 0x05 => ([span (c.slba, c.nlb)], [])
  | 0x0C => ([span (c.slba, c.nlb)], [])
  | 0x09 => if !dsmDealloc c then ([], []) else if listHere c then ([], c.dsmRanges.map span) else ([], all)
  | 0x19 => if listHere c then ([span c.copySrc], [span (c.slba, copyLen c)]) else (all, all)
  | _ => ([], [])

/-- Two lists of runs share a unit. -/
def runsMeet (a b : List (Nat × Nat)) : Bool :=
  a.any (fun x => b.any (fun y => decide (0 < x.2 ∧ 0 < y.2 ∧ x.1 < y.1 + y.2 ∧ y.1 < x.1 + x.2)))

/-- Two commands conflict (R98, R99). -/
def State.conflicts (s : State) (n : Ns) (a b : Capsule) : Bool :=
  let (ra, wa) := s.touches n a
  let (rb, wb) := s.touches n b
  a.nsid == b.nsid && (runsMeet wa wb || runsMeet wa rb || runsMeet ra wb)

/-- PRACT of a command on a format with protection information. -/
def pract (c : Capsule) : Bool := c.dw12.getLsbD 29

/-- Bytes of one LBA on the wire: metadata travels with the data unless the device inserts or strips it (R125, R127). -/
def lbaWire (n : Ns) (c : Capsule) : Nat :=
  lbaSize n.lbaf + (if n.lbaf = 2 && !(n.pi != 0 && pract c) then 8 else 0)

/-- NUMD of a Get Log Page as bytes: Dword 10 [31:16] and Dword 11 [15:0], zero-based dwords. -/
def logBytes (c : Capsule) : Nat := 4 * (dwBits c.dw10 31 16 + 65536 * dwBits c.dw11 15 0 + 1)

/-- Data transfer length of a command in bytes. -/
def xferBytes (n : Option Ns) (io : Bool) (c : Capsule) : Nat :=
  if io then
    match c.opc with
    | 0x01 | 0x02 | 0x05 => match n with | some n => c.nlb * lbaWire n c | none => 0
    | 0x09 => 16 * (dwBits c.dw10 7 0 + 1)
    | 0x19 => 32
    | 0x0D | 0x11 => 16
    | 0x15 => 8
    | 0x0E => 4 * (c.dw10.toNat + 1)
    | _ => 0
  else
    match c.opc with
    | 0x02 => logBytes c
    | 0x06 => 4096
    | 0x0D => if dwBits c.dw10 3 0 = 0 then 4096 else 0
    | 0x15 => 4096
    | 0xC0 | 0xC1 => 4 * dwBits c.dw11 10 0
    | 0xC4 => 1024
    | 0xD0 => c.dw11.toNat
    | 0xCA => if dwBits c.dw10 1 0 < 2 then 1024 else 0
    | 0x11 => 4 * (c.dw10.toNat + 1)
    | 0x09 | 0x0A => if dwBits c.dw10 7 0 = 0x0C then 256 else if dwBits c.dw10 7 0 = 0x81 then 16 else 0
    | _ => 0

/-- The command's data goes to the device. -/
def takesData (io : Bool) (opc : Nat) : Bool :=
  if io then [0x01, 0x05, 0x09, 0x19, 0x0D, 0x11, 0x15].contains opc
  else [0x0D, 0x15, 0xC1, 0xC4, 0xD0, 0xCA, 0x11, 0x09].contains opc

/-- Bytes of a command's data that have not arrived. -/
def State.bytesDue (s : State) (c : Cct) : Nat :=
  if takesData c.isIo c.cap.opc then xferBytes (if c.isIo then s.nsOf c.slice c.cap.nsid else none) c.isIo c.cap - c.cap.data.length else 0

/-! ### Validation (R93, R118, R119, R590, R532) -/

/-- I/O opcodes of R118. -/
def ioOpcodes : List Nat := [0x00, 0x01, 0x02, 0x05, 0x08, 0x09, 0x0C, 0x0D, 0x0E, 0x11, 0x15, 0x19]
/-- Admin opcodes of R119 on every slice, those of the management slice, and the vendor opcodes of R20. -/
def adminOpcodes : List Nat := [0x02, 0x06, 0x08, 0x09, 0x0A, 0x0C, 0x0D, 0x15, 0x18, 0x80, 0x84]
def mgmtOpcodes : List Nat := [0x10, 0x11]
def vendorOpcodes : List Nat := [0xC0, 0xC1, 0xC4, 0xC5, 0xC6, 0xC7, 0xC8, 0xC9, 0xCA, 0xCC, 0xCD, 0xCE, 0xD0, 0xD2, 0xD4, 0xD6]
/-- Admin opcodes of a discovery controller. -/
def discoveryOpcodes : List Nat := [0x02, 0x06, 0x08, 0x09, 0x0A, 0x0C, 0x18]

/-- Property Get, Property Set, Authentication Send and Receive (R123). -/
def isFabrics (c : Capsule) : Bool := c.opc == 0x7F && (c.fabrics == 0 || c.fabrics == 4 || c.fabrics == 5 || c.fabrics == 6)

/-- Property Get or Set. -/
def isProperty (c : Capsule) : Bool := c.opc == 0x7F && (c.fabrics == 0 || c.fabrics == 4)

/-- Check 2: the opcode is supported on this queue and slice. The ring subsystem takes firmware from the upstream peer only
(R532). -/
def opcodeOk (k : Ctrl) (io : Bool) (c : Capsule) : Bool :=
  if io then ioOpcodes.contains c.opc || isFabrics c
  else if isFabrics c then true
  else
    match k.ring with
    | some nb => c.opc == 0x18 || (nb == 0 && (c.opc == 0x11 || (c.opc == 0x10 && dwBits c.dw10 5 3 = 0)))
    | none =>
      if k.discovery then discoveryOpcodes.contains c.opc
      else adminOpcodes.contains c.opc || (k.slice == 0 && (mgmtOpcodes.contains c.opc || vendorOpcodes.contains c.opc))

/-- CNS of Identify. -/
def cnsOf (c : Capsule) : Nat := dwBits c.dw10 7 0

/-- CNS values that take an NSID, and those among them that allow 0xFFFF_FFFF. -/
def cnsTakesNsid (n : Nat) : Bool := [0x00, 0x03, 0x05, 0x08, 0x11, 0x12].contains n
def cnsAllNsid (n : Nat) : Bool := [0x00, 0x05].contains n

/-- Check 3: the NSID, with the exceptions of R590. -/
def State.nsidOk (s : State) (k : Ctrl) (io : Bool) (c : Capsule) : Bool :=
  let attached := (s.nsOf k.slice c.nsid).elim false (·.attached.contains k.id)
  let nn := ((s.slice k.slice).map (·.desc.ns)).getD 0
  if c.opc == 0x7F then true
  else if io then attached
  else
    match c.opc with
    | 0x06 =>
      if !cnsTakesNsid (cnsOf c) then true
      else if c.nsid = 0xFFFFFFFF then cnsAllNsid (cnsOf c) else 1 ≤ c.nsid && c.nsid ≤ nn
    | 0x80 => c.nsid == 0xFFFFFFFF || attached
    | 0x0D => if dwBits c.dw10 3 0 = 1 then (s.nsOf k.slice c.nsid).isSome else true
    | 0x15 => (s.nsOf k.slice c.nsid).isSome
    | 0x09 | 0x0A =>
      if dwBits c.dw10 7 0 = 0x82 || dwBits c.dw10 7 0 = 0x83 then attached || c.nsid == 0xFFFFFFFF else true
    | _ => true

/-- Bits of Dwords 2, 3 and 10 to 15 that a command of the NVM and admin command sets defines (PRESUMED from the command sets the spec
builds on, assumption 88); none for a command whose own chapter checks its fields. -/
def dwMasks (n : Option Ns) (io : Bool) (c : Capsule) : Option (List Nat) :=
  let all := 0xFFFFFFFF
  let pi := n.elim false (fun n => n.pi != 0)
  let p14 := if pi then all else 0
  if io then
    match c.opc with
    | 0x00 => some [0, 0, 0, 0, 0, 0, 0, 0]
    | 0x01 => some [0, 0, all, all, 0xFDF0FFFF, 0xFFFF00FF, p14, p14]
    | 0x02 => some [0, 0, all, all, 0xFD00FFFF, 0x000000FF, p14, p14]
    | 0x05 => some [0, 0, all, all, 0xFD00FFFF, 0, p14, p14]
    | 0x08 => some [0, 0, all, all, 0xFF00FFFF, 0, p14, p14]
    | 0x09 => some [0, 0, 0xFF, 0x7, 0, 0, 0, 0]
    | 0x0C => some [0, 0, all, all, 0xFD00FFFF, 0, p14, p14]
    | 0x0D => some [0, 0, 0xC000000F, 0, 0, 0, 0, 0]
    | 0x0E => some [0, 0, all, 0x1, 0, 0, 0, 0]
    | 0x11 => some [0, 0, 0xFF0F, 0, 0, 0, 0, 0]
    | 0x15 => some [0, 0, 0xFF0F, 0, 0, 0, 0, 0]
    | 0x19 => some [0, 0, all, all, 0xFDF0FFFF, 0xFFFF0000, p14, p14]
    | _ => none
  else
    match c.opc with
    | 0x02 => some [0, 0, 0xFFFF7FFF, all, all, all, 0x8000007F, 0]
    | 0x06 => some [0, 0, 0xFFFF00FF, 0xFF00FFFF, 0, 0, 0x7F, 0]
    | 0x08 => some [0, 0, all, 0, 0, 0, 0, 0]
    | 0x0C => some [0, 0, 0, 0, 0, 0, 0, 0]
    | 0x15 => some [0, 0, 0xF, 0, 0, 0, 0, 0]
    | 0x18 => some [0, 0, 0, 0, 0, 0, 0, 0]
    | 0x80 => some [0, 0, 0xFFF, 0, 0, 0, 0, 0]
    | 0x84 => some [0, 0, 0x7FF, all, 0, 0, 0, 0]
    | _ => none

/-- No reserved bit of a command's Dwords is set (R93, R128). -/
def reservedOk (n : Option Ns) (io : Bool) (c : Capsule) : Bool :=
  match dwMasks n io c with
  | none => true
  | some l => ([c.dw2, c.dw3, c.dw10, c.dw11, c.dw12, c.dw13, c.dw14, c.dw15].zip l).all (fun x => onlyBits x.1 x.2)

/-- Check 4: reserved fields, fused bits, SGL descriptor, field values common to the commands (R62, R65, R118). -/
def State.fieldsStatus (s : State) (k : Ctrl) (q : Queue) (io : Bool) (c : Capsule) : Nat :=
  let n := if io then s.nsOf k.slice c.nsid else none
  let x := xferBytes n io c
  let tcp := (s.fabric.conns.find? (·.id == q.conn)).elim true (·.tcp)
  let typeOk := match c.sgl with
    | .none => x == 0
    | .inCapsuleOffset => true
    | .transportBlock => tcp
    | .keyedBlock => !tcp
    | .segment | .other => false
  if c.opc == 0x7F then St.ok
  else if !reservedOk n io c then St.invalidField
  else if c.fuse != 0 then St.invalidField
  else if !typeOk then St.sglType
  else if c.sgl != .none && c.sglLen != x then St.sglLength
  else if c.sgl == .inCapsuleOffset && 8192 < c.inCapsule then St.invalidField
  else if io && c.opc == 0x01 && dwBits c.dw12 23 20 != 0 then St.invalidField
  else if io && c.opc == 0x19 && dwBits c.dw12 11 8 != 0 then St.invalidField
  else St.ok

/-- Check 5: every range lies within the namespace. -/
def State.rangesIn (n : Ns) (c : Capsule) : Bool :=
  if c.opc == 0x09 then !listHere c || c.dsmRanges.all (fun r => r.1 + r.2 ≤ n.nsze)
  else if c.opc == 0x19 then !listHere c || (c.slba + copyLen c ≤ n.nsze && c.copySrc.1 + c.copySrc.2 ≤ n.nsze)
  else if hasRange c.opc then c.slba + c.nlb ≤ n.nsze
  else true

/-- Check 6: MDTS of 1 MiB, and Copy's one range of at most 1 MiB (R118, R124). -/
def State.sizeStatus (n : Ns) (c : Capsule) : Nat :=
  if c.opc == 0x19 then
    if dwBits c.dw12 7 0 != 0 || (listHere c && 1048576 < copyLen c * lbaSize n.lbaf) then St.copySize else St.ok
  else if 1048576 < xferBytes (some n) true c then St.invalidField
  else St.ok

/-- Check 7: on type 1, a checked initial reference tag that is not the low 32 bits of the SLBA. -/
def piOk (n : Ns) (c : Capsule) : Bool :=
  let checks := c.opc == 0x01 || c.opc == 0x02 || c.opc == 0x05 || c.opc == 0x0C || c.opc == 0x08 || c.opc == 0x19
  !(n.pi == 1 && checks && c.dw12.getLsbD 26 && c.dw14.toNat != c.slba % 2 ^ 32)

/-- Check 8: a Format or Sanitize in progress. -/
def busyStatus (x : SliceS) (io : Bool) (c : Capsule) : Nat :=
  if !(io || c.opc == 0x80 || c.opc == 0x0D || c.opc == 0x15) then St.ok
  else
    match x.erase with
    | some e => if e.sanitize then St.sanitizeInProgress else St.formatInProgress
    | none => St.ok

/-- Check 9: the slice's states that make both groups inaccessible, or changing during a cut-over (R146, R165). -/
def anaStatus (x : SliceS) : Nat :=
  match x.state with
  | .frozen => if x.migState = 4 then St.anaTransition else St.anaInaccessible
  | .moved | .inDoubt | .restoring | .replica => St.anaInaccessible
  | .unused | .active | .quiescing | .quiesced => St.ok

/-- Write-like and read-like I/O commands of the reservation rules. -/
def resvWrites (c : Capsule) : Bool := [0x00, 0x01, 0x08, 0x09, 0x19].contains c.opc
def resvReads (c : Capsule) : Bool := [0x02, 0x05, 0x0C].contains c.opc

/-- Check 10: the reservation permits the command from this host. Types 1 and 2 leave it to the holder, 3 and 4 to the
registrants, 5 and 6 to every registrant as a holder; the odd types exclude writes only. -/
def resvOk (n : Ns) (host : BitVec 128) (c : Capsule) : Bool :=
  let r := n.resv
  let registered := r.regs.any (·.1 == host)
  if r.rtype = 0 || (r.holder.isNone && r.rtype < 5) then true
  else
    let own := if r.rtype ≤ 2 then r.holder == some host else registered
    own || !(resvWrites c || (resvReads c && r.rtype % 2 == 0))

/-- Check 6 of an admin command: MDTS (R93, R124, R128). -/
def adminSize (c : Capsule) : Nat := if 1048576 < xferBytes none false c then St.invalidField else St.ok

/-- Check 10 of an admin command: Format NVM and the delete of a namespace write to what they name, so another host's reservation
refuses them (assumption 88). -/
def resvAdmin (x : SliceS) (host : BitVec 128) (c : Capsule) : Bool :=
  if c.opc == 0x80 || (c.opc == 0x0D && dwBits c.dw10 3 0 = 1) then
    (x.nss.filter (fun n => n.nsid == c.nsid || c.nsid == 0xFFFFFFFF)).all (fun n => resvOk n host { c with opc := 0x01 })
  else true

/-- Check 9 is about I/O commands: admin queues keep running in every state of R146 (assumption 41). A ring association and the
commands that set a controller up are exempt from the Command Sequence Error: Property Set must pass before the controller is enabled,
and a peer's association is never enabled (DESIGN CHOICE, assumption 87).

The first check of R93 that fails after the CID's, as a status. -/
def State.validate (s : State) (k : Ctrl) (q : Queue) (c : Capsule) : Nat :=
  let io := decide (q.idx < 8192)
  if !opcodeOk k io c then St.invalidOpcode
  else if !(isFabrics c) && !(k.en && k.rdy) && k.ring.isNone then St.sequenceError
  else if !s.nsidOk k io c then St.invalidNamespace
  else if s.fieldsStatus k q io c != St.ok then s.fieldsStatus k q io c
  else
    match s.slice k.slice with
    | none => if io || isFabrics c then St.ok else adminSize c
    | some x =>
      match if io then s.nsOf k.slice c.nsid else none with
      | none =>
        if !io && adminSize c != St.ok then adminSize c
        else if busyStatus x io c != St.ok then busyStatus x io c
        else if !io && !resvAdmin x k.hostId c then St.reservationConflict
        else St.ok
      | some n =>
        if !State.rangesIn n c then St.lbaOutOfRange
        else if State.sizeStatus n c != St.ok then State.sizeStatus n c
        else if !piOk n c then St.invalidPi
        else if busyStatus x io c != St.ok then busyStatus x io c
        else if anaStatus x != St.ok then anaStatus x
        else if !resvOk n k.hostId c then St.reservationConflict
        else St.ok

/-! ### Admission (R89 to R94, R105, R146, R433) -/

/-- Commands whose no-return point is admission (R105): every admin or Fabrics command but those named. R105 does not name Flush: its
gate stays open until it executes (DESIGN CHOICE, assumption 87). -/
def commitsAtAdmission (io : Bool) (c : Capsule) : Bool :=
  isFabrics c || !io && !([0x80, 0x84, 0x0D, 0x15, 0x10, 0x09, 0x0C].contains c.opc)

/-- Admin commands held with a quiescing or quiesced slice's I/O (R146). -/
def heldAdmin (c : Capsule) : Bool := [0x80, 0x84, 0x0D, 0x15].contains c.opc

/-- The slice holds its I/O (R146). -/
def SliceS.holds (x : SliceS) : Bool := x.state == .quiescing || x.state == .quiesced

/-- Entries of a slice's reservation in use; the ring's and the management slice's come from the system reserve (R90, R91). -/
def State.cctRoom (s : State) (k : Ctrl) : Bool :=
  if k.ring.isSome then (s.eng.cct.filter (fun c => c.origin != 0)).length < 3072
  else if k.slice = 0 then (s.eng.cct.filter (fun c => c.slice == 0 && c.origin == 0)).length < 1024
  else (s.eng.cct.filter (fun c => c.slice == k.slice && c.origin == 0)).length < ((s.slice k.slice).map (·.desc.cct)).getD 0

/-- Admission from a controller's queues is stopped: a disable or shutdown of its own, or of the device, lets only property
commands through (R113, R115, R116). -/
def State.stops (s : State) (k : Ctrl) (c : Capsule) : Bool :=
  (k.stopped || s.eng.shutdown.isSome) && !isProperty c

/-- An entry for a capsule admitted from a queue (R92, R94). A Dataset Management shows no range: its several ranges fit no single one
(DESIGN CHOICE, assumption 87). A command of a connection whose MAC went down runs with its completion discarded (R71). A Get Log Page of 0xC1 takes its capture
(R170). -/
def State.newEntry (s : State) (e : Nat) (k : Ctrl) (q : Queue) (c : Capsule) : Cct :=
  let io := decide (q.idx < 8192)
  let n := if io then s.nsOf k.slice c.nsid else none
  let ranged := io && hasRange c.opc
  let len := if ranged then cmdNlb c else 0
  let span := match n with | some n => if ranged then s.unitSpan n.lbaf c.slba len else (0, 0) | none => (0, 0)
  { idx := e, slice := if k.ring.isSome then 0 else k.slice, queue := q.idx, seq := q.nextSeq,
    origin := if k.ring.isSome then 1 else 0, slba := if ranged then c.slba else 0, nlb := len,
    discard := (s.fabric.conns.find? (·.id == q.conn)).elim false (·.lost),
    page := if !io && c.opc == 0x02 && lidOf c == 0xC1 then s.pageC1 (lsiOf c) else none,
    muFirst := span.1, muCount := span.2, arrival := s.seed.now, cntl := k.id, cap := c, heldAt := s.seed.now,
    gate := if commitsAtAdmission io c then .committed else .open }

/-- Older entries of the queue that a command conflicts with and whose ordering point has not passed (R94, R99). -/
def State.older (s : State) (k : Ctrl) (q : Queue) (c : Capsule) : List Nat :=
  match s.nsOf k.slice c.nsid with
  | none => []
  | some n =>
    if q.idx < 8192 then
      (s.eng.cct.filter (fun x => x.queue == q.idx && !x.orderDone && s.conflicts n x.cap c)).map (·.idx)
    else []

/-- Enters a command in the table, held for overlap or for QoS. -/
def State.enter (x : Cct) (ws : List Nat) (s : State) : State :=
  let cct := s.eng.cct.map (fun y => if ws.contains y.idx then { y with waiters := y.waiters ++ [x.idx] } else y)
  let x := { x with waits := ws.length, st := if ws.isEmpty then .heldQos else .heldOverlap }
  let s := { s with eng := { s.eng with cct := cct ++ [x] } }
  if ws.isEmpty then s else s.bump Reg.CE_CNT_OVL_HOLD 1

/-- Changes a connection. -/
def State.modConn (i : Nat) (f : Conn → Conn) (s : State) : State :=
  let fb := s.fabric
  { s with fabric := { fb with conns := modFirst fb.conns (·.id == i) f } }

/-- The chains for the data a host sends with a command, at most 32 punnets each, asked for once (R62, R65, R383). -/
def State.recvChain (c : Cct) (s : State) : State :=
  if !c.chain.isEmpty || s.waitsPun c.idx then s
  else
    let k := ceilDiv (512 * ceilDiv (xferBytes (if c.isIo then s.nsOf c.slice c.cap.nsid else none) c.isIo c.cap) 512) 4096
    (List.range (ceilDiv k 32)).foldl (fun s i => s.requestPun 2 (min 32 (k - 32 * i)) none (some c.idx)) s

/-- A command may ask for its data: dispatched, or one whose list of ranges ordering needs (R98, R99). -/
def Cct.mayFetch (c : Cct) : Bool :=
  c.st == .dispatched || ((c.st == .heldOverlap || c.st == .heldQos) && c.isIo && !listHere c.cap)

/-- Asks the host for the data of a command that has not arrived, once its punnets are granted: by one R2T on TCP, by an RDMA READ while
fewer than the queue pair allows are outstanding (R33, R62, R65). -/
def State.fetchData (e : Nat) (s : State) : State :=
  match s.entry e with
  | none => s
  | some c =>
    if s.bytesDue c = 0 || !c.mayFetch then s
    else
      let s := s.recvChain c
      if s.waitsPun e then s
      else
        match s.connOf c with
        | none => s
        | some y =>
          if y.tcp then
            if c.r2t != 0 then s else (s.modEntry e (fun c => { c with r2t := s.bytesDue c })).send (.r2t e (s.bytesDue c))
          else if c.fetching || y.readMax ≤ y.reads.length then s
          else
            let s := (s.modEntry e (fun c => { c with fetching := true })).modConn y.id (fun y => { y with reads := y.reads ++ [e] })
            s.send (.rdmaRead e (s.bytesDue c))

/-- The list of a Dataset Management or a Copy has arrived: entries that do not conflict with what it names go on, and so does the
command where those it waited for do not (R99); a Copy's range shows in its entry (R92). -/
def State.knowList (e : Nat) (s : State) : State :=
  match s.entry e with
  | none => s
  | some c =>
    match s.nsOf c.slice c.cap.nsid with
    | none => s
    | some n =>
      let free := c.waiters.filter (fun i => !(s.entry i).elim false (fun y => s.conflicts n c.cap y.cap))
      let mine := (s.eng.cct.filter (fun y => y.waiters.contains e && !s.conflicts n y.cap c.cap)).map (·.idx)
      let span := if c.cap.opc == 0x19 then s.unitSpan n.lbaf c.cap.slba (copyLen c.cap) else (0, 0)
      let s := s.modEntry e (fun c =>
        { c with waiters := c.waiters.filter (fun i => !free.contains i), nlb := cmdNlb c.cap, muFirst := span.1, muCount := span.2 })
      let cct := releaseWaiters s.eng.cct free s.seed.now
      let cct := cct.map (fun y => if mine.contains y.idx then { y with waiters := y.waiters.filter (· != e) } else y)
      { s with eng := { s.eng with cct := mine.foldl (fun l _ => releaseWaiters l [e] s.seed.now) cct } }

/-- Admits one capsule, already taken from its ring, into free entry `e`: it is completed at once with the status of the first
check that fails, and otherwise held (R93, R94). -/
def State.enterEntry (e : Nat) (k : Ctrl) (q : Queue) (c : Capsule) (s : State) : State :=
  let x := s.newEntry e k q c
  let s := s.modQueue q.idx (fun y => { y with nextSeq := y.nextSeq + 1 })
  let s := (s.bump Reg.CE_CNT_ADMIT 1).busyNow
  let io := decide (q.idx < 8192)
  let s := if io then s.modCtrl k.id (fun y => { y with ps := 0, lastIo := s.seed.now }) else s
  if s.eng.cct.any (fun y => y.queue == q.idx && y.cap.cid == c.cid) then
    let s := (s.bump Reg.CE_CNT_CIDCONF 1).capture 0x0507 [x.slice, q.idx, c.cid]
    s.post x St.cidConflict 0
  else
    let st := s.validate k q c
    if st != St.ok then s.post x st 0
    else
      let s := s.enter x (s.older k q c)
      if io && !listHere c then s.fetchData e else s

/-! ### Rings and the in-capsule pool (R87, R88) -/

/-- Room for a capsule's data in the 512 MiB pool. -/
def State.poolRoom (s : State) (c : Capsule) : Bool := s.eng.poolUsed + c.inCapsule ≤ 536870912

/-- Takes capsules out of a ring: their pool space is free again. -/
def State.freePool (n : Nat) (s : State) : State := { s with eng := { s.eng with poolUsed := s.eng.poolUsed - n } }

/-- Discards what a queue's ring holds. -/
def State.clearRing (q : Queue) (s : State) : State :=
  (s.modQueue q.idx (fun y => { y with ring := [] })).freePool (sumBy q.ring (·.inCapsule))

/-- A connection ends: rings discarded, admitted commands run on with their completions discarded, a queue freed with its last
command (R88, R37). -/
def State.endConn (conn : Nat) (s : State) : State :=
  let qs := s.eng.queues.filter (·.conn == conn)
  let s := qs.foldl (fun s q => s.clearRing q) s
  let ids := qs.map (·.idx)
  let eng := s.eng
  let cct := eng.cct.map (fun c => if ids.contains c.queue then { c with discard := true } else c)
  let queues := (eng.queues.map (fun q => if q.conn == conn then { q with dead := true } else q)).filter
    (fun q => !(q.dead && !cct.any (·.queue == q.idx)))
  let s := { s with eng := { eng with cct := cct, queues := queues } }
  let fb := s.fabric
  let flows : List Flow := fb.flows.filter (·.id != conn)
  ({ s with fabric := { fb with conns := fb.conns.filter (·.id != conn), flows := flows } }).send (.connClosed conn)

/-! ### Aborting entries, disabling and ending controllers (R106, R113 to R117) -/

/-- Closes aborted every entry of a list whose gate is open. -/
def State.abortList (l : List Cct) (status : Nat) (discard : Bool) (s : State) : State :=
  l.foldl (fun s c =>
    match s.entry c.idx with
    | none => s
    | some x => if x.gate == .open then s.postAborted { x with discard := x.discard || discard } status else s) s

/-- Entries of a controller other than those held under R33 after their no-return point, and its property commands. -/
def State.outstandingOf (s : State) (c : Nat) : List Cct :=
  s.eng.cct.filter (fun x => x.cntl == c && !x.heldLate && !isProperty x.cap)

/-- A controller and its queues are freed; its association ends without completions (R117, R148). -/
def State.freeCtrl (c : Nat) (s : State) : State :=
  let conns := ((s.eng.queues.filter (·.cntl == c)).map (·.conn)).dedup
  let s := conns.foldl (fun s x => s.endConn x) s
  let e := s.eng
  let sl := s.slices.list.map (fun x =>
    { x with nss := x.nss.map (fun n => { n with attached := n.attached.filter (· != c) }) })
  { s with eng := { e with ctrls := e.ctrls.filter (·.id != c) }, slices := { s.slices with list := sl } }

/-- Ends the I/O queues of a controller. -/
def State.endIoQueues (c : Nat) (s : State) : State :=
  (s.eng.queues.filter (fun q => q.cntl == c && q.idx < 8192)).foldl (fun s q => s.endConn q.conn) s

/-- Step 3 of R113, when no committed entry of the controller remains: RDY clears, its I/O connections end, event 0x04. -/
def State.settleDisable (c : Nat) (s : State) : State :=
  match s.ctrl c with
  | none => s
  | some k =>
    match k.dis with
    | none => s
    | some (n, a) =>
      if !(s.outstandingOf c).isEmpty then s
      else
        -- what is still held after its no-return point completes unseen
        let f (x : Cct) : Cct := if x.cntl == c && x.heldLate then { x with discard := true } else x
        let s := ({ s with eng := { s.eng with cct := s.eng.cct.map f } }).endIoQueues c
        let s := s.modCtrl c (fun k => { k with rdy := false, stopped := false, dis := none, shst := 0 })
        let s := if 0 < n + a then s.capture 0x0504 [k.slice, c, n, a] else s
        if k.dying then s.freeCtrl c else s

/-- Steps 1 and 2 of R113: admission stops, rings are discarded, open gates close aborted; entries still held after their
no-return point run on with discarded completions. -/
def State.startDisable (c : Nat) (discard dying : Bool) (s : State) : State :=
  let mine := s.eng.cct.filter (fun x => x.cntl == c && !isProperty x.cap)
  let open_ := mine.filter (·.gate == .open)
  let comm := mine.filter (fun x => x.gate != .open && !x.heldR33)
  let s := (s.eng.queues.filter (·.cntl == c)).foldl (fun s q => s.clearRing q) s
  let s := s.modCtrl c (fun k => { k with en := false, stopped := true, holdList := [], dis := some (comm.length, open_.length),
                                          dying := k.dying || dying })
  let s := s.abortList open_ St.abortedSqDeletion discard
  let f (x : Cct) : Cct := if x.cntl == c && discard then { x with discard := true } else x
  ({ s with eng := { s.eng with cct := s.eng.cct.map f } }).settleDisable c

/-- The shutdown of a controller is complete when no entry of it is outstanding (R115). -/
def State.settleShutdown (c : Nat) (s : State) : State :=
  match s.ctrl c with
  | none => s
  | some k =>
    if k.shst == 1 && s.eng.shutdown.isNone && (s.eng.cct.filter (fun x =>
        x.cntl == c && !isProperty x.cap && !x.heldLate)).isEmpty then
      s.modCtrl c (fun k => { k with shst := 2, shnAt := none })
    else s

/-! ### The release pass (R94 to R96, R150) -/

/-- OP_BURST and BYTE_BURST in the units of the buckets: 10^-5 commands, bytes. -/
def Desc.opBurstU (d : Desc) : Nat := (if d.opBurst = 0 then max 64 (d.iopsCeil / 1000) else d.opBurst) * 100000
def Desc.byteBurstU (d : Desc) : Nat := if d.byteBurst = 0 then max 1048576 (d.bwCeil * 1000) else d.byteBurst * 1024

/-- The QoS fields of a descriptor in their order, and a descriptor that takes them. -/
def Desc.qosFields (d : Desc) : List Nat := [d.iopsCeil, d.iopsFloor, d.bwCeil, d.bwFloor, d.opBurst, d.byteBurst]
def Desc.withQos (d : Desc) (l : List Nat) : Desc :=
  { d with iopsCeil := l.getD 0 0, iopsFloor := l.getD 1 0, bwCeil := l.getD 2 0, bwFloor := l.getD 3 0, opBurst := l.getD 4 0,
           byteBurst := l.getD 5 0 }

/-- The descriptor with the QoS fields in force: a modify's act from the next refill (R144). -/
def SliceS.qosNow (x : SliceS) : Desc := match x.qosOld with | none => x.desc | some l => x.desc.withQos l

/-- A slice's buckets after `us` of refill: full without a ceiling (R94, R95, R150); a refill brings a modify's fields into force, and a
bucket above its new size is cut (R144). -/
def SliceS.refill (x : SliceS) (full : Bool) : SliceS :=
  let x := if full then x else { x with qosOld := none }
  let d := x.qosNow
  let op := if d.iopsCeil = 0 then (d.opBurstU : Int) else if full then x.opTok
    else min (d.opBurstU : Int) (x.opTok + (d.iopsCeil : Int))
  let by_ := if d.bwCeil = 0 then (d.byteBurstU : Int) else if full then x.byteTok
    else min (d.byteBurstU : Int) (x.byteTok + ((d.bwCeil * 10 : Nat) : Int))
  { x with opTok := op, byteTok := by_ }

/-- Below its floor: fewer commands or bytes released in the last 1 ms than its floors give (R150). -/
def State.belowFloor (s : State) (x : SliceS) : Bool :=
  let l := s.eng.released.filter (fun r => r.1 == x.num && s.seed.now < r.2.1 + 1000)
  decide (l.length * 1000 < x.qosNow.iopsFloor) || decide (sumBy l (·.2.2) < x.qosNow.bwFloor * 1000)

/-- The entries of a slice held for QoS that are not exempt (R96), in admission order. -/
def State.heldAll (s : State) (n : Nat) : List Cct := s.eng.cct.filter (fun c => c.slice == n && c.st == .heldQos && c.isIo)

/-- The entry of a slice that is released next: the oldest of the next queue in round robin (R94). -/
def State.heldOf (s : State) (n : Nat) : Option Cct :=
  let l := s.heldAll n
  let least (l : List Cct) : Option Nat := l.foldl (fun (b : Option Nat) c => some (b.elim c.queue (min c.queue))) none
  let last := ((s.slice n).map (·.rrQueue)).getD 0
  match least (l.filter (fun c => decide (last < c.queue))) with
  | some q => l.find? (·.queue == q)
  | none => (least l).bind (fun q => l.find? (·.queue == q))

/-- Tokens allow the slice a release; a quiescing slice's entries need none (R148). -/
def SliceS.mayRelease (x : SliceS) : Bool :=
  x.state == .quiescing || (decide (100000 ≤ x.opTok) && decide (0 < x.byteTok))

/-- Dispatches an entry to a core, which asks for the data it still needs. -/
def State.dispatch (e core : Nat) (s : State) : State :=
  (s.modEntry e (fun c => { c with st := .dispatched, core := some core, qosUs := c.qosUs + s.since c.heldAt })).fetchData e

/-- Releases a slice's oldest entry: its tokens and the last millisecond's rate. -/
def State.releaseOne (x : SliceS) (c : Cct) (core : Nat) (s : State) : State :=
  let n := 512 * ceilDiv (xferBytes (s.nsOf c.slice c.cap.nsid) true c.cap) 512
  let s := s.modSlice x.num (fun x => { x with rrQueue := c.queue })
  let s := if x.state == .quiescing then s
    else s.modSlice x.num (fun x => { x with opTok := x.opTok - 100000, byteTok := x.byteTok - (n : Int) })
  let e := s.eng
  let rel := (x.num, s.seed.now, n) :: e.released.filter (fun r => s.seed.now < r.2.1 + 1000)
  ({ s with eng := { e with released := rel, rrSlice := x.num } }).dispatch c.idx core

/-- The next slice of a list in round robin after the one last served. -/
def roundRobin (l : List SliceS) (last : Nat) : Option SliceS :=
  let least (l : List SliceS) : Option SliceS := l.foldl (fun (best : Option SliceS) x =>
    match best with
    | none => some x
    | some y => if x.num < y.num then some x else some y) none
  match least (l.filter (fun x => decide (last < x.num))) with
  | some x => some x
  | none => least l

/-- Releases entries until no slice may release one: slices below a floor first (R94). -/
def State.releaseLoop (core : Nat) (s : State) : Nat → State
  | 0 => s
  | fuel + 1 =>
    let l := s.slices.list.filter (fun x => (s.heldOf x.num).isSome && x.mayRelease)
    let low := l.filter s.belowFloor
    match roundRobin (if low.isEmpty then l else low) s.eng.rrSlice with
    | none => s
    | some x =>
      match s.heldOf x.num with
      | none => s
      | some c => (s.releaseOne x c core).releaseLoop core fuel

end Sys2Proof.Machine
end

