-- ==== Sys2Proof/Machine/Engine.lean ====
section
/-! DEFINITION. The command engine's steps: capsules, admission, release, ordering, completion, core faults, controllers
enabled, disabled and shut down, properties, the entry capture (R86 to R117, R123, R133). -/

namespace Sys2Proof.Machine

open Sys2Proof

/-! ### PUNNET_GRANT (R383 to R386) -/

/-- A waiting request is granted with distinct free punnets; its command asks for its data (R62, R65, R385), or goes on reading (R32). -/
def execPunnetGrant (req : Nat) (punnets : List Nat) (s : State) : Out :=
  match s.mem.reqs.find? (·.id == req) with
  | none => .next s
  | some r =>
    let ok := s.punTurn r && punnets.length == r.n && punnets.dedup.length == r.n &&
      punnets.all (fun p => decide (p < punnetCount) && !s.mem.punnets.any (·.num == p))
    if !ok then .next s
    else
      let s := { s with mem := { s.mem with reqs := s.mem.reqs.filter (·.id != req) } }
      let s := (s.enterChain r.cls punnets).giveChain r.job r.entry punnets
      .next (match r.entry with
        | none => s
        | some e => if s.waitsPun e then s else ((s.unholdRes (some e)).fetchData e).readDone e)

/-! ### Capsules and data (R62, R65, R87, R88) -/

/-- The association of a controller ends as on a keep-alive expiry (R88, R117). -/
def State.loseHost (cntl : Nat) (s : State) : State := s.startDisable cntl true true

/-- The staging slot's copies become empty (R518, R521, R531). -/
def State.dropStaging (s : State) : State :=
  let k := 3 - s.fw.act.confirmed
  let nr := s.nor
  let l : List (Option Bundle) := modNth (modNth nr.slots (k - 1) (fun _ => none)) (k + 1) (fun _ => none)
  { s with nor := { nr with slots := l }, fw := { s.fw with received := 0, pieces := [], badNor := [] } }

/-- Firmware transfers of a lost ring association: a partial bundle from the upstream peer is discarded, a forwarding waits to
try again (R533, R534). -/
def State.fwAssocLost (nb : Nat) (initiator : Bool) (s : State) : State :=
  let a := s.fw.act
  if nb = 0 && !initiator && a.source = 1 && (a.state = 1 || a.state = 2) then
    let n := s.fw.received
    let s := s.dropStaging
    ({ s with fw := s.fw.setAct (fun a => { a with state := 0 }) }).capture 0x1006 [n, 1, 2]
  else if nb = 1 && initiator && s.fw.dnState = 1 then
    { s with fw := { s.fw with dnState := 2, fwdRetryAt := s.seed.now } }
  else s

/-- A ring association is lost: retries begin, and the time toward PEER_LOSS when it was the last one to its peer (R76, R77). -/
def State.assocLost (nb : Nat) (initiator : Bool) (s : State) : State :=
  match s.fabric.nbs[nb]? with
  | none => s
  | some n =>
    if !(if initiator then n.assocInit else n.assocTarget) then s
    else
      let other := if initiator then n.assocTarget else n.assocInit
      let fb := s.fabric
      let nbs := modNth fb.nbs nb (fun n =>
        { n with assocInit := n.assocInit && !initiator, assocTarget := n.assocTarget && initiator, state := 1,
                 initQps := if initiator then [] else n.initQps,
                 lostAt := if other then none else some s.seed.now, retryAt := s.seed.now })
      let own := if initiator then n.initQps.map (·.2.2) else []
      let flows : List Flow := fb.flows.filter (fun f => !own.contains f.id)
      let s := ({ s with fabric := { fb with nbs := nbs, flows := flows } }).fwAssocLost nb initiator
      let s := if initiator then s else
        (s.eng.ctrls.filter (fun k => k.ring == some nb)).foldl (fun s k => s.loseHost k.id) s
      s.evalTolerance

/-- Received data fills the buffer of its priority: on a lossless priority the device sends XOFF before it can overflow (R57). The
buffer's size is not stated, so whether this frame reaches the mark is a free value. -/
def State.rxPressure (y : Conn) (s : State) : State :=
  let p := s.connPrio y
  if !(s.fabric.dcb.getD p (false, 0)).1 then s
  else
    let r := s.drawFree
    if !r.1.getLsbD 0 then r.2
    else (r.2.send (.xoff (macPort y.mac) p)).bump (Reg.PORT_CNT_PFC_TX + 0x1000 * macPort y.mac) 1

/-- A capsule is kept in its queue's ring. -/
def State.keepCapsule (q : Queue) (c : Capsule) (s : State) : State :=
  let s := s.modQueue q.idx (fun y => { y with ring := y.ring ++ [c] })
  { s with eng := { s.eng with poolUsed := s.eng.poolUsed + c.inCapsule } }

/-- A capsule that arrives on a live queue: discarded while its controller is being disabled or shut down, a transport error
where the ring is full, outside while the pool lacks room, else kept (R87, R88, R113). -/
def State.takeCapsule (q : Queue) (c : Capsule) (s : State) : State :=
  match s.ctrl q.cntl with
  | none => s
  | some k =>
    if k.stopped && !isProperty c then s
    else if q.size ≤ q.ring.length then (if q.qid != 0 then s.endConn q.conn else s.loseHost q.cntl)
    else s.keepCapsule q c

def execCapsuleReceived (q : Nat) (c : Capsule) (s : State) : Out :=
  match s.queue q with
  | none => .next s
  | some x =>
    if x.dead || s.store.flush.isSome then .next s
    else
      let conn := s.fabric.conns.find? (·.id == x.conn)
      let held := conn.elim false (·.held)
      let s := conn.elim s (fun y => s.rxPressure y)
      if conn.elim false (·.lost) then .next s
      else if held || !s.poolRoom c then
        let fb := s.fabric
        let conns := modFirst fb.conns (·.id == x.conn) (fun y => { y with held := true, waiting := y.waiting ++ [(q, c)] })
        let s := { s with fabric := { fb with conns := conns } }
        .next (if conn.elim true (·.tcp) then s else s.send (.rnrNak x.conn))
      else (s.takeCapsule x c).done

/-- Takes the capsules that wait on a connection, in order, while the pool has room. -/
def State.intake (conn : Nat) (s : State) : Nat → State
  | 0 => s
  | fuel + 1 =>
    match s.fabric.conns.find? (·.id == conn) with
    | none => s
    | some y =>
      match y.waiting with
      | [] => { s with fabric := { s.fabric with conns := modFirst s.fabric.conns (·.id == conn) (fun y => { y with held := false }) } }
      | (q, c) :: t =>
        if !s.poolRoom c then s
        else
          let conns := modFirst s.fabric.conns (·.id == conn) (fun y => { y with waiting := t })
          let s := { s with fabric := { s.fabric with conns := conns } }
          match s.queue q with
          | none => s.intake conn fuel
          | some x => (s.takeCapsule x c).intake conn fuel

def execCapsuleIntakeResume (conn : Nat) (s : State) : Out :=
  match s.fabric.conns.find? (·.id == conn) with
  | none => .next s
  | some y => if y.held && s.store.flush.isNone then (s.intake conn (y.waiting.length + 1)).done else .next s

/-- Data to the controller joins a command's data; a list of ranges that is whole decides what the command conflicts with (R98). -/
def State.takeData (c : Cct) (bytes : List Byte) (s : State) : State :=
  let data := c.cap.data ++ bytes
  let had := listHere c.cap
  let s := (s.modEntry c.idx (fun c => { c with cap := { c.cap with data := data } })).markChain c.chain data.length
  if c.isIo && !had && listHere { c.cap with data := data } then s.knowList c.idx else s

/-- MAXH2CDATA (R62). -/
def maxH2cData : Nat := 131072

/-- A data PDU on TCP for the R2T outstanding of a command. A failed digest fails the command; a PDU beyond MAXH2CDATA or beyond the R2T is a
transport protocol error, which ends the connection (DESIGN CHOICE, assumption 88). -/
def execH2cDataReceived (e : Nat) (bytes : List Byte) (digestOk : Bool) (s : State) : Out :=
  match s.entry e with
  | none => .next s
  | some c =>
    match s.connOf c with
    | none => .next s
    | some y =>
      if !y.tcp || !c.mayFetch || c.r2t = 0 || bytes.isEmpty then .next s
      else
        let s := s.rxPressure y
        if maxH2cData < bytes.length || c.r2t < bytes.length then .next (s.endConn y.id)
        else if !digestOk then .next (s.reply { c with r2t := 0 } St.transientTransport)
        else
          let s := s.modEntry e (fun c => { c with r2t := c.r2t - bytes.length })
          .next (s.takeData c bytes)

/-- An RDMA READ of a command's data ends: its data is taken, or it failed; the next command of the queue pair that waits to READ goes
on (R65). -/
def execRdmaReadCompletion (e : Nat) (bytes : List Byte) (ok : Bool) (s : State) : Out :=
  match s.entry e with
  | none => .next s
  | some c =>
    match s.connOf c with
    | none => .next s
    | some y =>
      if y.tcp || !c.mayFetch || !c.fetching || s.bytesDue c < bytes.length then .next s
      else
        let s := (s.rxPressure y).modConn y.id (fun y => { y with reads := y.reads.filter (· != e) })
        let s := s.modEntry e (fun c => { c with fetching := false })
        let s := if ok then s.takeData c bytes else s.reply c St.dataTransferError
        let next := s.eng.cct.find? (fun x => (s.connOf x).any (·.id == y.id) && s.bytesDue x != 0 && x.mayFetch && !x.fetching)
        .next (next.elim s (fun x => s.fetchData x.idx))

def execTransportConnectionClosed (conn : Nat) (s : State) : Out :=
  match s.fabric.conns.find? (·.id == conn) with
  | none => .next s
  | some y =>
    let s := s.endConn conn
    match y.ring with
    | none => s.done
    | some nb => (s.assocLost nb false).done

/-! ### Admission and release (R89, R94 to R97, R146) -/

/-- An admin queue of the controller holds a capsule that may be admitted (R89). -/
def State.adminFirst (s : State) (k : Ctrl) (q : Queue) : Bool :=
  q.qid != 0 && s.eng.queues.any (fun y => y.cntl == k.id && y.qid == 0 &&
    (match y.ring with | [] => false | c :: _ => !s.stops k c))

/-- The I/O queues of a controller with a capsule, by index. -/
def State.readyQueues (s : State) (k : Ctrl) : List Nat :=
  (s.eng.queues.filter (fun y => y.cntl == k.id && y.qid != 0 && !y.dead && !y.ring.isEmpty)).map (·.idx)

/-- The least of a list above a number, else the least of the list. -/
def nextAbove (l : List Nat) (last : Option Nat) : Option Nat :=
  let least (l : List Nat) : Option Nat := l.foldl (fun (b : Option Nat) x => some (b.elim x (min x))) none
  (last.bind (fun t => least (l.filter (fun x => decide (t < x))))).or (least l)

/-- The queue whose turn it is goes on: it has a capsule, and 2^AB commands are not admitted yet; AB 7 sets no limit (R89). -/
def State.turnLasts (s : State) (k : Ctrl) : Option Nat :=
  k.turn.filter (fun t => (s.readyQueues k).contains t && (k.ab == 7 || decide (k.turnN < 2 ^ k.ab)))

/-- It is a queue's turn in the round robin of its controller; an admin queue has no turn to wait for (R89). -/
def State.turnOk (s : State) (k : Ctrl) (q : Queue) : Bool :=
  q.qid == 0 || ((s.turnLasts k).or (nextAbove (s.readyQueues k) k.turn)) == some q.idx

/-- A queue's turn counts one command more, or begins (R89). -/
def State.takeTurn (k : Ctrl) (q : Queue) (s : State) : State :=
  if q.qid = 0 then s
  else
    let lasts := s.turnLasts k == some q.idx
    s.modCtrl k.id (fun k => { k with turn := some q.idx, turnN := if lasts then k.turnN + 1 else 1 })

/-- Takes the oldest held admin capsule, or the oldest of the ring, and admits it into free entry `e`; a capsule that a
quiescing slice holds goes to the hold list, one that may not be admitted stays (R87, R91, R146). -/
def execAdmitCapsule (qi e : Nat) (s : State) : Out :=
  match s.queue qi with
  | none => .next s
  | some q =>
    match s.ctrl q.cntl with
    | none => .next s
    | some k =>
      let holds := ((s.slice k.slice).map (·.holds)).getD false
      let free := decide (e < 131072) && (s.entry e).isNone && s.cctRoom k
      if s.glb.state != .ready || s.store.flush.isSome || s.power.state != .l0 || q.dead || s.adminFirst k q || !s.turnOk k q then .next s
      else
        match (if q.qid != 0 || holds then [] else k.holdList), q.ring with
        | (_, c) :: t, _ =>
          if !free || s.stops k c then .next s
          else ((s.modCtrl k.id (fun k => { k with holdList := t })).enterEntry e k q c).done
        | [], [] => .next s
        | [], c :: t =>
          if s.stops k c then .next s
          else
            let took := fun (s : State) =>
              (s.modQueue qi (fun y => { y with ring := t, sqhd := (y.sqhd + 1) % max 1 y.size })).freePool c.inCapsule
            if holds && q.qid != 0 then .next s
            else if holds && heldAdmin c then
              if k.holdList.length < q.size then
                .next (took (s.modCtrl k.id (fun k => { k with holdList := k.holdList ++ [(qi, c)] })))
              else .next s
            else if !free then .next s
            else
              let s := took (s.takeTurn k q)
              match s.queue qi with
              | none => .next s
              | some q => (s.enterEntry e k q c).done

def execTokenRefill (s : State) : Out :=
  .next { s with slices := { s.slices with list := s.slices.list.map (·.refill false) } }

def execReleasePass (core : Nat) (s : State) : Out :=
  if !s.glb.coreActive.getLsbD core || s.glb.state != .ready || s.store.flush.isSome then .next s
  else
    let s : State := { s with slices := { s.slices with list := s.slices.list.map (·.refill true) } }
    let exempt := s.eng.cct.filter (fun c => c.st == .heldQos && !c.isIo)
    let s := exempt.foldl (fun s c => s.dispatch c.idx core) s
    let s := s.releaseLoop core s.eng.cct.length
    .next (if s.eng.cct.any (fun c => c.st == .heldQos) then s.bump Reg.CE_CNT_QOS_HOLD 1 else s)

/-- Write-like commands of R98. -/
def isWriteLike (opc : Nat) : Bool := [0x01, 0x08, 0x09, 0x19].contains opc

/-- A command that has begun and, when write-like, has every unit staged passes its ordering point: entries that wait on it go
on (R94, R98). -/
def execOrderingPoint (e : Nat) (s : State) : Out :=
  match s.entry e with
  | none => .next s
  | some c =>
    if c.orderDone || c.step = 0 || 2 ≤ c.step || (isWriteLike c.cap.opc && c.left != 0) then .next s
    else
      let s := s.modEntry e (fun c => { c with orderDone := true, waiters := [] })
      .next { s with eng := { s.eng with cct := releaseWaiters s.eng.cct c.waiters s.seed.now } }

/-- HOLD_WARN_MS of an entry held for overlap or QoS has passed (R97, R132). -/
def execHoldWarn (e : Nat) (s : State) : Out :=
  match s.entry e with
  | none => .next s
  | some c =>
    let ms := s.fld Reg.CE_CFG 31 16
    let held := s.since c.heldAt / 1000
    if ms = 0 || c.warned || s.since c.heldAt ≤ ms * 1000 then .next s
    else
      let s1 := s.modEntry e (fun c => { c with warned := true })
      match c.st with
      | .heldOverlap => (s1.capture 0x0505 [c.slice, c.queue, c.cap.cid, held]).done
      | .heldQos => (s1.capture 0x0506 [c.slice, c.queue, c.cap.cid, held]).done
      | _ => .next s

/-! ### Completion (R88, R104, R106, R128) -/

/-- A command that is finished: its gate closes normally and its completion is posted; a disable or shutdown that waited for it
goes on. One whose gate closed earlier and whose completion a paused priority held sends it now. -/
def execCommandComplete (e : Nat) (s : State) : Out :=
  match s.entry e with
  | none => .next s
  | some c =>
    if !(c.st == .completing || c.parked) || s.sendPaused c then .next s
    else
      let s := if c.parked then s.sendCqe c c.status c.result else s.post c c.status c.result
      let s := if !c.isIo && c.cap.opc == 0xD0 && c.status == St.ok && c.result.getLsbD 2 then
          { s with cfg := { s.cfg with deferredAt := s.seed.now } }
        else s
      ((s.settleDisable c.cntl).settleShutdown c.cntl).done

/-! ### Control core faults (R44, R45, R110 to R112, R527) -/

/-- The shadow checker reports a core: it is fenced, and a spare, or the remaining active cores, take its entries. -/
def execShadowCheckerFault (core us : Nat) (s : State) : Out :=
  if 18 ≤ core || s.glb.coreFailed.getLsbD core then .next s
  else
    let bit : BitVec 18 := BitVec.ofNat 18 (2 ^ core)
    let g := s.glb
    let s0 := { s with glb := { g with coreFailed := g.coreFailed ||| bit, coreActive := g.coreActive &&& ~~~bit },
                       fw := { s.fw with probFault := s.fw.probFault || s.fw.probEnd.isSome } }
    if !s.glb.coreActive.getLsbD core then
      (s0.capture 0x0509 [core, s0.sparesLeft]).done
    else
      let mine := s.eng.cct.filter (fun c => c.core == some core)
      let n := mine.length
      let s1 := s0.bump Reg.CE_CNT_REDISPATCH n
      match (List.range 18).find? (fun i => 16 ≤ i && !s0.glb.coreActive.getLsbD i && !s0.glb.coreFailed.getLsbD i) with
      | some sp =>
        let s2 := { s1 with glb := { s1.glb with coreActive := s1.glb.coreActive ||| BitVec.ofNat 18 (2 ^ sp) } }
        let cct := s2.eng.cct.map (fun c => if c.core == some core then { c with core := some sp, redo := true } else c)
        (({ s2 with eng := { s2.eng with cct := cct } }).capture 0x0501 [core, sp, n, us]).done
      | none =>
        let act := (List.range 18).filter (fun i => s0.glb.coreActive.getLsbD i)
        let next (c : Cct) : Option Nat := act[(Config.freeWord (s1.free + c.idx)).toNat % max 1 act.length]?
        let cct := s1.eng.cct.map (fun c => if c.core == some core then { c with core := next c, redo := true } else c)
        (({ s1 with eng := { s1.eng with cct := cct }, free := s1.free + 131072 }).capture 0x0502 [core, act.length, n, us]).done

/-! ### Properties (R113 to R116, R123) -/

/-- Offset and value of a Property Set; offset of a Property Get (Dwords 11 to 13). -/
def propOff (c : Capsule) : Nat := c.dw11.toNat

/-- A write that clears EN and sets SHN at once disables only: a disabled controller has nothing left to shut down (DESIGN CHOICE,
assumption 87).

What a write of CC does on a controller: 1 disables it, 2 enables it, 3 shuts a tenant's controller down, 4 the device, 5
resumes the device, 0 none of these. -/
def State.ccKind (s : State) (k : Ctrl) (v : Word) : Nat :=
  let en := v.getLsbD 0
  let shn := dwBits v 15 14
  let mine := s.eng.shutdown.elim false (fun x => x.1 == k.id)
  if mine && shn = 0 && en then 5
  else if k.en && !en then 1
  else if !k.en && en then 2
  else if shn != 0 && k.shn = 0 && k.isMgmt then 4
  else if shn != 0 && k.shn = 0 && k.isTenant then 3
  else 0

/-- Runs a Property Set of CC of one kind on its controller. -/
def State.ccWrite (e kind : Nat) (f : Cct → Ctrl → Word → State → State) (s : State) : Out :=
  match s.entry e with
  | none => .next s
  | some c =>
    match s.ctrl c.cntl with
    | none => .next s
    | some k =>
      let v := c.cap.dw12
      if c.st == .dispatched && isProperty c.cap && c.cap.fabrics == 0 && propOff c.cap = 0x14 && s.ccKind k v = kind then
        (f c k v s).done
      else .next s

/-- CC as written. -/
def State.setCc (c : Nat) (v : Word) (s : State) : State :=
  s.modCtrl c (fun k => { k with cc := v, shn := dwBits v 15 14 })

def execCcEnClear (e : Nat) (s : State) : Out :=
  s.ccWrite e 1 (fun c k v s => (((s.setCc k.id v).reply c St.ok).startDisable k.id false false))

def execCcEnSet (e : Nat) (s : State) : Out :=
  s.ccWrite e 2 (fun c k v s =>
    if k.dis.isSome then s
    else
      let s := (s.setCc k.id v).reply c St.ok
      s.modCtrl k.id (fun k => { k with en := true, rdy := true, stopped := false, shst := 0, shnAt := none }))

def execCcShnTenant (e : Nat) (s : State) : Out :=
  s.ccWrite e 3 (fun c k v s =>
    let s := (s.setCc k.id v).reply c St.ok
    let s := (s.eng.queues.filter (·.cntl == k.id)).foldl (fun s q => s.clearRing q) s
    let s := s.modCtrl k.id (fun k => { k with stopped := true, holdList := [], shst := 1, shnAt := some s.seed.now })
    s.settleShutdown k.id)

/-- Shutdown of the device (R116). Another management controller's request while it runs or has run is answered and changes nothing:
the one shutdown serves it (DESIGN CHOICE, assumption 87). -/
def execCcShnDevice (e : Nat) (s : State) : Out :=
  s.ccWrite e 4 (fun c k v s =>
    if s.eng.shutdown.isSome then s.reply c St.ok
    else
      let s := (s.setCc k.id v).reply c St.ok
      let s := s.modCtrl k.id (fun k => { k with shst := 1, shnAt := some s.seed.now })
      let n := (s.store.stripes.filter (fun t => !t.flushing && 0 < t.fill && 0 < s.stripeRoom t)).length
      let s := { s with eng := { s.eng with shutdown := some (k.id, s.dirtyKib, s.seed.now), shutDone := false, shutPads := n } }
      s.padAll.gatherHost)

def execShutdownResume (e : Nat) (s : State) : Out :=
  s.ccWrite e 5 (fun c k v s =>
    let s := (s.setCc k.id v).reply c St.ok
    let s := s.modCtrl k.id (fun k => { k with en := true, rdy := true, shst := 0, shnAt := none })
    { s with eng := { s.eng with shutdown := none, shutDone := false } })

/-- 9 ms after a shutdown request the open gates close aborted (R115); for a device shutdown, those of every controller
(R116). -/
def execShutdownAbortTimeout (cntl : Nat) (s : State) : Out :=
  match s.eng.shutdown.filter (·.1 == cntl) with
  | some (_, _, t) =>
    if s.since t < 9000 || s.eng.shutDone then .next s
    else (s.abortList (s.eng.cct.filter (·.gate == .open)) St.abortedSqDeletion false).done
  | none =>
    match (s.ctrl cntl).bind (fun k => if k.shst = 1 then k.shnAt else none) with
    | none => .next s
    | some t =>
      if s.since t < 9000 then .next s
      else
        let l := s.eng.cct.filter (fun c => c.cntl == cntl && c.gate == .open)
        ((s.abortList l St.abortedSqDeletion false).settleShutdown cntl).done

/-- The dirty amount has reached zero during a device shutdown: the stop record with the totals and the partial minute,
SHST 0b10 of the requesting controller, where it still exists, event 0x08 (R116, R169, R501). -/
def execShutdownStopRecord (s : State) : Out :=
  match s.eng.shutdown with
  | none => .next s
  | some (c, kib, t) =>
    let open_ := s.eng.cct.any (fun x => !isProperty x.cap && x.st != .heldResource && !x.peerWait)
    if s.dirty != 0 || open_ || s.eng.shutDone then .next s
    else
      let s := (s.meterTick true 0).jsync (.stop 2 kib)
      let s := s.modCtrl c (fun k => { k with shst := 2, shnAt := none })
      let s := { s with eng := { s.eng with shutDone := true } }
      (s.capture 0x0508 [kib, s.since t / 1000, s.eng.shutPads]).done

/-- The keep-alive time of a controller has passed: it is disabled without completions and freed (R117). -/
def execKeepAliveExpiry (cntl : Nat) (s : State) : Out :=
  match s.ctrl cntl with
  | none => .next s
  | some k =>
    if k.ring.isSome || s.since k.kaAt < k.kato * 1000 then .next s
    else (s.loseHost cntl).done

/-- CAP: 4,096 entries a queue, contiguous queues, round robin only, NVM command set, no subsystem reset (R66, R89, R123,
R124); CAP.TO is open. -/
def propCap : Nat := 4095 + 2 ^ 16 + Config.capTo % 256 * 2 ^ 24 + 2 ^ 37

/-- CSTS of a controller. -/
def Ctrl.csts (k : Ctrl) : Nat := b2n k.rdy + 4 * k.shst

/-- Value of a property; none for one that is not supported (R123). -/
def propVal (k : Ctrl) (off : Nat) : Option Nat :=
  if off = 0x00 then some propCap
  else if off = 0x08 then some Config.nvmeVs.toNat
  else if off = 0x14 then some k.cc.toNat
  else if off = 0x1C then some k.csts
  else if off = 0x20 then some 0
  else none

/-- Property Get answers the value in Dwords 0 and 1: Dword 0 as its result, both as its data. -/
def execPropertyGet (e : Nat) (s : State) : Out :=
  match s.entry e with
  | none => .next s
  | some c =>
    if c.st != .dispatched || c.cap.opc != 0x7F || c.cap.fabrics != 4 then .next s
    else
      match (s.ctrl c.cntl).bind (fun k => propVal k (propOff c.cap)) with
      | none => .next (s.reply c St.invalidField)
      | some v => .next (s.finish e St.ok (BitVec.ofNat 32 (v % 2 ^ 32)) (.bytes (natBytes 8 v)))

/-- Property Set of CC without a change of EN or a shutdown request stores it; NSSR has no effect; others are refused. -/
def execPropertySet (e : Nat) (s : State) : Out :=
  match s.entry e with
  | none => .next s
  | some c =>
    match s.ctrl c.cntl with
    | none => .next s
    | some k =>
      if c.st != .dispatched || c.cap.opc != 0x7F || c.cap.fabrics != 0 then .next s
      else if propOff c.cap = 0x20 then .next (s.reply c St.ok)
      else if propOff c.cap = 0x14 then
        if s.ccKind k c.cap.dw12 = 0 then .next ((s.setCc k.id c.cap.dw12).reply c St.ok) else .next s
      else .next (s.reply c St.invalidField)

/-! ### CE_CCT_SEL (R92, R133) -/

/-- STATE an entry shows: one that waits for what it does itself stays dispatched, a replicated write that waits for its peer is held
for a resource (DESIGN CHOICE, assumption 87). -/
def Cct.shown (c : Cct) : CctState := if c.waitsOwn then .dispatched else if c.peerWait then .heldResource else c.st

/-- Code of STATE. -/
def CctState.code : CctState → Nat
  | .free => 0 | .validating => 1 | .heldOverlap => 2 | .heldQos => 3 | .dispatched => 4 | .heldResource => 5
  | .completing => 6

/-- Code of the gate. -/
def Gate.code : Gate → Nat
  | .open => 0 | .committed => 1 | .closedNormally => 2 | .closedAborted => 3

/-- The 16 words of an entry in the layout of R92. -/
def State.cctWords (s : State) (c : Cct) : List Word :=
  let n := if c.isIo then s.nsOf c.slice c.cap.nsid else none
  let ranged := c.isIo && hasRange c.cap.opc
  let w (v : Nat) : Word := BitVec.ofNat 32 v
  let xfer := ceilDiv (xferBytes n c.isIo c.cap) 512
  let next := match c.waiters with | [] => 0 | a :: _ => 2 ^ 31 + a
  [w (c.shown.code + 2 ^ 8 * (c.gate.code + 4 * b2n c.abortReq + 8 * b2n c.orderDone) + 2 ^ 16 * c.slice),
   w (c.queue + 2 ^ 16 * c.cap.cid), c.seq,
   w (c.cap.opc + 2 ^ 8 * c.origin + 2 ^ 16 * c.core.getD 0xFF + 2 ^ 24 * (c.durable % 256)),
   w (if ranged then c.cap.nsid else 0), w (c.slba % 2 ^ 32), w (c.slba / 2 ^ 32), w c.nlb,
   w (c.muFirst % 2 ^ 32), w (c.muFirst / 2 ^ 32), w c.muCount, w (c.waits % 2 ^ 16 + 2 ^ 16 * c.chain.head?.getD 0xFFFF),
   w next, w (c.arrival * 100), w (c.status * 2 + 2 ^ 16 * xfer), c.result]

/-- Captures an entry into CE_CCT_DATA; a free one reads zero. -/
def execCeCctSelWrite (v : Word) (s : State) : Out :=
  let i := bits v 16 0
  let s := s.setReg Reg.CE_CCT_SEL (BitVec.ofNat 32 i)
  let l := match s.entry i with
    | some c => s.cctWords c
    | none => List.replicate 16 0
  .next { s with eng := { s.eng with capture := l } }

end Sys2Proof.Machine
end

