-- ==== Sys2Proof/Machine/IoOps.lean ====
section
/-! DEFINITION. What the I/O commands share: LBAs and their protection information, the units a range touches, lost LBAs,
deallocation of ranges, and reservations (R98, R118, R127, R181, R187, R199 to R202). -/

namespace Sys2Proof.Machine

open Sys2Proof

/-! ### Protection information (R127) -/

/-- The 8 metadata bytes of protection information: guard, application tag and reference tag, each most significant byte
first, as one little-endian number. -/
def mkPi (guard : BitVec 16) (app ref : Nat) : Nat :=
  leNat ((natBytes 2 guard.toNat).reverse ++ (natBytes 2 app).reverse ++ (natBytes 4 ref).reverse)

/-- Guard, application tag and reference tag of an LBA's metadata. -/
def piGuard (x : Lba) : Nat := leNat (natBytes 8 x.pi |>.take 2).reverse
def piApp (x : Lba) : Nat := leNat ((natBytes 8 x.pi |>.drop 2).take 2).reverse
def piRef (x : Lba) : Nat := leNat ((natBytes 8 x.pi |>.drop 4).take 4).reverse

/-- Initial reference tag, application tag and its mask of a command (Dwords 14 and 15). -/
def piIlbrt (c : Capsule) : Nat := c.dw14.toNat
def piLbat (c : Capsule) : Nat := dwBits c.dw15 15 0
def piMask (c : Capsule) : Nat := dwBits c.dw15 31 16

/-- Reference tag LBA `i` of a command takes: rising on types 1 and 2. -/
def refOf (n : Ns) (c : Capsule) (i : Nat) : Nat := if n.pi = 3 then piIlbrt c else (piIlbrt c + i) % 2 ^ 32

/-- The check PRCHK asks for of LBA `i` of a command's write data: its status, or success. A tag of all ones disables the
checks of an LBA. -/
def piCheck (n : Ns) (c : Capsule) (i : Nat) (x : Lba) : Nat :=
  let off := piApp x = 0xFFFF && (n.pi != 3 || piRef x == 0xFFFFFFFF)
  if n.pi = 0 || off then St.ok
  else if c.dw12.getLsbD 28 && piGuard x != (crc16 (natBytes 4096 x.data)).toNat then St.guardError
  else if c.dw12.getLsbD 27 && (piApp x &&& piMask c) != (piLbat c &&& piMask c) then St.appTagError
  else if c.dw12.getLsbD 26 && n.pi != 3 && piRef x != refOf n c i then St.refTagError
  else St.ok

/-- The first check that fails among a command's LBAs. -/
def piStatus (n : Ns) (c : Capsule) (l : List Lba) : Nat :=
  ((List.range l.length).map (fun i => piCheck n c i (l.getD i {}))).find? (· != St.ok) |>.getD St.ok

/-! ### LBAs of a command's data (R125, R127) -/

/-- LBA `i` of the data as the host sends it; with PRACT the device makes the protection information. -/
def hostLba (n : Ns) (c : Capsule) (d : List Byte) (i : Nat) : Lba :=
  let w := lbaWire n c
  let sz := lbaSize n.lbaf
  let b := (d.drop (i * w)).take sz
  { data := leNat b,
    pi := if n.lbaf != 2 then 0
      else if w = sz then mkPi (crc16 (bytesAt b 0 4096)) (piLbat c) (refOf n c i)
      else fieldAt d (i * w + sz) 8 }

/-- The LBAs of a command's data. -/
def hostLbas (n : Ns) (c : Capsule) : List Lba := (List.range c.nlb).map (hostLba n c c.data)

/-- An LBA as it is sent to the host: with PRACT its metadata is stripped. -/
def wireLba (n : Ns) (c : Capsule) (x : Lba) : Lba :=
  if n.lbaf = 2 && !(n.pi != 0 && pract c) then x else { x with pi := 0 }

/-! ### Units and LBAs of a range -/

/-- Map units of LBAs `a` to `a + len − 1`. -/
def State.unitsOf (s : State) (n : Ns) (a len : Nat) : List Nat :=
  let r := s.unitSpan n.lbaf a len
  (List.range r.2).map (· + r.1)

/-- Offsets in unit `mu` that lie in the range. -/
def State.offsIn (s : State) (n : Ns) (a len mu : Nat) : List Nat :=
  let u := s.unitLbas n.lbaf
  (List.range u).filter (fun i => decide (a ≤ mu * u + i) && decide (mu * u + i < a + len))

/-- The stored content of a range. -/
def State.content (s : State) (sl : Nat) (n : Ns) (a len : Nat) : List Lba :=
  let u := s.unitLbas n.lbaf
  (s.unitsOf n a len).flatMap (fun mu =>
    let l := s.unitContent sl n.nsid mu
    (s.offsIn n a len mu).map (fun i => l.getD i (zeroLba n.lbaf)))
  |>.take (if u = 0 then 0 else len)

/-- What the lost LBAs of a range make of a read: 0 none lost, 1 lost, 2 the repair from the replica is awaited (R159, R181). -/
def State.lostIn (s : State) (sl : Nat) (n : Ns) (a len : Nat) : Nat :=
  let l := s.store.lost.filter (fun r => r.slice == sl && r.nsid == n.nsid && r.slba < a + len && a < r.slba + r.nlb)
  if l.isEmpty then 0 else if l.all (·.repair) then 2 else 1

/-- Units of a range whose extent passes a lane: compressed, or raw and read in full without LOST (R369). -/
def State.laneUnits (s : State) (sl : Nat) (n : Ns) (a len : Nat) (whole : Bool) : List (Nat × Extent) :=
  (s.unitsOf n a len).filterMap (fun mu =>
    let e := s.entryAt sl n.nsid mu
    match s.extentOf e with
    | none => none
    | some x =>
      let full := whole || (s.offsIn n a len mu).length == s.unitLbas n.lbaf
      if x.compressed || (full && !e.lost) then some (mu, x) else none)

/-- Punnets for the codewords of extents on flash that bypass the lanes, by unit: those that hold LBAs of the range (R32, R369, R383). -/
def State.directCws (s : State) (sl : Nat) (n : Ns) (a len : Nat) (lanes : List Nat) : List Nat :=
  let w := lbaSize n.lbaf
  ((s.unitsOf n a len).filter (fun mu => !lanes.contains mu)).filterMap (fun mu =>
    match (s.entryAt sl n.nsid mu).loc with
    | .band _ | .landing _ =>
      let cws := ((s.offsIn n a len mu).filter (fun i => !s.lbaLost sl n.nsid (mu * s.unitLbas n.lbaf + i))).flatMap (fun i =>
        [(16 + i * w) / 4096, (15 + (i + 1) * w) / 4096])
      some cws.dedup.length
    | _ => none)

/-- A read-like command begins: it pins what it reads, its units go to their lanes, and it waits for them and for the punnets of what
bypasses the lanes (R32, R33, R98, R185, R235, R366, R369). -/
def State.beginRead (c : Cct) (n : Ns) (a len : Nat) (whole : Bool) (step : Nat) (s : State) : State :=
  let es := (s.unitsOf n a len).map (s.entryAt c.slice n.nsid)
  let offs := es.filterMap (fun e => match e.loc with | .buffered o => some o | _ => none)
  let bands := es.filterMap s.bandOf
  let buf := s.store.buf.map (fun b =>
    if offs.contains b.off && !b.superseded && !b.pins.contains c.idx then { b with pins := b.pins ++ [c.idx] } else b)
  let bs := s.upkeep.bands.map (fun b =>
    if bands.contains b.num && !b.pins.contains c.idx then { b with pins := b.pins ++ [c.idx] } else b)
  let units := s.laneUnits c.slice n a len whole
  let s := { s with store := { s.store with buf := buf }, upkeep := { s.upkeep with bands := bs } }
  -- a unit that passes no lane is compared or checked at once: the no-return point of Compare and Verify (R105)
  let comm := checksUnits c.cap.opc && decide (units.length < es.length)
  let s := s.modEntry c.idx (fun c => { c with step := step, left := units.length, gate := if comm then .committed else c.gate })
  let s := (s.directCws c.slice n a len (units.map (·.1))).foldl (fun s k => s.requestPun 1 k none (some c.idx)) s
  let s := units.foldl (fun s u => s.startJob
    { id := 0, entry := some c.idx, slice := c.slice, nsid := n.nsid, mu := u.1, reading := true, x := some u.2 }) s
  s.readDone c.idx

/-- Starts the job of one unit of a write (R187). -/
def State.writeJob (c : Cct) (n : Ns) (mu : Nat) (offs : List Nat) (l : List Lba) (s : State) : State :=
  s.startJob { id := 0, entry := some c.idx, slice := c.slice, nsid := n.nsid, mu := mu, wrote := offs, orig := l }

/-- Starts the jobs of every unit of a range with the LBAs a command writes (R187). -/
def State.writeRange (c : Cct) (n : Ns) (a : Nat) (l : List Lba) (s : State) : State :=
  let u := s.unitLbas n.lbaf
  (s.unitsOf n a l.length).foldl (fun s mu =>
    let offs := s.offsIn n a l.length mu
    s.writeJob c n mu offs (offs.map (fun i => l.getD (mu * u + i - a) {}))) s

/-! ### Deallocation (R199 to R202) -/

/-- A rising list of ranges with one more, those that touch or overlap merged. -/
def addRange (l : List (Nat × Nat)) (r : Nat × Nat) : List (Nat × Nat) :=
  let meet (x : Nat × Nat) : Bool := decide (x.1 ≤ r.1 + r.2) && decide (r.1 ≤ x.1 + x.2)
  let m := l.filter meet
  let lo := m.foldl (fun a x => min a x.1) r.1
  let hi := m.foldl (fun a x => max a (x.1 + x.2)) (r.1 + r.2)
  let rest := l.filter (fun x => !meet x)
  rest.filter (fun x => decide (x.1 < lo)) ++ [(lo, hi - lo)] ++ rest.filter (fun x => decide (lo ≤ x.1))

/-- The ranges of one command as disjoint runs; empty ranges fall out. -/
def mergeRanges (l : List (Nat × Nat)) : List (Nat × Nat) := (l.filter (fun r => decide (0 < r.2))).foldl addRange []

/-- Units wholly inside a run, as first and count: the last unit of the namespace counts as whole when the run reaches the
namespace's end. -/
def State.wholeUnits (s : State) (n : Ns) (r : Nat × Nat) : Nat × Nat :=
  let u := max 1 (s.unitLbas n.lbaf)
  let first := ceilDiv r.1 u
  let stop := if r.1 + r.2 = n.nsze then s.nsUnits n else (r.1 + r.2) / u
  (first, stop - first)

/-- Deallocates a run of whole units under one range record: units the map does not list hold nothing (R199). -/
def State.deallocRun (sl : Nat) (n : Ns) (cct : Nat) (seq : Word) (r : Nat × Nat) (s : State) : State :=
  if r.2 = 0 then s
  else
    let s := s.jsync (.deallocRange sl n.nsid r.1 cct seq r.2)
    let cells := s.store.map.filter (fun c => c.slice == sl && c.nsid == n.nsid && decide (r.1 ≤ c.mu) && decide (c.mu < r.1 + r.2))
    cells.foldl (fun s c => s.deallocUnit sl n.nsid c.mu) s

/-- A deallocated run marks its change regions for a migration's next pass (R164). -/
def State.markMigRun (sl ns first count : Nat) (s : State) : State :=
  if ((s.slice sl).bind (·.mig)).isNone || count = 0 then s
  else (List.range ((first + count - 1) / 256 + 1 - first / 256)).foldl (fun s i => s.markMig sl ns (256 * (first / 256 + i))) s

/-- Deallocates the ranges of a command: whole units by range records, partial ones by writes of zeroes (R199, R200). The first
range record is the no-return point, else the first unit staged (R105). -/
def State.deallocRanges (c : Cct) (n : Ns) (ranges : List (Nat × Nat)) (s : State) : State :=
  let u := max 1 (s.unitLbas n.lbaf)
  let rs := mergeRanges ranges
  let whole := (rs.map (s.wholeUnits n)).filter (fun r => decide (0 < r.2))
  let inWhole (mu : Nat) : Bool := whole.any (fun r => decide (r.1 ≤ mu) && decide (mu < r.1 + r.2))
  let edges := ((rs.flatMap (fun r => [r.1 / u, (r.1 + r.2 - 1) / u])).dedup).filter (fun mu => !inWhole mu)
  let bytes := sumBy rs (·.2) * lbaSize n.lbaf
  let before := s.rebuildSet
  let f (c : Cct) : Cct :=
    { c with step := 1, left := edges.length, zr := bytes, durable := c.durable + whole.length,
             gate := if whole.isEmpty then c.gate else .committed }
  let s := s.modEntry c.idx f
  let s := whole.foldl (fun s r =>
    let s := s.deallocRun c.slice n c.idx c.seq r
    (s.markMigRun c.slice n.nsid r.1 r.2).forward c.slice (n.nsid, r.1, r.2, some c.idx)) s
  let s := edges.foldl (fun s mu =>
    let offs := (List.range u).filter (fun i => rs.any (fun r => decide (r.1 ≤ mu * u + i) && decide (mu * u + i < r.1 + r.2)))
    s.writeJob c n mu offs (offs.map (fun _ => zeroLba n.lbaf))) s
  ((s.settle before).gatherHost).writeDone c.idx

/-! ### Reservations (R118, R120, R156) -/

/-- Changes a namespace. -/
def State.modNs (sl ns : Nat) (f : Ns → Ns) (s : State) : State :=
  s.modSlice sl (fun x => { x with nss := modFirst x.nss (·.nsid == ns) f })

/-- A host's key. -/
def Resv.keyOf (r : Resv) (h : BitVec 128) : Option (BitVec 64) := (r.regs.find? (·.1 == h)).map (·.2)

/-- All registrants hold the reservation. -/
def Resv.allHold (r : Resv) : Bool := 5 ≤ r.rtype

/-- A host holds the reservation. -/
def Resv.holds (r : Resv) (h : BitVec 128) : Bool :=
  r.rtype != 0 && (r.holder == some h || (r.allHold && (r.keyOf h).isSome))

/-- The reservation ends. -/
def Resv.free (r : Resv) : Resv := { r with holder := none, rtype := 0 }

/-- Registrations end for the hosts that satisfy a predicate; the reservation ends with its holder, one that all registrants
hold with the last of them. -/
def Resv.drop (r : Resv) (p : BitVec 128 × BitVec 64 → Bool) : Resv :=
  let gone := r.regs.filter p
  let keep := r.regs.filter (fun x => !p x)
  let r := { r with regs := keep }
  if r.allHold then
    (match keep with
     | [] => r.free
     | a :: _ => { r with holder := some a.1 })
  else if gone.any (fun x => r.holder == some x.1) then r.free else r

/-- A reservation notification (R118 page 0x80, R120 feature 0x82): 1 registration preempted, 2 reservation released, 3
reservation preempted; for the controllers of the hosts named. -/
def State.resvNotify (sl ns kind : Nat) (hosts : List (BitVec 128)) (s : State) : State :=
  (s.eng.ctrls.filter (fun k => k.isTenant && k.slice == sl && hosts.contains k.hostId)).foldl (fun s k =>
    let m := ((k.resMask.find? (·.1 == ns)).map (·.2)).getD 0
    if m.getLsbD kind then s
    else
      let s := s.modCtrl k.id (fun k => { k with resLog := k.resLog ++ [(kind, ns)] })
      s.notify k.id { type := 6, info := 0, lid := 0x80 }) s

/-- Takes a namespace's new reservation state: kept in the settings where it persists through power loss, and forwarded. -/
def State.putResv (sl : Nat) (n : Ns) (r : Resv) (s : State) : State :=
  let s := s.modNs sl n.nsid (fun n => { n with resv := r })
  let s := if r.ptpl || n.resv.ptpl then s.writeSettings else s
  s.forwardChange sl (.reservation n.nsid r.regs r.holder r.rtype r.gen r.ptpl)

/-- Runs a reservation command of a namespace: `f` answers its status, the new reservation state, and whom it notifies of
what. -/
def State.resvCmd (e opc bytes : Nat) (f : Cct → Ctrl → Ns → Nat × Resv × List (Nat × List (BitVec 128)) × List (BitVec 128))
    (s : State) : Out :=
  .next (s.withCmd e opc true (fun c s =>
    match s.ctrl c.cntl, s.nsOf c.slice c.cap.nsid with
    | some k, some n =>
      if c.cap.data.length < bytes then s
      else
        let (st, r, notes, aborted) := f c k n
        if st != St.ok then s.reply c st
        else
          let s := if r = n.resv then s else s.putResv c.slice n r
          let s := notes.foldl (fun s x => s.resvNotify c.slice n.nsid x.1 x.2 ) s
          let hit (x : Cct) : Bool := x.isIo && x.slice == c.slice && x.cap.nsid == n.nsid && x.idx != c.idx &&
            (s.ctrl x.cntl).elim false (fun k => aborted.contains k.hostId)
          let s := s.abortList (s.eng.cct.filter hit) St.abortedPreempt false
          s.reply c St.ok
    | _, _ => s))

end Sys2Proof.Machine
end

