-- ==== Sys2Proof/Machine/IoCommands.lean ====
section
/-! DEFINITION. The I/O commands of the NVM command set (R118, R127, R181, R187, R199 to R202, R369, R371). -/

namespace Sys2Proof.Machine

open Sys2Proof

/-- Flush has no media action (R118). -/
def execFlush (e : Nat) (s : State) : Out := .next (s.withCmd e 0x00 true (fun c s => s.reply c St.ok))

/-- Runs a command with its namespace, once, when its data has arrived. -/
def State.withNs (e opc : Nat) (f : Cct → Ns → State → State) (s : State) : State :=
  s.withCmd e opc true (fun c s =>
    match s.nsOf c.slice c.cap.nsid with
    | none => s
    | some n => if c.step = 0 then f c n s else s)

/-- Every byte of a command's data has arrived. -/
def Cct.dataHere (c : Cct) (n : Ns) : Bool := decide (xferBytes (some n) true c.cap ≤ c.cap.data.length)

/-- Write (R118, R127, R187): the protection information is checked first, and nothing is written when it fails; each unit
then goes to its lane. -/
def execWrite (e : Nat) (s : State) : Out :=
  .next (s.withNs e 0x01 (fun c n s =>
    if !c.dataHere n then s
    else
      let l := hostLbas n c.cap
      let st := if n.lbaf = 2 && lbaWire n c.cap != lbaSize n.lbaf then piStatus n c.cap l else St.ok
      if st != St.ok then s.reply c st
      else
        let units := s.unitsOf n c.cap.slba c.cap.nlb
        let wr := c.cap.nlb * lbaSize n.lbaf
        let pib := xferBytes (some n) true c.cap - wr
        let s := s.modEntry e (fun c => { c with step := 1, left := units.length, wr := wr, pib := pib })
        s.writeRange c n c.cap.slba l))

/-- Read (R118, R181, R369): lost LBAs give Unrecovered Read Error, or wait for their repair from the replica. -/
def execRead (e : Nat) (s : State) : Out :=
  .next (s.withNs e 0x02 (fun c n s =>
    let a := c.cap.slba
    let len := c.cap.nlb
    match s.lostIn c.slice n a len with
    | 2 => s.holdRes (some e)
    | 1 => s.reply c St.unrecoveredRead
    | _ =>
      let out := (s.content c.slice n a len).map (wireLba n c.cap)
      let rd := len * lbaSize n.lbaf
      let pib := xferBytes (some n) true c.cap - rd
      let s := s.modEntry e (fun c => { c with out := .lbas out, rd := rd, pib := pib })
      s.beginRead c n a len false 1))

/-- Compare (R118): the stored LBAs against the host's. -/
def execCompare (e : Nat) (s : State) : Out :=
  .next (s.withNs e 0x05 (fun c n s =>
    let a := c.cap.slba
    let len := c.cap.nlb
    if !c.dataHere n then s
    else
      match s.lostIn c.slice n a len with
      | 2 => s.holdRes (some e)
      | 1 => s.reply c St.unrecoveredRead
      | _ =>
        let mine := (s.content c.slice n a len).map (wireLba n c.cap)
        let host := (List.range len).map (fun i => wireLba n c.cap (hostLba n c.cap c.cap.data i))
        let st := if mine = host then St.ok else St.compareFailure
        let s := s.modEntry e (fun c => { c with status := st })
        s.beginRead c n a len false 1))

/-- Verify (R118): every unit passes a lane; no data is sent. A check of the protection information has no status of its own
outside write data (R128) and does not change the outcome. -/
def execVerify (e : Nat) (s : State) : Out :=
  .next (s.withNs e 0x0C (fun c n s =>
    let a := c.cap.slba
    let len := c.cap.nlb
    match s.lostIn c.slice n a len with
    | 2 => s.holdRes (some e)
    | 1 => s.reply c St.unrecoveredRead
    | _ => s.beginRead c n a len true 1))

/-- Write Zeroes (R118, R199): DEAC set or clear, the range is deallocated. Range records wait while the journal is held
(R212). -/
def execWriteZeroes (e : Nat) (s : State) : Out :=
  .next (s.withNs e 0x08 (fun c n s =>
    if s.journalHolds then s.noteHeld.holdRes (some e)
    else s.deallocRanges c n [(c.cap.slba, c.cap.nlb)]))

/-- Dataset Management (R118, R199): without Deallocate its hints are accepted and ignored. -/
def execDatasetManagement (e : Nat) (s : State) : Out :=
  .next (s.withNs e 0x09 (fun c n s =>
    if !dsmDealloc c.cap then s.reply c St.ok
    else if !c.dataHere n then s
    else if !State.rangesIn n c.cap then s.reply c St.lbaOutOfRange
    else if s.journalHolds then s.noteHeld.holdRes (some e)
    else s.deallocRanges c n c.cap.dsmRanges))

/-- The LBAs a Copy writes: with PRACT their protection information is made anew (R127). -/
def copyLbas (n : Ns) (c : Capsule) (l : List Lba) : List Lba :=
  if n.pi != 0 && pract c then
    l.zipIdx.map (fun x => { x.1 with pi := mkPi (crc16 (natBytes 4096 x.1.data)) (piLbat c) (refOf n c x.2) })
  else l

/-- Copy (R118): the source range is read, through the lanes where its extents need them, and then rewritten; what it writes passes
the checks PRCHK asks for first (R127). -/
def execCopy (e : Nat) (s : State) : Out :=
  .next (s.withCmd e 0x19 true (fun c s =>
    match s.nsOf c.slice c.cap.nsid with
    | none => s
    | some n =>
      let src := c.cap.copySrc
      if c.cap.data.length < 32 then s
      else if c.step = 0 then
        if State.sizeStatus n c.cap != St.ok then s.reply c (State.sizeStatus n c.cap)
        else if !State.rangesIn n c.cap then s.reply c St.lbaOutOfRange
        else
          match s.lostIn c.slice n src.1 src.2 with
          | 2 => s.holdRes (some e)
          | 1 => s.reply c St.unrecoveredRead
          | _ => s.beginRead c n src.1 src.2 false 2
      else if c.step != 3 then s
      else if c.status != St.ok then s.reply c c.status
      else
        let l := copyLbas n c.cap (s.content c.slice n src.1 src.2)
        let st := if n.pi != 0 && !pract c.cap then piStatus n c.cap l else St.ok
        if st != St.ok then s.reply c st else
        let units := s.unitsOf n c.cap.slba src.2
        let wr := src.2 * lbaSize n.lbaf
        let pib := src.2 * lbaXfer n.lbaf - wr
        let s := s.modEntry e (fun c => { c with step := 1, left := units.length, wr := wr, pib := pib })
        s.writeRange c n c.cap.slba l))

/-! ### Reservations -/

/-- Reservation key fields of the data: CRKEY, and NRKEY or PRKEY. -/
def crkey (c : Capsule) : BitVec 64 := BitVec.ofNat 64 (fieldAt c.data 0 8)
def nrkey (c : Capsule) : BitVec 64 := BitVec.ofNat 64 (fieldAt c.data 8 8)

/-- CPTPL of a Register: 0b10 clears, 0b11 sets persistence through power loss. -/
def cptplOf (c : Capsule) (p : Bool) : Bool :=
  match dwBits c.dw10 31 30 with
  | 2 => false
  | 3 => true
  | _ => p

/-- What a reservation command comes to: its status, the state after it, notifications, and hosts whose commands end. -/
abbrev ResvOut := Nat × Resv × List (Nat × List (BitVec 128)) × List (BitVec 128)

def resvFail (r : Resv) (st : Nat) : ResvOut := (st, r, [], [])

/-- Hosts that remain registered, but one. -/
def Resv.others (r : Resv) (h : BitVec 128) : List (BitVec 128) := (r.regs.map (·.1)).filter (· != h)

/-- Reservation Register (R118): register, unregister, replace. -/
def resvRegister (c : Capsule) (h : BitVec 128) (r : Resv) : ResvOut :=
  let ie := c.dw10.getLsbD 3
  let p := cptplOf c r.ptpl
  let bad := dwBits c.dw10 31 30 = 1
  match dwBits c.dw10 2 0, r.keyOf h with
  | 0, none => if bad then resvFail r St.invalidField else (St.ok, { r with regs := r.regs ++ [(h, nrkey c)], gen := r.gen + 1, ptpl := p }, [], [])
  | 0, some k => if bad then resvFail r St.invalidField else if k = nrkey c then (St.ok, { r with ptpl := p }, [], []) else resvFail r St.reservationConflict
  | 1, some k =>
    if bad then resvFail r St.invalidField
    else if !ie && k != crkey c then resvFail r St.reservationConflict
    else
      let q := r.drop (·.1 == h)
      let note := r.holder == some h && q.rtype = 0 && (r.rtype = 3 || r.rtype = 4)
      (St.ok, { q with gen := r.gen + 1, ptpl := p }, if note then [(2, r.others h)] else [], [])
  | 2, some k =>
    if bad then resvFail r St.invalidField
    else if !ie && k != crkey c then resvFail r St.reservationConflict
    else (St.ok, { r with regs := r.regs.map (fun x => if x.1 = h then (h, nrkey c) else x), gen := r.gen + 1, ptpl := p }, [], [])
  | 1, none => resvFail r (if bad then St.invalidField else St.reservationConflict)
  | 2, none => resvFail r (if bad then St.invalidField else St.reservationConflict)
  | _, _ => resvFail r St.invalidField

def execReservationRegister (e : Nat) (s : State) : Out :=
  s.resvCmd e 0x0D 16 (fun c k n => resvRegister c.cap k.hostId n.resv)

/-- A preemption of the registrants with key PRKEY (R118): the reservation passes to the host when its holder is among them, or
when all registrants hold it and PRKEY is zero. -/
def resvPreempt (c : Capsule) (h : BitVec 128) (r : Resv) (abort : Bool) : ResvOut :=
  let t := dwBits c.dw10 15 8
  let pk := nrkey c
  let gone (x : BitVec 128 × BitVec 64) : Bool := if r.allHold && pk = 0 then x.1 != h else x.2 == pk
  let out := (r.regs.filter gone).map (·.1)
  let lost := out.filter (· != h)
  let ab := if abort then lost else []
  let holds := r.rtype != 0 && (if r.allHold then pk = 0 else (r.holder.bind r.keyOf) == some pk)
  if pk = 0 && !r.allHold then resvFail r St.invalidField
  else if out.isEmpty && !holds then resvFail r St.reservationConflict
  else if holds then
    let regs := r.regs.filter (fun x => x.1 = h || !gone x)
    (St.ok, { r with regs := regs, holder := some h, rtype := t, gen := r.gen + 1 },
      [(1, lost)] ++ (if t != r.rtype then [(2, (regs.map (·.1)).filter (· != h))] else []), ab)
  else ((St.ok, { r.drop gone with gen := r.gen + 1 }, [(1, lost)], ab))

/-- Reservation Acquire (R118). -/
def resvAcquire (c : Capsule) (h : BitVec 128) (r : Resv) : ResvOut :=
  let t := dwBits c.dw10 15 8
  if c.dw10.getLsbD 3 || t = 0 || 6 < t then resvFail r St.invalidField
  else if r.keyOf h != some (crkey c) then resvFail r St.reservationConflict
  else
    match dwBits c.dw10 2 0 with
    | 0 =>
      if r.rtype = 0 then (St.ok, { r with holder := some h, rtype := t }, [], [])
      else if r.holds h && r.rtype = t then (St.ok, r, [], [])
      else resvFail r St.reservationConflict
    | 1 => resvPreempt c h r false
    | 2 => resvPreempt c h r true
    | _ => resvFail r St.invalidField

def execReservationAcquire (e : Nat) (s : State) : Out :=
  s.resvCmd e 0x11 16 (fun c k n => resvAcquire c.cap k.hostId n.resv)

/-- Reservation Release: release and clear (R118). -/
def resvRelease (c : Capsule) (h : BitVec 128) (r : Resv) : ResvOut :=
  if c.dw10.getLsbD 3 || 1 < dwBits c.dw10 2 0 then resvFail r St.invalidField
  else if r.keyOf h != some (crkey c) then resvFail r St.reservationConflict
  else if dwBits c.dw10 2 0 = 1 then
    (St.ok, { r.free with regs := [], gen := r.gen + 1 }, [(3, r.others h)], [])
  else if !r.holds h then (St.ok, r, [], [])
  else if dwBits c.dw10 15 8 != r.rtype then resvFail r St.invalidField
  else (St.ok, r.free, if 3 ≤ r.rtype then [(2, r.others h)] else [], [])

def execReservationRelease (e : Nat) (s : State) : Out :=
  s.resvCmd e 0x15 8 (fun c k n => resvRelease c.cap k.hostId n.resv)

/-- The extended reservation status of a namespace: header, then 64 bytes for each registered controller or, without one, each
registrant (R118). -/
def State.resvReport (s : State) (sl : Nat) (n : Ns) (len : Nat) : Payload :=
  let r := n.resv
  let rows := r.regs.flatMap (fun x =>
    let ks := (s.eng.ctrls.filter (fun k => k.isTenant && k.slice == sl && k.hostId == x.1)).map (·.id)
    (if ks.isEmpty then [0xFFFF] else ks).map (fun id => (id, x)))
  let row (i : Nat) : List (Nat × Nat × Nat) :=
    match rows[i]? with
    | none => []
    | some (id, h, k) =>
      [(64 * (i + 1), 2, id), (64 * (i + 1) + 2, 1, b2n (r.holds h)), (64 * (i + 1) + 8, 8, k.toNat),
       (64 * (i + 1) + 16, 16, h.toNat)]
  .page 0 len ([(0, 4, r.gen % 2 ^ 32), (4, 1, r.rtype), (5, 2, rows.length), (9, 1, b2n r.ptpl)] ++
    (List.range rows.length).flatMap row)

/-- Reservation Report (R118): host identifiers have 128 bits, which the extended data structure alone can carry. -/
def execReservationReport (e : Nat) (s : State) : Out :=
  .next (s.withNs e 0x0E (fun c n s =>
    if !c.cap.dw11.getLsbD 0 then s.reply c St.invalidField
    else s.finish e St.ok 0 (s.resvReport c.slice n (4 * (c.cap.dw10.toNat + 1)))))

end Sys2Proof.Machine
end

