-- ==== Sys2Proof/Machine/SliceCtl.lean ====
section
/-! DEFINITION. Slices as the management slice sees them: descriptors, pools, keys, ANA and namespace notices, deallocation of
whole namespaces, cancelling a migration, and writing a peer's extent (R136 to R166, R560). -/

namespace Sys2Proof.Machine

open Sys2Proof

/-! ### Notices of a slice (R71, R165, R560, R561) -/

/-- The controller's logical MAC is up. -/
def State.macUp (s : State) (k : Ctrl) : Bool := ((s.fabric.macs[k.mac]?).map (·.up)).getD false

/-- The ANA states of a slice's groups changed: the change count rises, and its controllers on an up MAC get a notice. -/
def State.anaChange (p : SliceS → Bool) (s : State) : State :=
  let s := { s with fabric := { s.fabric with anaCount := s.fabric.anaCount + 1 } }
  s.notifyAll (fun k => k.isTenant && s.macUp k && k.evCfg.getLsbD 11 && (s.slice k.slice).elim false p)
    { type := 2, info := 3, lid := 0x0C }

/-- A namespace of a slice is created, deleted, attached, detached or formatted: it joins every controller's changed list, and
the notice goes out. -/
def State.nsChanged (sl ns : Nat) (s : State) : State :=
  (s.eng.ctrls.filter (fun k => k.isTenant && k.slice == sl)).foldl (fun s k =>
    let s := s.modCtrl k.id (fun k => { k with changedNs := addNew k.changedNs ns })
    if k.evCfg.getLsbD 8 then s.notify k.id { type := 2, info := 0, lid := 0x04 } else s) s

/-! ### Descriptors (R142) -/

/-- A descriptor by its bytes; secrets and the PSK wrapped (R151). -/
def descOf (d : List Byte) : Desc :=
  let f := fieldAt d
  let flag (i : Nat) : Bool := (f 274 2).testBit i
  let secret (o n : Nat) : List Byte := if n = 0 then [] else wrapRoot (bytesAt d o n)
  { subnqn := trimNul (bytesAt d 0 256), capMib := f 256 8, cct := f 264 4, qpairs := f 268 2, ctrls := f 270 2,
    ns := f 272 2, replicated := flag 0, replHold := flag 1, authReq := flag 2, tlsReq := flag 3, pairId := f 276 4,
    iopsCeil := f 280 4, iopsFloor := f 284 4, bwCeil := f 288 4, bwFloor := f 292 4, opBurst := f 296 4,
    byteBurst := f 300 4, ltMin := f 304 4, hostLen := f 308 1, ctrlLen := f 309 1, pskLen := f 310 1,
    hostSecret := secret 312 (f 308 1), ctrlSecret := secret 376 (f 309 1), psk := secret 440 (f 310 1) }

/-- Reserved bytes and flags are zero. -/
def descReserved (d : List Byte) : Bool :=
  fieldAt d 274 2 < 16 && fieldAt d 311 1 == 0 && (bytesAt d 488 536).all (· == 0)

/-- The discovery NQN (R55) and the ring NQN (R74). -/
def discoveryNqn : List Byte := nameBytes "nqn.2014-08.org.nvmexpress.discovery"
def ringNqn : List Byte := deviceNqn ++ nameBytes ":bramble"

/-- Fields lie in the ranges of R140 and R142; floors lie below non-zero ceilings; required secrets are there (R143). -/
def Desc.rangesOk (d : Desc) : Bool :=
  decide (1024 ≤ d.capMib) && decide (16 ≤ d.cct ∧ d.cct ≤ 126976) && decide (1 ≤ d.qpairs ∧ d.qpairs ≤ 8192) &&
  decide (1 ≤ d.ctrls ∧ d.ctrls ≤ 2040) && decide (1 ≤ d.ns ∧ d.ns ≤ 4096) && decide (d.iopsFloor ≤ 16000000) &&
  decide (d.bwFloor ≤ 72000) && [0, 32, 48, 64].contains d.hostLen && [0, 32, 48, 64].contains d.ctrlLen &&
  [0, 32, 48].contains d.pskLen && (d.iopsCeil == 0 || decide (d.iopsFloor ≤ d.iopsCeil)) &&
  (d.bwCeil == 0 || decide (d.bwFloor ≤ d.bwCeil)) && !(d.authReq && d.hostLen == 0) &&
  !(d.tlsReq && d.pskLen == 0)

/-- A byte list is UTF-8: `need` continuation bytes are due, the next of them from `lo` to `hi`. -/
def utf8 (need lo hi : Nat) : List Byte → Bool
  | [] => need == 0
  | b :: t =>
    let v := b.toNat
    if need != 0 then decide (lo ≤ v) && decide (v ≤ hi) && utf8 (need - 1) 0x80 0xBF t
    else if v < 0x80 then utf8 0 0x80 0xBF t
    else if v < 0xC2 then false
    else if v < 0xE0 then utf8 1 0x80 0xBF t
    else if v < 0xF0 then utf8 2 (if v = 0xE0 then 0xA0 else 0x80) (if v = 0xED then 0x9F else 0xBF) t
    else if v < 0xF5 then utf8 3 (if v = 0xF0 then 0x90 else 0x80) (if v = 0xF4 then 0x8F else 0xBF) t
    else false

/-- A SUBNQN that may not be taken (R142, R143): no UTF-8, with a NUL byte inside, another slice's, or one of the device's own; the empty
name is refused too (DESIGN CHOICE, assumption 87). -/
def State.nqnTaken (s : State) (q : List Byte) : Bool :=
  q.isEmpty || !utf8 0 0x80 0xBF q || q.contains 0 || q == discoveryNqn || q == ringNqn || q == deviceNqn ||
    s.slices.list.any (·.desc.subnqn == q)

/-! ### Pools (R140, R143, R144) -/

/-- What a descriptor takes of each pool, in the same order. -/
def Desc.takes (d : Desc) : List Nat := [d.qpairs, d.cct, d.ctrls, d.ns, d.capMib, d.iopsFloor, d.bwFloor]

/-- Bits of the pools that are short for an increase (R143). -/
def State.shortBits (s : State) (inc : List Nat) : Nat :=
  let bit := [0, 1, 2, 3, 4, 6, 7]
  ((inc.zip s.freePools).zip bit).foldl (fun a x => if x.1.2 < x.1.1 then a + 2 ^ x.2 else a) 0

/-! ### Keys (R136, R151, R153) -/

/-- The two 256-bit halves of a key are equal. -/
def halvesEqual (k : BitVec 512) : Bool := k.extractLsb' 0 256 == k.extractLsb' 256 256

/-- The first draw from `g` on whose halves differ; the device draws until one does, here at most `fuel` times more. -/
def drawKey : Nat → Nat → Nat
  | 0, g => g
  | fuel + 1, g => if halvesEqual (Config.drbg g) then drawKey fuel (g + 1) else g

/-- Draws a new 512-bit key into a key slot, again while its halves are equal (R151). -/
def State.newKey (n : Nat) (s : State) : State :=
  let g := drawKey 64 (s.slices.keyGen + 1)
  let k := (Config.drbg g).toNat
  let ks := (n, k) :: s.slices.keySlots.filter (·.1 != n)
  let s := { s with slices := { s.slices with keyGen := g, keySlots := ks } }
  s.modSlice n (fun x => { x with key := k })

/-- Zeros over a slice's wrapped key in both settings generations except under the generation just written. -/
def Settings.dropKey (x : Settings) (n : Nat) : Settings :=
  { x with keySlots := x.keySlots.filter (·.1 != n) }

/-- Steps 2 and 3 of R153: a generation that holds only the new key, and zeros over the old one in the other generation. -/
def State.eraseOldKey (n : Nat) (s : State) : State :=
  let s := s.writeSettings
  let g := s.journal.gen
  let f (x : Settings) : Settings := if x.gen = g then x else x.dropKey n
  { s with journal := { s.journal with setA := s.journal.setA.map f, setB := s.journal.setB.map f } }

/-! ### Deallocation of a namespace, and what follows (R119, R153) -/

/-- Marks every map unit of a namespace deallocated, by a range record. -/
def State.wipeNs (sl : Nat) (n : Ns) (s : State) : State :=
  let s := s.deallocRun sl n 0 0 (0, s.nsUnits n)
  { s with store := { s.store with jobs := s.store.jobs.filter (fun j => !(j.slice == sl && j.nsid == n.nsid && j.entry.isNone)) } }

/-- Marks every map unit of every namespace of a slice deallocated. -/
def State.wipeSlice (sl : Nat) (s : State) : State :=
  match s.slice sl with
  | none => s
  | some x =>
    let before := s.rebuildSet
    ((x.nss.foldl (fun s n => s.wipeNs sl n) s).settle before).gatherHost

/-! ### Ending what a slice has under way -/

/-- Opens the stream job of a migration's metadata at one end (R373). -/
def State.openStream (sender : Bool) (nb migId : Nat) (s : State) : State :=
  let id := s.comp.jobs.foldl (fun a j => max a (j.id + 1)) 0
  let job : StreamJob := { id := id, sender := sender, nb := nb, migId := migId }
  { s with comp := { s.comp with jobs := s.comp.jobs ++ [job] } }

/-- Ends the stream job of a migration at one end. -/
def State.endStream (sender : Bool) (nb migId : Nat) (s : State) : State :=
  let jobs := s.comp.jobs.filter (fun j => !(j.sender == sender && j.nb == nb && j.migId == migId))
  { s with comp := { s.comp with jobs := jobs } }

/-- A restoring slice discards what has been copied into it and stays restoring; its stream starts again (R166). -/
def State.discardCopy (x : SliceS) (s : State) : State :=
  let s := (s.endPeer x.num).wipeSlice x.num
  let jobs := s.store.jobs.filter (fun j => j.slice != x.num)
  let s := { s with store := { s.store with jobs := jobs } }.modSlice x.num (fun x => { x with nss := [] })
  (s.endStream false x.peer x.peerId).openStream false x.peer x.peerId

/-- Cancels a slice's open migration before its commit, with its cause (R163, R164, R166). A Save whose migration was still opening is
answered Invalid Field with reason 1 (DESIGN CHOICE, assumption 87). -/
def State.cancelMig (sl cause : Nat) (s : State) : State :=
  match s.slice sl with
  | none => s
  | some x =>
    match x.mig with
    | none => s
    | some m =>
      if m.committed then s
      else
        let s := s.modSlice sl (fun x => { x with mig := none, migState := 0 })
        let s := (s.endStream true m.nb m.id).answerEntry m.waiting St.invalidField 1
        (s.send (.migrateCancel sl)).capture 0x0606 [sl, cause, m.id]

/-- Bands that hold an extent of a slice, or will once a stripe being gathered or flushed is programmed (R154). -/
def State.sliceBands (sl : Nat) (s : State) : List Nat :=
  (s.upkeep.bands.filter (fun b => s.store.placed.any (fun p => p.band == b.num && p.slice == sl) ||
    s.store.stripes.any (fun t => t.band == b.num && t.items.any (·.slice == sl)))).map (·.num)

/-- Frees every controller of a slice without posting completions (R148). -/
def State.endCtrls (sl : Nat) (s : State) : State :=
  let s := s.abortList (s.eng.cct.filter (fun c => c.slice == sl && c.origin == 0)) St.abortedSqDeletion true
  (s.eng.ctrls.filter (fun k => k.isTenant && k.slice == sl)).foldl (fun s k => s.freeCtrl k.id) s

/-! ### A peer's extent (R156, R159, R162) -/

/-- The lowest buffer offset at which `n` granules are free in both copies. -/
def State.lowBuf (s : State) (n : Nat) : Option Nat :=
  (sortNat (0 :: s.store.buf.map (fun b => b.off + b.len))).find? (fun o => s.bufFree o n)

/-- Stores a peer's extent as it arrives: it waits for room in the write buffer like any other, and is acknowledged once its
staging is durable (R156, R372). -/
def State.peerExtent (sl ns mu e : Nat) (x : Extent) (s : State) : State :=
  s.addJob { id := 0, entry := some e, slice := sl, nsid := ns, mu := mu, peer := true, stage := 1, x := some x }

/-- A namespace by the fields a peer sends. -/
def nsOfPeer (nsid nsze lbaf pi : Nat) : Ns := { nsid := nsid, nsze := nsze, lbaf := lbaf, pi := pi }

/-- The secrets a peer sends, in the order of the descriptor. -/
def Desc.withSecrets (d : Desc) (l : List (Nat × List Byte)) : Desc :=
  let f (i : Nat) : Nat × List Byte := l.getD i (0, [])
  { d with hostLen := (f 0).1, hostSecret := (f 0).2, ctrlLen := (f 1).1, ctrlSecret := (f 1).2, pskLen := (f 2).1, psk := (f 2).2 }

/-- Takes the key and secrets of a peer, opened with the key-transport key, into key slot and descriptor, the secrets wrapped under the
root key (R151, R155, R162). -/
def State.takeKeys (sl : Nat) (w : List Byte) (secrets : List (Nat × List Byte)) (s : State) : State :=
  let x := s.slice sl
  let k := s.ktk (x.elim 0 (·.peer)) (x.elim 0 (·.peerId)) false
  let key := leNat ((keyUnwrap k w).getD [])
  let l := secrets.map (fun y => (y.1, if y.1 = 0 then [] else wrapRoot ((keyUnwrap k y.2).getD [])))
  let ks := (sl, key) :: s.slices.keySlots.filter (·.1 != sl)
  let s := { s with slices := { s.slices with keySlots := ks } }
  (s.modSlice sl (fun x => { x with key := key, desc := x.desc.withSecrets l })).writeSettings

/-- Adds a namespace to a slice, or replaces the one of its number. -/
def State.putNs (sl : Nat) (n : Ns) (s : State) : State :=
  s.modSlice sl (fun x => { x with nss := x.nss.filter (·.nsid != n.nsid) ++ [n] })

/-- A peer's change takes a free entry of the system reserve while it runs (R90, R92): ORIGIN 1, on a queue of the ring. -/
def State.peerEntry (sl e nb : Nat) (c : PeerChange) (s : State) : Option State :=
  if 131072 ≤ e || (s.entry e).isSome || 3072 ≤ (s.eng.cct.filter (fun c => c.origin != 0)).length then none
  else
    let opc := match c with | .extent .. => 0x01 | .dealloc .. => 0x09 | _ => 0x0D
    let x : Cct := { idx := e, st := .dispatched, gate := .committed, orderDone := true, slice := sl, queue := 10257 + 34 * nb, origin := 1, cntl := 0xFFFF,
                     step := 1, left := 1, arrival := s.seed.now, cap := { opc := opc, cid := 0 }, heldAt := s.seed.now }
    some ({ s with eng := { s.eng with cct := s.eng.cct ++ [x] } }.bump Reg.CE_CNT_ADMIT 1)

/-- A peer's message is about a slice: it comes from the neighbour the slice comes from, under its PAIR_ID or MIGRATION_ID and its SUBNQN
(R155, R161). -/
def SliceS.isFrom (x : SliceS) (r : PeerRef) : Bool := x.peer == r.nb && x.peerId == r.id && x.desc.subnqn == r.nqn

/-- Applies a change of a peer to a replica or to the destination of a migration; answers whether it is done at once. -/
def State.applyPeer (sl e : Nat) (c : PeerChange) (s : State) : Bool × State :=
  match c with
  | .extent ns mu x => (false, s.peerExtent sl ns mu e x)
  | .dealloc ns mu count =>
    -- a migration's namespaces arrive with its commit, after its data (R165)
    let n := (s.nsOf sl ns).getD (nsOfPeer ns 0 0 0)
    let before := s.rebuildSet
    (true, ((s.deallocRun sl n 0 0 (mu, count)).settle before).gatherHost)
  | .nsCreate nsid nsze lbaf pi => (true, (s.putNs sl (nsOfPeer nsid nsze lbaf pi)).writeSettings)
  | .nsDelete nsid =>
    match s.nsOf sl nsid with
    | none => (true, s)
    | some n => (true, ((s.wipeNs sl n).modSlice sl (fun x => { x with nss := x.nss.filter (·.nsid != nsid) })).writeSettings)
  | .format nsid nsze lbaf pi =>
    match s.nsOf sl nsid with
    | none => (true, s)
    | some n =>
      (true, ((s.wipeNs sl n).modNs sl nsid (fun n => { n with nsze := nsze, lbaf := lbaf, pi := pi })).writeSettings)
  | .cryptoErase => (true, s.wipeSlice sl)
  | .reservation nsid regs h t g p =>
    (true, s.modNs sl nsid (fun n => { n with resv := { regs := regs, holder := h, rtype := t, gen := g, ptpl := p } }))
  | .keys k l => (true, s.takeKeys sl k l)
  | .qos l => (true, (s.modSlice sl (fun x => { x with desc := x.desc.withQos l })).writeSettings)
  | .totals l => (true, s.modSlice sl (fun x => { x with meter := { x.meter with totals := l } }))

end Sys2Proof.Machine
end

