-- ==== Sys2Proof/Machine/SliceCmds.lean ====
section
/-! DEFINITION. The vendor commands of the slices: create and modify, quiesce, resume, delete and reset, freeze, save, restore
(R141 to R149, R161 to R166). -/

namespace Sys2Proof.Machine

open Sys2Proof

/-- SLICE of a vendor slice command: Dword 10 [26:16]. -/
def sliceOf (c : Capsule) : Nat := dwBits c.dw10 26 16

/-- A slice vendor command whose reserved bits are not zero. -/
def badDws (c : Capsule) (m10 m11 m12 m13 : Nat) : Bool := !onlyDws c m10 m11 m12 m13 0 0

/-- Takes a command that completes later: its entry waits. -/
def State.waitCmd (c : Cct) (s : State) : State :=
  s.modEntry c.idx (fun x => { x with st := .heldResource, waitsOwn := true, step := 1, gate := .committed, heldAt := s.seed.now })

/-! ### SLICE_CREATE (R141 to R145) -/

/-- A slice as it stands when it is created: buckets full. -/
def newSlice (n : Nat) (st : SliceState) (d : Desc) : SliceS :=
  { num := n, state := st, desc := d, opTok := (d.opBurstU : Int), byteTok := (d.byteBurstU : Int) }

/-- The lowest unused slice number. -/
def State.lowSlice (s : State) : Option Nat :=
  (List.range 1025).find? (fun n => n != 0 && !s.slices.list.any (·.num == n))

/-- Enters a slice. -/
def State.addSlice (x : SliceS) (s : State) : State :=
  let sl := s.slices
  { s with slices := { sl with list := sl.list ++ [x], gone := sl.gone.filter (·.num != x.num) } }

/-- Refuses a create or modify for short pools. -/
def State.refusePools (c : Cct) (n bits : Nat) (s : State) : State :=
  (s.answer c St.poolExhausted (BitVec.ofNat 32 bits)).capture 0x060C [n, bits]

/-- A create that passed the checks of its Dwords (R143). -/
def State.sliceMake (c : Cct) (s : State) : State :=
  let d := c.cap.data
  let desc := descOf d
  let n := sliceOf c.cap
  if !descReserved d || !desc.rangesOk || s.nqnTaken desc.subnqn || s.slices.list.any (·.num == n) then
    s.reply c St.invalidField
  else if s.array.reshape.isSome then s.reply c St.reshapeInProgress
  else
    let num := if n = 0 then s.lowSlice else some n
    let bits := s.shortBits desc.takes + (if num.isNone then 32 else 0)
    match num with
    | none => s.refusePools c n bits
    | some k =>
      if bits != 0 then s.refusePools c k bits
      else
        let s := (((s.addSlice (newSlice k .active desc)).newKey k).writeSettings).capture 0x0601 [k, 0]
        s.answer c St.ok (BitVec.ofNat 32 k)

/-- What a slice uses: queue pairs, controllers, namespace numbers, bytes of namespaces (R140, R144). -/
def State.usedPairs (s : State) (n : Nat) : Nat :=
  (s.eng.queues.filter (fun q => q.idx < 8192 && (s.ctrl q.cntl).elim false (fun k => k.isTenant && k.slice == n))).length
def SliceS.usedNs (x : SliceS) : Nat := x.nss.foldl (fun a n => max a n.nsid) 0
def SliceS.usedBytes (x : SliceS) : Nat := sumBy x.nss (fun n => n.nsze * lbaSize n.lbaf)

/-- A modify keeps SUBNQN, and a secret whose length is zero. -/
def Desc.keep (new old : Desc) : Desc :=
  { new with
    subnqn := old.subnqn
    hostLen := if new.hostLen = 0 then old.hostLen else new.hostLen
    hostSecret := if new.hostLen = 0 then old.hostSecret else new.hostSecret
    ctrlLen := if new.ctrlLen = 0 then old.ctrlLen else new.ctrlLen
    ctrlSecret := if new.ctrlLen = 0 then old.ctrlSecret else new.ctrlSecret
    pskLen := if new.pskLen = 0 then old.pskLen else new.pskLen
    psk := if new.pskLen = 0 then old.psk else new.psk }

/-- Replication ends on a slice that gives it up: nothing waits for the replica any more. -/
def State.endRepl (n : Nat) (s : State) : State :=
  let waiting := s.eng.cct.filter (fun c => c.slice == n && c.peerWait)
  let s := (s.setResync n []).modSlice n (fun x => { x with repl := 0, outstanding := [], queued := [], keySend := false, away := [] })
  waiting.foldl (fun s c => s.peerDone n c.idx) s

/-- A modify (R144). -/
def State.sliceModify (c : Cct) (s : State) : State :=
  let d := c.cap.data
  let n := sliceOf c.cap
  match s.slice n with
  | none => s.reply c St.invalidField
  | some x =>
    let desc := (descOf d).keep x.desc
    let lowers := decide (desc.qpairs < s.usedPairs n) || decide (desc.ctrls < s.ctrlCount n) ||
      decide (desc.ns < x.usedNs) || decide (desc.capMib * 1048576 < x.usedBytes)
    if !descReserved d || !desc.rangesOk || !(x.state == .active || x.state == .quiesced) || lowers ||
        (desc.replicated != x.desc.replicated && x.mig.isSome) then s.reply c St.invalidField
    else if s.array.reshape.isSome && x.desc.capMib < desc.capMib then s.reply c St.reshapeInProgress
    else
      let inc := (desc.takes.zip x.desc.takes).map (fun y => y.1 - y.2)
      let bits := s.shortBits inc
      if bits != 0 then s.refusePools c n bits
      else
        let s := s.modSlice n (fun y => { y with desc := desc, qosOld := some y.qosNow.qosFields })
        let s := if x.desc.replicated && !desc.replicated then s.endRepl n else s
        let s := (s.writeSettings).capture 0x0601 [n, 1]
        s.answer c St.ok (BitVec.ofNat 32 n)

/-- Slice Create (0xC4): create or modify. -/
def execSliceCreate (e : Nat) (s : State) : Out :=
  .next (s.withCmd e 0xC4 false (fun c s =>
    if badDws c.cap 0x07FF0003 0 0 0 || 1024 < sliceOf c.cap || 1 < dwBits c.cap.dw10 1 0 then s.reply c St.invalidField
    else if c.cap.data.length < 1024 then s
    else if dwBits c.cap.dw10 1 0 = 0 then s.sliceMake c else s.sliceModify c))

/-! ### SLICE_QUIESCE, SLICE_QUIESCED, SLICE_RESUME (R147, R148) -/

/-- FORCE closes aborted every entry of the slice whose gate is open. -/
def State.forceClose (n : Nat) (s : State) : State :=
  let l := s.eng.cct.filter (fun c => c.slice == n && c.gate == .open)
  let s := s.abortList l St.abortedSqDeletion false
  s.modSlice n (fun x => { x with quiesceAborted := x.quiesceAborted + l.length })

/-- Slice Quiesce (0xC6). -/
def execSliceQuiesce (e : Nat) (s : State) : Out :=
  .next (s.withCmd e 0xC6 false (fun c s =>
    let n := sliceOf c.cap
    match s.slice n with
    | none => s.reply c St.invalidField
    | some x =>
      if badDws c.cap 0x07FF0000 1 0 0 then s.reply c St.invalidField
      else if x.state == .active || x.state == .quiescing then
        let s := if x.state == .active then
            (s.modSlice n (fun x => { x with state := .quiescing, quiesceAborted := 0 })).writeSettings else s
        let s := (s.modSlice n (fun x => { x with quiesce := x.quiesce ++ [e] })).waitCmd c
        if c.cap.dw11.getLsbD 0 then s.forceClose n else s
      else s.reply c St.ok))

/-- The slice's last entry has closed: it is quiesced, and Slice Quiesce completes. -/
def execSliceQuiesced (slice us : Nat) (s : State) : Out :=
  match s.slice slice with
  | none => .next s
  | some x =>
    if x.state != .quiescing || s.eng.cct.any (fun c => c.slice == slice && c.origin == 0) then .next s
    else
      let s := s.modSlice slice (fun x => { x with state := .quiesced, quiesce := [] })
      let s := (s.writeSettings).capture 0x0603 [slice, x.quiesceAborted, us]
      .next (x.quiesce.foldl (fun s i => s.answerEntry (some i) St.ok 0) s)

/-- What Resume does from a state with its flags; none is not in R147. -/
def resumeOk (st : SliceState) (promote force : Bool) : Bool :=
  match st with
  | .quiesced | .frozen => !promote && !force
  | .inDoubt => force && !promote
  | .replica => promote && !force
  | .unused | .active | .quiescing | .moved | .restoring => false

/-- Slice Resume (0xC7): the slice is active; a promoted replica's pairing ends (R148, R160). -/
def execSliceResume (e : Nat) (s : State) : Out :=
  .next (s.withCmd e 0xC7 false (fun c s =>
    let n := sliceOf c.cap
    match s.slice n with
    | none => s.reply c St.invalidField
    | some x =>
      if badDws c.cap 0x07FF0000 3 0 0 || !resumeOk x.state (c.cap.dw11.getLsbD 0) (c.cap.dw11.getLsbD 1) then
        s.reply c St.invalidField
      else if x.migState = 4 then s
      else
        let s := s.modSlice n (fun x => { x with state := .active })
        let s := if x.state == .replica then
            let ks := (n, x.key) :: s.slices.keySlots.filter (·.1 != n)
            let s := { s with slices := { s.slices with keySlots := ks } }
            (s.modSlice n (fun x => { x with desc := { x.desc with replicated := false }, repl := 0, detached := false })).capture
              0x060E [n, x.peerId]
          else s
        let s := s.writeSettings
        let s := if x.state == .quiesced then s else s.anaChange (fun (y : SliceS) => y.num == n)
        s.reply c St.ok))

/-! ### SLICE_DELETE (R147 to R149) -/

/-- Reset: controllers end, reservations that do not persist are cleared; the replica follows (R148, R156). -/
def State.resetSlice (n : Nat) (s : State) : State :=
  let s := s.endCtrls n
  let l := ((s.slice n).elim [] (·.nss)).filter (fun y => !y.resv.ptpl && y.resv != { gen := y.resv.gen })
  l.foldl (fun s y =>
    (s.modNs n y.nsid (fun z => { z with resv := { gen := z.resv.gen } })).forwardChange n
      (.reservation y.nsid [] none 0 y.resv.gen false)) s

/-- Delete: controllers end, the key is erased, every map unit is deallocated, the reservations return to their pools; the last
metering record stays. -/
def State.deleteSlice (x : SliceS) (s : State) : State :=
  let n := x.num
  let s := if x.isSource && x.repl != 0 then s.send (.peerDetach n) else s
  let s := (s.cancelMig n 1).endStream false x.peer x.peerId
  let s := ((s.endCtrls n).endPeer n).setResync n []
  let s := (s.modSlice n (fun y => { y with key := 0 }))
  let ks := s.slices.keySlots.filter (·.1 != n)
  let s := { s with slices := { s.slices with keySlots := ks } }
  let s := (s.eraseOldKey n).wipeSlice n
  let sl := s.slices
  let gone : List SliceS := sl.gone.filter (·.num != n) ++ sl.list.filter (·.num == n)
  let rest : List SliceS := sl.list.filter (·.num != n)
  let lost : List LostRange := s.store.lost.filter (·.slice != n)
  let jobs : List UnitJob := s.store.jobs.filter (·.slice != n)
  let s := { s with slices := { sl with list := rest, gone := gone }, store := { s.store with lost := lost, jobs := jobs } }
  s.writeSettings

/-- Slice Delete (0xC5): delete or reset. -/
def execSliceDelete (e : Nat) (s : State) : Out :=
  .next (s.withCmd e 0xC5 false (fun c s =>
    let n := sliceOf c.cap
    let reset := c.cap.dw11.getLsbD 0
    match s.slice n with
    | none => s.reply c St.invalidField
    | some x =>
      if badDws c.cap 0x07FF0000 1 0 0 then s.reply c St.invalidField
      else if x.state == .active || x.state == .quiescing then s.reply c St.sliceNotQuiesced
      else if reset && x.state != .quiesced then s.reply c St.invalidField
      else if x.migState = 4 || x.migState = 1 then s
      else
        let s := if reset then (s.resetSlice n).writeSettings else s.deleteSlice x
        (s.reply c St.ok).capture 0x0602 [n, b2n reset]))

/-! ### SLICE_FREEZE (R147, R165, R166) -/

/-- Copies the marked change regions of a migration to the destination as stored and clears their marks (R162, R164). -/
def State.copyMarked (sl : Nat) (s : State) : State :=
  match (s.slice sl).bind (·.mig) with
  | none => s
  | some m =>
    let s := s.modSlice sl (fun x => { x with mig := x.mig.map (fun m => { m with marked := [] }) })
    m.marked.foldl (fun s r =>
      match s.nsOf sl r.1 with
      | none => s
      | some n =>
        let stop := min (s.nsUnits n) (256 * (r.2 + 1))
        (s.regionRuns sl r.1 (256 * r.2) stop).foldl (fun s x =>
          let c := s.runForm sl x
          (s.send (.peerChange sl c)).meterAdd sl 13 (changeBytes c)) s) s

/-- Both ring associations to a neighbour are up (R84). -/
def State.ringUp (s : State) (nb : Nat) : Bool := ((s.fabric.nbs[nb]?).map (·.state)).getD 0 == 3

/-- What step 3 of the cut-over sends: key and secrets, namespaces and reservations, QoS parameters and metering totals, then the
commit. -/
def State.sendCommit (x : SliceS) (s : State) : State :=
  let k := x.mig.elim [] (fun m => [s.keyChange x m.nb m.id])
  ((s.sendAll x.num (k ++ x.nss.flatMap (·.layout))).sendAll x.num [.qos x.desc.qosFields, .totals x.meter.totals]).send
    (.migrateCommit x.num)

/-- Steps 2 and 3 of a cut-over, while both associations to the neighbour are up: the last marked regions, then the commit (R165). -/
def State.cutOver (n : Nat) (s : State) : State :=
  match s.slice n with
  | none => s
  | some x =>
    match x.mig with
    | none => s
    | some m =>
      if x.migState != 4 || m.committed || !s.ringUp m.nb then s
      else
        let s := (s.copyMarked n).modSlice n (fun x => { x with mig := x.mig.map (fun m => { m with committed := true }) })
        s.sendCommit x

/-- Slice Freeze (0xC8): without a migration the slice is frozen; while one is still opening the command waits; with one the cut-over
runs up to the commit, as soon as both associations are up (R147, R149, R165, R166). -/
def execSliceFreeze (e : Nat) (s : State) : Out :=
  .next (s.withCmd e 0xC8 false (fun c s =>
    let n := sliceOf c.cap
    match s.slice n with
    | none => s.reply c (if badDws c.cap 0x07FF0000 0 0 0 || n = 0 || 1024 < n then St.invalidField else St.sliceNotQuiesced)
    | some x =>
      if badDws c.cap 0x07FF0000 0 0 0 then s.reply c St.invalidField
      else if x.state != .quiesced || x.erase.isSome then s.reply c St.sliceNotQuiesced
      else
        match x.mig with
        | none =>
          ((s.modSlice n (fun x => { x with state := .frozen })).writeSettings.anaChange (fun (y : SliceS) => y.num == n)).reply c St.ok
        | some _ =>
          if x.migState = 1 then s
          else
            let f (m : Mig) : Mig := { m with waiting := some e, startAt := s.seed.now }
            let s := s.modSlice n (fun x => { x with state := .frozen, migState := 4, mig := x.mig.map f })
            (((s.writeSettings).anaChange (fun (y : SliceS) => y.num == n)).waitCmd c).cutOver n))

/-! ### SLICE_SAVE, SLICE_RESTORE (R161 to R164) -/

/-- The reason Slice Save gives for a migration it does not open; 0 when it may be opened (R163). -/
def State.saveReason (s : State) (x : SliceS) (nb : Nat) : Nat :=
  if !s.ringUp nb then 1
  else if x.desc.replicated then 3
  else if x.erase.isSome then 4
  else if !(x.state == .active || x.state == .quiesced) then 5
  else if x.mig.isSome then 6
  else 0

/-- Slice Save (0xC9): opens a migration, and waits for the neighbour; or cancels the open one. -/
def execSliceSave (e : Nat) (s : State) : Out :=
  .next (s.withCmd e 0xC9 false (fun c s =>
    let n := sliceOf c.cap
    match s.slice n with
    | none =>
      -- an unused slice is neither active nor quiesced (R163)
      let own := !(badDws c.cap 0x07FF0003 1 0xFFFFFFFF 0xFFFFFFFF || n = 0 || 1024 < n || dwBits c.cap.dw10 1 0 != 0)
      s.answer c St.invalidField (if own then (if s.ringUp (dwBits c.cap.dw11 0 0) then 5 else 1) else 0)
    | some x =>
      if badDws c.cap 0x07FF0003 1 0xFFFFFFFF 0xFFFFFFFF then s.reply c St.invalidField
      else
        let nb := dwBits c.cap.dw11 0 0
        match dwBits c.cap.dw10 1 0 with
        | 0 =>
          let r := s.saveReason x nb
          if r != 0 then s.answer c St.invalidField (BitVec.ofNat 32 r)
          else
            let m : Mig := { id := c.cap.dw12.toNat, nb := nb, converge := c.cap.dw13.toNat, waiting := some e,
                             startAt := s.seed.now }
            let s := s.modSlice n (fun x => { x with mig := some m, migState := 1 })
            (s.send (.migrateOpen n nb m.id x.desc.subnqn)).waitCmd c
        | 1 =>
          (match x.mig with
           | none => s.reply c St.invalidField
           | some m => if m.committed then s.reply c St.invalidField else (s.cancelMig n 1).reply c St.ok)
        | _ => s.reply c St.invalidField))

/-- Slice Restore (0xCA): accepts a migration or a replica under a descriptor that is checked as for a create, or cancels a
restoring slice. -/
def execSliceRestore (e : Nat) (s : State) : Out :=
  .next (s.withCmd e 0xCA false (fun c s =>
    let n := sliceOf c.cap
    let mode := dwBits c.cap.dw10 1 0
    if badDws c.cap 0x07FF0003 1 0xFFFFFFFF 0 || n = 0 || 1024 < n || mode = 3 then s.reply c St.invalidField
    else if mode = 2 then
      match s.slice n with
      | none => s.reply c St.invalidField
      | some x =>
        if x.state != .restoring then s.reply c St.invalidField
        else
          let s := s.deleteSlice x
          { s with slices := { s.slices with gone := s.slices.gone.filter (·.num != n) } }.reply c St.ok
    else if c.cap.data.length < 1024 then s
    else
      let d := descOf c.cap.data
      if !descReserved c.cap.data || !d.rangesOk || s.nqnTaken d.subnqn || s.slices.list.any (·.num == n) then
        s.reply c St.invalidField
      else if s.array.reshape.isSome then s.reply c St.reshapeInProgress
      else
        let bits := s.shortBits d.takes
        if bits != 0 then s.refusePools c n bits
        else
          let x := newSlice n (if mode = 0 then .restoring else .replica) d
          let x := { x with peer := dwBits c.cap.dw11 0 0, peerId := c.cap.dw12.toNat }
          let s := if mode = 0 then s.openStream false x.peer x.peerId else s
          ((s.addSlice x).writeSettings).reply c St.ok))

end Sys2Proof.Machine
end

