-- ==== Sys2Proof/Machine/Replication.lean ====
section
/-! DEFINITION. Replication and migration between ring neighbours: pairing, forwarded changes, acknowledgements, lost units and
their repair, pre-copy passes, commit and cancellation (R155 to R166). -/

namespace Sys2Proof.Machine

open Sys2Proof

/-- The downstream associations are up: the peer a source replicates to (R155). -/
def State.peerUp (s : State) : Bool := ((s.fabric.nbs[1]?).map (fun n => n.assocInit || n.assocTarget)).getD false

/-- Pairing is complete: key, layout and reservations go to the replica, and every region is synchronised (R155). -/
def execReplicationPairing (slice : Nat) (s : State) : Out :=
  match s.slice slice with
  | none => .next s
  | some x =>
    if !x.isSource || x.repl != 0 || !s.peerUp then .next s
    else
      let s := (s.setResync slice (s.allRegions x)).modSlice slice (fun x => { x with keySend := true })
      .next (s.startSync slice)

/-- Runs a peer's change in entry `e` of the system reserve: what it does at once is acknowledged at once, an extent when its staging is
durable; without a free entry it waits at the peer (R90, R156). -/
def State.runPeer (slice e nb : Nat) (c : PeerChange) (s : State) : Out :=
  match s.peerEntry slice e nb c with
  | none => .next s
  | some s =>
    let r := (s.heardOn nb false).applyPeer slice e c
    (if r.1 then (r.2.peerFree e).send (.peerAck slice) else r.2).done

/-- A replica applies a forwarded change of the source it is paired with (R155, R156). -/
def execForwardedChangeReceived (p : PeerNote) (x : PeerStore) (s : State) : Out :=
  match s.slice p.slice with
  | none => .next s
  | some y =>
    if y.state != .replica || y.detached || !y.isFrom p.src || s.store.flush.isSome then .next s
    else s.runPeer p.slice x.e p.src.nb x.change

/-- The replica's acknowledgement of a change: the unit's next change may go, a write it was for may complete, or a region of the
synchronisation is done (R156 to R158). -/
def execReplicaAck (slice nsid mu : Nat) (s : State) : Out :=
  match s.slice slice with
  | none => .next s
  | some x =>
    match x.outstanding.find? (fun r => r.1 == nsid && r.2.1 == mu) with
    | none => .next s
    | some r =>
      let s := (s.modSlice slice (fun x => { x with outstanding := x.outstanding.filter (· != r) })).heardOn 1 true
      let s := s.pumpQueued slice
      match r.2.2.2 with
      | some e => .next (s.peerDone slice e)
      | none => .next (s.syncRegion slice nsid (regionOf mu))

/-- The replica has lost a unit: its region is marked, which ends a repair awaited in it, and copied again (R158, R159). -/
def execLostUnitReport (slice nsid mu : Nat) (s : State) : Out :=
  match s.slice slice with
  | none => .next s
  | some x =>
    if !x.isSource || x.repl = 0 then .next s
    else
      let s := s.markLost slice nsid mu 1
      if x.repl = 1 then .next (s.startSync slice)
      else if x.repl = 2 then .next (s.copyRegion slice nsid (regionOf mu))
      else .next s

/-- The replica's extent for a lost unit is written locally and clears the loss; commands that waited for it go on (R159,
R370 step 4). -/
def execPeerRepairComplete (slice nsid mu : Nat) (x : Extent) (s : State) : Out :=
  if !s.canRepair slice nsid mu || s.store.flush.isSome then .next s
  else
    match s.lowBuf (extGran x) with
    | none => .next s
    | some off =>
      let n := s.unitLbas (s.lbafOf slice nsid)
      let b : BufExt := { off := off, len := extGran x, slice := slice, nsid := nsid, mu := mu, x := x }
      let before := s.rebuildSet
      let s := { s with store := { s.store with buf := s.store.buf ++ [b] } }
      let s := s.stageExtent slice nsid mu off x (List.range n) none
      let mine := s.store.jobs.filter (fun j => j.reading && j.slice == slice && j.nsid == nsid && j.mu == mu)
      let s := mine.foldl (fun s j => (s.modJob j.id (fun j => { j with x := some x })).unholdRes j.entry) s
      let s := ((s.settle before).gatherHost).wakeHeld
      -- the unit is served from a peer (R167)
      ((s.meterAdd slice 15 1).capture 0x0609 [slice, nsid, mu % 2 ^ 32, 1]).done

/-- The source's detach reaches its replica, which stays a replica (R149). -/
def execReplicaDetachReceived (p : PeerNote) (s : State) : Out :=
  match s.slice p.slice with
  | none => .next s
  | some x => .next (if x.state == .replica && x.isFrom p.src then s.modSlice p.slice (fun x => { x with detached := true }) else s)

/-! ### Migration -/

/-- Change regions of 256 map units of every namespace (R164). -/
def State.changeRegions (s : State) (x : SliceS) : List (Nat × Nat) :=
  x.nss.flatMap (fun n => (List.range (ceilDiv (s.nsUnits n) 256)).map (fun i => (n.nsid, i)))

/-- Bytes of the marked regions. -/
def State.markedBytes (s : State) (m : Mig) : Nat := m.marked.length * 256 * s.unitBytes

/-- The destination's answer to an opened migration: no matching Restore, too small, or accepted, when Slice Save completes and
the pre-copy begins with every region marked (R163, R164). -/
def execMigrationAcceptReceived (slice : Nat) (fits : Option Bool) (s : State) : Out :=
  match s.slice slice with
  | none => .next s
  | some x =>
    match x.mig with
    | none => .next s
    | some m =>
      if x.migState != 1 then .next s
      else
        let s := s.heardOn m.nb true
        let closed := s.modSlice slice (fun x => { x with mig := none, migState := 0 })
        match fits with
        | none => .next (closed.answerEntry m.waiting St.invalidField 2)
        | some false => .next ((closed.answerEntry m.waiting St.poolExhausted 0x100).capture 0x060C [slice, 0x100])
        | some true =>
          let all := s.changeRegions x
          let s := s.modSlice slice (fun x =>
            { x with migState := 2, mig := x.mig.map (fun m => { m with marked := all, waiting := none }) })
          .next (((s.openStream true m.nb m.id).answerEntry m.waiting St.ok 0).copyMarked slice)

/-- A pre-copy pass ends: with at most CONVERGE marked the migration is converged; the next pass copies what writes marked
(R164). -/
def execPrecopyPassComplete (slice : Nat) (s : State) : Out :=
  match s.slice slice with
  | none => .next s
  | some x =>
    match x.mig with
    | none => .next s
    | some m =>
      if !(x.migState = 2 || x.migState = 3) || m.committed then .next s
      else
        let left := s.markedBytes m
        let lim := (if m.converge = 0 then 256 else m.converge) * 1048576
        let s := s.modSlice slice (fun x => { x with mig := x.mig.map (fun m => { m with passes := m.passes + 1 }) })
        let s := if x.migState = 2 && left ≤ lim then
            (s.modSlice slice (fun x => { x with migState := 3 })).capture 0x0605 [slice, m.passes + 1, left / 1048576, m.id]
          else s
        .next (s.copyMarked slice)

/-- The destination stores what arrives of its own migration while it is restoring (R161, R162). -/
def execMigrationDataReceived (p : PeerNote) (x : PeerStore) (s : State) : Out :=
  match s.slice p.slice with
  | none => .next s
  | some y =>
    if y.state != .restoring || !y.isFrom p.src || s.store.flush.isSome then .next s else s.runPeer p.slice x.e p.src.nb x.change

/-- The commit makes the destination active; its history starts with the migrated totals (R165). -/
def execMigrationCommitReceived (p : PeerNote) (s : State) : Out :=
  let slice := p.slice
  match s.slice slice with
  | none => .next s
  | some x =>
    if x.state != .restoring || !x.isFrom p.src then .next s
    else
      let s := (s.endStream false x.peer x.peerId).modSlice slice (fun x => { x with state := .active, meter := { x.meter with migrated := true } })
      let s := { s with slices := { s.slices with keySlots := (slice, x.key) :: s.slices.keySlots.filter (·.1 != slice) } }
      .next (((s.writeSettings).anaChange (fun (y : SliceS) => y.num == slice)).send (.commitAck slice))

/-- The destination has taken over: the source is moved, and Slice Freeze completes (R165). -/
def execMigrationCommitAck (slice ms : Nat) (s : State) : Out :=
  match s.slice slice with
  | none => .next s
  | some x =>
    match x.mig with
    | none => .next s
    | some m =>
      if !m.committed then .next s
      else
        let s := (s.heardOn m.nb true).modSlice slice (fun x => { x with state := .moved, mig := none, migState := 0 })
        let s := s.endStream true m.nb m.id
        let s := ((s.writeSettings).anaChange (fun (y : SliceS) => y.num == slice)).answerEntry m.waiting St.ok 0
        .next (s.capture 0x0604 [slice, 0, m.id, ms])

/-- A cancellation reaches the destination, which discards its data and stays restoring (R166). -/
def execMigrationCancelReceived (p : PeerNote) (s : State) : Out :=
  match s.slice p.slice with
  | none => .next s
  | some x => if x.state != .restoring || !x.isFrom p.src then .next s else (s.discardCopy x).done

/-- What a neighbour's loss does to migrations: an open one is cancelled; in a cut-over the source stays frozen before the commit and is
in doubt after it, and Slice Freeze says which; a slice that was restoring from it discards what was copied (R166). -/
def State.migPeerLost (nb : Nat) (s : State) : State :=
  s.slices.list.foldl (fun s x =>
    match x.mig with
    | none => if x.state == .restoring && x.peer == nb then (s.discardCopy x).capture 0x0606 [x.num, 2, x.peerId] else s
    | some m =>
      if m.nb != nb then s
      else if m.committed then
        let s := (s.endStream true m.nb m.id).modSlice x.num (fun x => { x with state := .inDoubt, mig := none, migState := 0 })
        let s := ((s.writeSettings).anaChange (fun (y : SliceS) => y.num == x.num)).answerEntry m.waiting St.ok 2
        s.capture 0x0604 [x.num, 2, m.id, s.since m.startAt / 1000]
      else if x.migState = 4 then
        let s := (s.endStream true m.nb m.id).modSlice x.num (fun x => { x with mig := none, migState := 0 })
        let s := ((s.writeSettings).answerEntry m.waiting St.ok 1).send (.migrateCancel x.num)
        s.capture 0x0604 [x.num, 1, m.id, s.since m.startAt / 1000]
      else s.cancelMig x.num 2) s

end Sys2Proof.Machine
end

