-- ==== Sys2Proof/Machine/LogPages.lean ====
section
/-! DEFINITION. The log pages by their fields (R122, R128, R170, R252 to R255, R323, R346, R478, R555, R559). A field is its
first byte, its length in bytes and its little-endian value. Where the chapters name a page and leave its layout to the NVMe
standard, the layout is the standard's (PRESUMED, assumption 20). -/

namespace Sys2Proof.Machine

open Sys2Proof

/-! ### Pages every slice has -/

/-- Log pages a controller accepts (R19, R122). -/
def logPages (k : Ctrl) : List Nat :=
  if k.discovery then [0x00, 0x01, 0x70]
  else [0x00, 0x01, 0x02, 0x03, 0x04, 0x05, 0x0C, 0x80, 0x81] ++
    (if k.slice = 0 then [0xC0, 0xC1, 0xC2, 0xC3, 0xC4, 0xC5, 0xC6] else [])

/-- 0x00 Supported Log Pages. -/
def page00 (k : Ctrl) : Nat × Fields := (1024, (logPages k).map (fun p => (4 * p, 4, 1)))

/-- 0x01 Error Information: 64 entries, newest first (R128). -/
def page01 (k : Ctrl) : Nat × Fields :=
  (4096, rowsF 0 64 k.errs (fun x => [(0, 8, x.count), (8, 2, x.sqid), (10, 2, x.cid), (12, 2, x.status * 2), (16, 8, x.lba),
    (24, 4, x.nsid)]))

/-- A metering counter of a slice with what the minute under way has added (R167). -/
def SliceS.meterNow (x : SliceS) (i : Nat) : Nat := x.meter.totals.getD i 0 + x.meter.bank0.getD i 0 + x.meter.bank1.getD i 0

/-- Bytes in thousands of 512-byte units, rounded up (R252). -/
def dataUnits (b : Nat) : Nat := ceilDiv b 512000

/-- Highest temperature of an online carrier (R252). -/
def State.hotCarrier (s : State) : Int := s.onlineCars.foldl (fun a k => max a (s.carrier k).temp) (-273)

/-- Highest W over the online carriers in percent (R252). -/
def State.usedPct (s : State) : Nat := min 255 (s.onlineCars.foldl (fun a k => max a (s.wPpm k)) 0 / 10000)

/-- Slices a controller reports on: its own, or all for the management slice. -/
def State.reported (s : State) (k : Ctrl) : List SliceS := if k.slice = 0 then s.slices.list else s.slices.list.filter (·.num == k.slice)

/-- 0x02 SMART / Health Information (R252). -/
def State.page02 (s : State) (k : Ctrl) : Nat × Fields :=
  let l := s.reported k
  (512, [(0, 1, s.critWarn k), (1, 2, s.compositeK), (3, 1, s.spare), (4, 1, 10), (5, 1, s.usedPct), (6, 1, 0),
    (32, 16, dataUnits (sumBy l (·.readBytes))), (48, 16, dataUnits (sumBy l (·.writeBytes))),
    (64, 16, sumBy l (·.meterNow 0)), (80, 16, sumBy l (·.meterNow 1)), (96, 16, sumBy l (·.busyMs) / 60000),
    (112, 16, s.seed.pcycle), (128, 16, s.seed.hours), (144, 16, s.journal.unsafeCount), (160, 16, sumBy l (·.lostUnits)),
    (176, 16, sumBy l (·.errCount) + (if k.slice = 0 then s.slices.mgErrCount else 0)), (192, 4, s.thermal.warnMin),
    (196, 4, s.thermal.critMin), (200, 2, s.compositeK), (202, 2, (s.hotCarrier + 273).toNat),
    (204, 2, (s.bank.tempC + 273).toNat), (216, 16, 0)])

/-- Versions of firmware slots 1 and 2 as their copies in NOR hold them; zero when empty (R518). -/
def State.slotVersion (s : State) (n : Nat) : Nat :=
  match (s.nor.slots.getD (n - 1) none, s.nor.slots.getD (n + 1) none) with
  | (some b, _) => b.version.toNat
  | (none, some b) => b.version.toNat
  | (none, none) => 0

/-- The slot the next cold boot runs: the candidate's once it is marked for it, else the confirmed one (R520, R531). -/
def State.nextSlot (s : State) : Nat := if s.fw.act.state = 4 then 3 - s.fw.act.confirmed else s.fw.act.confirmed

/-- 0x03 Firmware Slot Information (R519). -/
def State.page03 (s : State) : Nat × Fields :=
  let next := if s.nextSlot = s.fw.activeSlot then 0 else s.nextSlot
  (512, [(0, 1, s.fw.activeSlot + 16 * next), (8, 8, s.slotVersion 1), (16, 8, s.slotVersion 2)])

/-- 0x04 Changed Namespace List. -/
def page04 (k : Ctrl) : Nat × Fields := (4096, rowsF 0 4 (sortNat k.changedNs) (fun n => [(0, 4, n)]))

/-- 0x05 Commands Supported and Effects. -/
def page05 (k : Ctrl) : Nat × Fields :=
  let admin := if k.discovery then discoveryOpcodes
    else adminOpcodes ++ (if k.slice = 0 then mgmtOpcodes else [])
  (4096, (admin ++ [0x7F]).map (fun o => (4 * o, 4, 1)) ++
    (if k.slice = 0 then [] else ioOpcodes.map (fun o => (1024 + 4 * o, 4, 1))))

/-! ### ANA (R68, R69, R71) -/

/-- A port is healthy while all its logical MACs are up. -/
def State.portHealthy (s : State) (p : Nat) : Bool :=
  (List.range 8).all (fun m => macPort m != p || (match s.fabric.macs[m]? with | none => true | some x => !x.present || x.up))

/-- ANA state of a group on a controller: 1 Optimized, 2 Non-Optimized, 3 Inaccessible, 15 Change. -/
def State.anaOf (s : State) (k : Ctrl) (group : Nat) : Nat :=
  match s.slice k.slice with
  | none => 1
  | some x =>
    match x.state with
    | .frozen => if x.migState = 4 then 15 else 3
    | .moved | .inDoubt | .restoring | .replica => 3
    | .unused | .active | .quiescing | .quiesced =>
      if s.portHealthy (group - 1) && macPort k.mac != group - 1 then 2 else 1

/-- 0x0C Asymmetric Namespace Access: the two groups of the slice; LSP bit 0 leaves the namespaces out. -/
def State.page0C (s : State) (k : Ctrl) (rgo : Bool) : Nat × Fields :=
  let nss := sortNat (((s.slice k.slice).elim [] (·.nss)).map (·.nsid))
  let ids (g : Nat) : List Nat := if rgo then [] else nss.filter (fun n => n % 2 == g % 2)
  let desc (g : Nat) : Fields :=
    [(0, 4, g), (4, 4, (ids g).length), (8, 8, s.fabric.anaCount), (16, 1, s.anaOf k g)] ++ rowsF 32 4 (ids g) (fun n => [(0, 4, n)])
  let len1 := 32 + 4 * (ids 1).length
  (16 + len1 + 32 + 4 * (ids 2).length,
    [(0, 8, s.fabric.anaCount), (8, 2, 2)] ++ shiftF 16 (desc 1) ++ shiftF (16 + len1) (desc 2))

/-- Subsystems that accept connections on an interface (R55, R165). -/
def State.subsysOn (s : State) (i : Nat) : List (List Byte) :=
  if s.mgmtIface i then [deviceNqn]
  else (s.slices.list.filter (fun x => x.state != .unused && x.state != .replica && x.state != .restoring)).map (·.desc.subnqn)

/-- 0x70 Discovery: one entry for each subsystem and transport of the interface. TRADDR as the four bytes of the address, GENCTR as the ANA
change count and PORTID as the interface number are the model's (DESIGN CHOICE, assumption 87). -/
def State.page70 (s : State) (k : Ctrl) : Nat × Fields :=
  let subs := s.subsysOn k.iface
  let ip := (s.fabric.ifaces.find? (·.num == k.iface)).elim 0 (·.ip4)
  let rows := subs.flatMap (fun q => [(3, q), (1, q)])
  (1024 + 1024 * rows.length, [(0, 8, s.fabric.anaCount), (8, 8, rows.length), (16, 2, 0)] ++
    rowsF 1024 1024 rows (fun x => [(0, 1, x.1), (1, 1, 1), (2, 1, 2), (4, 2, k.iface), (6, 2, 0xFFFF), (8, 2, 256),
      (32, 4, leNat (nameBytes "4420")), (256, 256, leNat x.2), (512, 4, ip.toNat)]))

/-- 0x80 Reservation Notification: the oldest, and how many wait. -/
def page80 (k : Ctrl) : Nat × Fields :=
  (64, match k.resLog with
    | [] => [(8, 1, 0), (9, 1, 0)]
    | x :: _ => [(0, 8, 1), (8, 1, x.1), (9, 1, min 255 (k.resLog.length - 1)), (12, 4, x.2)])

/-- 0x81 Sanitize Status. -/
def State.page81 (s : State) (k : Ctrl) : Nat × Fields :=
  let x := (s.slice k.slice).getD { num := k.slice }
  (512, [(0, 2, if x.sanStat = 2 then 0 else 0xFFFF), (2, 2, x.sanStat), (4, 4, x.sanDw10.toNat)])

/-! ### 0xC0 extended health (R254, R255) -/

/-- A total of page 0xC0 as it stands, the regime under way included. -/
def State.total (s : State) (i : Nat) : Nat :=
  let now := s.since s.upkeep.regimeAt / 1000
  s.upkeep.totals.getD i 0 + (if (i = 19 && s.upkeep.regime == .urgent) || (i = 20 && s.upkeep.regime == .held) then now else 0)

/-- WA_MILLI over the last 24 operating hours; 1,000 while nothing was placed. -/
def State.waMilli (s : State) : Nat :=
  let old := s.upkeep.waHist.find? (fun x => decide (s.seed.hours ≤ x.1 + 24))
  let h := s.total 0 - old.elim 0 (·.2.1)
  let r := s.total 1 - old.elim 0 (·.2.2)
  if h = 0 then 1000 else (h + r) * 1000 / h

/-- The record of a carrier slot (R255). -/
def State.carHealth (s : State) (k : Nat) : Fields :=
  match s.upkeep.eol.find? (·.slot == k) with
  | none => []
  | some x =>
    let w := s.wearSpan k
    let m := s.wearSum k
    let f := b2n (s.onlineCars.contains k) + 2 * b2n x.warned + 4 * b2n x.reached + 8 * b2n !x.predicted
    [(0, 1, f), (1, 1, ((s.carrier k).facts.map (·.eeprom.cell)).getD 0), (2, 2, min 0xFFFF (s.wPpm k / 100)),
     (4, 4, s.rated (128 * k)), (8, 4, w.1 / 16), (12, 4, w.2 / 16), (16, 4, m.2 / max 1 m.1 / 16), (20, 4, x.resInit),
     (24, 4, s.resLeftOf k), (28, 4, x.retired), (32, 4, x.days.getD 0xFFFFFFFF), (36, 1, x.cause), (40, 4, x.rate),
     (44, 4, s.seed.hours - x.admitH)]

/-- 0xC0, extended health. -/
def State.pageC0 (s : State) : Nat × Fields :=
  let u := s.upkeep
  let flags := b2n u.estimated + 2 * b2n u.fullLap + 4 * b2n (u.regime == .urgent) + 8 * b2n (u.regime == .held) +
    16 * b2n (u.eol.any (·.warned))
  let starve := max 1 (s.fld Reg.MNT_RET_CFG1 31 16)
  let starved := (u.bands.filter (fun b => b.st == .erasing && starve * 1000 < s.since b.erasingAt)).length
  (1536, [(0, 2, 1), (2, 2, 1536), (4, 4, flags), (8, 4, s.freeCount),
    (12, 4, (u.bands.filter (fun b => b.st == .erasePending || b.st == .erasing)).length), (16, 4, s.nativeBands),
    (20, 4, s.freeTarget), (24, 4, s.freeLow), (28, 4, s.freeCrit)] ++
    (List.range 21).map (fun i => (32 + 16 * i, 16, s.total i)) ++
    [(368, 4, u.lastLapH), (372, 4, s.lapProgress), (376, 4, u32 u.maxSuspends), (380, 4, u32 u.maxEraseMs),
     (384, 4, starved), (388, 4, u32 s.waMilli)] ++
    rowsF 512 64 (List.range 16) s.carHealth)

/-! ### 0xC1 slices (R170) -/

/-! ### 0xC2 to 0xC6 -/

/-- An event record in 32 bytes (R546). -/
def EvRec.fields (r : EvRec) : Fields :=
  [(0, 2, r.code), (2, 1, r.sev), (3, 1, r.flags), (4, 4, r.hours), (8, 4, r.ms), (12, 4, r.pcycle)] ++
    rowsF 16 4 r.params (fun p => [(0, 4, p)])

/-- 0xC2, the event log (R555). -/
def State.pageC2 (s : State) : Nat × Fields :=
  let e := s.events
  (64 + 32 * e.log.length, [(0, 2, 1), (2, 2, 32), (4, 4, 262144), (8, 4, e.log.length), (12, 4, e.first),
    (16, 4, e.dropped), (20, 1, b2n e.full + 2 * b2n (e.dropped == 0xFFFFFFFF) + 4 * b2n e.bootOvf)] ++
    rowsF 64 32 e.log (·.fields))

/-- 0xC3, sticky status (R559). -/
def State.pageC3 (s : State) (cleared : Bool) : Nat × Fields :=
  (640, [(0, 2, 1), (2, 2, 640), (4, 1, b2n cleared + 2 * b2n s.alertLow), (8, 4, s.stickySum 0 32), (12, 4, s.stickySum 32 4)] ++
    rowsF 64 16 (List.range 36) (fun g =>
      let x := s.events.groups.getD g (0, 0, 0)
      [(0, 4, (s.sticky g).toNat), (4, 4, (s.reg (Reg.ALERT_MASK + 4 * g)).toNat), (8, 4, x.1), (12, 2, x.2.1), (14, 1, x.2.2)]))

/-- Clears the sticky bits a page has reported (R559). -/
def State.clearReported (s : State) : State :=
  (List.range 36).foldl (fun s g => s.setReg (Reg.STICKY + 4 * g) 0) s

/-- A carrier's record of page 0xC4 (R346). -/
def State.carFields (s : State) (k : Nat) : Fields :=
  let c := s.carrier k
  let dies := s.array.dies.filter (fun d => !d.old && dieCar d.idx == k)
  let n (st : Nat) : Nat := (dies.filter (fun d => d.st == st)).length
  let ee := c.facts.map (·.eeprom)
  let r0 := (s.chan (2 * k)).rate
  let r1 := (s.chan (2 * k + 1)).rate
  [(0, 1, c.st), (1, 1, s.carAttn k),
   (2, 1, b2n c.present + 2 * b2n c.pwrOn + 4 * b2n (ee.elim false (fun e => e.readable && e.tagOk && e.crcOk)) +
     8 * b2n c.i2cErr + 16 * b2n c.gateClosed),
   (3, 1, c.cause), (4, 2, (dies.filter (fun d => !d.refused)).length), (6, 2, n 3), (8, 2, n 4), (10, 2, n 2),
   (12, 2, i16 c.temp), (14, 2, (s.snsVal k).toNat), (16, 8, (c.record.map (·.epoch)).getD 0), (24, 4, c.insertH),
   (28, 4, (s.upkeep.bands.filter (fun b => b.members.any (fun m => dieCar m.die == k))).length),
   (32, 32, leNat (ee.elim [] (·.serial))), (64, 32, leNat (ee.elim [] (·.model))), (96, 4, ee.elim 0 (·.rated)),
   (100, 1, ee.elim 0 (·.cell)), (101, 1, max r0 r1), (104, 8, c.moved)]

/-- 0xC4, array and carriers (R346). -/
def State.pageC4 (s : State) : Nat × Fields :=
  let a := s.array
  let g := s.geomAt 0xFFFFFFFF
  let df := (s.dForce g.1 g.2).getD 0
  let rs := a.reshape
  (2176, [(0, 2, 1), (2, 2, 2176), (4, 16, a.arrayId.elim 0 (·.toNat)), (20, 8, a.epoch), (28, 1, a.d), (29, 1, a.p), (30, 1, df),
    (31, 1, b2n rs.isSome), (32, 1, rs.elim a.d (·.1)), (33, 1, rs.elim a.p (·.2.1)),
    (36, 4, rs.elim 0xFFFFFFFF (·.2.2.1)), (40, 4, s.upkeep.bands.length), (44, 4, s.rebuildSet.length),
    (48, 8, s.upkeep.setBytes), (56, 4, s.rebuildBytesIn 1000 / 1000000)] ++
    rowsF 128 128 (List.range 16) s.carFields)

/-- One lost range before another in page 0xC5. -/
def LostRange.before (a b : LostRange) : Bool :=
  if a.slice != b.slice then decide (a.slice < b.slice)
  else if a.nsid != b.nsid then decide (a.nsid < b.nsid) else decide (a.slba ≤ b.slba)

def insertLost (r : LostRange) : List LostRange → List LostRange
  | [] => [r]
  | a :: t => if r.before a then r :: a :: t else a :: insertLost r t

/-- 0xC5, lost ranges, sorted by slice, namespace and SLBA (R323). -/
def State.pageC5 (s : State) : Nat × Fields :=
  let l := s.store.lost.foldr insertLost []
  (64 + 32 * l.length, [(0, 2, 1), (2, 2, 32), (4, 4, l.length), (8, 8, s.store.lostGen), (16, 1, b2n s.store.overflow)] ++
    rowsF 64 32 l (fun r => [(0, 2, r.slice), (2, 1, r.cause), (3, 1, b2n r.repair), (4, 4, r.nsid), (8, 8, r.slba), (16, 8, r.nlb),
      (24, 4, r.hours), (28, 4, r.band.getD 0xFFFFFFFF)]))

/-- Bytes of the fields of a minute record after MINUTE, in order (R478). -/
def tempWidths : List Nat := [1, 1, 1, 1, 1, 1, 2, 2, 2]

/-- 0xC6, the temperature history (R478). -/
def State.pageC6 (s : State) : Nat × Fields :=
  let t := s.thermal
  let offs := [4, 5, 6, 7, 8, 9, 10, 12, 14]
  (23232, [(0, 2, 1), (4, 4, 23232), (8, 2, t.recs.length), (10, 1, b2n (t.recs.length < 1440)), (11, 1, t.state),
    (12, 4, (t.recs.head?.map (·.minute)).getD 0), (16, 2, i16 t.tj), (18, 2, i16 t.lifeMax), (20, 4, t.lifeMaxH),
    (24, 4, u32 t.throttleMin), (28, 4, t.trips)] ++
    rowsF 64 4 t.hist (fun n => [(0, 4, u32 n)]) ++
    rowsF 192 16 t.recs (fun r => (0, 4, r.minute) ::
      ((offs.zip tempWidths).zip r.fields).map (fun x => (x.1.1, x.1.2, unsigned (8 * x.1.2) x.2))))

/-! ### One page -/

/-- The page a request names: its length and fields; none when the slice does not have it (R19, R122) or the LSI is none of its
(R170). -/
def State.pageFor (s : State) (k : Ctrl) (lid lsp lsi : Nat) : Option (Nat × Fields) :=
  if !(logPages k).contains lid then none
  else
    match lid with
    | 0x00 => some (page00 k)
    | 0x01 => some (page01 k)
    | 0x02 => some (s.page02 k)
    | 0x03 => some s.page03
    | 0x04 => some (page04 k)
    | 0x05 => some (page05 k)
    | 0x0C => some (s.page0C k (lsp % 2 == 1))
    | 0x70 => some (s.page70 k)
    | 0x80 => some (page80 k)
    | 0x81 => some (s.page81 k)
    | 0xC0 => some s.pageC0
    | 0xC1 => s.pageC1 lsi
    | 0xC2 => some s.pageC2
    | 0xC3 => some (s.pageC3 (lsp == 1))
    | 0xC4 => some s.pageC4
    | 0xC5 => some s.pageC5
    | _ => some s.pageC6

end Sys2Proof.Machine
end

