-- ==== Sys2Proof/Machine/AdminPages.lean ====
section
/-! DEFINITION. Get Log Page and Identify (R119, R121, R122, R124 to R127, R432, R519, R560, R590). Where the chapters name an
Identify structure and leave the places of its fields to the NVMe standard, the places are the standard's (PRESUMED,
assumption 20). -/

namespace Sys2Proof.Machine

open Sys2Proof

/-! ### GET_LOG_PAGE (R122, R559, R560) -/

/-- LSP, RAE, byte offset of a Get Log Page. -/
def lspOf (c : Capsule) : Nat := dwBits c.dw10 14 8
def raeOf (c : Capsule) : Bool := c.dw10.getLsbD 15
def logOff (c : Capsule) : Nat := c.dw12.toNat + c.dw13.toNat * 2 ^ 32

/-- A read of a page unmasks the notices that name it; 0xC2 and 0xC3 unmask every group (R560, R561). -/
def unmasks (lid : Nat) (n : Notice) : Bool := if lid = 0xC2 || lid = 0xC3 then n.type == 7 else n.lid == lid

/-- Reports pending notices while a request and a notice that is not masked are left. -/
def State.reportAll (c : Nat) (s : State) : Nat → State
  | 0 => s
  | fuel + 1 => (s.reportNotice c).reportAll c fuel

/-- What a read of a page with RAE clear does to its controller. -/
def State.readPage (c lid : Nat) (s : State) : State :=
  let s := s.modCtrl c (fun k =>
    { k with
      maskedN := k.maskedN.filter (fun n => !unmasks lid n)
      changedNs := if lid = 0x04 then [] else k.changedNs
      resLog := if lid = 0x80 then k.resLog.drop 1 else k.resLog })
  s.reportAll c 8

/-- Get Log Page (0x02): the part of the page that the command asks for, from one capture. -/
def execGetLogPage (e : Nat) (s : State) : Out :=
  .next (s.withCmd e 0x02 false (fun c s =>
    match s.ctrl c.cntl with
    | none => s
    | some k =>
      let lid := lidOf c.cap
      if !(logPages k).contains lid then s.reply c St.invalidLogPage
      else if lid = 0xC3 && 1 < lspOf c.cap then s.reply c St.invalidField
      else
        match (if lid = 0xC1 then c.page else s.pageFor k lid (lspOf c.cap) (lsiOf c.cap)) with
        | none => s.reply c St.invalidField
        | some (len, f) =>
          if len < logOff c.cap then s.reply c St.invalidField
          else
            let s := s.finish e St.ok 0 (.page (logOff c.cap) (logBytes c.cap) f)
            let s := if lid = 0xC3 && lspOf c.cap = 1 then s.clearReported else s
            if raeOf c.cap then s else s.readPage k.id lid))

/-! ### Identify structures -/

/-- A power state descriptor: MP, NOPS, ENLAT, EXLAT, and the relative values (R432). -/
def psDesc (i mp enlat exlat : Nat) : Fields :=
  [(0, 2, mp), (3, 1, if i = 0 then 0 else 2), (4, 4, enlat), (8, 4, exlat), (12, 1, i), (13, 1, i), (14, 1, i), (15, 1, i),
   (16, 2, 0), (20, 2, 0)]

/-- MP of power state 4 in 0.01 W, by the L4_LINK of each port (R425). -/
def State.mpL4 (s : State) : Nat :=
  s.fabric.l4link.foldl (fun a l => a + (if l = 0 then 600 else if l = 1 then 60 else 0)) 140

/-- The five power state descriptors. -/
def State.psDescs (s : State) : Fields :=
  shiftF 2048 (psDesc 0 5200 0 0) ++ shiftF 2080 (psDesc 1 2200 1 2) ++ shiftF 2112 (psDesc 2 900 20 30) ++
  shiftF 2144 (psDesc 3 350 2000 500) ++ shiftF 2176 (psDesc 4 s.mpL4 50000 20000)

/-- SUBNQN of a controller's subsystem (R55, R74, R136, R539). -/
def State.subnqnOf (s : State) (k : Ctrl) : List Byte :=
  if k.discovery then discoveryNqn
  else if k.ring.isSome then ringNqn
  else if k.slice = 0 then deviceNqn else ((s.slice k.slice).map (·.desc.subnqn)).getD []

/-- NN of a controller: its slice's namespace reservation (R590). -/
def State.nnOf (s : State) (k : Ctrl) : Nat := ((s.slice k.slice).map (·.desc.ns)).getD 0

/-- CNS 0x01, Identify Controller. -/
def State.idCtrl (s : State) (k : Ctrl) : Fields :=
  let cap := ((s.slice k.slice).map (·.desc.capMib)).getD 0 * 1048576
  let used := sumBy (((s.slice k.slice).map (·.nss)).getD []) s.nsCharge
  [(64, 8, s.fw.running.version.toNat), (77, 1, 8), (78, 2, k.id), (80, 4, Config.nvmeVs.toNat),
   (92, 4, 0x0B00), (111, 1, if k.discovery then 2 else if k.slice = 0 then 3 else 1),
   (256, 2, if k.slice = 0 then 0x000E else 0x000A), (258, 1, 3), (259, 1, 7), (260, 1, 0x14), (262, 1, 63), (263, 1, 4), (265, 1, 1),
   (266, 2, 368), (268, 2, 373), (270, 2, 1), (280, 16, cap), (296, 16, cap - used), (319, 1, 1), (320, 2, 1), (328, 4, 3),
   (344, 4, 2), (348, 4, 2), (512, 1, 0x66), (513, 1, 0x44), (516, 4, s.nnOf k), (520, 2, 0x01AD), (522, 2, 0), (524, 1, 6),
   (525, 1, 0), (526, 2, 0), (528, 2, 0), (768, 256, leNat (s.subnqnOf k)), (1792, 4, 516), (1796, 4, 1)] ++ s.psDescs

/-- ANA group of a namespace (R68). -/
def anaGroup (nsid : Nat) : Nat := if nsid % 2 = 1 then 1 else 2

/-- The LBA formats (R125). -/
def idFormats : Fields :=
  [(25, 1, 2), (27, 1, 1), (28, 1, 0x17), (33, 1, 0x19), (128, 4, 9 * 65536), (132, 4, 12 * 65536), (136, 4, 12 * 65536 + 8)]

/-- Identify Namespace of a namespace (R68, R118, R125 to R127, R174). -/
def State.idNs (s : State) (n : Ns) : Fields :=
  let b := lbaSize n.lbaf
  let au := s.unitBytes / b - 1
  [(0, 8, n.nsze), (8, 8, n.nsze), (16, 8, n.nsze), (24, 1, 2), (26, 1, n.lbaf + (if n.lbaf = 2 then 16 else 0)), (29, 1, n.pi), (30, 1, 1),
   (31, 1, 0x7F), (34, 2, au), (36, 2, au), (40, 2, au), (42, 2, 0), (44, 2, au), (48, 16, n.nsze * b), (74, 2, 1048576 / b),
   (76, 4, 1048576 / b), (80, 1, 0), (92, 4, anaGroup n.nsid)] ++ idFormats

/-- A list of 32-bit identifiers above a number, at most 1,024. -/
def idList (l : List Nat) (above : Nat) : Fields :=
  rowsF 0 4 (((sortNat l).filter (fun n => decide (above < n))).take 1024) (fun n => [(0, 4, n)])

/-- A controller list: its count and identifiers from a number on, at most 2,047. -/
def ctrlIdList (l : List Nat) (min : Nat) : Fields :=
  let l := ((sortNat l).filter (fun n => decide (min ≤ n))).take 2047
  (0, 2, l.length) :: rowsF 2 2 l (fun n => [(0, 2, n)])

/-- The structure a CNS value names; none for one that is not supported (R121, R590). -/
def State.identify_ (s : State) (k : Ctrl) (c : Capsule) : Option Fields :=
  let nss := ((s.slice k.slice).map (·.nss)).getD []
  let active := (nss.filter (·.attached.contains k.id)).map (·.nsid)
  let mine := nss.find? (fun n => n.nsid == c.nsid)
  let live := mine.filter (fun n => n.attached.contains k.id)
  let from_ := dwBits c.dw10 31 16
  let subsys := (s.eng.ctrls.filter (fun x => x.slice == k.slice && x.ring == k.ring && x.discovery == k.discovery)).map (·.id)
  match cnsOf c with
  | 0x00 => some (if c.nsid = 0xFFFFFFFF then idFormats else live.elim [] s.idNs)
  | 0x01 => some (s.idCtrl k)
  | 0x02 => some (idList active c.nsid)
  | 0x03 => some (live.elim [] (fun _ => [(0, 1, 4), (1, 1, 1), (4, 1, 0)]))
  | 0x05 => some (if c.nsid = 0xFFFFFFFF then [(12, 4, 0), (16, 4, 0), (20, 4, 0)] else live.elim [] (fun _ => [(12, 4, 0), (16, 4, 0), (20, 4, 0)]))
  | 0x06 => some []
  | 0x07 => some (idList active c.nsid)
  | 0x08 => some (live.elim [] (fun n => [(0, 1, 0), (1, 1, 1), (2, 1, 0x7F), (4, 4, anaGroup n.nsid), (14, 1, 1)]))
  | 0x10 => some (idList (nss.map (·.nsid)) c.nsid)
  | 0x11 => some (mine.elim [] s.idNs)
  | 0x12 => some (ctrlIdList (mine.elim [] (·.attached)) from_)
  | 0x13 => some (ctrlIdList subsys from_)
  | 0x1C => some [(0, 8, 1)]
  | _ => none

/-- Identify (0x06). -/
def execIdentify (e : Nat) (s : State) : Out :=
  .next (s.withCmd e 0x06 false (fun c s =>
    match s.ctrl c.cntl with
    | none => s
    | some k =>
      match (if dwBits c.cap.dw11 31 24 = 0 then s.identify_ k c.cap else none) with
      | none => s.reply c St.invalidField
      | some f => s.finish e St.ok 0 (.page 0 4096 f)))

end Sys2Proof.Machine
end

