-- ==== Sys2Proof/Machine/AdminCmds.lean ====
section
/-! DEFINITION. Abort, Asynchronous Event Request, features, namespaces, Keep Alive, Format NVM and Sanitize (R105 to R109,
R119, R120, R153, R154, R433, R434, R560, R589). -/

namespace Sys2Proof.Machine

open Sys2Proof

/-! ### ABORT (R105 to R109) -/

/-- Entries of a controller with an opcode on its admin queue that were admitted before entry `e`. -/
def State.before (s : State) (k opc e : Nat) : Nat :=
  ((s.eng.cct.takeWhile (·.idx != e)).filter (fun x => x.cntl == k && x.cap.opc == opc && !x.isIo)).length

/-- The entry an Abort names: on a queue of the same controller. -/
def State.abortTarget (s : State) (k : Nat) (c : Capsule) : Option Cct :=
  s.eng.cct.find? (fun x => x.cntl == k && x.cap.cid == dwBits c.dw10 31 16 &&
    (s.queue x.queue).elim false (fun q => q.qid == dwBits c.dw10 15 0))

/-- Abort (0x08): the compare-and-set of R106 on the named entry's gate; its completion is posted before the Abort's. -/
def execAbort (e : Nat) (s : State) : Out :=
  .next (s.withCmd e 0x08 false (fun c s =>
    if 4 ≤ s.before c.cntl 0x08 e then s.reply c St.abortLimit
    else
      match s.abortTarget c.cntl c.cap with
      | none => (s.bump Reg.CE_CNT_ABORT_NOT 1).answer c St.ok 1
      | some x =>
        let s := s.modEntry x.idx (fun y => { y with abortReq := true })
        if x.gate == .open then
          let s := s.postAborted { x with abortReq := true } St.abortRequested
          (s.bump Reg.CE_CNT_ABORT_DONE 1).answer c St.ok 0
        else (s.bump Reg.CE_CNT_ABORT_NOT 1).answer c St.ok 1))

/-! ### ASYNCHRONOUS_EVENT_REQUEST (R119, R560) -/

/-- Asynchronous Event Request (0x0C): outstanding until a notice is reported through it. Its entry shows STATE 0x4: R33 names no
resource it waits for (DESIGN CHOICE, assumption 87). -/
def execAsynchronousEventRequest (e : Nat) (s : State) : Out :=
  .next (s.withCmd e 0x0C false (fun c s =>
    match s.ctrl c.cntl with
    | none => s
    | some k =>
      if 8 ≤ k.aers.length then s.reply c St.aerLimit
      else
        let s := s.modEntry e (fun x => { x with st := .heldResource, waitsOwn := true, step := 1, heldAt := s.seed.now })
        (s.modCtrl k.id (fun k => { k with aers := k.aers ++ [e] })).reportNotice k.id))

/-! ### Features (R120, R171, R433, R474, R561, R589) -/

/-- A keep-alive timeout as it acts: none for one that is refused (R589). -/
def katoOf (v : Nat) : Option Nat :=
  if v = 0 || 3600000 < v then none else if v < 1000 then some 1000 else some (ceilDiv v 100 * 100)

/-- NSQA and NCQA: the lesser of 128 and the slice's unused queue pairs, zero-based, 0 for none (R120). -/
def State.numQueues (s : State) (k : Ctrl) : Word :=
  let n := min 128 (((s.slice k.slice).map (·.desc.qpairs)).getD 0 - s.usedPairs k.slice) - 1
  BitVec.ofNat 32 (n + 65536 * n)

/-- Table entry `n` of feature 0x0C from its 8 bytes: ITPS [7:3], ITPT [31:8] in ms. -/
def apstEntry (d : List Byte) (n : Nat) : Nat × Nat :=
  let v := fieldAt d (8 * n) 4
  (v / 8 % 32, v / 256)

/-- An entry of the table that R433 refuses: not deeper than its own index. -/
def apstBad (n : Nat) (x : Nat × Nat) : Bool := x.2 != 0 && decide (x.1 ≤ n ∨ 4 < x.1)

/-- The namespaces a per-namespace feature names: one, or every attached one. -/
def State.featNs (s : State) (k : Ctrl) (c : Capsule) : List Nat :=
  ((((s.slice k.slice).map (·.nss)).getD []).filter (fun n =>
    n.attached.contains k.id && (c.nsid == 0xFFFFFFFF || n.nsid == c.nsid))).map (·.nsid)

/-- Bytes the host sends with a Set Features. -/
def featBytes (fid : Nat) : Nat := if fid = 0x0C then 256 else if fid = 0x81 then 16 else 0

/-- Sets a feature; answers its status and Dword 0. -/
def State.setFeature (k : Ctrl) (c : Capsule) (s : State) : Nat × Word × State :=
  let v := c.dw11
  let mod (f : Ctrl → Ctrl) : Nat × Word × State := (St.ok, 0, s.modCtrl k.id f)
  match dwBits c.dw10 7 0 with
  | 0x01 => mod (fun k => { k with ab := dwBits v 2 0 })
  | 0x02 =>
    if 4 < dwBits v 4 0 then (St.invalidField, 0, s)
    else (St.ok, 0, (s.modCtrl k.id (fun k => { k with ps := dwBits v 4 0 })).evalTolerance)
  | 0x04 =>
    let sel := dwBits v 19 16
    if sel != 0 && sel != 15 then (St.invalidField, 0, s)
    else if dwBits v 21 20 = 0 then mod (fun k => { k with tOver := dwBits v 15 0 })
    else if dwBits v 21 20 = 1 then mod (fun k => { k with tUnder := dwBits v 15 0 })
    else (St.invalidField, 0, s)
  | 0x07 => (St.ok, s.numQueues k, s)
  | 0x0B => mod (fun k => { k with evCfg := v })
  | 0x0C =>
    let t := (List.range 5).map (apstEntry c.data)
    if (List.range 5).any (fun n => apstBad n (t.getD n (0, 0))) then (St.invalidField, 0, s)
    else mod (fun k => { k with apste := v.getLsbD 0, apst := t })
  | 0x0F =>
    match katoOf v.toNat with
    | none => (St.invalidField, 0, s)
    | some n => mod (fun k => { k with kato := n, kaAt := s.seed.now })
  | 0x81 => if v.getLsbD 0 then mod (fun k => { k with hostId := BitVec.ofNat 128 (fieldAt c.data 0 16) }) else (St.invalidField, 0, s)
  | 0x82 =>
    let l := s.featNs k c
    mod (fun k => { k with resMask := l.map (fun n => (n, v)) ++ k.resMask.filter (fun x => !l.contains x.1) })
  | 0x83 =>
    let s := (s.featNs k c).foldl (fun s n =>
      match s.nsOf k.slice n with
      | none => s
      | some y => s.putResv k.slice y { y.resv with ptpl := v.getLsbD 0 }) s
    (St.ok, 0, s.writeSettings)
  | 0xC0 => (St.ok, 0, (s.modCtrl k.id (fun k => { k with lt := v })).evalTolerance)
  | _ => (St.invalidField, 0, s)

/-- Set Features (0x09): SV set is refused; what a threshold means for the Critical Warning is examined at once. -/
def execSetFeatures (e : Nat) (s : State) : Out :=
  (s.withCmd e 0x09 false (fun c s =>
    match s.ctrl c.cntl with
    | none => s
    | some k =>
      let known := [0x01, 0x02, 0x04, 0x07, 0x0B, 0x0C, 0x0F, 0x81, 0x82, 0x83, 0xC0].contains (dwBits c.cap.dw10 7 0)
      if known && c.cap.dw10.getLsbD 31 then s.reply c St.notSaveable
      else if c.cap.data.length < featBytes (dwBits c.cap.dw10 7 0) then s
      else
        let (st, r, s) := s.setFeature k c.cap
        s.answer c st r)).done

/-- A feature's value: Dword 0 and data; `dflt` asks for the default. None for a feature or a selection that is not
supported. -/
def State.getFeature (s : State) (k : Ctrl) (c : Capsule) (dflt : Bool) : Option (Nat × List Byte) :=
  let d : Ctrl := { id := 0, slice := 0, mac := 0, iface := 0, tUnder := if s.fuses.grade = 2 then 248 else 263 }
  let x := if dflt then d else k
  let ns := if c.nsid = 0xFFFFFFFF then none else s.nsOf k.slice c.nsid
  match dwBits c.dw10 7 0 with
  | 0x01 => some (x.ab, [])
  | 0x02 => some (x.ps, [])
  | 0x04 =>
    let sel := dwBits c.dw11 19 16
    if sel != 0 && sel != 15 then none
    else if dwBits c.dw11 21 20 = 0 then some (x.tOver, [])
    else if dwBits c.dw11 21 20 = 1 then some (x.tUnder, []) else none
  | 0x07 => some ((s.numQueues k).toNat, [])
  | 0x0B => some (x.evCfg.toNat, [])
  | 0x0C => some (b2n x.apste, (List.range 32).flatMap (fun n =>
      natBytes 8 ((x.apst.getD n (0, 0)).1 * 8 + (x.apst.getD n (0, 0)).2 * 256)))
  | 0x0F => some (x.kato, [])
  | 0x81 => if c.dw11.getLsbD 0 then some (0, natBytes 16 (if dflt then 0 else k.hostId.toNat)) else none
  | 0x82 => some (if dflt then 0 else ((k.resMask.find? (·.1 == c.nsid)).map (·.2.toNat)).getD 0, [])
  | 0x83 => some (if dflt then 0 else b2n ((ns.map (·.resv.ptpl)).getD false), [])
  | 0xC0 => some (x.lt.toNat, [])
  | _ => none

/-- Supported capabilities of a feature: changeable, and whether it is per namespace. -/
def featCaps (fid : Nat) : Nat := if fid = 0x82 || fid = 0x83 then 6 else 4

/-- Get Features (0x0A): current, default, supported capabilities; saved answers the current value. -/
def execGetFeatures (e : Nat) (s : State) : Out :=
  .next (s.withCmd e 0x0A false (fun c s =>
    match s.ctrl c.cntl with
    | none => s
    | some k =>
      let sel := dwBits c.cap.dw10 10 8
      match (if 3 < sel then none else s.getFeature k c.cap (sel == 1)) with
      | none => s.reply c St.invalidField
      | some (v, d) =>
        if sel = 3 then s.answer c St.ok (BitVec.ofNat 32 (featCaps (dwBits c.cap.dw10 7 0)))
        else s.finish e St.ok (BitVec.ofNat 32 v) (if d.isEmpty then .none else .bytes d)))

/-! ### KEEP_ALIVE (R119, R589) -/

/-- Keep Alive (0x18). -/
def execKeepAlive (e : Nat) (s : State) : Out :=
  .next (s.withCmd e 0x18 false (fun c s =>
    let s := match (s.ctrl c.cntl).bind (·.ring) with
      | none => s
      | some nb => s.heardOn nb false
    (s.modCtrl c.cntl (fun k => { k with kaAt := s.seed.now })).reply c St.ok))

/-! ### NAMESPACE_MANAGEMENT, NAMESPACE_ATTACHMENT (R119, R125, R127, R174) -/

/-- Namespaces and reservations of the slice of a controller; the management slice has none. -/
def State.nsRoom (s : State) (k : Ctrl) : List Ns × Nat × Nat :=
  ((s.slice k.slice).map (fun x => (x.nss, x.desc.ns, x.desc.capMib))).getD ([], 0, 0)

/-- The status a create completes with, and the NSID it takes. -/
def State.nsCreateStatus (s : State) (k : Ctrl) (d : List Byte) : Nat × Nat :=
  let nsze := fieldAt d 0 8
  let lbaf := fieldAt d 26 1 % 16
  let ext := fieldAt d 26 1 / 16 % 2
  let dps := fieldAt d 29 1
  let n : Ns := { nsid := 0, nsze := nsze, lbaf := lbaf }
  let (nss, cnt, cap) := s.nsRoom k
  if fieldAt d 8 8 != nsze then (St.invalidField, 0)
  else if 2 < lbaf then (St.invalidFormat, 0)
  else if (lbaf = 2 && ext = 0) || 3 < dps % 8 || (dps % 8 != 0 && (lbaf != 2 || dps / 8 % 2 = 1)) then (St.invalidField, 0)
  else if cap * 1048576 < sumBy nss s.nsCharge + s.nsCharge n then (St.nsInsufficient, 0)
  else
    match (List.range cnt).find? (fun i => !nss.any (·.nsid == i + 1)) with
    | none => (St.nsIdUnavailable, 0)
    | some i => (St.ok, i + 1)

/-- A namespace is deleted: commands that still name it complete with Invalid Namespace, its map units are deallocated. -/
def State.deleteNs (sl : Nat) (n : Ns) (s : State) : State :=
  let l := s.eng.cct.filter (fun c => c.isIo && c.slice == sl && c.cap.nsid == n.nsid)
  let s := l.foldl (fun s c => match s.entry c.idx with | none => s | some x => s.post x St.invalidNamespace 0) s
  let before := s.rebuildSet
  let s := (((s.wipeNs sl n).settle before).gatherHost)
  let lost : List LostRange := s.store.lost.filter (fun r => !(r.slice == sl && r.nsid == n.nsid))
  let s := { s with store := { s.store with lost := lost } }
  let s := s.modSlice sl (fun x => { x with nss := x.nss.filter (·.nsid != n.nsid) })
  (s.forwardChange sl (.nsDelete n.nsid)).writeSettings.nsChanged sl n.nsid

/-- Namespace Management (0x0D): create and delete. -/
def execNamespaceManagement (e : Nat) (s : State) : Out :=
  (s.withCmd e 0x0D false (fun c s =>
    match s.ctrl c.cntl with
    | none => s
    | some k =>
      match dwBits c.cap.dw10 3 0 with
      | 0 =>
        if c.cap.data.length < 4096 then s
        else if dwBits c.cap.dw11 31 24 != 0 then s.reply c St.invalidField
        else
          let d := c.cap.data
          let (st, id) := s.nsCreateStatus k d
          if st != St.ok then s.reply c st
          else
            let n : Ns := { nsid := id, nsze := fieldAt d 0 8, lbaf := fieldAt d 26 1 % 16, pi := fieldAt d 29 1 % 8 }
            let s := ((s.putNs k.slice n).forwardChange k.slice (.nsCreate id n.nsze n.lbaf n.pi)).writeSettings
            (s.nsChanged k.slice id).answer c St.ok (BitVec.ofNat 32 id)
      | 1 =>
        match s.nsOf k.slice c.cap.nsid with
        | none => s.reply c St.invalidNamespace
        | some n => (s.deleteNs k.slice n).reply c St.ok
      | _ => s.reply c St.invalidField)).done

/-- Identifiers of a controller list. -/
def ctrlListOf (d : List Byte) : List Nat := (List.range (fieldAt d 0 2)).map (fun i => fieldAt d (2 + 2 * i) 2)

/-- Namespace Attachment (0x15): attach and detach, all of the list or none. -/
def execNamespaceAttachment (e : Nat) (s : State) : Out :=
  .next (s.withCmd e 0x15 false (fun c s =>
    match s.nsOf c.slice c.cap.nsid with
    | none => s.reply c St.invalidNamespace
    | some n =>
      let op := dwBits c.cap.dw10 3 0
      if c.cap.data.length < 4096 then s
      else
        let l := ctrlListOf c.cap.data
        if 1 < op || 2047 < l.length ||
            !l.all (fun i => (s.ctrl i).elim false (fun k => k.isTenant && k.slice == c.slice)) then s.reply c St.invalidField
        else if op = 0 && l.any n.attached.contains then s.reply c St.nsAttached
        else if op = 1 && l.any (fun i => !n.attached.contains i) then s.reply c St.nsNotAttached
        else
          let s := s.modNs c.slice n.nsid (fun n =>
            { n with attached := if op = 0 then n.attached ++ l.dedup else n.attached.filter (fun i => !l.contains i) })
          (s.nsChanged c.slice n.nsid).reply c St.ok))

/-! ### FORMAT_NVM, SANITIZE and their ends (R119, R153, R154) -/

/-- Units of a slice that lanes still work on are given up: those being read end, those being written are formed again under
the new key. -/
def State.eraseJobs (sl : Nat) (s : State) : State :=
  let reads := s.store.jobs.filter (fun j => j.slice == sl && j.reading)
  let s := reads.foldl (fun s j => s.endRead j) s
  let writes := s.store.jobs.filter (fun j => j.slice == sl && !j.reading && !j.peer && j.stage == 1)
  writes.foldl (fun s j => (s.modJob j.id (fun j => { j with stage := 0, x := none })).giveLane j.id) s

/-- Steps 1 to 4 of R153 on a slice: new key, a generation that holds only it, zeros over the old one, every unit deallocated.
The replica erases too, or is brought back region by region. An open migration ends. -/
def State.keyErase (sl : Nat) (s : State) : State :=
  let s := (((s.cancelMig sl 4).newKey sl).eraseOldKey sl).forwardChange sl .cryptoErase
  let s := match s.slice sl with
    | none => s
    | some x => s.forwardChange sl (s.keyChange x 1 x.desc.pairId)
  let s := match s.slice sl with
    | none => s
    | some x => if x.repl = 3 || x.repl = 4 then (s.setResync sl (s.allRegions x)).modSlice sl (fun x => { x with keySend := true }) else s
  (s.wipeSlice sl).eraseJobs sl

/-- A namespace is formatted at once: deallocated, and given its format with the bytes of user data it had. -/
def State.formatNs (sl : Nat) (n : Ns) (lbaf pi : Nat) (s : State) : State :=
  let before := s.rebuildSet
  let s := ((s.wipeNs sl n).settle before).gatherHost
  let nsze := n.nsze * lbaSize n.lbaf / lbaSize lbaf
  let s := s.modNs sl n.nsid (fun n => { n with lbaf := lbaf, pi := pi, nsze := nsze })
  let s := s.forwardChange sl (.format n.nsid nsze lbaf pi)
  let lost : List LostRange := s.store.lost.filter (fun r => !(r.slice == sl && r.nsid == n.nsid))
  let s := { s with store := { s.store with lost := lost } }
  s.writeSettings.nsChanged sl n.nsid

/-- Format NVM (0x80): LBAF Dword 10 [3:0], MSET [4], PI [7:5], PIL [8], SES [11:9]. -/
def execFormatNvm (e : Nat) (s : State) : Out :=
  (s.withCmd e 0x80 false (fun c s =>
    let d := c.cap.dw10
    let lbaf := dwBits d 3 0
    let pi := dwBits d 7 5
    let all := c.cap.nsid == 0xFFFFFFFF
    match s.slice c.slice with
    | none => s.reply c St.invalidField
    | some x =>
      let nss := x.nss.filter (fun n => all || n.nsid == c.cap.nsid)
      if 2 < lbaf then s.reply c St.invalidFormat
      else if (lbaf = 2 && !d.getLsbD 4) || 3 < pi || (pi != 0 && (lbaf != 2 || d.getLsbD 8)) then s.reply c St.invalidField
      else
        match dwBits d 11 9 with
        | 0 =>
          let s := s.cancelMig c.slice 4
          (nss.foldl (fun s n => s.formatNs c.slice n lbaf pi) s).reply c St.ok
        | 2 =>
          if !all then s.reply c St.invalidField
          else
            let s := s.keyErase c.slice
            let s := x.nss.foldl (fun s n => s.formatNs c.slice n lbaf pi) s
            let s := s.modSlice c.slice (fun x => { x with erase := some { sanitize := false, block := false, waiting := some e } })
            s.waitCmd c
        | _ => s.reply c St.invalidField)).done

/-- Bands that hold an extent of a slice, valid or not, or in whose open stripes one takes its place, are closed and moved out of;
the Sanitize keeps them until each is erased (R154). -/
def State.moveOutOf (sl : Nat) (s : State) : State :=
  let nums := s.sliceBands sl
  let s := s.modSlice sl (fun x => { x with erase := x.erase.map (fun j => { j with bands := nums }) })
  nums.foldl (fun s n => (s.closeBand n).request n 2 1) s

/-- Sanitize (0x84): SANACT Dword 10 [2:0] 2 block erase, 4 crypto erase; it completes at once and its operation runs on. -/
def execSanitize (e : Nat) (s : State) : Out :=
  (s.withCmd e 0x84 false (fun c s =>
    let act := dwBits c.cap.dw10 2 0
    match s.slice c.slice with
    | none => s.reply c St.invalidField
    | some x =>
      match x.erase with
      | some j => s.reply c (if j.sanitize then St.sanitizeInProgress else St.formatInProgress)
      | none =>
        if act != 2 && act != 4 then s.reply c St.invalidField
        else
          let s := s.keyErase c.slice
          let s := s.modSlice c.slice (fun x =>
            { x with erase := some { sanitize := true, block := act == 2, waiting := none }, sanStat := 2, sanDw10 := c.cap.dw10 })
          let s := if act = 2 then s.moveOutOf c.slice else s
          s.reply c St.ok)).done

/-- A Sanitize of a slice has ended: its status, and the notice (R560). -/
def State.sanitized (sl : Nat) (s : State) : State :=
  let s := s.modSlice sl (fun x => { x with sanStat := 1 })
  s.notifyAll (fun k => k.isTenant && k.slice == sl) { type := 6, info := 1, lid := 0x81 }

/-- The deallocation pass of a cryptographic erase has reached the last map unit (R153): Format NVM or the Sanitize
completes. -/
def execKeyEraseCompleted (slice ms : Nat) (s : State) : Out :=
  match s.slice slice with
  | none => .next s
  | some x =>
    match x.erase with
    | none => .next s
    | some j =>
      if j.block then .next s
      else
        let s := (s.modSlice slice (fun x => { x with erase := none })).capture 0x060B [slice, 1, ms]
        let s := s.answerEntry j.waiting St.ok 0
        (if j.sanitize then s.sanitized slice else s).done

/-- The last band that held an extent of the slice is erased (R154). -/
def execSanitizeComplete (slice ms : Nat) (s : State) : Out :=
  match s.slice slice with
  | none => .next s
  | some x =>
    match x.erase with
    | none => .next s
    | some j =>
      if !j.block || j.bands.any (fun n => (s.band n).isSome) || s.store.placed.any (·.slice == slice) then .next s
      else
        let s := (s.modSlice slice (fun x => { x with erase := none })).capture 0x060B [slice, 2, ms]
        (s.sanitized slice).done

end Sys2Proof.Machine
end

