-- ==== Sys2Proof/Machine/FlashChannels.lean ====
section
/-! DEFINITION. The commands of the flash channels: reads, the ladder, reconstruction, program status, timeouts, calibration and
slow dies (chapter 07, R308 to R313). -/

namespace Sys2Proof.Machine

open Sys2Proof

/-- CH_DIE_SEL (R297): the named die's state is captured in one copy. -/
def execChDieSelWrite (ch : Nat) (v : Word) (s : State) : Out :=
  if 32 ≤ ch then .next s
  else
    let n := bits v 5 0
    let s := s.setReg (Reg.CH_DIE_SEL + 0x1000 * ch) (BitVec.ofNat 32 n)
    let d := s.die (64 * ch + n)
    let w0 : Nat := match d with
      | none => 0
      | some x => atBit 31 (b2n (x.st != 0)) + atBit 30 (b2n (x.st == 3)) + atBit 29 (b2n x.refused) + atBit 20 x.op +
          atBit 16 x.suspended + min 32 x.queue.length
    let w2 : Nat := match d with
      | none => 0
      | some x => min 0xFFFFFFFF (x.busyUs + (if x.op = 2 || x.op = 3 then s.since x.startedAt else 0))
    .next (s.modChan ch (fun c => { c with
      data0 := BitVec.ofNat 32 w0, data1 := BitVec.ofNat 32 (d.elim 0 (·.suspends)), data2 := BitVec.ofNat 32 w2 }))

/-- A read reaches a die's queue (R275, R276, R278, R281). Reads of class 3 whose member has failed are reconstructed; class 5
reads never are. Held when the queue is full. -/
def execDieReadRequest (die op cls band stripe mem cw : Nat) (s : State) : Out :=
  match s.die die, s.band band with
  | some x, some b =>
    let o : DieOp := { id := op, cls := cls, kind := 1, band := band, stripe := stripe, mem := mem, cw := cw,
                       at_ := s.seed.now }
    let here := (b.memberAt stripe mem).any (fun m => m.die == die && m.gen == x.gen)
    if !here || b.d + b.p ≤ mem || b.nextStripe ≤ stripe || 32 ≤ x.queue.length || (s.findOp op).isSome ||
       !(cls == 1 || cls == 3 || cls == 5) then .next s
    else
      let s := { s with array := { s.array with nextOp := max s.array.nextOp (op + 1) } }
      let m := (b.memberAt stripe mem).getD { die := 0, gen := 0, block := 0 }
      if cls = 1 then .next (s.readArrives x b o)
      else if !s.direct m then
        .next (if cls = 3 && s.canRecon b stripe mem then s.startRecon o b else s)
      else .next (s.queueRead die o)
  | _, _ => .next s

/-- A queued read of class 1 or 3 that has not started after RECON_WAIT_US is served by reconstruction, when that is possible
(R278, R281, R282). -/
def execReconWaitExpiry (die op : Nat) (s : State) : Out :=
  match (s.die die).bind (fun x => x.queue.find? (·.id == op)) with
  | none => .next s
  | some o =>
    match s.band o.band with
    | none => .next s
    | some b =>
      if o.kind = 1 && !o.started && (o.cls == 1 || o.cls == 3) && !o.recon && s.canRecon b o.stripe o.mem &&
         decide (s.reconWaitUs die ≤ s.since o.at_) then
        let s := s.modDie die (fun x =>
          { x with queue := x.queue.map (fun y => if y.id == op then { y with recon := true } else y) })
        .next (s.startRecon o b)
      else .next s

/-- An operation of class 2, 3 or 5 that has waited AGE_MS is treated as class 1 (R276). -/
def execOperationAgePromotion (die op : Nat) (s : State) : Out :=
  let due := s.ageMs die * 1000
  .next (s.modDie die (fun x =>
    { x with queue := x.queue.map (fun o =>
        if o.id == op && !o.started && (o.cls == 2 || o.cls == 3 || o.cls == 5) && o.kind != 3 &&
           decide (due ≤ s.seed.now - o.at_) then { o with cls := 1 } else o) }))

/-- A die that runs nothing starts its next operation, or resumes the suspended one when no class 1 read waits (R261, R276,
R279, R289). -/
def execDieOperationStart (die : Nat) (s : State) : Out :=
  match s.die die with
  | none => .next s
  | some x =>
    if x.op != 0 || !(x.st == 1 || x.st == 2 || x.st == 7 || (x.st == 4 && x.direct)) || (s.chan (dieChan die)).st != 2 then
      .next s
    else
      match s.nextOpOf x with
      | none => .next (s.resumeDue die)
      | some o => s.granted .channel (fun s => .next (s.startOp die o))

/-- The running sense ends (R277, R279, R283): its reads go to the decoder, every sense counts, and the suspended operation
resumes when no class 1 read waits. -/
def execReadSenseComplete (die : Nat) (s : State) : Out :=
  match s.die die with
  | none => .next s
  | some x =>
    if x.op != 1 then .next s
    else
      let l := x.queue.filter (fun o => o.kind == 1 && o.started)
      let n := sensesOf ((l.head?.map (·.step)).getD 0)
      let s := s.modDie die (fun y => { y with op := 0, queue := y.queue.filter (fun o => !(o.kind == 1 && o.started)) })
      let a := s.array
      let s := { s with array := { a with decode := a.decode ++ l.map (fun (o : DieOp) => { o with recon := false, word := s.sensed o }) } }
      let s := match l.head? with
        | none => s
        | some o =>
          match s.band o.band with
          | none => s
          | some b =>
            match b.memberAt o.stripe o.mem with
            | none => s
            | some m => s.readBlock b m n
      .next ((s.bumpCh Reg.CH_CNT_READ die n).resumeDue die)

/-- A decode ends (R274, R283 to R286, R299, R472): with the bits it corrected, or failing, when the read climbs the ladder; a class 1
read that reaches step S is reconstructed alongside. One that waits for a unit or for its grant has not run. -/
def execLdpcDecodeComplete (op : Nat) (corrected : Option Nat) (s : State) : Out :=
  match s.array.decode.find? (fun o => o.id == op && !o.recon) with
  | none => .next s
  | some o =>
    match s.band o.band with
    | none => .next s
    | some b =>
      match b.memberAt o.stripe o.mem with
      | none => .next s
      | some m =>
        if !s.decoding o then .next s else
        s.granted .decode fun s =>
        let f := s.memFacts m
        let s := s.bump (if o.step = 200 then Reg.LDPC_CNT_SD else Reg.LDPC_CNT_HD) 1
        let found := match s.flippedAt o.band o.stripe o.mem o.cw with | some k => some k | none => corrected
        match found with
        | some n => .next ((s.dropOp op).decoded o m f n)
        | none =>
          let a := s.array
          let s := { s with array := { a with decode := a.decode.filter (fun y => !(y.id == op && !y.recon)) } }
          match s.nextStep m.die f o.step with
          | none => (s.ladderFails o b m.die).done
          | some k =>
            let s := if o.step = 0 then s.bumpCh Reg.CH_CNT_RETRY m.die 1 else s
            let s := if k = 200 then s.bumpCh Reg.CH_CNT_SOFT m.die 1 else s
            let o := { o with step := k, started := false, recon := false }
            let s := s.modDie m.die (fun x => { x with queue := o :: x.queue })
            let running := s.array.decode.any (fun y => y.id == op && y.recon)
            if k = 200 && o.cls == 1 && !running && s.canRecon b o.stripe o.mem then .next (s.startRecon o b) else .next s

/-- A reconstruction ends (R281, R286). Recovered, it serves the read, and after a failed ladder the codeword is repaired;
failed, a read whose ladder has failed loses its codeword and another goes on waiting for its die. -/
def execReconstructionComplete (op : Nat) (ok : Bool) (s : State) : Out :=
  match s.array.decode.find? (fun o => o.id == op && o.recon) with
  | none => .next s
  | some o =>
    match s.band o.band with
    | none => .next (s.dropOp op)
    | some b =>
      let gone := o.step = ladderFailed
      let m := b.memberAt o.stripe o.mem
      if ok then
        let s := s.dropOp op
        if !gone then .next s
        else
          let s := s.repairCw b o.stripe o.mem o.cw
          match m with
          | none => .next s
          | some m =>
            let f := s.memFacts m
            if o.cls = 1 then
              let slot := (if b.slc then o.stripe else o.stripe * f.cell) + slotOf f o.cw
              .next (s.capture 0x0909 [m.die, m.block, slot, o.cw % max 1 (4 * f.planes)])
            else .next (s.health 16 1)
      else
        let a := s.array
        let s := { s with array := { a with decode := a.decode.filter (fun y => !(y.id == op && y.recon)) } }
        if !gone then .next s
        else
          let r := s.loseCw b o.stripe o.mem o.cw (if o.cls = 1 then 4 else 2)
          (if o.cls = 1 then r.2 else r.2.health 17 r.1).done

/-- Step V on a tracked page of an idle die: the read-offset table takes its result (R277, R284). -/
def execTrackValley (die blk opt : Nat) (off : Int) (s : State) : Out :=
  match s.die die with
  | none => .next s
  | some x =>
    if x.op != 0 || x.suspended != 0 || !x.queue.isEmpty || !(s.block die blk).track then .next s
    else
      let s := s.modBlock die blk (fun b => { b with opt := opt, off := off, track := false })
      let m : Member := { die := die, gen := x.gen, block := blk }
      let s := match s.upkeep.bands.find? (·.members.contains m) with
        | some b => s.readBlock b m 6
        | none => s.countReads m 6
      .next (s.bumpCh Reg.CH_CNT_READ die 6)

/-- A program status (R192, R193, R227, R240, R288): the member has passed, and the stripe commits when every member has; or it
failed, its block is flagged for retirement and the stripe is voided. A busy time at the member timeout is the timeout's. -/
def execMemberProgramStatus (band stripe mem : Nat) (st : OpStatus) (busyUs : Nat) (s : State) : Out :=
  match s.stripe band stripe, s.band band with
  | some t, some b =>
    match b.memberAt stripe mem with
    | none => .next s
    | some m =>
      match (s.dieGen m.die m.gen).bind (fun x => x.queue.find? (fun o =>
          o.kind == 2 && o.band == band && o.stripe == stripe && o.mem == mem && o.started && x.op == 2 && x.opId == o.id)) with
      | none => .next s
      | some o =>
        if s.memberTmoUs ≤ busyUs then .next s
        else
          let before := s.rebuildSet
          let s := (s.endOp m.die o.id busyUs).slowOp m.die 2 busyUs
          match st with
          | .pass =>
            let t := { t with passed := t.passed ++ [mem] }
            let s := s.modStripe band stripe (fun x => { x with passed := x.passed ++ [mem] })
            let done := (List.range (t.d + t.p)).all t.passed.contains
            if done then (((s.commitStripe t).settle before).settleRelease.gatherHost).done else .next s
          | .fail =>
            let f := s.memFacts m
            let slot := if b.slc then stripe else stripe * f.cell
            let s := (s.capture 0x0904 [m.die, m.block, slot]).health 7 1
            let pos := (stripe + mem) % max 1 b.members.length
            let s := s.modBand band (fun x => { x with retire := x.retire.filter (·.1 != pos) ++ [(pos, 1)] })
            (((s.voidStripe t 1 m.die).settle before).settleRelease.gatherHost).done
  | _, _ => .next s

/-- A program or erase whose busy time reaches MEMBER_TMO_MS: Reset LUN, and the die is failed (R288, R313). -/
def execMemberOperationTimeout (die : Nat) (s : State) : Out :=
  match s.die die with
  | none => .next s
  | some x =>
    let busy := x.busyUs + s.since x.startedAt
    if (x.op == 2 || x.op == 3) && decide (s.memberTmoUs ≤ busy) then
      let k := x.op
      let s := s.modDie die (fun y => { y with busyUs := busy })
      (((s.capture 0x0906 [die, k, busy / 1000]).failDie die 1 2).settleRelease).done
    else .next s

/-- Every die of a member carrier that was not refused has stopped responding to reset: the carrier is lost (R337). -/
def State.unresponsive (s : State) (k : Nat) : Bool :=
  let l := s.array.dies.filter (fun d => !d.old && dieCar d.idx == k && !d.refused)
  let st := (s.carrier k).st
  (st == 5 || st == 6 || st == 7) && !l.isEmpty && l.all (·.unresp)

/-- A LUN not ready after a second Reset LUN: the die is failed (R288), and its carrier lost when no die of it responds (R337). -/
def execDieResetTimeout (die : Nat) (s : State) : Out :=
  match s.die die with
  | none => .next s
  | some x =>
    if x.st = 0 || 4 < x.st then .next s
    else
      let s := s.modDie die (fun y => { y with unresp := true })
      let s := if x.st = 1 || x.st = 2 then (s.capture 0x0907 [die]).failDie die 2 2 else s
      let s := if s.unresponsive (dieCar die) then s.loseCarrier (dieCar die) 4 else s
      s.settleRelease.done

/-- ZQ Calibration Short on every target of a ready channel, ZQ_PERIOD_MS after the last (R268). -/
def execZqPeriod (ch : Nat) (s : State) : Out :=
  let c := s.chan ch
  let ms := max 1 (s.fld (Reg.CH_SCHED + 0x1000 * ch) 7 0)
  if ch < 32 && c.st == 2 && decide (ms * 1000 ≤ s.since c.zqAt) then
    .next (s.modChan ch (fun c => { c with zqAt := s.seed.now }))
  else .next s

/-- 60 minutes without a slow operation bring a slow die back online (R309). -/
def execSlowRecovery (die : Nat) (s : State) : Out :=
  match s.die die with
  | none => .next s
  | some x =>
    let last := x.slowTimes.foldl max x.slowSince
    if x.st = 2 && 3600000000 ≤ s.since last then
      let s := s.modDie die (fun y => { y with st := 1, slowTimes := [] })
      .next ((s.memberRec (dieCar die) 10 die 1 false).capture 0x0A03 [die, s.since x.slowSince / 60000000])
    else .next s

/-- SLOW_FAIL_H hours in slow without a break fail the die, when SLOW_FAIL_H is not 0 (R309). -/
def execSlowFail (die : Nat) (s : State) : Out :=
  match s.die die with
  | none => .next s
  | some x =>
    let h := s.fld Reg.STR_MEMBER_CFG 7 0
    if x.st = 2 && h != 0 && decide (h * 3600000000 ≤ s.since x.slowSince) then
      ((s.failDie die 10 1).settleRelease).done
    else .next s

end Sys2Proof.Machine
end

