-- ==== Sys2Proof/Machine/ConnectCmds.lean ====
section
/-! DEFINITION. Connect and the authentication commands (R53, R55, R66, R67, R74 to R76, R86, R123, R136 to R139, R540, R541,
R589). -/

namespace Sys2Proof.Machine

open Sys2Proof

/-- The subsystem a Connect names: discovery, ring of a neighbour, the management slice or a tenant slice. -/
inductive ConnTarget where
  | discovery
  | ring (nb : Nat)
  | slice (n : Nat)
  deriving DecidableEq, Repr

/-- Slice number of a target, for events and controllers. -/
def ConnTarget.num : ConnTarget → Nat
  | .slice n => n
  | _ => 0

/-- The subsystem of a SUBNQN as it arrives on a connection; none for one the device does not have there. -/
def State.target (s : State) (y : Conn) (q : SubNqn) : Option ConnTarget :=
  match q with
  | .discovery => if !y.tcp || y.port = 8009 then some .discovery else none
  | .bramble => if y.port = 8009 then none else y.ring.map .ring
  | .device => if y.port = 8009 then none else some (.slice 0)
  | .slice n => if y.port = 8009 then none else (s.slices.list.find? (·.desc.subnqn == n)).map (fun x => .slice x.num)

/-- The VLAN rule (R53), and a replica's refusal of every Connect (R146). -/
def State.mayConnect (s : State) (y : Conn) (t : ConnTarget) : Bool :=
  match t with
  | .discovery | .ring _ => true
  | .slice n => s.mgmtIface y.iface == (n == 0) && !((s.slice n).elim false (fun x => x.state == .replica))

/-- What a DH-HMAC-CHAP exchange came to: one that ended well with a hash or a group the device does not take has failed. Hash 1 to 3 are
SHA-256, SHA-384 and SHA-512, groups 0 to 5 null and FFDHE of 2048, 3072, 4096, 6144 and 8192 bits (R123); a ring association uses
SHA-384 and the 3072-bit group (R76). -/
def authRun (ring : Bool) (hash dh : Nat) (a : AuthOutcome) : AuthOutcome :=
  let fits := if ring then hash == 2 && dh == 2 else decide (1 ≤ hash) && decide (hash ≤ 3) && decide (dh ≤ 5)
  if a == .ok && !fits then .failed else a

/-- What authentication a subsystem lacks on a Connect (R76, R139, R541): 1 the exchange failed, 2 not attempted, 3 TLS absent. -/
def State.authCause (s : State) (y : Conn) (t : ConnTarget) (a : AuthOutcome) (io : Bool) : Option Nat :=
  let (dh, tls) := match t with
    | .discovery => (false, false)
    | .ring _ => (true, false)
    | .slice n =>
      if n = 0 then (!s.slices.mgHost.isEmpty && !io, !s.slices.mgPsk.isEmpty)
      else ((s.slice n).elim (false, false) (fun x => (x.desc.authReq, x.desc.tlsReq)))
  if tls && y.tcp && !(y.tls && y.psk == some t.num) then some 3
  else if !dh then none
  else
    match a with
    | .ok => none
    | .failed => some 1
    | .notAttempted => some 2

/-- The refusal of a Connect for authentication, recorded (R76, R85). -/
def State.authEvent (y : Conn) (t : ConnTarget) (cause : Nat) (s : State) : State :=
  match t with
  | .ring nb => s.capture 0x0313 [nb, macPort y.mac]
  | .discovery => s
  | .slice n => s.capture ((3 + macPort y.mac) * 256 + 7) [y.mac, n, cause]

/-- Room for one more controller (R66, R140, R540); a neighbour opens one association (R75). -/
def State.ctrlRoom (s : State) (t : ConnTarget) : Bool :=
  let host := s.eng.ctrls.filter (·.ring.isNone)
  match t with
  | .ring nb => !s.eng.ctrls.any (·.ring == some nb)
  | .discovery => decide (host.length < 2048)
  | .slice n =>
    decide (host.length < 2048) &&
      (if n = 0 then decide ((s.eng.ctrls.filter (·.isMgmt)).length < 8)
       else decide (s.ctrlCount n < ((s.slice n).map (·.desc.ctrls)).getD 0))

/-- A queue index R86 gives a queue of a subsystem, and it is not in use. -/
def State.queueFree (s : State) (t : ConnTarget) (io : Bool) (i : Nat) : Bool :=
  (s.queue i).isNone &&
    (match t with
     | .ring _ => decide (10240 ≤ i ∧ i < 10308)
     | _ => if io then decide (i < 8192) else decide (8192 ≤ i ∧ i < 10240))

/-- Entries a queue may have (R66, R75). -/
def sizeOk (t : ConnTarget) (io : Bool) (n : Nat) : Bool :=
  match t with
  | .ring _ => if io then n == 1024 else n == 32
  | _ => decide (2 ≤ n) && (if io then decide (n ≤ 4096) else decide (n ≤ 256))

/-- The controller of an I/O queue's Connect: of the same subsystem and host. -/
def State.joins (s : State) (t : ConnTarget) (c : ConnectReq) : Option Ctrl :=
  (s.ctrl c.cntlid).filter (fun k => k.hostNqn == c.hostNqn && k.hostId == c.hostId && !k.stopped &&
    (match t with
     | .discovery => false
     | .ring nb => k.ring == some nb
     | .slice n => k.ring.isNone && !k.discovery && k.slice == n))

/-- Posts a Connect's completion on the queue it is for. -/
def State.postConnect (c : ConnectReq) (status : Nat) (result : Word) (s : State) : State :=
  { s with eng := { s.eng with posted := s.eng.posted ++
      [{ queue := c.newQueue, cid := c.cid, status := status, result := result, sqhd := if c.flowOff then 0xFFFF else 0 }] } }

/-- A failed Connect of an I/O queue adds an Error Information entry to the controller it names (R128). -/
def State.connectErr (c : ConnectReq) (k : Ctrl) (status : Nat) (s : State) : State :=
  s.recordErr { idx := 131072, slice := k.slice, queue := c.newQueue, cntl := k.id, cap := { opc := 0x7F, cid := c.cid, fabrics := 1 } } status

/-- Posts the refusal of a Connect for an I/O queue of a controller. -/
def State.refuseIo (c : ConnectReq) (k : Ctrl) (status : Nat) (result : Word) (s : State) : State :=
  (s.postConnect c status result).connectErr c k status

/-- The queue a Connect creates. -/
def connQueue (c : ConnectReq) (cntl : Nat) : Queue :=
  { idx := c.newQueue, cntl := cntl, qid := c.qid, conn := c.conn, size := c.sqsize, flowOff := c.flowOff }

/-- An admin queue's Connect: a new controller (R66, R138, R589). -/
def State.connectAdmin (c : ConnectReq) (y : Conn) (t : ConnTarget) (s : State) : State :=
  match (match t with | .ring _ => some 100 | _ => katoOf c.kato) with
  | none => s.postConnect c St.connectInvalidParams 0
  | some kato =>
    if !sizeOk t false c.sqsize then s.postConnect c St.connectInvalidParams 0
    else if !s.ctrlRoom t then s.postConnect c St.connectBusy 0
    else if !(1 ≤ c.newCntlid && c.newCntlid ≤ 0x800 && (s.ctrl c.newCntlid).isNone) || !s.queueFree t false c.newQueue then s
    else
      let k : Ctrl :=
        { id := c.newCntlid, slice := t.num, mac := y.mac, iface := y.iface, hostNqn := c.hostNqn, hostId := c.hostId,
          ring := match t with | .ring nb => some nb | _ => none
          discovery := t == .discovery, kato := kato, kaAt := s.seed.now, tUnder := if s.fuses.grade = 2 then 248 else 263 }
      let k := { k with warn := s.critWarn k }
      let e := s.eng
      let s := { s with eng := { e with ctrls := e.ctrls ++ [k], queues := e.queues ++ [connQueue c k.id] } }
      -- a neighbour's association is set up and now authenticates (R84)
      let s := match t with
        | .ring nb =>
          let fb := s.fabric
          { s with fabric := { fb with nbs := modNth fb.nbs nb (fun n => { n with state := if n.state = 1 then 2 else n.state }) } }
        | _ => s
      (s.postConnect c St.ok (BitVec.ofNat 32 c.newCntlid)).evalTolerance

/-- Invalid Parameters naming the QID field of the Connect command (R67): IPO 42 in Dword 0. -/
def qidField : Word := 42

/-- An I/O queue's Connect: it takes an unused queue pair of its slice (R67). -/
def State.connectIo (c : ConnectReq) (t : ConnTarget) (s : State) : State :=
  match s.joins t c with
  | none => s.postConnect c St.connectInvalidParams 0
  | some k =>
    let mine := s.eng.queues.filter (fun q => q.cntl == k.id && q.qid != 0)
    let most := match t with | .ring _ => 16 | _ => 128
    if t == .slice 0 || mine.any (·.qid == c.qid) || most ≤ mine.length || !sizeOk t true c.sqsize then
      s.refuseIo c k St.connectInvalidParams qidField
    else
      match (match t with | .slice n => s.slice n | _ => none) with
      | some x =>
        if x.desc.qpairs ≤ s.usedPairs x.num then
          (s.refuseIo c k St.connectInvalidParams qidField).capture
            ((3 + macPort k.mac) * 256 + 8) [x.num]
        else if !s.queueFree t true c.newQueue then s
        else
          let s := { s with eng := { s.eng with queues := s.eng.queues ++ [connQueue c k.id] } }
          s.postConnect c St.ok (BitVec.ofNat 32 k.id)
      | none =>
        if !s.queueFree t true c.newQueue then s
        else
          let s := { s with eng := { s.eng with queues := s.eng.queues ++ [connQueue c k.id] } }
          s.postConnect c St.ok (BitVec.ofNat 32 k.id)

/-- The controller a Connect for an I/O queue names. -/
def State.ioCtrl (s : State) (c : ConnectReq) : Option Ctrl := if c.qid = 0 then none else s.ctrl c.cntlid

/-- Connect: VLAN, authentication and subsystem first, then the queue it asks for. It counts as a command admitted (R105, R134), and waits
while the priority of its connection is paused (R58). -/
def execConnect (c : ConnectReq) (s : State) : Out :=
  match s.fabric.conns.find? (·.id == c.conn) with
  | none => .next s
  | some y =>
    if s.glb.state != .ready || s.store.flush.isSome || (y.tcp && !y.icDone) || s.connPaused y then .next s
    else
      let s := s.bump Reg.CE_CNT_ADMIT 1
      let refuse (st : Nat) : State := match s.ioCtrl c with
        | none => s.postConnect c st 0
        | some k => s.refuseIo c k st 0
      match s.target y c.subnqn with
      | none => .next (refuse St.connectInvalidParams)
      | some t =>
        if !s.mayConnect y t then .next (refuse St.connectInvalidHost)
        else
          match s.authCause y t (authRun y.ring.isSome c.authHash c.authDh c.auth) (c.qid != 0) with
          | some cause => .next ((refuse St.connectInvalidHost).authEvent y t cause)
          | none => .next (if c.qid = 0 then s.connectAdmin c y t else s.connectIo c t)

/-- Runs an authentication command on an entry. -/
def State.authCmd (e typ : Nat) (f : Cct → Ctrl → State → State) (s : State) : State :=
  match s.entry e with
  | none => s
  | some c =>
    match s.ctrl c.cntl with
    | none => s
    | some k => if c.st == .dispatched && c.cap.opc == 0x7F && c.cap.fabrics == typ then f c k s else s

/-- The target a controller belongs to. -/
def Ctrl.target (k : Ctrl) : ConnTarget :=
  match k.ring with
  | some nb => .ring nb
  | none => if k.discovery then .discovery else .slice k.slice

/-- Authentication Send (0x7F, type 5): a failed exchange on a queue whose subsystem requires it is recorded and ends the
association. -/
def execAuthenticationSend (e : Nat) (x : AuthExchange) (s : State) : Out :=
  (s.authCmd e 5 (fun c k s =>
    let s := s.reply c St.ok
    let conn := (s.queue c.queue).bind (fun q => s.fabric.conns.find? (·.id == q.conn))
    match conn with
    | none => s
    | some y =>
      if authRun k.ring.isSome x.hash x.dh x.outcome == .failed && s.authCause y k.target .failed false == some 1 then
        (s.authEvent y k.target 1).loseHost k.id
      else s)).done

/-- Authentication Receive (0x7F, type 6): the device's part of the exchange, whose bytes are random (AL, Dword 11). -/
def execAuthenticationReceive (e : Nat) (s : State) : Out :=
  .next (s.authCmd e 6 (fun c _ s => s.finish e St.ok 0 (.page 0 c.cap.dw11.toNat [])))

end Sys2Proof.Machine
end

