-- ==== Sys2Proof/Machine/Fabric.lean ====
section
/-! DEFINITION. The fabric ports: links, ANA on a port's failure, pause frames, address resolution, rate control, transport
connections, and the Bramble ring (chapter 02). -/

namespace Sys2Proof.Machine

open Sys2Proof

/-- Base of the event group of a MAC's port (R85), and a register of it. -/
def macEv (mac code : Nat) : Nat := (3 + macPort mac) * 256 + code
def portReg (p off : Nat) : Nat := off + 0x1000 * p
def State.portFld (s : State) (mac off hi lo : Nat) : Nat := s.fld (portReg (macPort mac) off) hi lo

def State.mac (s : State) (m : Nat) : Option Mac := s.fabric.macs[m]?

def State.modMac (m : Nat) (f : Mac → Mac) (s : State) : State :=
  let fb := s.fabric
  { s with fabric := { fb with macs := modNth fb.macs m f } }

/-! ### Link state (R49, R70 to R73) -/

/-- DOWN_HOLD in µs (R72), UP_HOLD in ms (R81). -/
def State.downHold (s : State) (m : Nat) : Nat := clampNat 1 20 (s.portFld m Reg.PORT_HOLD 7 0)
def State.upHold (s : State) (m : Nat) : Nat := max 1 (s.portFld m Reg.PORT_HOLD 31 16)

/-- The PCS reports a fault of a MAC (R71 step 1); the uncorrectable FEC codewords it has seen are counted (R83). -/
def execLinkFault (mac : Nat) (f : PcsFault) (s : State) : Out :=
  match s.mac mac with
  | none => .next s
  | some m =>
    let s := if m.present then s.bump (portReg (macPort mac) Reg.PORT_CNT_FEC_UNC) f.unc else s
    if !m.present || m.fault || f.cause < 1 || 3 < f.cause then .next s
    else .next (s.modMac mac (fun m => { m with fault := true, faultAt := s.seed.now, cause := f.cause, link := false }))

/-- Slices some controller of which, on an up MAC, now sees a group in another ANA state than before. -/
def anaMoved (s0 s : State) (x : SliceS) : Bool :=
  s.eng.ctrls.any (fun k => k.isTenant && k.slice == x.num && s.macUp k &&
    (s0.anaOf k 1 != s.anaOf k 1 || s0.anaOf k 2 != s.anaOf k 2))

/-- Steps 3 and 4 of R71: the states of every slice are computed again, the change count rises, notices go out. -/
def State.anaMac (mac : Nat) (s0 s : State) : State :=
  let s := s.anaChange (anaMoved s0 s)
  s.capture (macEv mac 3) [s.fabric.anaCount]

/-- DOWN_HOLD has passed with the fault: the MAC is declared down; completions of its connections' commands are discarded, of those whose
capsules still wait too, and no pause of its link partner stands any longer (R37, R70, R71). -/
def execMacDown (mac : Nat) (s : State) : Out :=
  match s.mac mac with
  | none => .next s
  | some m =>
    if !m.up || !m.fault || s.since m.faultAt < s.downHold mac then .next s
    else
      let none8 : List (Option Nat) := List.replicate 8 none
      let s1 := (s.modMac mac (fun m => { m with up := false, paused := none8, pauseWarned := List.replicate 8 false })).capture
        (macEv mac 1) [mac, m.cause]
      let fb := s1.fabric
      let conns := (fb.conns.filter (·.mac == mac)).map (·.id)
      let qs := (s1.eng.queues.filter (fun q => conns.contains q.conn)).map (·.idx)
      let cct := s1.eng.cct.map (fun c => if qs.contains c.queue then { c with discard := true } else c)
      let l : List Conn := modAll fb.conns (·.mac == mac) (fun y => { y with lost := true })
      let s2 := { s1 with eng := { s1.eng with cct := cct }, fabric := { fb with conns := l } }
      (State.anaMac mac s s2).done

/-- FEC of a link, as PORT_LINK codes it (R47, R49, R80): RS(544,514) in the modes that have it always on; on 25G and 10G types the
strongest the partner advertises too, and on a chip-to-module interface the one the image fixes. -/
def linkFec (mode phy partner cfg : Nat) : Nat :=
  if mode < 4 then 3
  else if phy = 2 then cfg
  else if mode = 4 && partner.testBit 1 then 2
  else if partner.testBit 0 then 1
  else 0

/-- PHY types of a mode: KR, CR and a chip-to-module interface, but no CR at 10G, whose third type is SFI (R47). -/
def phyOf (mode phy : Nat) : Bool := phy ≤ 2 && !(mode == 5 && phy == 1)

/-- The link comes up after auto-negotiation and training (R49, R80): UP_HOLD starts. -/
def execLinkUp (mac : Nat) (p : LinkPartner) (s : State) : Out :=
  match s.mac mac with
  | none => .next s
  | some m =>
    let mode := s.fabric.modes.getD (macPort mac) 0
    if !m.present || m.link || !phyOf mode p.phy then .next s
    else
      let fec := linkFec mode p.phy p.fecs (s.fabric.fecCfg.getD (macPort mac) 0)
      .next (s.modMac mac (fun m => { m with link := true, linkAt := s.seed.now, fault := false, fec := fec, phy := p.phy }))

/-- UP_HOLD has passed without a fault: the MAC is declared up (R70, R71). -/
def execMacUp (mac : Nat) (s : State) : Out :=
  match s.mac mac with
  | none => .next s
  | some m =>
    if m.up || !m.link || m.fault || s.since m.linkAt < s.upHold mac * 1000 then .next s
    else
      let s1 := (s.modMac mac (fun m => { m with up := true })).capture (macEv mac 2) [mac]
      (State.anaMac mac s s1).done

/-! ### Priority flow control (R57, R58) -/

/-- A pause frame of the link partner: XOFF or XON of a priority. -/
def execPauseFrameReceived (mac prio : Nat) (on : Bool) (s : State) : Out :=
  match s.mac mac with
  | none => .next s
  | some m =>
    if !m.up || 8 ≤ prio then .next s
    else
      let s := s.bump (portReg (macPort mac) Reg.PORT_CNT_PFC_RX) 1
      .next (s.modMac mac (fun m =>
        if on then { m with paused := modNth m.paused prio (fun x => some (x.getD s.seed.now)) }
        else { m with paused := modNth m.paused prio (fun _ => none), pauseWarned := modNth m.pauseWarned prio (fun _ => false) }))

/-- A priority has been paused for 100 ms without a break. -/
def execPauseLong (mac prio : Nat) (s : State) : Out :=
  match s.mac mac with
  | none => .next s
  | some m =>
    match (m.paused[prio]?).bind id with
    | none => .next s
    | some t =>
      if s.since t < 100000 || m.pauseWarned.getD prio true then .next s
      else
        let s := s.modMac mac (fun m => { m with pauseWarned := modNth m.pauseWarned prio (fun _ => true) })
        (s.capture (macEv mac 5) [mac, prio]).done

/-! ### Addresses (R54, R431) -/

/-- An interface whose MAC carries frames now: up, and in L4 not taken down by L4_LINK. -/
def State.liveIface (s : State) (i : Nat) : Option Iface :=
  (s.fabric.ifaces.find? (·.num == i)).filter (fun x =>
    ((s.mac x.mac).map (·.up)).getD false && !(s.power.state == .l4 && s.fabric.l4link.getD (macPort x.mac) 0 == 2))

/-- A frame's VLAN tag suits an interface: its own VLAN ID, or on an untagged interface no tag or a priority tag (R52). -/
def tagOk (x : Iface) (tag : Option Nat) : Bool :=
  match x.vlan with
  | some v => tag == some v
  | none => tag.isNone || tag == some 0

/-- The interface a frame is taken on: live, and the frame carries its tag; other frames are dropped (R52). -/
def State.ifaceIn (s : State) (i : Nat) (tag : Option Nat) : Option Iface := (s.liveIface i).filter (fun x => tagOk x tag)

/-- An ARP request for the interface's address is answered, in L4 by the wake logic. -/
def execArpRequest (f : IpFrame) (ip : BitVec 32) (s : State) : Out :=
  match s.ifaceIn f.iface f.tag with
  | none => .next s
  | some x => .next (if x.ip4 == ip then s.send (.arpReply f.iface ip) else s)

/-- A Neighbor Solicitation for one of the interface's IPv6 addresses is answered. -/
def execNeighborSolicitation (f : IpFrame) (ip : BitVec 128) (s : State) : Out :=
  match s.ifaceIn f.iface f.tag with
  | none => .next s
  | some x => .next (if x.ip6.contains ip then s.send (.neighborAdvert f.iface ip) else s)

/-- A frame for an interface: in L4 the wake logic of its port sends XOFF and wakes the device (R431). -/
def State.frameIn (x : Iface) (s : State) : State :=
  if s.power.state == .l4 then ((s.leaveTo .l0 1 0).wakeXoff (macPort x.mac)).smartCheck else s

/-- Largest frame payload the device takes (R51). -/
def maxPayload : Nat := 9000

/-- Frames an IP packet of `len` bytes takes on an interface: none is larger than its MTU (R51). A fragment of an IPv4 packet carries
its own 20-byte header, one of an IPv6 packet 40 bytes and the 8 of its fragment header, in multiples of 8 bytes (PRESUMED, assumption
88). -/
def framesOf (mtu len : Nat) (v6 : Bool) : Nat :=
  let h := if v6 then 40 else 20
  let room := (mtu - (if v6 then 48 else 20)) / 8 * 8
  if len ≤ mtu then 1 else ceilDiv (len - h) (max 8 room)

/-- An echo request is answered in frames within the MTU of the interface; in L4 its frame is a wake
event. -/
def execEchoRequest (f : IpFrame) (q : EchoReq) (s : State) : Out :=
  match s.ifaceIn f.iface f.tag with
  | none => .next s
  | some x =>
    if (q.v6 && x.ip6.isEmpty) || maxPayload < q.len then .next s
    else ((s.frameIn x).send (.echoReply f.iface q.len (framesOf x.mtu q.len q.v6))).done

/-! ### Rate control (R59 to R61) -/

/-- Line rate of a MAC by its port's mode, in bit/s (R47). -/
def State.lineRate (s : State) (mac : Nat) : Nat :=
  match s.fabric.modes.getD (macPort mac) 0 with
  | 0 => 400000000000 | 1 => 200000000000 | 2 => 100000000000 | 3 => 50000000000 | 4 => 25000000000 | _ => 10000000000

def State.flow (s : State) (f : Nat) : Option Flow := s.fabric.flows.find? (·.id == f)

def State.modFlow (f : Nat) (g : Flow → Flow) (s : State) : State :=
  let fb := s.fabric
  { s with fabric := { fb with flows := modFirst fb.flows (·.id == f) g } }

/-- Time since an event of a flow has reached a number of µs; true when there was none. -/
def State.gapOk (s : State) (t : Option Nat) (us : Nat) : Bool := t.elim true (fun t => decide (us ≤ s.since t))

/-- An ECN-CE mark on a queue pair: a CNP goes to its sender, at most one per CNP_GAP. -/
def execEcnCeReceived (flow : Nat) (s : State) : Out :=
  match s.flow flow with
  | none => .next s
  | some f =>
    if f.tcp || !s.gapOk f.lastCnp (s.portFld f.mac Reg.RC_CFG1 15 8) then .next s
    else
      let s := s.modFlow flow (fun f => { f with lastCnp := some s.seed.now })
      (((s.send (.cnp flow)).bump (portReg (macPort f.mac) Reg.PORT_CNT_CNP_TX) 1)).done

/-- RMIN and the decreased rate of a flow. -/
def State.rcRmin (s : State) (mac : Nat) : Nat := max 1 (s.portFld mac Reg.RC_CFG1 31 16) * 100000000
def State.rcDown (s : State) (f : Flow) : Nat :=
  max (s.rcRmin f.mac) (f.rc - f.rc * s.portFld f.mac Reg.RC_CFG0 31 24 / 256)

/-- The decrease of R60: not within DEC_GAP of the last, and not at all with DEC 0 (R82). -/
def State.decrease (f : Flow) (s : State) : State :=
  if s.portFld f.mac Reg.RC_CFG0 31 24 = 0 || !s.gapOk f.lastDec (s.portFld f.mac Reg.RC_CFG0 15 8) then s
  else s.modFlow f.id (fun y => { y with rc := s.rcDown f, lastDec := some s.seed.now })

/-- A congestion notification packet of a queue pair. -/
def execCnpReceived (flow : Nat) (s : State) : Out :=
  match s.flow flow with
  | none => .next s
  | some f =>
    if f.tcp then .next s
    else ((s.bump (portReg (macPort f.mac) Reg.PORT_CNT_CNP_RX) 1).decrease f).done

/-- Sender maximum segment size of a connection: its interface's MTU less the IPv4 and TCP headers (PRESUMED, assumption 88). -/
def State.smss (s : State) (conn : Nat) : Nat :=
  let y := s.fabric.conns.find? (·.id == conn)
  ((y.bind (fun y => s.fabric.ifaces.find? (·.num == y.iface))).map (·.mtu)).getD 1500 - 40

/-- Initial window of RFC 5681 (R61). -/
def initWindow (smss : Nat) : Nat := if 2190 < smss then 2 * smss else if 1095 < smss then 3 * smss else 4 * smss

/-- The congestion window falls as RFC 5681 has it for a congestion signal: to half of what is in flight, at least two segments (R61).
What is in flight is a free value no greater than the window. -/
def State.cutWindow (f : Flow) (s : State) : State :=
  let r := s.drawFree
  let w := max (min f.cwnd r.1.toNat / 2) (2 * s.smss f.id)
  r.2.modFlow f.id (fun y => { y with cwnd := w, ssthresh := some w })

/-- An ACK with ECE of a TCP connection that has negotiated ECN: the rate rule and the window both act (R59, R60, R61). -/
def execTcpEceAck (flow : Nat) (s : State) : Out :=
  match s.flow flow with
  | none => .next s
  | some f =>
    if !f.tcp || !(s.fabric.conns.find? (·.id == flow)).elim false (·.ecn) then .next s
    else .next ((s.decrease f).cutWindow f)

/-- The most a flow may have sent in `us` µs: what rc allows, and on TCP what the window allows too (R60, R61). -/
def Flow.maySend (f : Flow) (us : Nat) : Nat := if f.tcp then min (f.rc * us / 8000000) f.cwnd else f.rc * us / 8000000

/-- INC_PERIOD of a flow in µs, and INC_STEP in bit/s. -/
def State.incPeriod (s : State) (mac : Nat) : Nat := max 1 (s.portFld mac Reg.RC_CFG0 7 0) * 10
def State.incStep (s : State) (mac : Nat) : Nat := s.portFld mac Reg.RC_CFG0 23 16 * 100000000

/-- The increase of R60 toward the line rate: once an INC_PERIOD, and not within one of the last decrease. -/
def execRateIncrease (flow : Nat) (s : State) : Out :=
  match s.flow flow with
  | none => .next s
  | some f =>
    if !s.gapOk f.lastDec (s.incPeriod f.mac) || s.since f.lastInc < s.incPeriod f.mac then .next s
    else .next (s.modFlow flow (fun y => { y with rc := min (s.lineRate f.mac) (f.rc + s.incStep f.mac), lastInc := s.seed.now }))

/-! ### Transport connections (R55, R62, R63, R65, R74) -/

/-- The connection services are open: from step 11 of a cold boot, and through a pause (R485, R524). -/
def State.services (s : State) : Bool := (s.glb.state == .ready || s.glb.state == .pause) && s.store.flush.isNone

/-- A new connection and its flow, at the line rate (R60). -/
def State.addConn (y : Conn) (s : State) : State :=
  let fb := s.fabric
  let w := if y.tcp then initWindow (((fb.ifaces.find? (·.num == y.iface)).map (·.mtu)).getD 1500 - 40) else 0
  let f : Flow := { id := y.id, mac := y.mac, tcp := y.tcp, rc := s.lineRate y.mac, lastInc := s.seed.now, cwnd := w }
  { s with fabric := { fb with conns := fb.conns ++ [y], flows := fb.flows ++ [f] } }

/-- The neighbour one of whose addresses a remote address is, on the interface RING_PEER gives for that address (R74). -/
def State.nbOf (s : State) (iface : Nat) (remote : BitVec 128) : Option Nat :=
  (List.range 2).find? (fun i =>
    (s.fabric.nbs[i]?).elim false (fun n =>
      n.configured && ((n.addr0 == remote && n.if0 == iface) || (n.addr1 == remote && n.if1 == iface))))

/-- A TCP connection request: accepted on ports 4420 and 8009 once the device is ready, else reset. ECN is in use when the host asks
for it (R59). -/
def execTcpConnectRequest (conn : Nat) (f : IpFrame) (q : TcpSyn) (remote : BitVec 128) (s : State) : Out :=
  let _ := remote
  match s.ifaceIn f.iface f.tag with
  | none => .next s
  | some x =>
    let s := s.frameIn x
    if s.fabric.conns.any (·.id == conn) then .next s
    else if !s.services || (q.port != 4420 && q.port != 8009) then .next (s.send (.tcpReset conn))
    else .next ((s.addConn { id := conn, iface := f.iface, mac := x.mac, tcp := true, port := q.port, ecn := q.ecn }).send (.tcpAccept conn q.ecn))

/-- RDMA MTU of a queue pair: the one asked for, 4,096 bytes when none is, lowered to one whose packets, with 80 bytes of headers, fit
the interface's MTU (R51, R65; the headers PRESUMED, assumption 88). -/
def rdmaMtu (asked mtu : Nat) : Nat :=
  (([4096, 2048].filter (fun m => (asked = 0 || m ≤ asked) && m + 80 ≤ mtu)).head?).getD 1024

/-- An RDMA connection request: accepted once the device is ready, for a Reliable Connected queue pair, else rejected; a packet whose
UDP port or invariant CRC is wrong is no RoCEv2 packet (R55, R65). -/
def execRdmaConnectRequest (conn : Nat) (r : RdmaReq) (remote : BitVec 128) (s : State) : Out :=
  match (s.ifaceIn r.frame.iface r.frame.tag).filter (fun _ => r.udp == 4791 && r.icrcOk) with
  | none => .next s
  | some x =>
    let s := s.frameIn x
    if s.fabric.conns.any (·.id == conn) then .next s
    else if !s.services || !r.rc then .next (s.send (.rdmaReject conn))
    else
      let y : Conn := { id := conn, iface := r.frame.iface, mac := x.mac, tcp := false, ring := s.nbOf r.frame.iface remote, ecn := true,
                        pmtu := rdmaMtu r.mtu x.mtu, readMax := min 16 r.reads }
      .next ((s.addConn y).send (.rdmaAccept conn y.pmtu y.readMax))

/-- A pre-shared key of the management slice or of a tenant slice stands (R142, R541). -/
def State.hasPsk (s : State) (n : Nat) : Bool :=
  if n = 0 then !s.slices.mgPsk.isEmpty else (s.slice n).elim false (fun x => x.desc.pskLen != 0)

/-- The device can take a handshake (R63): TLS 1.3, one of the two cipher suites, psk_ke, or psk_dhe_ke with one of the two groups, no
certificate, and a pre-shared key it holds. -/
def State.tlsFits (s : State) (h : TlsHello) : Bool :=
  h.version == 0x0304 && [0x1301, 0x1302].contains h.suite && (!h.dhe || [0x0017, 0x001D].contains h.group) && !h.cert &&
    h.psk.elim false s.hasPsk

/-- A TLS handshake on a TCP connection: a failed one closes it and is recorded with its alert. No subsystem of the discovery port
requires TLS, so a handshake there fails; the alert of a handshake the device refuses is not stated (R63). -/
def execTlsHandshake (conn : Nat) (h : TlsHello) (s : State) : Out :=
  match s.fabric.conns.find? (·.id == conn) with
  | none => .next s
  | some y =>
    if !y.tcp || y.icDone || y.tls then .next s
    else
      let s0 := s
      let (alert, s) := if (y.port = 8009 || !s.tlsFits h) && h.alert.isNone then (some s0.drawFree.1.toNat, s0.drawFree.2)
        else (h.alert, s0)
      match alert with
      | none =>
        let fb := s.fabric
        .next { s with fabric := { fb with conns := modFirst fb.conns (·.id == conn) (fun y => { y with tls := true, psk := h.psk }) } }
      | some a => ((s.endConn conn).capture (macEv y.mac 6) [y.mac, a]).done

/-- ICReq of a TCP connection: digests and alignment are taken, and ICResp answers (R62). -/
def execIcreq (conn : Nat) (hdgst ddgst : Bool) (hpda : Nat) (s : State) : Out :=
  match s.fabric.conns.find? (·.id == conn) with
  | none => .next s
  | some y =>
    if !y.tcp || y.icDone || 32 ≤ hpda then .next s
    else
      let fb := s.fabric
      let f (y : Conn) : Conn := { y with icDone := true, hdgst := hdgst, ddgst := ddgst, hpda := hpda }
      .next (({ s with fabric := { fb with conns := modFirst fb.conns (·.id == conn) f } }).send (.icResp conn 0 maxH2cData))

/-! ### The Bramble ring (R74 to R78, R84) -/

def State.nb (s : State) (n : Nat) : Option Neighbour := s.fabric.nbs[n]?

def State.modNb (n : Nat) (f : Neighbour → Neighbour) (s : State) : State :=
  let fb := s.fabric
  { s with fabric := { fb with nbs := modNth fb.nbs n f } }

/-- Flow of queue pair `i` of the association the device initiates with a neighbour: numbered above the connections (R60, R75). -/
def initFlow (nb i : Nat) : Nat := 65536 + 17 * nb + i

/-- The queue pairs of an association: an admin queue of 32 entries and 16 I/O queues of 1,024 (R75). -/
def ringQps (nb : Nat) : List (Nat × Nat × Nat) :=
  (List.range 17).map (fun i => (i, if i = 0 then 32 else 1024, initFlow nb i))

/-- The queue pairs of the association the device initiates are set up, each a flow at the line rate of its MAC (R60, R75). -/
def State.openInit (nb mac : Nat) (s : State) : State :=
  let fb := s.fabric
  let new : List Flow := (ringQps nb).map (fun q => { id := q.2.2, mac := mac, tcp := false, rc := s.lineRate mac, lastInc := s.seed.now })
  { s with fabric := { fb with flows := fb.flows ++ new } }

/-- The MAC a neighbour is reached through on a port (R74). -/
def State.ringMac (s : State) (n : Neighbour) (port : Nat) : Nat :=
  ((s.fabric.ifaces.find? (·.num == (if port = 0 then n.if0 else n.if1))).map (·.mac)).getD (4 * port)

/-- An association is up and authenticated with the ring secret: event 0x10, 0x12 when this association was last up on the other
port; the peer of the replicated slices has returned (R74 to R77). -/
def execRingAssociationUp (nb : Nat) (initiator : Bool) (port : Nat) (s : State) : Out :=
  match s.nb nb with
  | none => .next s
  | some n =>
    if !n.configured || 1 < port || (if initiator then n.assocInit || n.tryPort != port else n.assocTarget) || !s.services ||
        s.fabric.ringSecret.isEmpty then .next s
    else
      let both := if initiator then n.assocTarget else n.assocInit
      let last := if initiator then n.lastPortI else n.lastPortT
      let s := s.modNb nb (fun n =>
        { n with assocInit := n.assocInit || initiator, assocTarget := n.assocTarget || !initiator, port := port,
                 lastPortI := if initiator then some port else n.lastPortI, lastPortT := if initiator then n.lastPortT else some port,
                 heardI := if initiator then s.seed.now else n.heardI, heardT := if initiator then n.heardT else s.seed.now,
                 initQps := if initiator then ringQps nb else n.initQps,
                 state := if both then 3 else 1, lostAt := none })
      let s := if initiator then s.openInit nb (s.ringMac n port) else s
      let s := s.capture 0x0310 [nb, port]
      let s := if last.elim false (· != port) then s.capture 0x0312 [nb, port] else s
      let s := if nb = 1 then s.slices.list.foldl (fun s x => s.peerBack x.num) s else s
      let s := s.slices.list.foldl (fun s x => s.cutOver x.num) s
      s.evalTolerance.done

/-- Time between two connection attempts: RETRY_MS, or 1 s once the peer is unreachable. -/
def State.retryUs (s : State) (n : Neighbour) : Nat :=
  if n.state = 4 then 1000000 else max 1 (s.fld Reg.RING_TIMERS 15 0) * 1000

/-- The next attempt at the association the device initiates, on the other address; an authentication failure is recorded and counts
as a failed attempt (R76, R77). -/
def execRingRetry (nb : Nat) (authFailed : Bool) (s : State) : Out :=
  match s.nb nb with
  | none => .next s
  | some n =>
    if !n.configured || n.assocInit || s.since n.retryAt < s.retryUs n then .next s
    else
      let s1 := s.modNb nb (fun n => { n with tryPort := 1 - n.tryPort, retryAt := s.seed.now })
      if authFailed then (s1.capture 0x0313 [nb, n.tryPort]).done else .next s1

/-- PEER_LOSS has passed without an association: the peer is unreachable (R77); what waits for it goes on (R157, R166). -/
def execRingPeerUnreachable (nb : Nat) (s : State) : Out :=
  match s.nb nb with
  | none => .next s
  | some n =>
    match n.lostAt with
    | none => .next s
    | some t =>
      if !n.configured || n.state = 4 || n.assocInit || n.assocTarget ||
          s.since t < max 1 (s.fld Reg.RING_TIMERS 31 16) * 1000 then .next s
      else
        let s := (s.modNb nb (fun n => { n with state := 4, retryAt := s.seed.now })).capture 0x0311 [nb]
        let s := if nb = 1 then s.slices.list.foldl (fun s x => s.peerLost x.num) s else s
        (s.migPeerLost nb).done

/-- 100 ms without a sign of the peer on it: the association is lost (R76). -/
def execRingKeepAliveExpiry (nb : Nat) (initiator : Bool) (s : State) : Out :=
  match s.nb nb with
  | none => .next s
  | some n =>
    if s.since (if initiator then n.heardI else n.heardT) < 100000 then .next s else (s.assocLost nb initiator).done

end Sys2Proof.Machine
end

