-- ==== Sys2Proof/Machine/Memory.lean ====
section
/-! DEFINITION. Punnet SRAM, PD5 tables, Quince words and DRAM: corrected and uncorrectable results, retirement, rank removal,
refresh, retraining, scrubbing, flip masks (chapter 10). -/

namespace Sys2Proof.Machine

open Sys2Proof

/-! ### The population (R389 to R392, R417) -/

/-- Width (0 ×4, 1 ×8), density code, ranks, spare and refresh mode of DRAM_TOPO. -/
def Mem.width (m : Mem) : Nat := m.topo.getD 0 0
def Mem.density (m : Mem) : Nat := m.topo.getD 1 0
def Mem.rankCount (m : Mem) : Nat := m.topo.getD 2 0
def Mem.spare (m : Mem) : Nat := m.topo.getD 3 0
def Mem.compat (m : Mem) : Bool := m.topo.getD 5 0 == 1

/-- Capacity of a rank in GiB (R390). -/
def rankGib (width density : Nat) : Nat := [8, 16, 24, 32, 48, 64].getD density 0 * (if width = 0 then 2 else 1)

/-- Banks of a rank: 16 at 8 Gbit, else 32, as DDR5 devices have (PRESUMED). -/
def rankBanks (density : Nat) : Nat := if density = 0 then 16 else 32

/-- State of a rank (R418). -/
def State.rankSt (s : State) (c r : Nat) : Nat := (s.mem.ranks.getD c []).getD r 0

def State.setRank (c r st : Nat) (s : State) : State :=
  let m := s.mem
  { s with mem := { m with ranks := modNth m.ranks c (fun l => modNth l r (fun _ => st)) } }

/-- A rank whose lines are accessed: in use, a migration's source or target, or the spare being filled. -/
def State.rankUsed (s : State) (c r : Nat) : Bool := [1, 3, 4, 5, 7].contains (s.rankSt c r)

/-- DRAM works: L0 and L1 have it on (R396, R426). -/
def State.dramOn (s : State) : Bool := s.power.state == .l0 || s.power.state == .l1

/-! ### Retirement (R403 to R405) -/

/-- MiB of map space that removed ranks without a spare, retired banks and retired pages take. -/
def Mem.lossMib (m : Mem) : Nat :=
  let g := rankGib m.width m.density * 1024
  let used (c : Nat) : Nat := ((m.ranks.getD c []).filter (fun x => x == 1 || x == 4 || x == 5 || x == 7)).length
  sumBy (List.range 4) (fun c => (m.rankCount - m.spare - used c) * g) + m.retiredBanks.length * (g / rankBanks m.density) +
    m.retiredPages.length / 256

/-- Pages of the map of every namespace (R176). -/
def State.mapPages (s : State) : List (Nat × Nat × Nat) :=
  s.slices.list.flatMap (fun x => x.nss.flatMap (fun n => (List.range (ceilDiv (s.nsUnits n) 512)).map (fun p => (x.num, n.nsid, p))))

/-- Map pages that no longer fit the map region are not resident (R409); which they are is open, and here the last ones. -/
def State.fitPages (s : State) : State :=
  let room := (s.mapRegionMib + s.mem.lostMib - s.mem.lossMib) * 256
  let st := s.store
  { s with store := { st with nonResident := s.mapPages.drop room } }

/-- A retired bank: its remapped pages are freed, its content moves into the map space (R404). -/
def State.retireBank (c rank bank : Nat) (s : State) : State :=
  let m := s.mem
  let pages := m.retiredPages.filter (fun p => !(p.1 == c && p.2.1 == rank && p.2.2.1 == bank))
  let s := { s with mem := { m with retiredPages := pages, retiredBanks := m.retiredBanks ++ [(c, rank, bank)] } }
  let s := ((if s.rankSt c rank = 1 then s.setRank c rank 7 else s).fitPages).writeSettings
  s.capture 0x0D03 [c, rank, bank, rankGib m.width m.density * 1024 / rankBanks m.density]

/-! ### Rank removal (R406 to R409) -/

/-- A rank is lost without a spare: the map region shrinks, event 0x06. -/
def State.dropRank (c rank : Nat) (s : State) : State :=
  let m := s.mem
  let s := ({ s with mem := { m with removedRanks := m.removedRanks ++ [(c, rank)], rankLost := true } }).setRank c rank 6
  let s := s.fitPages.writeSettings
  s.capture 0x0D06 [c, rank, rankGib m.width m.density, s.store.nonResident.length]

/-- Removal of a rank (R408): onto the channel's unused spare, else without one (R409). A migration's target that fails leaves
its source without a spare. -/
def State.removeRank (c rank cause : Nat) (s : State) : State :=
  let spare := (List.range 4).find? (fun r => s.rankSt c r == 2)
  let s := s.capture 0x0D04 [c, rank, cause, b2n spare.isSome]
  match s.mem.migrating.find? (fun x => x.1 == c && x.2.2.1 == rank) with
  | some x =>
    let m := s.mem
    let s := { s with mem := { m with migrating := m.migrating.filter (· != x), removedRanks := m.removedRanks ++ [(c, rank)] } }
    (s.setRank c rank 6).dropRank c x.2.1
  | none =>
    match spare with
    | none => s.dropRank c rank
    | some r =>
      let m := s.mem
      let s := { s with mem := { m with migrating := m.migrating ++ [(c, rank, r, s.seed.now)] } }
      (s.setRank c rank 5).setRank c r 3

/-- A page of a rank reaches its threshold: retired while the remap table has room, and then perhaps its bank, or, with one bank
retired already, the rank (R403, R404). -/
def State.retirePage (c rank bank page : Nat) (s : State) : State :=
  let m := s.mem
  let errs := m.pageErrs.filter (fun e => !(e.c == c && e.rank == rank && e.bank == bank && e.page == page))
  if 4096 ≤ (m.retiredPages.filter (·.1 == c)).length then
    ({ s with mem := { m with pageErrs := errs } }).capture 0x0D02 [c, rank, page, 1]
  else
    let pages := m.retiredPages ++ [(c, rank, bank, page)]
    let s := (({ s with mem := { m with pageErrs := errs, retiredPages := pages } }).fitPages).writeSettings
    let s := s.capture 0x0D02 [c, rank, page, 0]
    let n : Nat := (s.mem.retiredPages.filter (fun (p : Nat × Nat × Nat × Nat) => p.1 == c && p.2.1 == rank && p.2.2.1 == bank)).length
    if n < max 1 (s.fld Reg.DRAM_RETIRE_CFG 15 0) then s
    else if s.mem.retiredBanks.any (fun b => b.1 == c && b.2.1 == rank) then s.removeRank c rank 3
    else s.retireBank c rank bank

/-- Distinct pages of a rank with a correction attributed to a device within the last operating hour (R406). -/
def State.devPages (s : State) (c rank dev : Nat) : Nat :=
  (((s.mem.pageErrs.filter (fun e => e.c == c && e.rank == rank && e.dev == dev && s.opMs < e.at_ + 3600000)).map
    (fun e => (e.bank, e.page))).dedup).length

/-- A device with corrections in more than 1,024 pages within an hour has failed (R406). -/
def State.checkDevice (c rank dev : Nat) (s : State) : State :=
  let n := s.devPages c rank dev
  if n ≤ 1024 || s.mem.failedDevs.contains (c, rank, dev) then s
  else
    let m := s.mem
    let s := ({ s with mem := { m with failedDevs := m.failedDevs ++ [(c, rank, dev)] } }).capture 0x0D07 [c, rank, dev, n]
    if (List.range 4).any (fun r => s.rankSt c r == 2) then s.removeRank c rank 4 else s

/-- A corrected line: written back, counted, and charged to its page (R397, R403). -/
def State.corrected (c rank dev bank page : Nat) (s : State) : State :=
  let s := (s.bump Reg.DRAM_CNT_CE 1).capture 0x0D01 [c, rank, dev, page]
  let m := s.mem
  let e : PageErr := { c := c, rank := rank, dev := dev, bank := bank, page := page, at_ := s.opMs }
  let errs := m.pageErrs.filter (fun x => s.opMs < x.at_ + 86400000) ++ [e]
  let ue := m.ueRow.filter (fun x => !(x.1 == c && x.2.1 == rank))
  let s := { s with mem := { m with pageErrs := errs, ueRow := ue } }
  let n := (errs.filter (fun x => x.c == c && x.rank == rank && x.bank == bank && x.page == page)).length
  let gone := s.mem.retiredPages.contains (c, rank, bank, page)
  let s := s.checkDevice c rank dev
  if !gone && max 1 (s.fld Reg.DRAM_RETIRE_CFG 31 24) ≤ n && s.rankUsed c rank then s.retirePage c rank bank page else s

/-- A corrected DRAM line of a rank in use. -/
def execDramCorrectedError (c rank dev bank page : Nat) (s : State) : Out :=
  if !s.rankUsed c rank || !s.dramOn then .next s else (s.corrected c rank dev bank page).done

/-! ### Recovery of a lost line (R410) -/

/-- A transport protocol error of a connection (R88): an I/O connection ends, an admin connection ends its association. -/
def State.connError (conn : Nat) (s : State) : State :=
  let admins := (s.eng.queues.filter (fun q => q.conn == conn && 8192 ≤ q.idx)).map (·.cntl)
  admins.foldl (fun s k => s.loseHost k) (s.endConn conn)

/-- DRAM channel of a write-buffer offset in copy A, and of the same offset in copy B (R29, R184): channels 0 and 1 take turns by offset
(assumption 90). -/
def copyChan (off : Nat) (copyB : Bool) : Nat := off % 2 + 2 * b2n copyB

/-- A line of a channel can have that owner. -/
def ownerHere (c : Nat) (o : LineOwner) : Bool :=
  match o with
  | .bufferCopy off copyB => c == copyChan off copyB
  | .bufferBoth off => c % 2 == off % 2
  | _ => true

/-- The content of a lost line comes from its source; a double fault loses the map unit, or ends connections. -/
def State.recoverLine (o : LineOwner) (s : State) : State :=
  let unit (off : Nat) (s : State) : State :=
    match s.bufAt off with
    | none => s
    | some b => if (s.entryAt b.slice b.nsid b.mu).loc == .buffered off then s.loseUnit b.slice b.nsid b.mu 6 none else s
  match o with
  | .bufferCopy off copyB =>
    match s.bufAt off with
    | none => s
    | some b => if (if copyB then b.goodA else b.goodB) then s else unit off s
  | .bufferBoth off => unit off s
  | .metadataCopy | .mapPage | .other => s
  | .metadataBoth queues =>
    let conns := ((s.eng.queues.filter (fun q => queues.contains q.idx)).map (·.conn)).dedup
    conns.foldl (fun s c => s.connError c) s

/-- Uncorrectable or command/address error in a rank (R397, R398, R407): the line is recovered and the rank removed. A line that
fails while its rank is already being copied to the spare is only recovered (R408 step 5). -/
def execDramUncorrectable (c rank cause : Nat) (owner : LineOwner) (s : State) : Out :=
  if !s.rankUsed c rank || !s.dramOn || (cause != 1 && cause != 2) then .next s
  else
    let s := s.bump Reg.DRAM_CNT_UE 1
    let m := s.mem
    let n : Nat := ((m.ueRow.find? (fun x => x.1 == c && x.2.1 == rank)).map (·.2.2)).getD 0 + 1
    let ue := (c, rank, n) :: m.ueRow.filter (fun x => !(x.1 == c && x.2.1 == rank))
    let s : State := { s with mem := { m with ueRow := ue } }
    let s : State := if s.rankSt c rank = 5 then s else s.removeRank c rank (if cause = 1 && 3 ≤ n then 2 else cause)
    (if ownerHere c owner then s.recoverLine owner else s).done

/-- The spare has taken the removed rank's addresses (R408 step 6). -/
def execRankMigratedToSpare (c ms : Nat) (s : State) : Out :=
  match s.mem.migrating.find? (·.1 == c) with
  | none => .next s
  | some (_, rank, spare, t) =>
    let m := s.mem
    let s := { s with mem := { m with migrating := m.migrating.filter (· != (c, rank, spare, t)),
                                      removedRanks := m.removedRanks ++ [(c, rank)] } }
    let s := ((s.setRank c rank 6).setRank c spare 1).writeSettings
    (s.capture 0x0D05 [c, rank, spare, ms]).done

/-! ### Punnet words and PD5 tables (R397, R401, R402) -/

/-- The command or unit job that holds a punnet: its slice. -/
def State.punSlice (s : State) (p : Nat) : Nat :=
  match s.eng.cct.find? (fun c => c.chain.contains p) with
  | some c => c.slice
  | none => ((s.store.jobs.find? (fun j => j.chain.contains p)).map (·.slice)).getD 0

/-- Code of the action by owner, as event 0x02 has it. -/
def punAction : PunnetOwner → Nat
  | .rdmaWrite => 1 | .tcpWrite _ => 2 | .readData => 3 | .compression => 4 | .parity => 5 | .maintenance => 6
  | .streamWindow _ => 7

/-- What the device does by the owner of an uncorrectable word. Data fetched again by RDMA READ comes into a new chain. -/
def State.punRecover (p : Nat) (o : PunnetOwner) (s : State) : State :=
  match o with
  | .rdmaWrite =>
    match s.eng.cct.find? (fun c => c.chain.contains p) with
    | none => s
    | some c => s.modEntry c.idx (fun c => if c.step = 0 then { c with chain := [], cap := { c.cap with data := [] } } else { c with chain := [] })
  | .tcpWrite conn => s.connError conn
  | .streamWindow job =>
    match s.comp.jobs.find? (fun j => j.id == job && !j.sender) with
    | none => s
    | some j =>
      (s.modStream job (fun j => { j with discard := some (j.discard.getD j.seq), windowEmpty := true, window := [] })).send
        (.restartRequest job (j.discard.getD j.seq) none)
  | .readData =>
    -- the unit goes to a lane again
    match s.store.jobs.find? (fun j => j.chain.contains p && j.reading) with
    | none => s
    | some j => s.giveLane j.id
  | .compression =>
    match s.store.jobs.find? (fun j => j.chain.contains p && !j.reading) with
    | none => s
    | some j => (if j.stage = 2 then s.freeFilling j.buf else s).giveLane j.id
  | .parity | .maintenance => s

def execPunnetUncorrectable (p word : Nat) (owner : PunnetOwner) (s : State) : Out :=
  match s.mem.punnets.find? (·.num == p) with
  | none => .next s
  | some x =>
    if 512 ≤ word then .next s
    else
      let s := (s.bump Reg.PN_CNT_UE 1).capture 0x0C02 [p, x.cls, punAction owner, s.punSlice p]
      (s.punRecover p owner).done

/-- A copy of a PD5 table word is uncorrectable: the other copy is used and the bad one rewritten. -/
def execTableCopyError (table idx : Nat) (s : State) : Out :=
  if table < 1 || 3 < table then .next s else ((s.bump Reg.TBL_CNT_CE 1).capture 0x0C03 [table, idx]).done

/-- A pass over the punnet SRAM and the PD5 tables: each word corrected is written back and counted (R401). -/
def execSramScrubPass (fixed : List (Nat × Nat)) (s : State) : Out :=
  if s.power.state != .l0 then .next s
  else
    (fixed.foldl (fun s x =>
      let cls := ((s.mem.punnets.find? (·.num == x.1)).map (·.cls)).getD 0
      (s.bump Reg.PN_CNT_CE 1).capture 0x0C01 [x.1, x.2, cls]) s).done

/-- The Quince refresh that is due: every word of both dies rewritten; `bad` a die with an uncorrectable word (R401). -/
def execQuinceRefresh (fixed : List (Nat × Nat × Nat)) (bad : Option Nat) (s : State) : Out :=
  let h := s.seed.hours - s.mem.qAt
  if s.power.state != .l0 || h < max 1 (s.fld Reg.Q_REFRESH 31 16) then .next s
  else
    let s := fixed.foldl (fun s x => (s.bump (Reg.Q_CNT_CE0 + 4 * (x.1 % 2)) 1).capture 0x0C05 [x.1 % 2, x.2.1, x.2.2]) s
    let s := match bad with
      | none => s
      | some d => s.quinceFail d
    let m := s.mem
    let s := { s with mem := { m with qAt := s.seed.hours, qLapH := min h 65535, qFixed := fixed.length } }
    (s.capture 0x0C06 [h, fixed.length]).done

/-! ### Refresh, temperature, retraining, scrubbing (R393 to R396, R400) -/

/-- A refresh slot of a rank: REFsb in native mode; in compatibility mode up to eight refreshes are postponed while the rank has
queued accesses, and issued as one burst. -/
def execDramRefresh (c rank : Nat) (queued : Bool) (s : State) : Out :=
  if !s.rankUsed c rank || !s.dramOn || !s.mem.compat then .next s
  else
    let m := s.mem
    let n := ((m.pend.find? (fun x => x.1 == c && x.2.1 == rank)).map (·.2.2)).getD 0
    let rest := m.pend.filter (fun x => !(x.1 == c && x.2.1 == rank))
    let k := n + b2n queued
    let burst := (queued && 8 ≤ k) || (!queued && 0 < n)
    let m := { m with pend := if burst || k = 0 then rest else (c, rank, k) :: rest, pendMax := max m.pendMax k }
    let s := { s with mem := m }
    if burst then (s.bump Reg.DRAM_CNT_REF_BURST 1).done else .next s

/-- Mode register 4 of a rank: a rate above 1× halves tREFI and is recorded once. -/
def execDramMr4Poll (c rank : Nat) (hot : Bool) (s : State) : Out :=
  if !s.rankUsed c rank || !s.dramOn then .next s
  else
    let m := s.mem
    let known := m.hot.contains (c, rank)
    if hot && !known then (({ s with mem := { m with hot := m.hot ++ [(c, rank)] } }).capture 0x0D0C [c, rank]).done
    else if !hot && known then .next { s with mem := { m with hot := m.hot.filter (· != (c, rank)) } }
    else .next s

/-- A channel's retraining step on the next rank and subchannel. -/
def execDramRetrainStep (c : Nat) (ok : Bool) (ns : Nat) (s : State) : Out :=
  if 4 ≤ c || !s.dramOn || s.mem.rankCount = 0 then .next s
  else
    let s := s.bump Reg.DRAM_CNT_RETRAIN 1
    let m := s.mem
    let pos := m.trainPos.getD c 0
    let rank := pos / 2
    let sub := pos % 2
    let n := if ok then 0 else ((m.trainFail.find? (fun x => x.1 == c && x.2.1 == sub)).map (·.2.2)).getD 0 + 1
    let rest := m.trainFail.filter (fun x => !(x.1 == c && x.2.1 == sub))
    let s := { s with mem := { m with trainPos := modNth m.trainPos c (fun p => (p + 1) % (2 * m.rankCount)),
                                      trainFail := if n = 0 || 3 ≤ n then rest else (c, sub, n) :: rest,
                                      lastPause := max m.lastPause (min ns 65535) } }
    if 3 ≤ n then (s.capture 0x0D0A [c, sub, rank]).done else .next s

/-- Lines of a channel that a lap reads. -/
def State.scrubTotal (s : State) : Nat := s.glb.dramGib / 4 * 16777216

/-- Progress of the lap in hundredths of a percent. -/
def State.scrubProgress (s : State) : Nat :=
  if s.scrubTotal = 0 then 0
  else sumBy s.mem.scrubLines (fun n => min n s.scrubTotal) * 10000 / (4 * s.scrubTotal)

/-- The maintenance engine reads lines of a channel, some corrected; a lap of all channels is recorded. -/
def execDramScrub (c lines fixed : Nat) (s : State) : Out :=
  if 4 ≤ c || s.power.state != .l0 || s.scrubTotal = 0 then .next s
  else
    let s := s.bump Reg.DRAM_CNT_SCRUB_FIX fixed
    let m := s.mem
    let s := { s with mem := { m with scrubLines := modNth m.scrubLines c (· + lines), scrubFixed := m.scrubFixed + fixed } }
    if s.mem.scrubLines.all (fun n => decide (s.scrubTotal ≤ n)) then
      let m := s.mem
      let secs := s.since m.scrubAt / 1000000
      let n := m.scrubFixed
      let s := { s with mem := { m with scrubAt := s.seed.now, scrubLines := [0, 0, 0, 0], scrubFixed := 0, scrubOver := false,
                                        scrubLapS := min secs 65535 } }
      (s.capture 0x0D08 [15, secs, n]).done
    else s.done

/-- The lap has run longer than WARN_H. -/
def execDramScrubLapWarn (s : State) : Out :=
  let h := s.since s.mem.scrubAt / 3600000000
  if s.mem.scrubOver || s.scrubTotal = 0 || s.since s.mem.scrubAt ≤ max 1 (s.fld Reg.DRAM_SCRUB_CFG 31 16) * 3600000000 then .next s
  else
    let m := s.mem
    (({ s with mem := { m with scrubOver := true } }).capture 0x0D09 [h, s.scrubProgress]).done

/-! ### Flip masks and checker tests (R411, R412, R415, R421) -/

/-- Bits set in a word. -/
def popcount (w : Word) : Nat := (List.range 32).foldl (fun a i => a + bits w i i) 0

/-- RESULT of a read-back: errors a code corrects, detects, or neither, where the result is open. -/
def State.testResult (n : Nat) (s : State) : Nat × State :=
  if n = 0 then (1, s)
  else if n = 1 then (2, s)
  else if n = 2 then (3, s)
  else
    let (w, s) := s.drawFree
    (1 + w.toNat % 3, s)

/-- A write to PN_FLIP_CTL: CHECK_MASK and ARM are taken, and RUN runs the test on a punnet of class 0 (R411, R412). -/
def State.pnFlipWrite (v : Word) (s : State) : State :=
  let old := s.reg Reg.PN_FLIP_CTL
  let arm := bits old 8 8 = 1 ∨ bits v 8 8 = 1
  let s := s.setReg Reg.PN_FLIP_CTL (BitVec.ofNat 32 (bits v 7 0 + atBit 8 (if arm then 1 else 0)))
  if bits v 9 9 = 0 then s
  else if !s.punMay 0 1 then { s with mem := { s.mem with pnResult := 4 } }
  else
    let p := (freeNums (s.mem.punnets.map (·.num)) punnetCount 1 0).headD 0
    let n := if arm then popcount (s.reg Reg.PN_FLIP_MASK) + popcount (BitVec.ofNat 32 (bits v 7 0)) else 0
    let s := if arm then (s.setReg Reg.PN_FLIP_CTL 0).setReg Reg.PN_FLIP_MASK 0 else s
    let (r, s) := s.testResult n
    let s := if r = 2 then (s.bump Reg.PN_CNT_CE 1).capture 0x0C01 [p, 0, 0] else s
    { s with mem := { s.mem with pnResult := r } }

def execPnFlipArm (v : Word) (s : State) : Out := (s.pnFlipWrite v).done
def execPnFlipRun (v : Word) (s : State) : Out := (s.pnFlipWrite v).done

/-- A write to Q_FLIP_CTL: DIE is taken; ARM only if MASK has at most two bits set. -/
def execQFlipArm (v : Word) (s : State) : Out :=
  let old := s.reg Reg.Q_FLIP_CTL
  let take := bits v 8 8 = 1 ∧ popcount (s.reg Reg.Q_FLIP_MASK) ≤ 2
  let arm := bits old 8 8 = 1 ∨ take
  .next (s.setReg Reg.Q_FLIP_CTL (BitVec.ofNat 32 (bits v 0 0 + atBit 8 (if arm then 1 else 0))))

/-- Devices that a mask over the first beat touches: 32 data bits and 8 check bits in devices of four or eight bits (R397,
R412). -/
def maskDevs (width mask check : Nat) : List Nat :=
  let w := if width = 0 then 4 else 8
  let all := mask + check * 2 ^ 32
  (List.range (40 / w)).filter (fun d => all / 2 ^ (w * d) % 2 ^ w != 0)

/-- A write to DRAM_FLIP_CTL: its fields are taken, and RUN writes and reads the test line of CH and SUB. -/
def State.dramFlipWrite (v : Word) (s : State) : State :=
  let old := s.reg Reg.DRAM_FLIP_CTL
  let arm := bits old 8 8 = 1 ∨ bits v 8 8 = 1
  let keep := atBit 10 (bits v 11 10) + atBit 9 (bits v 9 9)
  let s := s.setReg Reg.DRAM_FLIP_CTL
    (BitVec.ofNat 32 (atBit 24 (bits v 31 24) + keep + atBit 8 (if arm then 1 else 0)))
  if bits v 0 0 = 0 then s
  else
    let devs := if arm then maskDevs s.mem.width (s.reg Reg.DRAM_FLIP_MASK).toNat (bits v 31 24) else []
    let s := if arm then (s.setReg Reg.DRAM_FLIP_CTL (BitVec.ofNat 32 keep)).setReg Reg.DRAM_FLIP_MASK 0 else s
    let (r, s) := s.testResult devs.length
    let s := { s with mem := { s.mem with dramResult := r } }
    if r != 2 then s
    else
      let page := max 8 (s.glb.dramGib / 8) / 4 * 262144 - 1
      let rank := page / max 1 (rankGib s.mem.width s.mem.density * 262144)
      let (bank, s) := s.drawFree
      s.corrected (bits v 11 10) rank (devs.headD 0) bank.toNat page

def execDramFlipArm (v : Word) (s : State) : Out := (s.dramFlipWrite v).done
def execDramFlipRun (v : Word) (s : State) : Out := (s.dramFlipWrite v).done

/-! ### DRAM_RETIRE_CTL (R405, R420) -/

/-- A write to DRAM_RETIRE_CTL with KEY asks for entries to be cleared at the next cold boot. -/
def State.retireCtl (v : Word) (s : State) : State :=
  if bits v 31 16 != 0xD5A7 then s
  else
    let m := s.mem
    { s with mem := { m with clearRanks := m.clearRanks || bits v 1 1 = 1, clearPages := m.clearPages || bits v 0 0 = 1 } }

def execClearRanks (v : Word) (s : State) : Out := .next (s.retireCtl v)
def execClearPages (v : Word) (s : State) : Out := .next (s.retireCtl v)

end Sys2Proof.Machine
end

