-- ==== Sys2Proof/Machine/ImageCheck.lean ====
section
/-! DEFINITION. The checks of a configuration image: the reason it is refused with and the record that fails (R389, R496 to R499, R502,
R503). -/

namespace Sys2Proof.Machine

open Sys2Proof

/-- Index of a failing record when no record fails. -/
def noRecord : Nat := 0xFFFF

/-- TYPE of a record and the index by which it may repeat (R498). -/
def recKey : ImgRecord → Nat × Nat
  | .board .. => (0x0001, 0)
  | .dramTopo .. => (0x0010, 0)
  | .dramTiming .. => (0x0011, 0)
  | .dramBoard .. => (0x0012, 0)
  | .carrierSlot n .. => (0x0020, n)
  | .array .. => (0x0021, 0)
  | .port n .. => (0x0030, n)
  | .macAddr n .. => (0x0031, n)
  | .interface i => (0x0032, i.num)
  | .mgmtVlan .. => (0x0033, 0)
  | .dcb .. => (0x0034, 0)
  | .ringPeer n .. => (0x0040, n)
  | .ringSecret .. => (0x0041, 0)
  | .sense .. => (0x0050, 0)
  | .registers .. => (0x0060, 0)
  | .eventLimit .. => (0x0070, 0)
  | .unknown t => (t, 0)
  | .badLen t i => (t, i)

/-- Numbers of the records that a predicate of (earlier records, record) holds for; the first of them. -/
def firstBad (p : List ImgRecord → ImgRecord → Bool) (seen : List ImgRecord) (i : Nat) : List ImgRecord → Option Nat
  | [] => none
  | r :: t => if p seen r then some i else firstBad p (seen ++ [r]) (i + 1) t

/-! ### What the image says of the ports (R47, R48) -/

/-- Logical MACs of a mode. -/
def macsOf (mode : Nat) : Nat := [1, 2, 4, 4, 4, 4].getD mode 0

/-- Mode of a port in a list of records. -/
def modeIn (l : List ImgRecord) (p : Nat) : Option Nat :=
  l.findSome? (fun r => match r with | .port n m .. => if n = p then some m else none | _ => none)

/-- A logical MAC that the image's port modes provide. -/
def macIn (l : List ImgRecord) (m : Nat) : Bool := (modeIn l (m / 4)).any (fun x => decide (m % 4 < macsOf x))

/-- MGMT_VLAN of a list of records. -/
def vlanIn (l : List ImgRecord) : Option Nat := l.findSome? (fun r => match r with | .mgmtVlan v => some v | _ => none)

/-! ### Reasons 5 to 8 -/

/-- An unknown required type, or a record that repeats without an index of its own (R497). -/
def badKind (seen : List ImgRecord) (r : ImgRecord) : Bool :=
  (match r with | .unknown t => !t.testBit 15 && decide (t < 65536) | _ => false) ||
    (match r with | .unknown _ => false | _ => seen.any (fun x => recKey x == recKey r))

/-- A required record is missing (R498). -/
def missing (l : List ImgRecord) : Bool :=
  [(0x10, 0), (0x11, 0), (0x12, 0), (0x21, 0), (0x30, 0), (0x30, 1), (0x33, 0), (0x50, 0)].any (fun k => !l.any (fun r => recKey r == k)) ||
    (List.range 8).any (fun m => macIn l m && !l.any (fun r => recKey r == (0x31, m))) ||
    !l.any (fun r => match r with | .interface i => i.vlan == vlanIn l && i.vlan.isSome | _ => false)

/-- FEC a PORT record may fix for the chip-to-module type of a mode, coded as in PORT_LINK: RS(528,514), BASE-R FEC or none at 25G,
BASE-R FEC or none at 10G; the other modes take no value from it (R47, R49). -/
def fecOfMode (mode f : Nat) : Bool := if mode = 4 then f ≤ 2 else if mode = 5 then f ≤ 1 else true

/-- A value lies out of its range (R47, R52, R219, R259, R498, R566). -/
def badValue (l : List ImgRecord) (r : ImgRecord) : Bool :=
  match r with
  | .board m s => decide (64 < m.length) || decide (32 < s.length)
  | .dramTopo w d _ sp rd rf _ => decide (1 < w) || decide (5 < d) || decide (1 < sp) || decide (1 < rd) || decide (1 < rf)
  | .dramTiming ps => ps.length != 16
  | .dramBoard _ => false
  | .carrierSlot n f m _ _ => decide (15 < n) || decide (1 < f) || !(rateOrder f).contains m
  | .array u _ _ op pad ps jr => !([4, 16, 64].contains u) || decide (op < 4) || decide (28 < op) || decide (pad < 100) || decide (60000 < pad) ||
      decide (1 < ps) || decide (jr < 60) || decide (90 < jr)
  | .port n m l4 f .. => decide (1 < n) || decide (5 < m) || decide (2 < l4) || !fecOfMode m f
  | .macAddr m _ => decide (7 < m)
  | .interface i => decide (63 < i.num) || !macIn l i.mac || i.vlan.any (fun v => v == 0 || decide (4094 < v)) || decide (i.mtu < 1500) ||
      decide (9000 < i.mtu) || decide (2 < i.ip6.length)
  | .mgmtVlan v => v == 0 || decide (4094 < v)
  | .dcb ps => ps.length != 8 || ps.any (fun x => decide (100 < x.2))
  | .ringPeer n q _ _ a b => decide (1 < n) || decide (256 < q.length) || decide (63 < a) || decide (63 < b)
  | .ringSecret s => !([32, 48, 64].contains s.length)
  | .sense fs _ _ => fs.length != 8
  | .registers _ => false
  | .eventLimit es => es.any (fun e => decide (255 < e.2))
  | .unknown _ => false
  | .badLen .. => true

/-- The bits a REGISTERS entry may set: fields of type RW that are no capture selector, no flip mask, no half of SEED_RTC, and that the
device does not own (R479, R481, R499). -/
def cfgMask (off : Nat) : Nat :=
  let fixed := [0xD0020, 0x50060, 0x50070, 0x60030, 0x80F14, 0x10010, 0x10014]
  match regRow off with
  | none => 0
  | some r =>
    if fixed.contains off || (decide (0x80000 ≤ off) && decide (off < 0xA0000) && off % 0x1000 == 0x030) then 0
    else if off = 0x80F18 then 0x1F
    else if off = 0x50064 then 0xFF
    else if off = 0x50074 then 0x1
    else if off = 0x60034 then 0xFF000C00
    else if decide (0x30000 ≤ off) && decide (off < 0x30500) then
      let k := (off - 0x30000) / 0x40
      match (off - 0x30000) % 0x40 with
      | 0x00 => if k < 18 then 0x7FFFFF00 else r.rw
      | 0x14 => if k < 18 then 0 else r.rw
      | 0x20 => if k = 16 then 0 else r.rw
      | _ => r.rw
    else r.rw

/-- A rule is broken (R50, R175, R302, R389, R499). Whether LPI is accepted is decided by the mode of the port alone, since a PORT record
names no PHY type (DESIGN CHOICE, assumption 87); a link of another type does not use it. -/
def badRule (r : ImgRecord) : Bool :=
  match r with
  | .dramTopo w d n sp _ _ rate =>
    decide (n < 1) || decide (4 < n) || decide (n ≤ sp) || decide (64 < (n - sp) * rankGib w d) || decide (4 * ((n - sp) * rankGib w d) < 32) ||
      decide (rate < 3200) || decide (6400 < rate)
  | .array _ d p .. => !geomOk d p
  | .port _ m l4 .. => l4 == 1 && m != 4 && m != 5
  | .registers es => es.any (fun e => e.2.1 &&& ~~~(BitVec.ofNat 32 (cfgMask e.1)) != 0)
  | _ => false

/-! ### The whole image -/

/-- A record of the ring secret (R502). -/
def isSecret (r : ImgRecord) : Bool := match r with | .ringSecret _ => true | _ => false

/-- Reason of R503 and index of the failing record; none for a valid image. `owner` is OWNER_KEY_HASH, `store` the IMAGE_SEQ in force
when the image is to be stored. -/
def imageReason (owner : Option (BitVec 384)) (store : Option Nat) (b : ImageBundle) : Option (Nat × Nat) :=
  let im := b.image
  let l := im.records
  let at_ (reason : Nat) (i : Option Nat) : Option (Nat × Nat) := i.map (fun n => (reason, n))
  if !b.wellFormed || b.content != 3 then some (1, noRecord)
  else if !b.digestsOk || !b.sigOk || owner.any (· != b.keyHash) then some (2, noRecord)
  else if !im.tagOk || !im.formatOk || !im.reservedOk || decide (im.length < 32) || decide (1048576 < im.length) then some (3, noRecord)
  else if !im.crcOk then some (4, noRecord)
  else
    match at_ 5 (firstBad badKind [] 0 l) with
    | some x => some x
    | none =>
      if missing l then some (6, noRecord)
      else
        match at_ 7 (firstBad (fun _ r => badValue l r) [] 0 l) with
        | some x => some x
        | none =>
          match at_ 8 (firstBad (fun _ r => badRule r) [] 0 l) with
          | some x => some x
          | none =>
            match store with
            | none => none
            | some q =>
              if im.seq ≤ q then some (9, noRecord)
              else at_ 10 (firstBad (fun _ r => isSecret r) [] 0 l)

/-- IMAGE_SEQ of a copy, or 0 when it is invalid or empty (R511). -/
def State.copySeq (s : State) (n : Nat) : Nat :=
  match s.nor.copies.getD n none with
  | none => 0
  | some b => if (imageReason s.fuses.ownerKeyHash none b).isNone then b.image.seq else 0

end Sys2Proof.Machine
end

