-- ==== Sys2Proof/Machine/MediaUpkeep.lean ====
section
/-! DEFINITION. The commands of media upkeep: moving, erasing, end of life, patrol, retention, rebuild and reshape (chapter 06,
R314 to R332). -/

namespace Sys2Proof.Machine

open Sys2Proof

/-! ### Registers with rows of their own (R245, R256) -/

/-- MNT_CMD: bit 0 restarts the lap, bit 1 predicts every carrier's end of life. -/
def State.mntCmd (v : Word) (s : State) : State :=
  let s := if bits v 0 0 = 1 then s.newLap else s
  if bits v 1 1 = 1 then s.predictAll else s

/-- LAP_NOW (R245). -/
def execLapNow (v : Word) (s : State) : Out := (s.mntCmd v).done

/-- EOL_NOW (R256). -/
def execEolNow (v : Word) (s : State) : Out := (s.mntCmd v).done

/-! ### Moving (R224 to R228, R315, R316) -/

/-- Maintenance engines work: the device is ready, in L0, and no emergency flush runs. -/
def State.canMaintain (s : State) : Bool :=
  s.glb.state == .ready && s.power.state == .l0 && s.store.flush.isNone

/-- An engine takes a band. -/
def State.engage (eng job num : Nat) (s : State) : State :=
  let u := s.upkeep
  { s with upkeep := { u with jobs := modNth u.jobs eng (fun _ => job), moving := modNth u.moving eng (fun _ => some num) } }

/-- An engine that is idle, or on work that gives way. -/
def State.engIdle (s : State) (eng : Nat) : Bool :=
  eng < 4 && (s.upkeep.moving.getD eng none).isNone

/-- With the map-update ring more than half full the map stream runs ahead of the relocation stream (R212). -/
def State.mapFirst (s : State) : Bool := s.journal.fuller 50 && !s.store.dirtyPages.isEmpty

/-- An engine goes on with its band, or takes the next victim by class (R224). At half fill of the journal ring dirty map pages
come first (R212). -/
def execMaintenanceMoveStart (eng : Nat) (s : State) : Out :=
  if !s.canMaintain || 4 ≤ eng || s.mapFirst then .next s
  else s.granted .engine fun s =>
    match s.upkeep.moving.getD eng none with
    | some n => ((s.moveBand n ((s.band n).elim 1 (·.moveKind))).settleRelease).done
    | none =>
      match s.nextVictim with
      | none => .next s
      | some (n, kind, job) => (((s.engage eng job n).moveBand n kind).settleRelease).done

/-- Space for rebuild's extents has run out (R307): no open relocation stripe and no band for one. -/
def State.outOfSpace (s : State) : Bool :=
  (s.openOf 1).isNone && (s.openBandOf 1).isNone && (s.eraseChoice 1).isNone

/-- Rebuild waits for space, with its event once (R307, R355). -/
def State.waitSpace (s : State) : State :=
  if s.upkeep.noSpace then s
  else
    let valid := sumBy (s.store.placed.filter s.isValid) (·.len)
    let data := s.dataGran
    let u := s.upkeep
    ({ s with upkeep := { u with noSpace := true } }).capture 0x0A06 [s.rebuildSet.length, valid / 2097152, data / 2097152]

/-- An engine goes on with its band or takes the next band of the rebuild set (R315, R316). -/
def execRebuildStart (eng : Nat) (s : State) : Out :=
  if !s.canMaintain || 4 ≤ eng || s.mapFirst then .next s
  else s.granted .engine fun s =>
    match s.upkeep.moving.getD eng none with
    | some n =>
      if s.outOfSpace then .next s.waitSpace
      else ((s.moveBand n ((s.band n).elim 7 (·.moveKind))).settleRelease).done
    | none =>
      match s.nextRebuild with
      | none => .next s
      | some b =>
        if s.outOfSpace then .next s.waitSpace
        else (((s.engage eng 6 b.num).moveBand b.num (s.rebuildKind b)).settleRelease).done

/-! ### Reshape (R329 to R332) -/

/-- Writes the boundary record with the next band (R329, R344). -/
def State.setBoundary (b : Nat) (s : State) : State :=
  match s.array.reshape with
  | none => s
  | some (dn, pn, _, t) =>
    let s := s.jsync (.boundary b s.array.d s.array.p dn pn)
    { s with array := { s.array with reshape := some (dn, pn, b, t) } }

/-- The reshape ends: the new geometry is recorded with the array identity, the pool is the new one (R328, R329). -/
def State.endReshape (s : State) : State :=
  match s.array.reshape with
  | none => s
  | some (dn, pn, b, t) =>
    let s := s.jsync (.boundary 0xFFFFFFFF s.array.d s.array.p dn pn)
    let s := { s with array := { s.array with d := dn, p := pn, reshape := none } }
    (s.writeSettings.setPool).capture 0x0A0C [dn, pn, b, s.since t / 1000000]

/-- Acts on band B by its state (R329); bands of the rebuild set come first (R332). -/
def execReshapeBandStep (s : State) : Out :=
  match s.array.reshape with
  | none => .next s
  | some (_, _, n, _) =>
    if !s.canMaintain || s.nextRebuild.isSome || s.mapFirst then .next s
    else if s.nextBand ≤ n then .next s.endReshape
    else s.granted .engine fun s =>
      match s.band n with
      | none => .next (s.setBoundary (n + 1))
      | some b =>
        match b.st with
        | .erased => .next ((s.setBoundary (n + 1)).reformNew n)
        | .opened =>
          let s := match s.openOf b.stream with
            | some t => if t.band = n then s.padStream b.stream else s
            | none => s
          .next (s.closeBand n)
        | .full | .victim =>
          if b.kind == .landing then .next s else .next ((s.moveBand n 9).settleRelease)
        | .erasePending | .erasing => .next (s.setBoundary (n + 1))

/-! ### Erasing (R232 to R237, R340) -/

/-- The erases of a band start (R233). -/
def execEraseStart (band : Nat) (s : State) : Out :=
  if s.canMaintain || s.glb.state == .ready then ((s.startErase band).gatherHost).done else .next s

/-- A member's erase failed (R237): the block is retired; its replacement is erased before the band is ERASED. -/
def State.eraseFailed (b : Band) (pos : Nat) (m : Member) (s : State) : State :=
  let s := ((s.capture 0x0905 [m.die, m.block]).capture 0x0806 [b.num, 0, m.die, 0]).health 8 1
  let s := s.retireBlock b.num pos (if b.again then 3 else 2)
  match (s.band b.num).bind (·.members[pos]?) with
  | none => s
  | some n =>
    if n.block = m.block || s.memDown n then s
    else
      let s := (s.jsync (.eraseStarted b.num b.slc [(n.die, n.block)])).modBand b.num (fun x =>
        { x with listed := x.listed ++ [(n.die, n.block)] })
      s.enqueueOp n.die 4 3 b.num 0 pos

/-- An erase status (R233, R237, R241, R243, R288). With band 0xFFFF_FFFF it is the erase of an admission: `mem` is the block
times 2,048 plus the die. -/
def execEraseStatus (band mem : Nat) (st : OpStatus) (busyUs : Nat) (s : State) : Out :=
  if band = 0xFFFFFFFF then
    let d := mem % 2048
    let ok := match st with | .pass => true | .fail => false
    ((s.slowOp d 3 busyUs).admitErase d (mem / 2048) ok).done
  else
    match s.band band with
    | none => .next s
    | some b =>
      match b.members[mem]? with
      | none => .next s
      | some m =>
        match (s.dieGen m.die m.gen).bind (fun x => x.queue.find? (fun o =>
            o.kind == 3 && o.band == band && o.mem == mem && o.started && x.op == 3 && x.opId == o.id)) with
        | none => .next s
        | some o =>
          if s.memberTmoUs ≤ busyUs then .next s
          else
            let s := (s.endOp m.die o.id busyUs).slowOp m.die 3 busyUs
            match st with
            | .pass =>
              let w := s.eraseWear b.slc
              let s := s.modBlock m.die m.block (fun x =>
                { x with wear := x.wear + w, reads := 0, opt := 0, off := 0, track := false })
              let s := (s.health 4 1).modBand band (fun x => { x with erased := x.erased ++ [mem] })
              let s := (if b.again then s.health 6 1 else s).endOfLife (dieCar m.die)
              (((s.finishErase band).levelWear (dieCar m.die)).gatherHost).done
            | .fail => (((s.eraseFailed b mem m).finishErase band).gatherHost).done

/-- An erase in ERASING for longer than ERASE_STARVE_MS records event 0x04 once (R232). -/
def execEraseStarved (band : Nat) (s : State) : Out :=
  match s.band band with
  | none => .next s
  | some b =>
    let ms := max 1 (s.fld Reg.MNT_RET_CFG1 31 16)
    if b.st == .erasing && !b.starved && decide (ms * 1000 < s.since b.erasingAt) then
      let m := ((s.eraseLeft b).head?.bind (fun i => b.members[i]?)).getD { die := 0, gen := 0, block := 0 }
      let s := s.modBand band (fun x => { x with starved := true })
      .next (s.capture 0x0804 [m.die, m.block, ((s.die m.die).map (·.suspends)).getD 0, s.since b.erasingAt / 1000])
    else .next s

/-! ### End of life (R244) -/

/-- The 24-hour prediction. -/
def execEolPrediction (s : State) : Out := s.predictAll.done

/-! ### Patrol (R245, R246, R251) -/

/-- Codewords of a band's written stripes, and the index among them of one in a written stripe (R245). -/
def State.bandCw (s : State) (b : Band) : Nat := (s.writtenStripes b.num).length * (b.d + b.p) * (s.bandMem b / 8)
def State.cwIndex (s : State) (b : Band) (st mem cw : Nat) : Nat :=
  ((s.writtenStripes b.num).idxOf st * (b.d + b.p) + mem) * (s.bandMem b / 8) + cw

/-- Codewords of a band the lap has read. -/
def Upkeep.posOf (u : Upkeep) (n : Nat) : Nat := ((u.lapPos.find? (·.1 == n)).map (·.2)).getD 0

/-- The band is flagged for the patrol error level (R246). -/
def State.flagRefresh (b : Band) (s : State) : State :=
  if b.reqs.any (·.1 == 2) then s
  else
    let s := (s.request b.num 2 3).health 14 1
    { s with upkeep := { s.upkeep with lapRefresh := s.upkeep.lapRefresh + 1 } }

/-- What the result of a patrol read leads to. -/
def State.judge (b : Band) (m : Member) (st mem cw : Nat) (r : CwResult) (s : State) : State :=
  let f := s.memFacts m
  let lim := hardLimit ((codeOf f.spareBytes).getD 0)
  let pct := min 100 (s.fld Reg.MNT_PATROL_CFG 15 8)
  let r := match s.flippedAt b.num st mem cw with | some n => CwResult.clean n | none => r
  match r with
  | .clean n =>
    let s := if s.tracks m.die f n then s.modBlock m.die m.block (fun x => { x with track := true }) else s
    if pct * lim ≤ n * 100 then s.flagRefresh b else s
  | .late _ => (s.bumpCh Reg.CH_CNT_RETRY m.die 1).flagRefresh b
  | .uncorrectable rebuilt =>
    let s := ((s.bumpCh Reg.CH_CNT_UNC m.die 1).grownDefect b st mem).health 15 1
    let u := s.upkeep
    let s := { s with upkeep := { u with lapUnc := u.lapUnc + 1 } }
    if b.d ≤ mem then (s.repairCw b st mem cw).health 16 1
    else if rebuilt && s.canRecon b st mem then (s.repairCw b st mem cw).health 16 1
    else
      let r := s.loseCw b st mem cw 2
      r.2.health 17 r.1

/-- The lap has read a whole band, and perhaps the last of them (R245). -/
def State.lapBand (n : Nat) (s : State) : State :=
  let u := s.upkeep
  let s := { s with upkeep := { u with lapDone := u.lapDone ++ [n], lapFront := u.lapFront.filter (· != n) } }
  if s.patrolNext.isSome then s
  else
    let h := s.since s.upkeep.lapAt / 3600000000
    let u := s.upkeep
    let s := (s.capture 0x080E [h, u.lapCw / 2 ^ 20, u.lapRefresh, u.lapUnc]).health 11 1
    let v := s.upkeep
    (({ s with upkeep := { (v.unshow 5) with lastLapH := min 0xFFFFFFFF h, fullLap := false } }).satField 368 v.lastLapH h).newLap

/-- A patrol read of the next codeword of the lap (R245, R246); the first codeword of a page slot is its sense (R277). -/
def execPatrolReadComplete (band stripe mem cw : Nat) (r : CwResult) (s : State) : Out :=
  match s.band band with
  | none => .next s
  | some b =>
    match b.memberAt stripe mem with
    | none => .next s
    | some m =>
      let i := s.upkeep.posOf band
      if s.patrolNext != some band || s.cwIndex b stripe mem cw != i || !(s.writtenStripes band).contains stripe || b.d + b.p ≤ mem ||
         s.bandMem b / 8 ≤ cw then .next s
      else s.granted .engine fun s =>
        let f := s.memFacts m
        let s := if cw % max 1 (4 * f.planes) = 0 then (s.readBlock b m 1).bumpCh Reg.CH_CNT_READ m.die 1 else s
        let s := (s.bump Reg.LDPC_CNT_HD 1).health 10 1
        let u := s.upkeep.show 5
        let u := { u with lapCw := u.lapCw + 1, lapPos := (band, i + 1) :: u.lapPos.filter (·.1 != band) }
        let s := { s with upkeep := u }
        let s := s.judge b m stripe mem cw r
        (if s.bandCw b ≤ i + 1 then s.lapBand band else s).done

/-- A lap longer than PATROL_HOURS records event 0x0F once (R245). -/
def execPatrolLapOverrun (s : State) : Out :=
  let h := max 1 (s.fld Reg.MNT_PATROL_CFG 31 16)
  if !s.upkeep.lapOver && decide (h * 3600000000 < s.since s.upkeep.lapAt) then
    let s := { s with upkeep := { s.upkeep with lapOver := true } }
    .next (s.capture 0x080F [s.since s.upkeep.lapAt / 3600000000, s.lapProgress])
  else .next s

/-! ### Retention (R247, R248) -/

/-- Highest temperature sampled this minute on the carriers of a band's members; a carrier without a sample this minute counts with its
last one (R247; assumption 91). -/
def State.bandTemp (s : State) (b : Band) : Int :=
  match b.members.map (fun m => let c := s.carrier (dieCar m.die); c.minuteMax.getD c.temp) with
  | [] => 0
  | t :: l => l.foldl max t

/-- A band's equivalent age reaches L × (1 − w ÷ 2): it becomes a class 2 victim (R248). -/
def State.retentionDue (b : Band) (s : State) : State :=
  let w := s.bandWear b
  let n := min w.1 w.2
  if (b.st == .full || b.st == .opened) && !b.reqs.any (·.1 == 2) &&
     decide (s.retLimit b * ageUnit * (2 * w.2 - n) ≤ b.age * (2 * w.2)) then
    ((s.request b.num 2 3).health 12 1).capture 0x080C [b.num, b.age / ageUnit, w.1 * 100 / max 1 w.2]
  else s

/-- One operating minute: every band that is not erased ages by AF(T) ÷ 60 hours (R247), then R248. -/
def execRetentionAgeUpdate (s : State) : Out :=
  let u := s.upkeep
  let bands := u.bands.map (fun b => if b.st == .erased then b else { b with age := b.age + afMillionths (s.bandTemp b) })
  let a := s.array
  let s := { s with upkeep := { u with bands := bands },
                    array := { a with carriers := a.carriers.map (fun c => { c with minuteMax := none }) } }
  .next (bands.foldl (fun s b => s.retentionDue b) s)

end Sys2Proof.Machine
end

