-- ==== Sys2Proof/Machine/Bundles.lean ====
section
/-! DEFINITION. Zezar bundles, configuration images and the activation record as bytes, every field little-endian (R10, R496 to R498,
R515 to R517, R520). -/

namespace Sys2Proof.Machine

open Sys2Proof

/-! ### Bundles (R515, R516) -/

/-- A component entry: KIND, CVER, OFFSET, LENGTH and DIGEST, and whether its reserved field is zero (R515). -/
structure BundleEntry where
  kind : Nat
  cver : Nat
  off : Nat
  len : Nat
  digest : List Byte
  zero : Bool
  deriving DecidableEq, Repr

/-- TOTAL_LEN, VERSION and SIGNATURE of a bundle (R515). -/
def bundleLen (d : List Byte) : Nat := fieldAt d 8 4
def bundleVersion (d : List Byte) : BitVec 64 := BitVec.ofNat 64 (fieldAt d 16 8)
def signatureOf (d : List Byte) : List Byte := d.drop (d.length - 96)

/-- The component entries of a bundle. -/
def entriesOf (d : List Byte) : List BundleEntry :=
  (List.range (fieldAt d 7 1)).map (fun i =>
    let o := 136 + 64 * i
    { kind := fieldAt d o 2, cver := fieldAt d (o + 4) 4, off := fieldAt d (o + 8) 4, len := fieldAt d (o + 12) 4,
      digest := bytesAt d (o + 16) 48, zero := fieldAt d (o + 2) 2 == 0 })

/-- A component's bytes. -/
def componentOf (d : List Byte) (e : BundleEntry) : List Byte := (d.drop e.off).take e.len

/-- Components that a content type carries (R516): 1 loader, 2 firmware, 3 configuration image. -/
def kindsOk (content : Nat) (l : List Nat) : Bool :=
  match content with
  | 1 => l == [0x0001]
  | 2 => [0x0010, 0x0011, 0x0012, 0x0013, 0x0014].all (fun k => l.contains k) && l.all (fun k => k == 0x0001 || (0x0010 ≤ k && k ≤ 0x0014))
  | 3 => l == [0x0002]
  | _ => false

/-- A bundle is well formed (R515, R516). -/
def bundleOk (d : List Byte) : Bool :=
  let es := entriesOf d
  let last := 136 + 64 * es.length
  let covered (i : Nat) : Bool := i < last || d.length ≤ i + 96 || es.any (fun e => e.off ≤ i && i < e.off + e.len)
  let apart (x y : BundleEntry) : Bool := x == y || x.off + x.len ≤ y.off || y.off + y.len ≤ x.off
  d.take 4 == nameBytes "ZEZB" && fieldAt d 4 2 == 1 && fieldAt d 24 2 == 0x7240 && fieldAt d 27 1 < 2 && fieldAt d 30 2 == 0 &&
    fieldAt d 129 7 == 0 && 1 ≤ es.length && es.length ≤ 16 && d.length == bundleLen d && last + 96 ≤ d.length &&
    es.all (fun e => e.zero && e.off % 4096 == 0 && last ≤ e.off && e.off + e.len + 96 ≤ d.length) &&
    es.all (fun x => es.all (apart x)) && (es.map (·.kind)).Nodup &&
    d.zipIdx.all (fun x => covered x.2 || x.1 == 0) && kindsOk (fieldAt d 6 1) (es.map (·.kind))

/-- PUBKEY, and its SHA-384 (R515, R517). -/
def publicKey (d : List Byte) : List Byte := bytesAt d 32 97
def keyHashOf (d : List Byte) : BitVec 384 := BitVec.ofNat 384 (leNat (sha384 (publicKey d)))

/-- Every DIGEST is the SHA-384 of its component; the signature verifies over the bytes before it (R517). -/
def digestsHold (d : List Byte) : Bool := (entriesOf d).all (fun e => sha384 (componentOf d e) == e.digest)
def signatureHolds (d : List Byte) : Bool := ecdsaOk (publicKey d) (d.take (d.length - 96)) (signatureOf d)

/-- A nested loader verifies as its own bundle, under the key of the bundle that holds it (R516, R517). -/
def loaderHolds (key : BitVec 384) (d : List Byte) : Bool :=
  bundleOk d && fieldAt d 6 1 == 1 && digestsHold d && signatureHolds d && keyHashOf d == key

/-- A bundle read from its bytes. -/
def readBundle (d : List Byte) : Bundle :=
  let nested := (entriesOf d).find? (fun e => e.kind == 0x0001 && fieldAt d 6 1 == 2)
  let inner := nested.elim [] (componentOf d)
  { wellFormed := bundleOk d, content := fieldAt d 6 1, totalLen := bundleLen d, secver := fieldAt d 12 2, settingsFmt := fieldAt d 14 2,
    version := bundleVersion d, dieMin := fieldAt d 26 1, forwardOk := fieldAt d 27 1 == 1, abi := fieldAt d 28 2, keyHash := keyHashOf d,
    signature := leNat (signatureOf d), digestsOk := digestsHold d, sigOk := signatureHolds d,
    loader := nested.map (fun e => (e.cver, e.len, loaderHolds (keyHashOf d) inner)),
    loaderMin := (fieldAt inner 12 2, fieldAt inner 26 1) }

/-! ### Configuration images (R496 to R498) -/

/-- Fields of `w` bytes each, from an offset. -/
def fieldsAt (d : List Byte) (o w n : Nat) : List Nat := (List.range n).map (fun i => fieldAt d (o + w * i) w)

/-- An INTERFACE record: an IPv6 address of zero is none (R52, R498). -/
def readIface (v : List Byte) : Iface :=
  { num := fieldAt v 0 1, mac := fieldAt v 1 1, vlan := if fieldAt v 2 2 = 0xFFFF then none else some (fieldAt v 2 2), mtu := fieldAt v 4 2,
    ip4 := BitVec.ofNat 32 (beNat (bytesAt v 6 4)),
    ip6 := ([15, 32].map (fun o => BitVec.ofNat 128 (beNat (bytesAt v o 16)))).filter (· != 0) }

/-- A record's value by its TYPE (R498): fields follow each other without gaps in the table's order, those without a width one byte, addresses in
network order (assumption 93). -/
def readRecord (type : Nat) (v : List Byte) : ImgRecord :=
  let b (o : Nat) : Nat := fieldAt v o 1
  let h (o : Nat) : Nat := fieldAt v o 2
  let sized (n : Nat) (r : ImgRecord) : ImgRecord := if v.length = n then r else .badLen type 0
  let indexed (n : Nat) (r : ImgRecord) : ImgRecord := if v.length = n then r else .badLen type (b 0)
  match type with
  | 0x0001 => sized 96 (.board (v.take 64) (v.drop 64))
  | 0x0010 => sized 8 (.dramTopo (b 0) (b 1) (b 2) (b 3) (b 4) (b 5) (h 6))
  | 0x0011 => sized 64 (.dramTiming (fieldsAt v 0 4 16))
  | 0x0012 => if v.length % 16 = 0 then .dramBoard (fieldsAt v 0 4 (v.length / 4)) else .badLen type 0
  | 0x0020 => indexed 7 (.carrierSlot (b 0) (b 1) (b 2) (h 3) (h 5))
  | 0x0021 => sized 8 (.array (b 0) (b 1) (b 2) (b 3) (h 4) (b 6) (b 7))
  | 0x0030 => indexed 10 (.port (b 0) (b 1) (b 2) (b 3) (b 4) (b 5) (fieldAt v 6 4))
  | 0x0031 => indexed 7 (.macAddr (b 0) (BitVec.ofNat 48 (beNat (bytesAt v 1 6))))
  | 0x0032 => indexed 65 (.interface (readIface v))
  | 0x0033 => sized 2 (.mgmtVlan (h 0))
  | 0x0034 => sized 16 (.dcb ((List.range 8).map (fun i => (b (2 * i) == 1, b (2 * i + 1)))))
  | 0x0040 => indexed 291 (.ringPeer (b 0) (trimNul (bytesAt v 1 256)) (BitVec.ofNat 128 (beNat (bytesAt v 257 16)))
      (BitVec.ofNat 128 (beNat (bytesAt v 273 16))) (b 289) (b 290))
  | 0x0041 => .ringSecret v
  | 0x0050 => sized 30 (.sense ((List.range 8).map (fun i => h (3 * i))) (fieldAt v 24 4) (h 28))
  | 0x0060 => if v.length % 12 = 0 then
      .registers ((List.range (v.length / 12)).map (fun i =>
        (fieldAt v (12 * i) 4, BitVec.ofNat 32 (fieldAt v (12 * i + 4) 4), BitVec.ofNat 32 (fieldAt v (12 * i + 8) 4)))) else .badLen type 0
  | 0x0070 => if v.length % 4 = 0 then .eventLimit ((List.range (v.length / 4)).map (fun i => (h (4 * i), b (4 * i + 2)))) else .badLen type 0
  | _ => .unknown type

/-- The records from an offset, at most `n` of them, with the offset behind the last (R497). -/
def readRecords (d : List Byte) (o : Nat) : Nat → List ImgRecord × Nat
  | 0 => ([], o)
  | n + 1 =>
    let len := fieldAt d (o + 2) 2
    let next := o + 4 + (len + 3) / 4 * 4
    if d.length < next then ([], d.length + 1)
    else
      let r := readRecords d next n
      (readRecord (fieldAt d o 2) ((d.drop (o + 4)).take len) :: r.1, r.2)

/-- A configuration image read from its bytes: its records must end where it does (R496). -/
def readImage (d : List Byte) : Image :=
  let r := readRecords d 32 (fieldAt d 20 4)
  { tagOk := d.take 4 == nameBytes "FVCI", formatOk := fieldAt d 4 2 == 1, reservedOk := fieldAt d 6 2 == 0 && fieldAt d 24 8 == 0,
    length := if fieldAt d 8 4 = d.length && r.2 = d.length then d.length else 0,
    crcOk := fieldAt d 12 4 == (crc32c (d.take 12 ++ natBytes 4 0 ++ d.drop 16)).toNat, seq := fieldAt d 16 4, records := r.1 }

/-- A bundle that holds a configuration image, read from its bytes on a die of a revision (R496, R502, R517). -/
def readImageBundle (rev : Nat) (d : List Byte) : ImageBundle :=
  { wellFormed := bundleOk d && fieldAt d 6 1 == 3 && fieldAt d 12 2 == 0, content := fieldAt d 6 1,
    digestsOk := digestsHold d && fieldAt d 26 1 ≤ rev,
    sigOk := signatureHolds d, keyHash := keyHashOf d,
    image := readImage (((entriesOf d).find? (·.kind == 0x0002)).elim [] (componentOf d)) }

/-! ### The activation record (R520) -/

/-- The 64 bytes of an activation record with a given CRC field. -/
def ActRec.with (a : ActRec) (crc : Nat) : List Byte :=
  nameBytes "FVAC" ++ natBytes 4 crc ++ natBytes 8 a.seq ++ natBytes 1 a.confirmed ++ natBytes 1 a.state ++ natBytes 1 a.loader ++
    natBytes 1 a.source ++ natBytes 8 a.pinnedGen ++ natBytes 2 a.secverTarget ++ natBytes 2 0 ++ natBytes 8 a.candVersion.toNat ++
    natBytes 8 a.confVersion.toNat ++ natBytes 16 0

/-- The record as it is written: CRC is the CRC-32C of its bytes with the field zero. -/
def ActRec.bytes (a : ActRec) : List Byte := a.with (crc32c (a.with 0)).toNat

end Sys2Proof.Machine
end

