-- ==== Sys2Proof/Machine/Loops.lean ====
section
/-! DEFINITION. The control engine's commands: samples of the loop slots, supervision and faults, writes of loop registers, the
dirty limit, the Hold-up Test, thermal sensing and the thermal limit (R456 to R484). -/

namespace Sys2Proof.Machine

open Sys2Proof

/-! ### Conversions and the charging range (R456, R466) -/

/-- Nominal resistance and B value of the bank thermistor (SENSE record). -/
def State.therm (s : State) : Nat × Nat :=
  (s.cfgFind (fun r => match r with | .sense _ r b => some (r, b) | _ => none)).getD (0, 0)

/-- New conversions of the 12-bit ADCs, with the bank voltage and the bank temperature they give. -/
def State.takeConvs (convs : List (Nat × Int)) (s : State) : State :=
  let l : List Int := convs.foldl (fun l x => modNth l x.1 (fun _ => max (-2048) (min 2047 x.2))) s.bank.sense
  let b := s.bank
  let s := { s with bank := { b with sense := l } }
  let b := s.bank
  let s := if convs.any (·.1 == 16) then { s with bank := { b with vMv := (s.snsVal 16).toNat } } else s
  let b := s.bank
  if convs.any (·.1 == 18) then
    { s with bank := { b with tempC := Config.thermistor (l.getD 18 0) s.therm.1 s.therm.2 } }
  else s

/-- HU_TLOW and HU_THIGH in °C (R482). -/
def State.huRange (s : State) : Int × Int :=
  (signed 8 (s.fld Reg.HU_CFG3 23 16), signed 8 (s.fld Reg.HU_CFG3 31 24))

/-- Charging stops outside the range of the bank thermistor and resumes 2 °C inside it, from the measured voltage (R466). -/
def State.chargeRange (s : State) : State :=
  let (lo, hi) := s.huRange
  let t := s.bank.tempC
  let b := s.bank
  if !b.forbidden && (decide (t < lo) || decide (hi < t)) then
    ({ s with bank := { b with forbidden := true, forbiddenAt := s.seed.now } }).capture 0x0E07
      [unsigned 32 t, unsigned 32 lo, unsigned 32 hi]
  else if b.forbidden && decide (lo + 2 ≤ t) && decide (t ≤ hi - 2) then
    (({ s with bank := { b with forbidden := false } }).modSlot 16 (fun x => { x with arm := true })).capture 0x0E08
      [unsigned 32 t, s.since b.forbiddenAt / 60000000]
  else s

/-! ### Stopping a slot, the Hold-up Test's start and end (R462, R469) -/

/-- u of a slot at OUT_MIN, its ramp and supervision ended; `i` is the integrator it keeps. -/
def State.holdMin (k : Nat) (i : Int) (s : State) : State :=
  let u := s.loopQ Reg.LOOP_OUT_MIN k
  s.modSlot k (fun x => { x with u := u, i := i, ramping := false, feSince := none, maxSince := none, driven := true })

/-- The bank is within 0.5 V of HU_VSET_MV. -/
def State.bankFull (s : State) : Bool := decide (s.vset ≤ s.bank.vMv + 500) && decide (s.bank.vMv ≤ s.vset + 500)

/-- TARGET of slot 16 (R466). -/
def State.chargeTarget (s : State) : Int := fracQ s.vset (s.snsFs 16)

/-- Step 1 of R469: the charger stops, v0 is read, the load asserts. -/
def State.startDischarge (s : State) : State :=
  let s := s.holdMin 16 (s.loopQ Reg.LOOP_OUT_MIN 16)
  let b := s.bank
  { s with bank := { b with step := 1, v0 := b.vMv, testAt := s.seed.now } }

/-- A test starts: at once, or, after a fault of slot 16, with a recharge under supervision (R469). -/
def State.startTest (waiting : Option Nat) (auto : Bool) (s : State) : State :=
  let b := s.bank
  let s := { s with bank := { b with waiting := waiting, auto := auto } }
  if (s.slot 16).faulted then
    let s := (s.modSlot 16 (fun x => { x with faulted := false })).startSlot 16 s.chargeTarget
    let b := s.bank
    { s with bank := { b with step := 6, testAt := s.seed.now } }
  else s.startDischarge

/-- A test ends as failed with a cause: c keeps its value, the command completes (R469 to R471). -/
def State.testFailed (cause : Nat) (s : State) : State :=
  let b := s.bank
  let s := { s with bank := { b with step := 0, failed := true, waiting := none } }
  let s := s.capture 0x0E05 [s.capUf, b.esr, cause]
  s.answerEntry b.waiting St.ok (BitVec.ofNat 32 s.capUf)

/-! ### Faults (R462) -/

/-- A fault of slot 16: the charger stops, the bank counts as having failed; a recharge under way ends the test. -/
def State.fault16 (s : State) : State :=
  let s := ((s.setEn 16 false).holdMin 16 (s.loopQ Reg.LOOP_OUT_MIN 16)).modSlot 16 (fun x => { x with faulted := true })
  let b := s.bank
  let s := { s with bank := { b with failed := true } }
  if b.step = 6 then s.testFailed 4 else s

/-- A carrier slot's fault: a member carrier is lost with cause loop fault, another becomes failed; the slot stays disabled
until the carrier is removed. -/
def State.faultCarrier (k : Nat) (s : State) : State :=
  let c := s.carrier k
  let s := s.modSlot k (fun x => { x with faulted := true })
  if c.st == 5 || c.st == 6 || c.st == 7 then (s.loseCarrier k 2).settleRelease
  else
    let s := (s.openSwitch k).setDom k .off
    if c.present then
      (((s.modCarrier k (fun c => { c with st := 9, cause := 2 })).diesAbsent k).settleDies).finishAdmit
    else s

/-- Slot `k` faults (R462): event 0x01 and the slot's action. -/
def State.faultSlot (k : Nat) (s : State) : State :=
  let x := s.slot k
  let s := s.capture 0x0E01 [k, s.loopStat k, unsigned 32 x.pv, unsigned 32 x.sp]
  if k < 16 then s.faultCarrier k
  else if k = 16 then s.fault16
  else if k = 17 then s.modSlot 17 (fun y => { y with u := fracQ s.plimFloor 52, faulted := true, ramping := false, feSince := none, driven := true })
  else (s.setEn k false).holdMin k (s.loopQ Reg.LOOP_OUT_MIN k)

/-! ### LOOP_SAMPLE (R457 to R467) -/

/-- A released carrier's switch is ramped down: EN clears when u reaches OUT_MIN (R465). -/
def State.rampedDown (k : Nat) (s : State) : State :=
  if k < 16 && (s.carrier k).st == 8 && (s.slot k).u == s.loopQ Reg.LOOP_OUT_MIN k then s.openSwitch k else s

/-- The sample of one slot and what its saturations bring about: with SAT_FAULT each faults the slot; else one that sets a flag
that was clear is recorded (R458, R462). -/
def State.runSlot (k : Nat) (s : State) : State :=
  let x := s.slotSample k
  let sat := s.satMarks k
  let fresh : BitVec 5 := sat &&& ~~~(s.slot k).flags
  let s := s.modSlot k (fun _ => x)
  if sat != 0 && s.loopCtl k 28 28 == 1 then s.faultSlot k
  else if fresh = 0 then s.rampedDown k
  else (s.capture 0x0E02 [k, s.loopStat k]).rampedDown k

/-- The sample of slot 16: OUT_MAX from the charging budget (R467), no charging outside the temperature range (R466) or during
the discharge of a test (R469); a recharge that reaches its voltage goes on to the discharge. -/
def State.runCharger (s : State) : State :=
  let s := s.chargeRange
  let s := s.setReg (Reg.LOOP_OUT_MAX + 0x400) (BitVec.ofInt 32 s.chargeMax)
  if s.bank.forbidden then s.holdMin 16 0
  else if s.bank.step = 0 || s.bank.step = 6 then
    let s := s.runSlot 16
    if s.bank.step = 6 && s.bankFull then s.startDischarge else s
  else s

/-- One sample of a slot with the conversions made since the one before. In L4, or with the domains off, no slot runs. The
range of the bank thermistor is watched while a fault stops slot 16 too. -/
def execLoopSample (slot : Nat) (convs : List (Nat × Int)) (s : State) : Out :=
  if !s.glb.powered || s.power.state == .l4 then .next s
  else
    let s := s.takeConvs convs
    if slot = 16 then (if s.loopEn 16 then s.runCharger else s.chargeRange).done
    else if 20 ≤ slot || !s.loopEn slot then .next s
    else if slot = 17 && (s.slot 17).faulted then .next s
    else (s.runSlot slot).done

/-! ### FOLLOWING_ERROR_TIMEOUT (R461) -/

/-- An error has counted for FE_TIME_MS without a break: FE_FAULT sets and the slot faults. -/
def execFollowingErrorTimeout (slot : Nat) (s : State) : Out :=
  match (s.slot slot).feSince with
  | none => .next s
  | some t =>
    if s.loopEn slot && decide (max 1 (s.loopCtl slot 24 16) * 1000 ≤ s.since t) then
      ((s.modSlot slot (fun x => { x with flags := x.flags ||| 0x10, feSince := none })).faultSlot slot).done
    else .next s

/-! ### Writes of loop registers (R459, R460, R462, R479 to R481) -/

/-- A write of LOOP_STAT: bits written as 1 clear, but for those a source raises at once (R12, R13); the package limiter restarts
when its flags are clear (R462). -/
def State.loopFlags (k : Nat) (v raised : Word) (s : State) : State :=
  let s := s.modSlot k (fun x => { x with flags := (x.flags &&& ~~~(v.setWidth 5)) ||| raised.setWidth 5 })
  if k = 17 && (s.slot 17).faulted && (s.slot 17).flags == 0 then
    s.modSlot 17 (fun x => { x with faulted := false, arm := true })
  else s

def execLoopFlagClear (slot : Nat) (v raised : Word) (s : State) : Out := .next (s.loopFlags slot v raised)

/-- A write of LOOP_CTL: in slots 0 to 17 the device owns EN and INPUT; EN from 0 to 1 restarts the ramp (R460, R479). -/
def State.loopCtlWrite (k : Nat) (v : Word) (s : State) : State :=
  let old := s.loopReg Reg.LOOP_CTL k
  let w := fieldWrite old.toNat v.toNat (if k < 18 then 0x7FFFFF00 else 0xFFFFFF1F) 0 0
  let s := s.setReg (Reg.LOOP_CTL + 0x40 * k) w
  if bits old 31 31 = 0 && bits w 31 31 = 1 then s.modSlot k (fun x => { x with arm := true, feSince := none }) else s

/-- A write of one register of a slot by its offset in the slot's block. A write that would make OUT_MIN exceed OUT_MAX leaves
the register unchanged (R459); OUT_MAX of slot 16 is the device's. -/
def State.loopWrite (k off : Nat) (v raised : Word) (s : State) : State :=
  if 20 ≤ k then s
  else
    let put (s : State) : State := s.setReg (0x30000 + 0x40 * k + off) v
    match off with
    | 0x00 => s.loopCtlWrite k v
    | 0x04 => s.loopFlags k v raised
    | 0x08 | 0x0C | 0x10 | 0x18 | 0x24 => put s
    | 0x14 => if k < 18 then s else (put s).modSlot k (fun x => { x with arm := true })
    | 0x1C => if s.loopQ Reg.LOOP_OUT_MAX k < v.toInt then s else put s
    | 0x20 => if k = 16 || decide (v.toInt < s.loopQ Reg.LOOP_OUT_MIN k) then s else put s
    | _ => s

/-- Offsets of the coefficients and limits that take effect alone (R459). -/
def coeffOffs : List Nat := [0x08, 0x0C, 0x10, 0x18, 0x1C, 0x20, 0x24]

/-- A write of one coefficient or limit. -/
def execLoopCoeffWrite (slot off : Nat) (v : Word) (s : State) : Out :=
  if coeffOffs.contains off then .next (s.loopWrite slot off v 0) else .next s

/-- A write of TARGET, or of LOOP_CTL with EN. -/
def execLoopTargetWrite (slot off : Nat) (v : Word) (s : State) : Out :=
  if off == 0x14 || off == 0x00 then .next (s.loopWrite slot off v 0) else .next s

/-! ### DIRTY_LIMIT_UPDATE (R468) -/

/-- The 1 ms computation. The limit in force at an emergency flush's trigger stays; in L4 the control engine is off. -/
def execDirtyLimitUpdate (s : State) : Out :=
  if !s.glb.powered || s.power.state == .l4 || s.store.flush.isSome then .next s
  else
    let n := s.energyLimit
    let b := s.bank
    let t := s.thermal
    let s := { s with bank := { b with limit := n }, thermal := { t with minDirty := min t.minDirty (n / 2 ^ 20) } }
    if n = 0 && b.limit != 0 then .next (s.capture 0x0E09 [s.capUf, b.vMv, s.pLim]) else .next s

/-! ### The Hold-up Test (R469 to R471) -/

/-- Why a Hold-up Test cannot start; none when it can (R470). -/
def State.testRefused (s : State) : Option Nat :=
  if s.bank.step ≠ 0 then some 1
  else if !s.bankFull && !(s.slot 16).faulted then some 2
  else if s.bank.forbidden then some 3
  else if s.glb.state != .ready then some 4
  else none

/-- Hold-up Test (0xD6): no fields. It waits for step 5 of R469. -/
def execHoldUpTest (e : Nat) (s : State) : Out :=
  .next (s.withCmd e 0xD6 false (fun c s =>
    if !onlyDws c.cap 0 0 0 0 0 0 then s.reply c St.invalidField
    else
      match s.testRefused with
      | some r => s.answer c St.invalidField (BitVec.ofNat 32 r)
      | none => (s.waitCmd c).startTest (some c.idx) false))

/-- HU_TEST_H operating hours have passed since the last measurement, or none was made, or a fault of slot 16 stands. -/
def State.testDue (s : State) : Bool :=
  s.bank.cUf.isNone || decide (s.bank.lastTestH + max 1 (s.fld Reg.HU_CFG1 15 8) ≤ s.seed.hours) || (s.slot 16).faulted

/-- The automatic measurement, in L0 with the conditions of R469. -/
def execHoldupTestAuto (s : State) : Out :=
  if s.testDue && s.testRefused.isNone && s.power.state == .l0 then .next (s.startTest none true) else .next s

/-- Steps 4 and 5 of R469: the result is stored, the charger restarts, the verdict recorded, the command completed. -/
def State.finishTest (c esr : Nat) (s : State) : State :=
  let b := s.bank
  let cause : Nat := if c < s.fld Reg.HU_CFG2 31 16 then 1 else if s.fld Reg.HU_CFG2 15 0 < esr then 2 else 0
  let s := { s with bank := { b with step := 0, waiting := none, cUf := some c, esr := esr, lastTestH := s.seed.hours,
                                     failed := cause != 0 } }
  let s := (s.startSlot 16 s.chargeTarget).writeSettings
  let s := if cause = 0 then s.capture 0x0E04 [c, esr, b.limit / 2 ^ 20, if b.auto then 1 else 2]
    else s.capture 0x0E05 [c, esr, cause]
  s.answerEntry b.waiting St.ok (BitVec.ofNat 32 c)

/-- The discharge ends: with a fall of HU_TEST_DV c = Q ÷ (v0 − v1), in µF from µC and mV; after 2 s without it the test fails with
"no discharge". With v1 not below v0 the rule gives c no value, and it is a free one. -/
def execHoldupDischargeEnd (v1 charge esr : Nat) (s : State) : Out :=
  let b := s.bank
  if b.step = 0 || b.step = 6 then .next s
  else if max 1 (s.fld Reg.HU_CFG1 7 0) * 100 ≤ b.v0 - b.vMv then
    if v1 < b.v0 then (s.finishTest (charge * 1000 / (b.v0 - v1)) esr).done
    else
      let x := s.drawFree
      (x.2.finishTest x.1.toNat esr).done
  else if 2000000 ≤ s.since b.testAt then (((s.startSlot 16 s.chargeTarget)).testFailed 3).done
  else .next s

/-- A recharge that has not reached its voltage within 10 minutes: the test fails with cause 4 and the charger stops. -/
def execHoldupRechargeTimeout (s : State) : Out :=
  if s.bank.step = 6 && decide (600000000 ≤ s.since s.bank.testAt) then s.fault16.done else .next s

/-! ### Thermal sensing (R473 to R475) -/

/-- WARN and THROTTLE in 1/16 °C (R483). -/
def State.warnAt (s : State) : Int := s.fld Reg.TH_CFG 31 24 * 16
def State.throttleAt (s : State) : Int := s.fld Reg.TH_CFG 23 16 * 16

/-- The rate of R473 in 1/16 °C per 100 ms, from the newest sample at least 100 ms old; zero without one. -/
def State.tjRate (s : State) (tj : Int) : Int :=
  match s.thermal.samples.find? (fun x => decide (x.1 + 100000 ≤ s.seed.now)) with
  | some x => tj - x.2
  | none => 0

/-- The rate exceeds ROR, in 0.1 °C/s (R475). -/
def State.rorOver (s : State) (rate : Int) : Bool := decide ((max 1 (s.fld Reg.TH_CFG 15 8) : Int) * 16 < rate * 100)

/-- Samples newest first, down to the newest that is 100 ms old. -/
def keepSamples (now : Nat) : List (Nat × Int) → List (Nat × Int)
  | [] => []
  | x :: t => if x.1 + 100000 ≤ now then [x] else x :: keepSamples now t

/-- A rate in 0.1 °C/s (R473, R483). -/
def tenths (rate : Int) : Int := rate * 100 / 16

/-- From NORMAL or WARN upward (R475). -/
def State.hotter (s : State) : State :=
  let tj := s.thermal.tj
  let s := if s.thermal.state = 0 && decide (s.warnAt ≤ tj) then
      let t := s.thermal
      ({ s with thermal := { t with state := 1, warnAt := s.seed.now, stateAt := s.seed.now } }).capture 0x0201 [unsigned 32 tj]
    else s
  if s.thermal.state = 1 && decide (s.throttleAt ≤ tj) then
    let t := s.thermal
    ({ s with thermal := { t with state := 2, stateAt := s.seed.now, stepAt := s.seed.now } }).capture 0x0203
      [unsigned 32 tj, t.limit]
  else s

/-- From THROTTLE or WARN downward (R475). -/
def State.cooler (s : State) : State :=
  let tj := s.thermal.tj
  let s := if s.thermal.state = 2 && decide (tj < s.throttleAt - 32) then
      let t := s.thermal
      ({ s with thermal := { t with state := 1, stateAt := s.seed.now } }).capture 0x0204
        [unsigned 32 tj, t.limit, s.since t.stateAt / 1000000]
    else s
  if s.thermal.state = 1 && decide (tj < s.warnAt - 32) then
    let t := s.thermal
    ({ s with thermal := { t with state := 0, stateAt := s.seed.now } }).capture 0x0202
      [unsigned 32 tj, s.since t.warnAt / 60000000]
  else s

/-- What a sample adds to the minute under way and to the lifetime maximum (R478). -/
def State.minuteSample (s : State) : State :=
  let t := s.thermal
  let fl := t.minFlags ||| (if t.state = 1 then 1 else 0) ||| (if t.state = 2 then 2 else 0) |||
    (if s.bank.forbidden then 8 else 0) ||| (if s.array.carriers.any (·.gateClosed) then 16 else 0)
  let up := decide (t.lifeMax < t.tj)
  { s with thermal := { t with
      minMax := if t.minN = 0 then t.tj else max t.minMax t.tj
      minMin := if t.minN = 0 then t.tj else min t.minMin t.tj
      minSum := t.minSum + t.tj, minN := t.minN + 1, minFlags := fl, minPwr := t.minPwr + s.pkgMw.toNat
      minPlim := min t.minPlim (s.pLim * 10)
      lifeMax := if up then t.tj else t.lifeMax, lifeMaxH := if up then s.seed.hours else t.lifeMaxH } }

/-- A sample of the diode, OFFSET added: Tj, the rate, the thermal state (R473, R475). -/
def execThermalSample (tj : Int) (s : State) : Out :=
  if !s.glb.powered || s.power.state == .l4 then .next s
  else
    let off := signed 16 (s.fld Reg.TH_CAL 15 0)
    let x := tj + off
    let rate := s.tjRate x
    let t := s.thermal
    let hot := s.rorOver rate
    let s := { s with thermal := { t with
        tj := x, rate := rate
        samples := (s.seed.now, x) :: keepSamples s.seed.now t.samples
        rorSince := if hot then (match t.rorSince with | some a => some a | none => some s.seed.now) else none } }
    let s := (s.hotter).cooler
    let t := s.thermal
    let calm := !hot && t.state != 2
    let s := { s with thermal := { t with
        calmSince := if calm then (match t.calmSince with | some a => some a | none => some s.seed.now) else none } }
    (s.minuteSample).done

/-! ### The thermal limit (R475, R476) -/

/-- The thermal limit set, from a p_lim of `old`: the time it went below PKG_LIMIT, and a TARGET write of slot 17 when p_lim
changes (R472). -/
def State.setLimitFrom (old n : Nat) (s : State) : State :=
  let t := s.thermal
  let below := if n < s.pkgLimit then (match t.belowAt with | some a => some a | none => some s.seed.now) else none
  let s := { s with thermal := { t with limit := n, belowAt := below } }
  let t := s.thermal
  let s := { s with thermal := { t with minPlim := min t.minPlim (s.pLim * 10) } }
  if s.pLim = old then s else s.setTarget 17 (fracQ s.pLim 64)

/-- The thermal limit set. -/
def State.setLimit (n : Nat) (s : State) : State := s.setLimitFrom s.pLim n

/-- A step of 2 W down, not below PLIM_FLOOR; at the floor it changes nothing (R475). -/
def State.stepDown (cause : Nat) (s : State) : State :=
  let n := max s.plimFloor (s.thermal.limit - 2)
  if s.thermal.limit ≤ n then s
  else
    let s := s.setLimit n
    let t := s.thermal
    ({ s with thermal := { t with minFlags := if cause = 2 then t.minFlags ||| 4 else t.minFlags } }).capture 0x0205
      [n, cause, unsigned 32 t.tj, unsigned 32 (tenths t.rate)]

/-- The 500 ms step in THROTTLE. In L4 the control engine is off. -/
def execThermalLimitStep (s : State) : Out :=
  let t := s.thermal
  if s.power.state == .l4 then .next s
  else if t.state = 2 && decide (500000 ≤ s.since t.stepAt) then
    .next (({ s with thermal := { t with stepAt := s.seed.now } }).stepDown 1)
  else .next s

/-- The rate has exceeded ROR for ROR_MS without a break. -/
def execRorStep (s : State) : Out :=
  let t := s.thermal
  match t.rorSince with
  | none => .next s
  | some a =>
    if s.power.state != .l4 && decide (max 1 (s.fld Reg.TH_CFG 7 0) * 10000 ≤ s.since a) then
      .next (({ s with thermal := { t with rorSince := some s.seed.now } }).stepDown 2)
    else .next s

/-- Outside THROTTLE, 500 ms of calm raise the limit by 2 W toward PKG_LIMIT; event 0x06 when it is reached. -/
def execThermalLimitRise (s : State) : Out :=
  let t := s.thermal
  match t.calmSince with
  | none => .next s
  | some a =>
    if s.power.state != .l4 && t.state != 2 && decide (500000 ≤ s.since a) && decide (t.limit < s.pkgLimit) then
      let n := min s.pkgLimit (t.limit + 2)
      let s := ({ s with thermal := { t with calmSince := some s.seed.now } }).setLimit n
      if n = s.pkgLimit then .next (s.capture 0x0206 [n, (s.since (t.belowAt.getD s.seed.now)) / 1000000]) else .next s
    else .next s

/-- A write of TH_PLIM: the limit is cut to PKG_LIMIT (R476) or raised to PLIM_FLOOR at once (R475). -/
def State.plimWrite (v : Word) (s : State) : State :=
  let old := s.pLim
  let s := s.setReg Reg.TH_PLIM (fieldWrite (s.reg Reg.TH_PLIM).toNat v.toNat 0xFFFFFF00 0 0)
  s.setLimitFrom old (max s.plimFloor (min s.pkgLimit s.thermal.limit))

def execPkgLimitWrite (v : Word) (s : State) : Out := .next (s.plimWrite v)
def execPlimFloorWrite (v : Word) (s : State) : Out := .next (s.plimWrite v)

/-- A write of TH_CAL: event 0x08 records it, and the next sample applies it (R473). -/
def State.offsetWrite (v : Word) (s : State) : State :=
  let old := s.fld Reg.TH_CAL 15 0
  let s := s.setReg Reg.TH_CAL (v &&& 0xFFFF)
  s.capture 0x0208 [unsigned 32 (signed 16 old), unsigned 32 (signed 16 (s.fld Reg.TH_CAL 15 0))]

def execThOffsetWrite (v : Word) (s : State) : Out := .next (s.offsetWrite v)

/-! ### The minute of the temperature history (R478) -/

/-- Bin of the histogram for a mean in 1/16 °C. -/
def histBin (t : Int) : Nat := ((t + 320) / 80).toNat.min 27

/-- A 32-bit count of page 0xC6 rises by one and saturates; reaching the end is recorded (R484, R564). -/
def satInc (v : Nat) : Nat := min 0xFFFFFFFF (v + 1)

/-- The record of the minute that ends, newest first, at most 1,440, and the lifetime counts; a new minute begins. Without a
sample in the minute its mean is Tj. -/
def State.tempMinute (s : State) : State :=
  let t := s.thermal
  let n := max 1 t.minN
  let mean : Int := if t.minN = 0 then t.tj else t.minSum / (n : Int)
  let hi : Int := if t.minN = 0 then t.tj else t.minMax
  let lo : Int := if t.minN = 0 then t.tj else t.minMin
  let r : TempRec :=
    { minute := s.seed.hours * 60 + s.ms / 60000
      fields := [hi / 16, lo / 16, mean / 16, s.hotCarrier, s.bank.tempC, t.minFlags, t.minPlim, t.minPwr / n / 100,
                 min t.minDirty 65535] }
  let bin := histBin mean
  let k := s.compositeK
  let thr := t.minFlags / 2 % 2 == 1
  let h : List Nat := modNth t.hist bin satInc
  let s := { s with thermal := { t with
      recs := (r :: t.recs).take 1440, hist := h
      throttleMin := if thr then satInc t.throttleMin else t.throttleMin
      warnMin := if 368 ≤ k && k < 373 then t.warnMin + 1 else t.warnMin
      critMin := if 373 ≤ k then t.critMin + 1 else t.critMin
      minN := 0, minSum := 0, minFlags := 0, minPlim := s.pLim * 10, minPwr := 0, minDirty := s.bank.limit / 2 ^ 20 } }
  let s := if t.hist.getD bin 0 = 0xFFFFFFFE then s.satEvent 2 (64 + 4 * bin) 0 else s
  if thr && t.throttleMin == 0xFFFFFFFE then s.satEvent 2 24 0 else s

end Sys2Proof.Machine
end

