-- ==== Sys2Proof/Machine/PowerCmds.lean ====
section
/-! DEFINITION. The commands of the Seed island and of the power states: entries, wakes, tolerances, the operating hours, the
real-time clock, the crystal, the PLLs, the minute tick and the millisecond sums (R167, R168, R424 to R455). -/

namespace Sys2Proof.Machine

open Sys2Proof

/-! ### Power states (R427, R434 to R437) -/

/-- The deepest allowed state whose idle conditions and dwell hold is entered (R427, R434), unless R429 keeps the device in L0. -/
def execPowerStateEntry (s : State) : Out :=
  let s := s.trackIdle.evalTolerance
  if s.glb.powered && !s.mustStay && decide (s.power.state.code < s.deepest) then .next (s.enterState s.deepest) else .next s

/-- Maintenance that fell due has run: no band waits for a move and no engine works at more than patrol or scrub (R437). -/
def State.maintDone (s : State) : Bool :=
  s.upkeep.bands.all (fun b => b.reqs.isEmpty && b.st != .victim) &&
  s.upkeep.jobs.all (fun j => j == 0 || j == 5 || j == 7 || j == 8)

/-- R434 evaluated: a tolerance that has fallen below the exit latency of the state moves the device to the deepest state it allows
(R435); a condition of R429 that arises below L0 moves it to L0. -/
def execToleranceEvaluation (s : State) : Out :=
  let p := s.power
  let s := if p.maintDue && p.state == .l0 && s.maintDone then { s with power := { p with maintDue := false } } else s
  let s := s.trackIdle.evalTolerance
  if s.glb.powered && s.mustStay then .next (s.leaveTo .l0 2 0)
  else if s.power.lt.toNat < s.power.state.exitUs then .next (s.leaveTo s.power.allowed 2 0)
  else .next s

/-- A port's wake logic runs: its link is not powered down in L4 (R431). -/
def State.wakeLogic (s : State) : Bool := s.fabric.l4link.any (· != 2)

/-- The wake logic of a port has held a frame and sent XOFF (R431). -/
def State.framed (s : State) : State :=
  let x := s.wakePort
  x.2.wakeXoff x.1

/-- A wake source (R436). The power triggers and the trip act as R439 and R477 say, in commands of their own. -/
def execWakeEvent (src : WakeSource) (lateUs : Nat) (s : State) : Out :=
  let l4 := s.power.state == .l4
  match src with
  | .capsule =>
    if !l4 then .next (s.leaveTo .l0 0 lateUs)
    else if s.wakeLogic then .next ((s.leaveTo .l0 0 lateUs).framed) else .next s
  | .frame => if l4 && s.wakeLogic then .next ((s.leaveTo .l0 1 lateUs).framed) else .next s
  | .tolerance =>
    let s := s.evalTolerance
    .next (s.leaveTo s.power.allowed 2 lateUs)
  | .carrier => .next (s.leaveTo .l0 3 lateUs)
  | .hubLow =>
    if l4 then .next (s.leaveTo (if s.power.allowed.code < 3 then s.power.allowed else .l3) 5 lateUs) else .next s
  | .maintenance =>
    let p := s.power
    .next (if p.state == .l0 then s else ({ s with power := { p with maintDue := true } }).leaveTo .l0 7 lateUs)
  | .keepAlive => if l4 then .next (s.leaveTo .l0 8 lateUs) else .next s
  | .power => .next s
  | .overTemp => .next s

/-- MAINT_WAKE_MIN minutes below L0: the device returns to L0 for due maintenance (R437). -/
def execMaintenanceWake (s : State) : Out :=
  match s.power.belowAt with
  | none => .next s
  | some t =>
    if s.power.state != .l0 && decide (max 1 (s.fld Reg.PS_CFG 31 16) * 60000000 ≤ s.since t) then
      let from_ := s.power.state.code
      let s := s.leaveTo .l0 7 0
      let s := { s with power := { s.power with maintDue := true } }
      .next (s.capture 0x0109 [s.since t / 60000000, from_])
    else .next s

/-- A controller in PS n with no I/O command outstanding for ITPT ms moves to the ITPS of its table's entry n (R433). -/
def execApstTransition (cntl : Nat) (s : State) : Out :=
  match s.ctrl cntl with
  | none => .next s
  | some k =>
    let x := k.apst.getD k.ps (0, 0)
    let busy := s.eng.cct.any (fun e => e.cntl == cntl && e.queue < 8192)
    if k.apste && x.2 != 0 && !busy && decide (x.2 * 1000 ≤ s.since k.lastIo) then
      .next ((s.modCtrl cntl (fun y => { y with ps := x.1 })).evalTolerance)
    else .next s

/-! ### The Seed counters and clock (R442 to R445) -/

/-- A read of SEED_HOURS captures SEED_MS for the next read of it. -/
def execSeedHoursRead (s : State) : Out :=
  let x := s.seed
  .next { s with seed := { x with msCapture := some s.ms } }

/-- SEED_RTC_LO is held until SEED_RTC_HI is written. -/
def State.rtcLo (v : Word) (s : State) : State :=
  let x := s.seed
  { s with seed := { x with rtcLoHeld := some v } }

def execSeedRtcLoWrite (v : Word) (s : State) : Out := .next (s.rtcLo v)

/-- The compression ratio of the minute that ends (R378). -/
def State.cmpMinute (s : State) : State :=
  let c := s.comp
  { s with comp := { c with ratio := if c.origBytes = 0 then 0 else min 0xFFFF (c.storedBytes * 1000 / c.origBytes)
                            origBytes := 0, storedBytes := 0 } }

/-- A Seed minute tick (R168, R438, R478, R551): the banks switch, snapshots and totals are written, the temperature record, the
compression ratio, the summary records. In L4 the snapshots wait for the exit; without power the Seed island alone counts. -/
def State.minuteTick (s : State) : State :=
  let x := s.seed
  let s := { s with seed := { x with ticks := min 0xFFFFFFFF (x.ticks + 1) } }
  if !s.glb.powered || s.power.state == .l4 then s
  else (((s.tempMinute).meterTick false 0).cmpMinute).evSummaries

/-- A write of SEED_RTC_HI sets the clock with the held low half, or as the low half stands; moving it forward across a multiple of 60
makes one tick; event 0x05 (R445). -/
def State.rtcHi (v : Word) (s : State) : State :=
  let x := s.seed
  let lo := x.rtcLoHeld.getD (x.rtc.extractLsb' 0 32)
  let new : BitVec 64 := v ++ lo
  let old := x.rtc
  let s := { s with seed := { x with rtc := new, rtcLoHeld := none } }
  let s := if old.toNat / 60 < new.toNat / 60 then s.minuteTick else s
  s.capture 0x0105 [old.toNat % 2 ^ 32, new.toNat % 2 ^ 32]

def execSeedRtcHiWrite (v : Word) (s : State) : Out := .next (s.rtcHi v)

def execMinuteTick (s : State) : Out := (s.minuteTick).done

/-- Each millisecond of the metering sums (R167), and of the busy time of each slice with an entry in use (R252). In L4 they are
computed at exit. -/
def execMeteringMsSum (s : State) : Out :=
  if !s.glb.powered || s.power.state == .l4 then .next s
  else
    let s := s.meterMs 1
    let l : List SliceS := s.slices.list.map (fun x =>
      if s.eng.cct.any (fun e => e.slice == x.num) then { x with busyMs := x.busyMs + 1 } else x)
    .next { s with slices := { s.slices with list := l } }

/-- SEED_MS has reached 3,600,000: SEED_HOURS increments, saturating with bit 31 of the group's word (R442); the lifetime thermal
fields are written (R478), and the hour's totals kept for the write amplification of R254. -/
def execSeedHourRollover (s : State) : Out :=
  let x := s.seed
  if x.us < 3599999999 then .next s
  else
    let h := min 0xFFFFFFFF (x.hours + 1)
    let u := s.upkeep
    let wa : List (Nat × Nat × Nat) := (u.waHist ++ [(h, u.totals.getD 0 0, u.totals.getD 1 0)]).filter (fun y => decide (h ≤ y.1 + 24))
    let s := { s with seed := { x with hours := h, us := 0 }, upkeep := { u with waHist := wa } }
    let s := if h = 0xFFFFFFFF && x.hours != h then s.capture 0x011F [Reg.SEED_HOURS] else s
    .next s.writeSettings

/-! ### The crystal and the PLLs (R441, R448) -/

/-- PD5 is on. -/
def State.pd5On (s : State) : Bool := s.glb.powered && s.power.state != .l4

/-- The crystal has stopped for more than 1 ms: the internal oscillator takes over. Event 0x03 waits for PD5. -/
def execCrystalStop (s : State) : Out :=
  let x := s.seed
  if x.onRc || !x.vdd then .next s
  else
    let s := { s with seed := { x with crystal := false, onRc := true, rcClk := true, crystalAt := s.seed.now } }
    if s.pd5On then .next (s.capture 0x0103 [0])
    else
      let x := s.seed
      .next { s with seed := { x with latched := x.latched ++ [(0x0103, [])] } }

/-- The crystal has run for 1 s without a break: the island returns to it; RC_CLK stays. -/
def execCrystalRestore (s : State) : Out :=
  let x := s.seed
  if x.onRc then .next { s with seed := { x with crystal := true, onRc := false, crystalAt := s.seed.now } } else .next s

/-- SEED_CMD: CLR_RC clears RC_CLK once the crystal runs. -/
def State.clrRc (v : Word) (s : State) : State :=
  let x := s.seed
  if v.getLsbD 0 && !x.onRc then { s with seed := { x with rcClk := false } } else s

def execClrRc (v : Word) (s : State) : Out := .next (s.clrRc v)

/-- A PLL has not locked within 50 µs and is started again; the third failure is recorded. -/
def execPllLockTimeout (pll : Nat) (s : State) : Out :=
  if 10 ≤ pll then .next s
  else
    let x := s.seed
    let n := x.pllFails.getD pll 0 + 1
    let s := { s with seed := { x with pllFails := modNth x.pllFails pll (· + 1) } }
    if n = 3 then .next (s.capture 0x0108 [pll]) else .next s

end Sys2Proof.Machine
end

