-- ==== Sys2Proof/Machine/Firmware.lean ====
section
/-! DEFINITION. Firmware: verification of a bundle, download, commit, activation, probation, confirmation, revert, and forwarding
along the Bramble ring (R515 to R538). -/

namespace Sys2Proof.Machine

open Sys2Proof

/-! ### Bundles, slots and the NOR pair (R490, R515 to R518) -/

/-- Bytes of a NOR by its size code; none where it is absent (R490, R510). -/
def norBytes (code : Nat) : Nat := if code = 0 then 0 else 2 ^ (code - 1) * 67108864

/-- Largest bundle of a slot: the smaller of its two copy areas (R518). -/
def State.slotBytes (s : State) : Nat :=
  (min (norBytes (s.nor.sizes.getD 0 0)) (norBytes (s.nor.sizes.getD 1 0)) - 4194304) / 2

/-- A slot's bundle: copy A, or copy B where copy A holds none (R518, R524). -/
def State.slotBundle (s : State) (k : Nat) : Option Bundle :=
  match s.nor.slots.getD (k - 1) none with
  | some b => some b
  | none => s.nor.slots.getD (k + 1) none

/-- The staging slot: the one that is not confirmed (R518). -/
def State.stagingSlot (s : State) : Nat := 3 - s.fw.act.confirmed

/-- A bundle in both copies of a slot, but that a copy on a NOR which refused a part of it holds none. -/
def State.putSlot (k : Nat) (b : Bundle) (bad : List Nat) (s : State) : State :=
  let nr := s.nor
  let on (n : Nat) : Option Bundle := if bad.contains n then none else some b
  let l : List (Option Bundle) := modNth (modNth nr.slots (k - 1) (fun _ => on 0)) (k + 1) (fun _ => on 1)
  { s with nor := { nr with slots := l } }

/-- A write of the firmware that the ROM routine did not end with success is recorded (R514). -/
def State.norFailed (w : NorWrite) (s : State) : State :=
  match w with
  | .failed n a st => s.capture 0x0F08 [n, 2, a, st]
  | _ => s

/-- The NOR on which the writes of a command failed. -/
def badNors (w : NorWrite) : List Nat :=
  match w with
  | .failed n _ _ => [n]
  | _ => []

/-- A NOR area written from byte `o` for `n` bytes: its page programs and sector erases are counted (R493, R513). -/
def State.norWrite (o n : Nat) (s : State) : State :=
  (s.bump Reg.NOR_CNT_PROG (ceilDiv n 256)).bump Reg.NOR_CNT_ERASE (ceilDiv (o + n) 65536 - ceilDiv o 65536)

/-- The die revision as DIE_MIN writes it: major and minor (R7, R515). -/
def State.dieRev (s : State) : Nat := s.fld Reg.ID_PART 15 8

/-- The reason a firmware bundle fails R517, by the codes of R523. -/
def State.verifyFw (b : Bundle) (s : State) : Option Nat :=
  if !b.wellFormed || b.content != 2 || !b.digestsOk || !b.sigOk || b.keyHash != s.fuses.vendorKeyHash then some 6
  else if b.secver < s.fuses.antiRollback then some 7
  else if s.dieRev < b.dieMin || b.loader.any (fun l => !l.2.2 || decide (b.loaderMin.1 < s.fuses.antiRollback) || decide (s.dieRev < b.loaderMin.2))
    then some 6
  else none

/-! ### Refusals (R523) -/

/-- A firmware command is refused with a reason. -/
def State.fwRefuse (c : Cct) (r : Nat) (s : State) : State :=
  let f := s.fw
  ({ s with fw := { f with lastReason := r } }).answer c St.invalidField (BitVec.ofNat 32 r)

/-- SOURCE of a firmware command: 0 the manager, 1 the upstream peer (R520). -/
def State.fwSource (s : State) (c : Cct) : Nat := if ((s.ctrl c.cntl).bind (·.ring)).isSome then 1 else 0

/-- RING_ACCEPT; 0b11 acts as 0b00 (R536). -/
def State.ringAccept (s : State) : Nat := s.fld Reg.FW_CFG 1 0 % 3

/-! ### FIRMWARE_IMAGE_DOWNLOAD (R521, R523, R533) -/

/-- Bytes of a download's piece. -/
def pieceLen (c : Capsule) : Nat := 4 * (c.dw10.toNat + 1)

/-- The bytes received with this piece. -/
def State.piecesWith (s : State) (c : Cct) : List Byte :=
  (if c.cap.dw11 = 0 then [] else s.fw.pieces) ++ c.cap.data.take (pieceLen c.cap)

/-- The reason a piece is refused. That the bundle of a ring offer is the confirmed one shows with the piece that brings its signature
(assumption 93). -/
def State.pieceReason (s : State) (c : Cct) : Option Nat :=
  let a := s.fw.act
  let src := s.fwSource c
  let ofst := 4 * c.cap.dw11.toNat
  let len := pieceLen c.cap
  let first := ofst = 0
  let got := if first then 0 else s.fw.received
  let d := s.piecesWith c
  let tot := bundleLen d
  let ring := src = 1 && first
  if ring && s.ringAccept = 0 then some 12
  else if a.state = 5 || ((a.state = 1 || a.state = 2) && a.source != src) || (ring && 2 ≤ a.state && a.state ≤ 4) then some 4
  else if !first && (a.state != 1 || ofst != s.fw.received) then some 2
  else if s.slotBytes < tot || tot < got + len then some 3
  else if 1048576 < len || (got + len != tot && len % 4096 != 0) then some 2
  else if src = 1 && got + len = tot && (s.slotBundle a.confirmed).any (fun b =>
      b.version == bundleVersion d && b.signature == leNat (signatureOf d)) then some 11
  else none

/-- A piece is programmed into both copies of the staging slot and read back; a NOR that fails it holds no copy of the bundle
(assumption 96). -/
def State.takePiece (c : Cct) (w : NorWrite) (s : State) : State :=
  let len := pieceLen c.cap
  let first := c.cap.dw11 = 0
  let src := s.fwSource c
  let d := s.piecesWith c
  let s := if first then
      let s := s.dropStaging
      { s with fw := s.fw.setAct (fun a => { a with state := 1, source := src, candVersion := bundleVersion d }) }
    else s
  let got := s.fw.received
  let s := (s.norWrite got len).norWrite got len
  let f := s.fw
  let bad := f.badNor ++ badNors w
  let s := { s with fw := { f with received := got + len, pieces := d, badNor := bad } }
  if got + len = bundleLen d then
    let s := s.putSlot s.stagingSlot (readBundle d) bad
    let f := s.fw
    { s with fw := { f.setAct (fun a => { a with state := 2 }) with pieces := [], badNor := [] } }
  else s

/-- An offer of the confirmed bundle ends: what was received of it is discarded. -/
def State.endOffer (r : Nat) (s : State) : State :=
  if r = 11 then
    let s := s.dropStaging
    { s with fw := s.fw.setAct (fun a => { a with state := 0 }) }
  else s

/-- A piece on its entry. Where power is lost while it is written, no completion is posted, and the next cold boot discards the
candidate (R531). -/
def execFirmwareImageDownload (e : Nat) (w : NorWrite) (s : State) : Out :=
  .next (s.withCmd e 0x11 false (fun c s =>
    if c.cap.data.length < pieceLen c.cap then s
    else
      match s.pieceReason c with
      | some r => (s.endOffer r).fwRefuse c r
      | none =>
        let t := (s.takePiece c w).norFailed w
        if w == .cut then t else t.reply c St.ok))

/-! ### Settings of the pinned generation (R530) -/

/-- The settings a generation holds. -/
def Journal.settingsOf (j : Journal) (g : Nat) : Option Settings :=
  match j.setA, j.setB with
  | some a, some b => if a.gen = g then some a else if b.gen = g then some b else none
  | some a, none => if a.gen = g then some a else none
  | none, some b => if b.gen = g then some b else none
  | none, none => none

/-- A live slice with the settings of a stored one: what runs on it goes on. -/
def SliceS.withSettings (x y : SliceS) : SliceS :=
  { x with state := y.state, desc := y.desc, key := y.key, nss := y.nss, peer := y.peer, peerId := y.peerId }

/-- The settings of a generation come into force; the other area is given up (R530). -/
def State.loadSettings (x : Settings) (s : State) : State :=
  let gone := s.slices.list.filter (fun y => !x.slices.any (·.num == y.num))
  let s := gone.foldl (fun s y => s.endCtrls y.num) s
  let keys : List (Nat × Nat) := x.keySlots.map (fun k => (k.1, leNat (unwrapRoot k.2)))
  let l : List SliceS := x.slices.map (fun y =>
    let y := { y with key := ((keys.find? (·.1 == y.num)).map (·.2)).getD 0 }
    ((s.slice y.num).map (·.withSettings y)).getD y)
  let sl := s.slices
  let m := s.mem
  let b := s.bank
  let t := s.thermal
  { s with
    slices := { sl with list := l, keySlots := keys, mgHost := x.mgHost, mgCtrl := x.mgCtrl, mgPsk := x.mgPsk }
    fabric := { s.fabric with ringSecret := x.ringSecret }
    mem := { m with retiredPages := x.retiredPages, retiredBanks := x.retiredBanks, removedRanks := x.removedRanks }
    bank := { b with cUf := x.huC, esr := x.huEsr, lastTestH := x.huTestH }
    thermal := { t with lifeMax := x.lifeMax, lifeMaxH := x.lifeMaxH, throttleMin := x.throttleMin, trips := x.trips, hist := x.hist } }

/-- The generation of PINNED_GEN is used again, whatever the GEN of the other area (R530). -/
def State.unpin (g : Nat) (s : State) : State :=
  match s.journal.settingsOf g with
  | none => s
  | some x =>
    let j := s.journal
    let keep (a : Option Settings) : Option Settings := if a.any (·.gen == g) then a else none
    let s := { s with journal := { j with gen := g, setA := keep j.setA, setB := keep j.setB } }
    s.loadSettings x

/-! ### Activation and revert (R524 to R530) -/

/-- The notice that a firmware activation starts, on every slice (R560, R561). -/
def State.noticeActivation (s : State) : State :=
  s.notifyAll (fun k => (k.isMgmt || k.isTenant) && k.evCfg.getLsbD 9) { type := 2, info := 1, lid := 3 }

/-- Every dispatched entry resumes after its STEP (R524 step 6). -/
def State.redispatch (s : State) : State :=
  let eg := s.eng
  let l : List Cct := eg.cct.map (fun x => if x.core.isSome then { x with redo := true } else x)
  { s with eng := { eg with cct := l } }

/-- Probation in operating ms: PROB_MIN brought to 1 to 1,440 minutes (R527, R536). -/
def State.probMs (s : State) : Nat := clampNat 1 1440 (s.fld Reg.FW_PROB 31 16) * 60000

/-- A candidate starts on probation (R524 step 6, R531). -/
def State.startProbation (slot : Nat) (b : Bundle) (s : State) : State :=
  let p := s.opMs + s.probMs
  let f := s.fw
  { s with fw := { f with activeSlot := slot, running := b, probEnd := some p, probFault := false, probGens := 0 } }

/-- Activation with CA 0b011 (R524): answers the reason it failed with, or none. -/
def State.activate (settingsOk : Bool) (s : State) : Option Nat × State :=
  let k := s.stagingSlot
  let s := s.noticeActivation
  match s.slotBundle k with
  | none => (some 6, s)
  | some b =>
    match (match s.verifyFw b with | some r => some r | none => if b.abi != s.fw.running.abi then some 8 else none) with
    | some r => (some r, s.capture 0x1003 [r, 2, 100, 0])
    | none =>
      let pin := s.journal.gen
      let s := { s with fw := s.fw.setAct (fun a => { a with state := 5, pinnedGen := pin }) }
      let s := s.bump Reg.FW_CNT_ACTIVATE 1
      if !settingsOk then
        let s := s.dropStaging
        let s := { s with fw := s.fw.setAct (fun a => { a with state := 0, pinnedGen := 0 }) }
        (some 9, ((s.redispatch).bump Reg.FW_CNT_REVERT 1).capture 0x1005 [4, 0, k, 0])
      else
        let s := (s.redispatch).startProbation k b
        (none, s.capture 0x1002 [k, 500, b.secver, 0])

/-- The device reverts to the previous confirmed image (R524, R527, R530). -/
def State.revert (cause : Nat) (s : State) : State :=
  let s := s.noticeActivation
  let a := s.fw.act
  let k := s.fw.activeSlot
  let gens := s.fw.probGens
  let s := { s with fw := s.fw.setAct (fun a => { a with state := 0, pinnedGen := 0 }) }
  let s := if a.pinnedGen = 0 then s else s.unpin a.pinnedGen
  let f := s.fw
  let old := (s.slotBundle a.confirmed).getD f.running
  let s := { s with fw := { f with activeSlot := a.confirmed, running := old, probEnd := none, probFault := false, probGens := 0 } }
  let s := s.redispatch
  ((s.bump Reg.FW_CNT_ACTIVATE 1).bump Reg.FW_CNT_REVERT 1).capture 0x1005 [cause, gens, k, 0]

/-! ### Confirmation (R527, R528) -/

/-- The anti-rollback fuses are burnt up to SECVER_TARGET (R528 step 1, R531). -/
def State.burnFuse (s : State) : State :=
  let x := s.fw.act.secverTarget
  let old := s.fuses.antiRollback
  if old < x then
    let fu := s.fuses
    ({ s with fuses := { fu with antiRollback := x } }).capture 0x100D [old, x, 0, 0]
  else s

/-- Writes the loader region of a NOR (R528). -/
def State.writeLoader (n : Nat) (l : Nat × Nat) (s : State) : State :=
  let nr := s.nor
  let v : List (Nat × Nat) := modNth nr.loaders n (fun _ => l)
  (({ s with nor := { nr with loaders := v } }).norWrite 0 l.2).capture 0x1009 [n, l.1, 0, 0]

/-- A bundle's loader component that differs from the loader region of NOR A goes there (R528 step 2). -/
def State.updateLoader (s : State) : State :=
  match s.fw.running.loader with
  | none => s
  | some l =>
    if s.nor.loaders.getD 0 (0, 0) = (l.1, l.2.1) then s
    else
      let s := { s with fw := s.fw.setAct (fun a => { a with loader := 1 }) }
      let s := s.writeLoader 0 (l.1, l.2.1)
      { s with fw := s.fw.setAct (fun a => { a with loader := 2 }) }

/-- The running image is confirmed, by the manager (1) or automatically (2): the record, then R528 in order; a forwarding may start
anew. -/
def State.confirm (how : Nat) (s : State) : State :=
  let k := s.fw.activeSlot
  let b := s.fw.running
  let f := s.fw.setAct (fun a => { a with confirmed := k, state := 0, pinnedGen := 0, secverTarget := b.secver, confVersion := b.version })
  let s := { s with fw := { f with probEnd := none, probFault := false, probGens := 0, dnState := 0 } }
  ((s.capture 0x1004 [k, b.secver, how, 0]).burnFuse).updateLoader

/-! ### FIRMWARE_COMMIT (R522, R523) -/

/-- CA, FS and BPID. -/
def commitCa (c : Capsule) : Nat := dwBits c.dw10 5 3
def commitFs (c : Capsule) : Nat := dwBits c.dw10 2 0

/-- The reason a commit is refused before any change. -/
def State.commitReason (s : State) (c : Cct) : Option Nat :=
  let a := s.fw.act
  let ca := commitCa c.cap
  let fs := commitFs c.cap
  let src := s.fwSource c
  if 4 ≤ ca then some 10
  else if fs = a.confirmed || 2 < fs || c.cap.dw10.getLsbD 31 then some 1
  else if a.state = 5 || ((a.state = 1 || a.state = 2) && a.source != src) then some 4
  else if a.state != (if ca = 2 then 3 else 2) then some 5
  else
    match s.slotBundle s.stagingSlot with
    | none => some 6
    | some b => if b.wellFormed && b.content = 2 then none else some 6

/-- A commit that may proceed: the record, event 0x01, and an activation at once where CA or RING_ACCEPT asks for it. -/
def State.commitFw (c : Cct) (settingsOk : Bool) (s : State) : State :=
  let ca := commitCa c.cap
  let src := s.fwSource c
  let k := s.stagingSlot
  let sv := ((s.slotBundle k).map (·.secver)).getD 0
  let st := if ca = 1 || ca = 2 then 4 else 3
  let s := { s with fw := s.fw.setAct (fun a => { a with state := st }) }
  let s := s.capture 0x1001 [k, ca, sv, src]
  if ca = 3 then
    match s.activate settingsOk with
    | (none, s) => s.reply c St.ok
    | (some r, s) => s.fwRefuse c r
  else
    let s := s.reply c St.ok
    if src = 1 && s.ringAccept = 2 then (s.activate settingsOk).2 else s

def execFirmwareCommit (e : Nat) (settingsOk : Bool) (s : State) : Out :=
  .next (s.withCmd e 0x10 false (fun c s =>
    match s.commitReason c with
    | some r => s.fwRefuse c r
    | none => s.commitFw c settingsOk))

/-! ### FIRMWARE_CONFIRM, PROBATION_EXPIRY (R527) -/

def execFirmwareConfirm (e : Nat) (s : State) : Out :=
  .next (s.withCmd e 0xD2 false (fun c s =>
    if !onlyDws c.cap 1 0 0 0 0 0 then s.reply c St.invalidField
    else if s.fw.probEnd.isNone then s.fwRefuse c 13
    else if c.cap.dw10.getLsbD 0 then (s.revert 1).reply c St.ok
    else (s.confirm 1).reply c St.ok))

/-- PROB_MIN has passed: the image is confirmed where AUTO_CONFIRM is set and nothing went wrong, else the device reverts. -/
def execProbationExpiry (s : State) : Out :=
  match s.fw.probEnd with
  | none => .next s
  | some t =>
    if s.opMs < t then .next s
    else if s.fld Reg.FW_CFG 3 3 = 0 then .next (s.revert 2)
    else if s.fw.probFault then .next (s.revert 3)
    else .next (s.confirm 2)

/-! ### Forwarding (R532 to R534) -/

/-- The confirmed bundle, while it is the running image. -/
def State.forwardBundle (s : State) : Option Bundle :=
  if s.fw.act.state != 5 && s.fw.activeSlot = s.fw.act.confirmed then s.slotBundle s.fw.act.confirmed else none

/-- What the sender may forward now. -/
def State.mayForward (s : State) : Option Bundle :=
  match s.forwardBundle with
  | none => none
  | some b =>
    if s.fld Reg.FW_CFG 2 2 = 1 && b.forwardOk && ((s.fabric.nbs[1]?).map (·.state)).getD 0 = 3 then some b else none

/-- Sends the piece at an offset: 1 MiB, or what is left. -/
def State.sendPiece (o : Nat) (b : Bundle) (s : State) : State :=
  let f := s.fw
  ({ s with fw := { f with dnState := 1, fwdOffset := o, fwdCommit := false } }).send (.fwPiece o (min 1048576 (b.totalLen - o)))

def execFirmwareForward (s : State) : Out :=
  if s.fw.dnState != 0 then .next s
  else
    match s.mayForward with
    | none => .next s
    | some b =>
      let f := s.fw
      .next (({ s with fw := { f with fwdStart := s.seed.now } }).sendPiece 0 b)

/-- The peer has the bundle (R533, R534). -/
def State.fwdDone (s : State) : State :=
  let f := s.fw
  { s with fw := { f with dnState := 3, fwdCommit := false } }

/-- The downstream peer's completion of a piece or of the commit; `reason` is the refusal's, none is success. -/
def execForwardCompletionReceived (reason : Option Nat) (s : State) : Out :=
  if s.fw.dnState != 1 then .next s
  else
    match reason with
    | some 4 =>
      let f := s.fw
      .next { s with fw := { f with dnState := 2, fwdRetryAt := s.seed.now } }
    | some 11 => .next s.fwdDone
    | some r =>
      let f := s.fw
      .next (({ s with fw := { f with dnState := 4 } }).capture 0x100C [r, 0, 0, 0])
    | none =>
      match s.forwardBundle with
      | none => .next s
      | some b =>
        if s.fw.fwdCommit then
          let s := (s.fwdDone).bump Reg.FW_CNT_FORWARD 1
          .next (s.capture 0x100B [b.totalLen / 1048576, s.since s.fw.fwdStart / 1000000, 0, 0])
        else
          let o := s.fw.fwdOffset + 1048576
          if o < b.totalLen then .next (s.sendPiece o b)
          else
            let f := s.fw
            .next (({ s with fw := { f with fwdCommit := true } }).send .fwCommit)

/-- RETRY_S after a refusal with reason 4 or a lost association, the forwarding starts again from offset 0. -/
def execForwardRetry (s : State) : Out :=
  if s.fw.dnState != 2 || s.since s.fw.fwdRetryAt < max 1 (s.fld Reg.FW_RING 31 16) * 1000000 then .next s
  else
    match s.mayForward with
    | none => .next s
    | some b => .next (s.sendPiece 0 b)

end Sys2Proof.Machine
end

