-- ==== Sys2Proof/Machine/PowerFail.lean ====
section
/-! DEFINITION. Losing power: what is kept, the emergency flush, the quiet power-down of L4, the over-temperature trip, the rails and
the Seed supply (R213, R214, R388, R439, R444, R446, R477, R501, R508, R509, R577 to R579). -/

namespace Sys2Proof.Machine

open Sys2Proof

/-! ### Step 6: every domain but PD0 switches off (R30, R213) -/

/-- A die without the operations it was running. -/
def Die.stopped (d : Die) : Die :=
  { d with op := 0, opId := 0, suspended := 0, suspends := 0, busyUs := 0, lastResume := none, queue := [], unresp := false }

/-- A carrier without power: its EEPROM keeps its records, and its presence stands. -/
def Carrier.stopped (c : Carrier) : Carrier :=
  { present := c.present, facts := c.facts, recA := c.recA, recB := c.recB, insertH := c.insertH, admitRetired := c.admitRetired }

/-- What flash and the stored totals keep of media upkeep, with the band metadata as the map stream last wrote it (R223, R254): age and read
counts are those of the copy on flash, while composition, state and wear follow from the records of every change; requests are in neither
(assumption 68). -/
def Upkeep.stopped (u : Upkeep) (m : BandMeta) : Upkeep :=
  let age (n : Nat) : Nat := ((m.ages.find? (·.1 == n)).map (·.2)).getD 0
  let reads (d b : Nat) : Nat := ((m.reads.find? (fun x => x.1 == d && x.2.1 == b)).map (·.2.2)).getD 0
  { bands := u.bands.map (fun b => { b with pins := [], starved := false, reqs := [], age := age b.num }),
    blocks := u.blocks.map (fun x => { x with reads := reads x.die x.block }), totals := u.totals,
    lapRefresh := u.lapRefresh, lastLapH := u.lastLapH, lapAt := u.lapAt, lapDone := u.lapDone, lapFront := u.lapFront, lapPos := u.lapPos,
    lapCw := u.lapCw, lapUnc := u.lapUnc, estimated := u.estimated, fullLap := u.fullLap,
    eol := u.eol, waHist := u.waHist }

/-- Erases that passed in a band no erase-complete record covers leave no wear behind: no record holds them (R223, R235). -/
def State.unwear (s : State) : State :=
  (s.upkeep.bands.filter (·.st == .erasing)).foldl (fun s b =>
    (b.erased.filterMap (b.members[·]?)).foldl (fun s m =>
      s.modBlock m.die m.block (fun x => { x with wear := x.wear - s.eraseWear b.slc })) s) s

/-- Records that are durable stay; of those that are not, the first is the torn tail of the ring (R216). -/
def tornTail (l : List JRec) : List JRec :=
  l.filter (·.durable) ++ ((l.filter (!·.durable)).take 1).map (fun r => { r with torn := true })

/-- Ranges of lost-units records that are not durable are not applied (R238). -/
def State.unlost (s : State) : List LostRange :=
  (s.journal.recs.filter (!·.durable)).foldl (fun l r =>
    match r.body with
    | .lostUnits sl ns _ _ a n _ => lostRemove l sl ns a n
    | _ => l) s.store.lost

/-- The Seed island without the other domains. -/
def Seed.stopped (x : Seed) : Seed :=
  { x with msCapture := none, rtcLoHeld := none, pllFails := List.replicate 10 0, powerOffAt := some x.now, refReq := true, refLate := false,
           l4Entry := none, pfQuiet := false, quietCause := 0 }

/-- Only what holds its content without power remains: fuses, the NOR pair, Quince, flash, the carriers' EEPROMs and the Seed island
with SLED_CFG; DRAM, the SRAMs and every register of the other domains are gone. -/
def State.powerOff (s : State) : State :=
  let s := s.unwear
  let nr := s.nor
  let keep : List (Nat × Word) := s.regs.filter (fun r => r.1 == Reg.SLED_CFG)
  let ar := s.array
  let st := s.store
  let f := s.fw
  let j := s.journal
  let ev := s.events
  let root := j.root
  { pending := s.pending, free := s.free, fuses := s.fuses, regs := keep
    nor := { sizes := nr.sizes, copies := nr.copies, slots := nr.slots, loaders := nr.loaders, cells := nr.cells }
    fw := { recA := f.recA, recB := f.recB, received := f.received, probGens := f.probGens }
    seed := s.seed.stopped
    eng := { abandoned := s.eng.abandoned }
    slices := { gone := s.slices.gone, keyGen := s.slices.keyGen }
    store := { placed := st.placed, flash := st.flash, lost := s.unlost, lostGen := st.lostGen, overflow := st.overflow, pagesAt := root.pages, pslcGib := st.pslcGib }
    journal := { j with recs := tornTail j.recs, group := 0 }
    upkeep := s.upkeep.stopped root.bands
    array := { arrayId := ar.arrayId, d := ar.d, p := ar.p, mapUnitKib := ar.mapUnitKib, epoch := ar.epoch, members := ar.members,
               reshape := ar.reshape, dies := ar.dies.map (·.stopped), carriers := ar.carriers.map (·.stopped), flipped := ar.flipped }
    mem := { clearRanks := s.mem.clearRanks, clearPages := s.mem.clearPages }
    bank := { abandoned := s.bank.abandoned }
    events := { log := ev.log, first := ev.first, full := ev.full, fullSeq := ev.fullSeq } }

/-! ### Steps 1 to 3 (R213, R388) -/

/-- A trigger during the Hold-up Test abandons it (R469). -/
def State.abandonTest (s : State) : State :=
  let b := s.bank
  if b.step = 0 then s
  else { s with bank := { b with step := 0, waiting := none, abandoned := some (if b.step = 6 then 0 else b.step) } }

/-- Admission stops; punnet requests of the abandoned classes end; the flush-start record is durable with every record before it, and
extents still FILLING are abandoned with their commands. -/
def State.beginFlush (trigger : Nat) (s : State) : State :=
  let s := s.abandonTest
  let g := s.glb
  let st := s.store
  let m := s.mem
  let s := { s with glb := { g with state := .flush }, store := { st with flush := some trigger },
                    mem := { m with reqs := m.reqs.filter (fun r => r.cls == 0 || r.cls == 4) } }
  let s := s.jwrite (.flushStart trigger s.opMs s.dirtyKib)
  -- the gates of commands that are done close; their completions are not posted (R169)
  let s := (s.eng.cct.filter (·.st == .completing)).foldl (fun s c => s.post c c.status c.result) s
  let eg := s.eng
  let j := s.journal
  let st := s.store
  let buf : List BufExt := st.buf.filter (fun b => b.st != .filling)
  -- programs and erases queued and not started are abandoned
  let idle (d : Die) : Die := { d with queue := d.queue.filter (fun o => o.started || o.kind == 1) }
  let ar := s.array
  { s with journal := j.groupDone, store := { st with buf := buf, jobs := [] }, array := { ar with dies := ar.dies.map idle },
           eng := { eg with abandoned := eg.abandoned + eg.cct.length, cct := [] } }

/-- Reset LUN of the dies that still program a stripe (R213, R280). -/
def State.resetProgs (t : Stripe) (s : State) : State :=
  let mine (o : DieOp) : Bool := o.kind == 2 && o.band == t.band && o.stripe == t.stripe
  let f (d : Die) : Die :=
    if d.queue.any mine then { d with queue := d.queue.filter (fun o => !mine o), op := if d.op == 2 then 0 else d.op,
                                      suspended := if d.suspended == 2 then 0 else d.suspended } else d
  let ar := s.array
  { s with array := { ar with dies := ar.dies.map f } }

/-- A stripe that had begun programming and has not passed is voided with CAUSE 3; its extents are landed. -/
def State.flushVoid (t : Stripe) (s : State) : State :=
  let s := s.jsync (.void t.band t.stripe 3)
  let s := (((s.onFlash t false).resetProgs t).dropStripe t.band t.stripe).closeBand t.band
  (s.capture 0x0702 [t.band, t.stripe, 3, 0xFFFFFFFF]).restage (t.items.filterMap (·.buf))

/-- Every member of a stripe has passed or is being programmed: a member that was abandoned or is suspended keeps the stripe from passing. -/
def State.mayPass (s : State) (t : Stripe) : Bool :=
  (List.range (t.d + t.p)).all (fun m =>
    t.passed.contains m ||
    ((s.band t.band).bind (fun b => b.memberAt t.stripe m)).any (fun x =>
      (s.die x.die).any (fun d => d.op == 2 && d.queue.any (fun o =>
        o.id == d.opId && o.kind == 2 && o.band == t.band && o.stripe == t.stripe && o.mem == m))))

/-- Step 3: stripes that have passed are committed, the others end; those only gathering leave no record (R216). -/
def State.flushStripes (passed : List (Nat × Nat)) (s : State) : State :=
  s.store.stripes.foldl (fun s t =>
    if !t.flushing then (s.dropStripe t.band t.stripe).restage (t.items.filterMap (·.buf))
    else if passed.contains (t.band, t.stripe) && s.mayPass t then (s.resetProgs t).commitStripe t
    else s.flushVoid t) s

/-! ### Step 4 (R205, R213, R214) -/

/-- The front of a list of extents that fits in a stripe of `room` granules, each at its offset, and the rest. -/
def takeFit (room at_ : Nat) : List BufExt → List Item × List BufExt
  | [] => ([], [])
  | b :: t =>
    if at_ + b.len ≤ room then
      let r := takeFit room (at_ + b.len) t
      ({ slice := b.slice, nsid := b.nsid, mu := b.mu, x := b.x, len := b.len, off := at_, buf := some b.off } :: r.1, r.2)
    else ([], b :: t)

/-- A landing stripe whose member fails or times out is voided; its extents are gathered again. -/
def State.voidLanding (t : Stripe) (mem : Nat) (late : Bool) (s : State) : State :=
  let cause := if late then 2 else 1
  let die := (((s.band t.band).bind (fun b => b.memberAt t.stripe mem)).map (·.die)).getD 0xFFFFFFFF
  let s := s.jsync (.void t.band t.stripe cause)
  ((s.dropStripe t.band t.stripe).closeBand t.band).capture 0x0702 [t.band, t.stripe, cause, die]

/-- A landing stripe: its landing record, the entries of its extents, and event 0x01 where the last one is padded. -/
def State.landStripe (t : Stripe) (items : List Item) (last : Bool) (s : State) : State :=
  let pad := s.stripeRoom t - sumBy items (·.len)
  let s := s.jsync (.landing t.band t.stripe (s.recItems t items))
  let s := items.foldl (fun s i => s.commitBuf t true i) s
  let fill := sumBy items (·.len)
  let s := ((s.onFlash { t with items := items, fill := fill, pad := pad } true).dropStripe t.band t.stripe).fillBand t.band
  if last && pad != 0 then s.capture 0x0701 [t.band, t.stripe, pad, 3] else s

/-- A carrier outside its program range takes landing programs all the same: event 0x0E of each (R291). -/
def State.landingRange (s : State) : State :=
  s.usable.foldl (fun s k =>
    let t := (s.carrier k).temp
    let g := s.tgate k
    if decide (t < g.1) || decide (g.2.1 < t) then s.capture 0x090E [k, unsigned 32 t] else s) s

/-- Landing stripes for a list of extents, the `n`-th first: the number of stripes landed, the extents left, and the state. `fails` gives
the stripes whose member fails. -/
def State.landAll (fails : List (Nat × Nat × Bool)) (n done_ : Nat) (l : List BufExt) (s : State) : Nat → Nat × List BufExt × State
  | 0 => (done_, l, s)
  | fuel + 1 =>
    let s1 := s.openStripe 3 0
    match s1.openOf 3 with
    | none => (done_, l, s)
    | some t =>
      let r := takeFit (s1.stripeRoom t) 0 l
      if l.isEmpty || r.1.isEmpty then (done_, l, s)
      else
        match fails.find? (fun x => x.1 == n && decide (x.2.1 < t.d + t.p)) with
        | some x => State.landAll fails (n + 1) done_ l (s1.voidLanding t x.2.1 x.2.2) fuel
        | none => State.landAll fails (n + 1) (done_ + 1) r.2 (s1.landStripe t r.1 r.2.isEmpty) fuel

/-! ### The sequence -/

/-- Steps 5 and 6: the partial-minute snapshot with the totals, the lifetime fields, the stop record, event 0x04, and the end of
power. -/
def State.endFlush (trigger stop dirty ms stripes : Nat) (s : State) : State :=
  let s := ((s.meterTick true 0).writeSettings).jwrite (.stop stop dirty)
  let j := s.journal
  ({ s with journal := j.groupDone }.capture 0x0704 [dirty, ms, stripes, trigger]).powerOff

/-- The emergency flush of R213: it ends without power when every extent has landed, and stays at step 4 when the energy or the landing
zone does not suffice (R214). -/
def State.emergencyFlush (trigger stop : Nat) (f : FlushFacts) (s : State) : State :=
  let dirty := s.dirtyKib
  let s := (s.beginFlush trigger).flushStripes f.passed
  let all : List BufExt := s.store.buf.filter (fun b => !b.superseded)
  let l := match f.landLimit with | none => all | some n => all.take n
  let s := if l.isEmpty then s else s.landingRange
  let r := s.landAll f.landFails 0 0 l (l.length + f.landFails.length)
  if r.2.1.isEmpty && l.length = all.length then r.2.2.endFlush trigger stop dirty f.ms r.1 else r.2.2

/-- The quiet power-down of L4 (R439). -/
def State.quietOff (cause : Nat) (s : State) : State :=
  let t := s.seed.l4Entry
  let s := s.powerOff
  let x := s.seed
  { s with seed := { x with pfQuiet := true, quietCause := cause, l4Entry := t } }

/-- PWR_FAIL or PRSNT_N finds the device in some state: a flush once started runs on (R213), configuration hold has nothing to flush. -/
def State.powerTrigger (trigger : Nat) (f : FlushFacts) (s : State) : State :=
  if !s.glb.powered || s.store.flush.isSome then s
  else if s.glb.hold.isSome then s.powerOff
  else if s.power.state == .l4 then (s.abandonTest).quietOff trigger
  else s.emergencyFlush trigger 1 f

def execPwrFailAssert (f : FlushFacts) (s : State) : Out :=
  let x := s.seed
  .next (({ s with seed := { x with pwrFail := true } }).powerTrigger 1 f)

def execPrsntNDeassert (f : FlushFacts) (s : State) : Out :=
  let x := s.seed
  .next (({ s with seed := { x with prsnt := false } }).powerTrigger 2 f)

/-! ### Hold-up bank low, the rails (R214, R446, R577, R579) -/

/-- A switch-off during an emergency flush latches its Seed time (R214). -/
def State.cutOff (s : State) : State :=
  let x := s.seed
  let t := s.opMs
  let s := if s.store.flush.isSome then { s with seed := { x with offLatch := some t } } else s
  s.powerOff

def execHubLowAssert (s : State) : Out :=
  let x := s.seed
  let s := { s with seed := { x with hubLow := true } }
  if !s.glb.powered then .next s
  else if s.store.flush.isSome then .next s.cutOff
  else if s.power.state == .l4 then .next (s.leaveTo (if s.power.allowed.code < 3 then s.power.allowed else .l3) 5 0)
  else .next s

/-- A map root is half written as power goes: the copy not used last does not match its CRC (R216). -/
def Journal.tearRoot (j : Journal) : Journal :=
  let f (r : MapRoot) : MapRoot := { r with torn := true }
  if j.rootB then { j with mapA := j.mapA.map f } else { j with mapB := j.mapB.map f }

/-- Power is cut without a flush: whether a map root was being written is a free value; none is during an emergency flush (R216). -/
def State.cutRoot (s : State) : State :=
  if s.glb.powered && s.store.flush.isNone then
    let r := s.drawFree
    let j := s.journal
    { r.2 with journal := if r.1.getLsbD 0 then j.tearRoot else j }
  else s

/-- A rail leaves its range (R579). -/
def execMainRailOutOfRange (s : State) : Out :=
  let s := s.cutRoot
  let x := s.seed
  let s := { s with seed := { x with rails := false } }
  if s.glb.powered then .next s.cutOff else .next s

/-- Every main rail has been in range for 1 ms; input power is back, and the comparators of R446 read so. -/
def execMainRailsInRange (s : State) : Out :=
  let x := s.seed
  if x.vdd then .next { s with seed := { x with rails := true, pwrFail := false, hubLow := false } } else .next s

/-- PRSNT_N asserts: the debounce starts (R508). -/
def execSledPresenceAssert (s : State) : Out :=
  let x := s.seed
  .next { s with seed := { x with prsnt := true, prsntAt := x.now } }

/-! ### The over-temperature trip (R446, R477) -/

/-- The trip: latched, and without power or during a flush nothing more; in L0 to L2 the flush runs with it as its trigger, in L3 and
L4 the device powers off as in R439, in L4 once the event is written. -/
def execOverTemperatureTrip (f : FlushFacts) (s : State) : Out :=
  let x := s.seed
  if x.otTrip || !x.vdd then .next s
  else
    let s := { s with seed := { x with otTrip := true } }
    let t := s.thermal
    if !s.glb.powered then .next s
    else
      let s := { s with thermal := { t with trips := min 0xFFFFFFFF (t.trips + 1) } }
      let s := if t.trips = 0xFFFFFFFE then s.satEvent 2 28 0 else s
      let s := s.capture 0x0207 [unsigned 32 s.thermal.tj, s.power.state.code]
      if s.store.flush.isSome then .next s
      else if s.glb.hold.isSome then .next s.powerOff
      else if s.power.state == .l4 then .next ((s.abandonTest.writeSettings).quietOff 0)
      else .next (s.emergencyFlush 3 (if s.power.state == .l3 then 4 else 1) f)

/-! ### VDD_SEED (R444, R477) -/

/-- VDD_SEED is removed: the trip, the counters, the clock and the L4 state are lost, and with the island every domain. -/
def execVddSeedLoss (s : State) : Out :=
  let s := if s.glb.powered then s.cutRoot.powerOff else s
  let x := s.seed
  let lost : Seed := { now := x.now, prsnt := x.prsnt, prsntAt := x.prsntAt, vdd := false, vddLost := true, crystalAt := x.now }
  .next { s with seed := lost, regs := [] }

/-- VDD_SEED comes into range: the island starts on its crystal, and a standing presence is debounced anew (R508). -/
def execVddSeedReturn (s : State) : Out :=
  let x := s.seed
  if x.vdd then .next s else .next { s with seed := { x with vdd := true, prsntAt := x.now, crystalAt := x.now } }

end Sys2Proof.Machine
end

