-- ==== Sys2Proof/Machine/ControlSpace.lean ====
section
/-! DEFINITION. Accesses to the control space: what every register reads, what a write to each does, Control Read and Control Write,
the counter clears, sticky status, the credentials of the management slice and Event Log Clear (R9 to R17, R541 to R545, R554 to
R568). -/

namespace Sys2Proof.Machine

open Sys2Proof

/-! ### What the registers read (R12): fields of type RO by block -/

/-- Packs (lowest bit, value) fields into a word. -/
def packF (l : List (Nat × Nat)) : Word := BitVec.ofNat 32 (sumBy l (fun x => atBit x.1 x.2))

/-- ID_PART and the global registers (R7, R41 to R46). -/
def State.readGlb (s : State) (off : Nat) : Word :=
  let g := s.glb
  let st := match g.state with | .coldBoot => 0 | .recovery => 1 | .ready => 2 | .pause => 3 | .flush => 4
  match off with
  | 0x000 => packF [(16, 0x7240), (12, 1), (0, s.fuses.grade % 4)]
  | 0x100 => packF [(8, g.bootStep % 256), (0, st)]
  | 0x108 => packF [(23, g.dramGib % 512), (16, 17), (11, 14)]
  | 0x10C => g.coreActive.setWidth 32
  | 0x110 => g.coreFailed.setWidth 32
  | 0x114 => packF [(0, s.glbDegrade)]
  | _ => s.reg off

/-- Device state as ALLOWED and STATE show it, and the rest of the Seed block (R450, R451, R453). -/
def State.readSeed (s : State) (off : Nat) : Word :=
  let x := s.seed
  match off with
  | 0x10000 => packF [(28, s.power.state.code), (24, s.power.allowed.code), (12, b2n x.refLate), (11, b2n x.refReq), (10, b2n x.rcClk),
      (9, b2n x.countersRestored), (8, b2n x.pfQuiet), (3, b2n x.prsnt), (2, b2n x.otTrip), (1, b2n x.hubLow), (0, b2n x.pwrFail)]
  | 0x10004 => BitVec.ofNat 32 x.hours
  | 0x10008 => BitVec.ofNat 32 (x.msCapture.getD s.ms)
  | 0x1000C => BitVec.ofNat 32 x.pcycle
  | 0x10010 => x.rtc.extractLsb' 0 32
  | 0x10014 => x.rtc.extractLsb' 32 32
  | 0x10018 => BitVec.ofNat 32 x.ticks
  | 0x10020 => packF [(0, s.wakeWord)]
  | 0x10040 => s.power.lt
  | 0x10044 => packF [(0, s.ltSrc)]
  | _ => s.reg off

/-- The thermal block (R483). -/
def State.readTherm (s : State) (off : Nat) : Word :=
  let t := s.thermal
  match off with
  | 0x20000 => packF [(16, unsigned 16 t.tj), (12, t.state), (0, unsigned 12 (tenths t.rate))]
  | 0x20008 => (s.reg off &&& 0xFFFFFF00) ||| BitVec.ofNat 32 (t.limit % 256)
  | _ => s.reg off

/-- TEST_STEP: the step of R469 that runs; step 2 follows at 100 µs. The recharge before step 1 reads 0. -/
def State.testStep (s : State) : Nat :=
  let b := s.bank
  if b.step = 1 && decide (100 ≤ s.since b.testAt) then 3 else if b.step = 6 then 0 else b.step

/-- The control loops and the hold-up bank (R480 to R482). -/
def State.readLoops (s : State) (off : Nat) : Word :=
  let b := s.bank
  if off < 0x30500 then
    let k := (off - 0x30000) / 0x40
    let x := s.slot k
    match (off - 0x30000) % 0x40 with
    | 0x04 => packF [(0, s.loopStat k)]
    | 0x28 => BitVec.ofInt 32 x.pv
    | 0x2C => BitVec.ofInt 32 x.sp
    | 0x30 => BitVec.ofInt 32 x.u
    | _ => s.reg off
  else
    match off with
    | 0x30810 => packF [(16, b.vMv % 65536), (4, s.testStep % 16), (3, b2n b.failed), (2, b2n b.forbidden),
        (1, b2n (decide (s.loopQ Reg.LOOP_OUT_MIN 16 < (s.slot 16).u))), (0, b2n s.bankFull)]
    | 0x30814 => BitVec.ofNat 32 (b.cUf.getD 0)
    | 0x30818 => if b.cUf.isNone then 0 else packF [(16, min 0xFFFF (s.seed.hours - b.lastTestH)), (0, min 0xFFFF b.esr)]
    | 0x3081C => BitVec.ofNat 32 (s.dirtyLimit / 2048)
    | _ => s.reg off

/-- The event recorder and the credential registers (R565, R567, R568). -/
def State.readEvents (s : State) (off : Nat) : Word :=
  let e := s.events
  let c := s.slices
  match off with
  | 0x40000 => packF [(31, b2n e.full), (30, b2n e.bootOvf), (29, b2n s.alertLow), (0, e.log.length)]
  | 0x40004 => BitVec.ofNat 32 e.first
  | 0x40008 => BitVec.ofNat 32 e.dropped
  | 0x40190 => packF [(0, s.stickySum 0 32)]
  | 0x40194 => packF [(0, s.stickySum 32 4)]
  | 0x40300 => s.reg off ||| packF [(31, b2n c.mgErr), (26, b2n !c.mgPsk.isEmpty), (25, b2n !c.mgCtrl.isEmpty), (24, b2n !c.mgHost.isEmpty)]
  | _ => s.reg off

/-- Requests of a class that wait. -/
def State.punWaiting (s : State) (c : Nat) : Nat := (s.mem.reqs.filter (·.cls == c)).length

/-- The punnet pool and Quince (R413 to R415). -/
def State.readPun (s : State) (off : Nat) : Word :=
  if 0x50040 ≤ off && off < 0x5005C then
    let c := (off - 0x50040) / 4
    packF [(16, s.punWaiting c % 65536), (0, s.punUse c)]
  else
    match off with
    | 0x50000 => packF [(16, s.mem.reqs.length % 65536), (0, s.punFree)]
    | 0x50064 => s.reg off ||| packF [(16, s.mem.pnResult % 16)]
    | 0x50078 => s.reg off ||| packF [(0, min 0xFFFF s.mem.qLapH)]
    | _ => s.reg off

/-- Step 5 of R408 runs in a channel: the spare is filled, at the latest 3.6 s after the trigger. -/
def State.migCopies (s : State) (c : Nat) : Bool :=
  s.mem.migrating.any (fun x => x.1 == c && (decide (3600000 ≤ s.since x.2.2.2) || Config.migCopies (s.since x.2.2.2)))

/-- MIG_PROGRESS of a channel: zero but in step 5 of R408. -/
def State.migProgress (s : State) (c : Nat) : Nat :=
  if s.migCopies c then (s.mem.migrating.find? (·.1 == c)).elim 0 (fun x => min 10000 (Config.migProgress (s.since x.2.2.2))) else 0

/-- State of a rank as DRAM_RANKc shows it: a spare that has been filled is the migration's target (R408, R418). -/
def State.rankShown (s : State) (c r : Nat) : Nat :=
  if s.rankSt c r = 3 && s.migCopies c then 4 else s.rankSt c r

/-- The DRAM controller (R417 to R421). -/
def State.readDram (s : State) (off : Nat) : Word :=
  let m := s.mem
  if 0x60004 ≤ off && off < 0x60014 then
    let c := (off - 0x60004) / 4
    packF [(16, s.migProgress c), (12, s.rankShown c 3), (8, s.rankShown c 2), (4, s.rankShown c 1), (0, s.rankShown c 0)]
  else
    match off with
    | 0x60000 => packF [(24, m.topo.getD 6 0 % 256), (20, m.density % 16), (17, m.topo.getD 4 0 % 2), (16, m.width % 2), (8, m.rankCount % 16),
        (0, m.spare % 2)]
    | 0x60014 => packF [(8, b2n !m.hot.isEmpty), (4, min 8 m.pendMax), (0, b2n m.compat)]
    | 0x60018 => s.reg off ||| packF [(16, min 0xFFFF m.lastPause)]
    | 0x60020 => packF [(16, s.scrubProgress), (0, min 0xFFFF m.scrubLapS)]
    | 0x60028 => packF [(16, min 0xFFFF m.retiredPages.length), (0, min 0xFF m.retiredBanks.length)]
    | 0x60034 => s.reg off ||| packF [(20, m.dramResult % 16)]
    | _ => s.reg off

/-- CH_CFG: zero until the channel's first die is admitted (R292). -/
def State.chCfg (s : State) (n : Nat) : Word :=
  let dies := (s.array.dies.filter (fun d => !d.old && dieChan d.idx == n && !d.refused && d.st != 0)).length
  match (s.carrier (n / 2)).facts with
  | none => 0
  | some f =>
    let e := f.eeprom
    let c := s.chan n
    if dies = 0 then 0
    else packF [(24, dies % 256), (20, e.luns % 16), (16, e.ces % 16), (12, e.planes % 16), (10, (codeOf e.spareBytes).getD 0 % 4),
      (4, c.rateCfg % 16), (0, c.rate % 16)]

/-- The flash channels and the LDPC bank (R292 to R299); CH_TEMP lies in even channels. -/
def State.readChan (s : State) (off : Nat) : Word :=
  let n := (off - 0x80000) / 0x1000
  let c := s.chan n
  let k := s.carrier (n / 2)
  let hard := (s.array.decode.filter (fun o => o.step != 200)).length
  let soft := (s.array.decode.filter (fun o => o.step == 200)).length
  if off = 0x80F00 then packF [(24, min 48 hard), (16, min 8 soft), (0, min 0xFFFF (soft - 8))]
  else
    match (off - 0x80000) % 0x1000 with
    | 0x000 => s.chCfg n
    | 0x004 => packF [(7, b2n k.gateClosed), (0, c.st % 16)]
    | 0x024 => if n % 2 = 0 then packF [(8, b2n k.subst), (0, unsigned 8 k.temp)] else s.reg off
    | 0x034 => c.data0
    | 0x038 => c.data1
    | 0x03C => c.data2
    | _ => s.reg off

/-- CAR_STATEk (R352). -/
def State.carState (s : State) (k : Nat) : Word :=
  let c := s.carrier k
  let dies := s.array.dies.filter (fun d => !d.old && dieCar d.idx == k)
  let n (a b : Nat) : Nat := (dies.filter (fun d => d.st == a || d.st == b)).length
  packF [(31, b2n c.present), (30, b2n c.pwrOn), (29, b2n c.i2cErr), (27, s.carAttn k % 4), (16, min 255 (n 3 4)), (8, min 255 (n 1 2)),
    (0, c.st % 16)]

/-- STR_GEOM (R347); zero without an array. -/
def State.strGeom (s : State) : Word :=
  let a := s.array
  if a.arrayId.isNone then 0
  else
    let g := s.geomAt 0xFFFFFFFF
    let n := match a.reshape with | some r => (r.1, r.2.1) | none => (a.d, a.p)
    packF [(20, g.2 % 16), (16, (s.dForce g.1 g.2).getD 0 % 16), (12, n.2 % 16), (8, n.1 % 16), (4, a.p % 16), (0, a.d % 16)]

/-- Stripes, carriers and maintenance (R256, R347 to R352). -/
def State.readStripes (s : State) (off : Nat) : Word :=
  let a := s.array
  let u := s.upkeep
  if 0xA0100 ≤ off && off < 0xA0140 then s.carState ((off - 0xA0100) / 4)
  else if 0xA0010 ≤ off && off < 0xA0020 then (a.arrayId.getD 0).extractLsb' (32 * ((off - 0xA0010) / 4)) 32
  else
    match off with
    | 0xA0000 => s.strGeom
    | 0xA0004 => if a.arrayId.isNone then 0 else BitVec.ofNat 32 a.epoch
    | 0xA0008 => if a.arrayId.isNone then 0 else BitVec.ofNat 32 (a.epoch / 2 ^ 32)
    | 0xA0020 => packF [(31, b2n !s.rebuildSet.isEmpty), (30, b2n !u.delayed.isEmpty), (29, b2n u.noSpace), (0, s.rebuildSet.length)]
    | 0xA002C => BitVec.ofNat 32 (a.reshape.elim 0xFFFFFFFF (·.2.2.1))
    | 0xA0030 => packF [(31, b2n s.store.overflow), (0, min 0x7FFFFF s.store.lost.length)]
    | 0xA0034 => packF [(4, b2n s.journal.areaActive * (s.journal.area % 2)), (3, b2n s.journal.areaActive),
        (1, b2n (s.journal.dieLost.getD 1 false)), (0, b2n (s.journal.dieLost.getD 0 false))]
    | 0xA8000 => packF [(12, u.jobs.getD 3 0 % 16), (8, u.jobs.getD 2 0 % 16), (4, u.jobs.getD 1 0 % 16), (0, u.jobs.getD 0 0 % 16)]
    | 0xA8004 => packF [(22, b2n (u.regime == .held)), (21, b2n (u.regime == .urgent)), (0, s.freeCount)]
    | 0xA8024 => packF [(16, s.lapProgress), (0, min 0xFFFF u.lastLapH)]
    | _ => s.reg off

/-- Compression (R378). -/
def State.readComp (s : State) (off : Nat) : Word :=
  match off with
  | 0xB0004 => packF [(8, sumBy ((List.range 8).filter (fun l => (s.lane l).faulted)) (2 ^ ·)), (0, sumBy s.lanesActive (2 ^ ·))]
  | 0xB0008 => packF [(0, s.comp.ratio)]
  | _ => s.reg off

/-- PORT_LINK of a port (R80). -/
def State.portLink (s : State) (p : Nat) : Word :=
  let m (i : Nat) : Mac := s.fabric.macs.getD (4 * p + i) {}
  let set (lo : Nat) (f : Mac → Nat) (w : Nat) : Nat := sumBy (List.range 4) (fun i => atBit (lo + w * i) (f (m i)))
  BitVec.ofNat 32 (set 16 (fun x => x.fec % 4) 2 + set 12 (fun x => b2n x.lpi) 1 + set 4 (fun x => b2n x.fault) 1 + set 0 (fun x => b2n x.up) 1)

/-- The fabric ports and the ring (R79, R80, R84). -/
def State.readPorts (s : State) (off : Nat) : Word :=
  let f := s.fabric
  let up := f.nbs.getD 0 {}
  let dn := f.nbs.getD 1 {}
  match off with
  | 0xC0000 => packF [(8, f.l4link.getD 0 0 % 4), (0, f.modes.getD 0 0 % 16)]
  | 0xC1000 => packF [(8, f.l4link.getD 1 0 % 4), (0, f.modes.getD 1 0 % 16)]
  | 0xC0004 => s.portLink 0
  | 0xC1004 => s.portLink 1
  | 0xC2000 => packF [(12, dn.port % 2), (8, dn.state % 16), (4, up.port % 2), (0, up.state % 16)]
  | _ => s.reg off

/-- Entries of the CCT in a state. -/
def State.inState (s : State) (x : CctState) : Nat := (s.eng.cct.filter (·.st == x)).length

/-- The command engine (R130 to R133). -/
def State.readEng (s : State) (off : Nat) : Word :=
  if 0xD0040 ≤ off && off < 0xD0080 then s.eng.capture.getD ((off - 0xD0040) / 4) 0
  else
    match off with
    | 0xD0000 => packF [(0, s.eng.cct.length)]
    | 0xD0004 => packF [(0, s.inState .heldOverlap)]
    | 0xD0008 => packF [(0, s.inState .heldQos)]
    | 0xD000C => packF [(0, (s.eng.cct.filter (·.heldR33)).length)]
    | 0xD0010 => packF [(0, s.freePools.getD 1 0)]
    | _ => s.reg off

/-- The configuration NOR and the ROM routine's mailbox (R510 to R512). -/
def State.readNor (s : State) (off : Nat) : Word :=
  let n := s.nor
  let op (i : Nat) : Bool := n.erasing.getD i false || (n.mbxBusy && n.mbxNor == i)
  match off with
  | 0xE0000 => packF [(28, n.sizes.getD 1 0 % 16), (24, n.sizes.getD 0 0 % 16), (9, b2n (op 1)), (8, b2n (op 0)), (4, n.bootLoader % 2),
      (3, b2n s.fuses.ownerKeyHash.isSome), (1, n.cfgCopy % 2), (0, b2n s.glb.hold.isSome)]
  | 0xE0004 => BitVec.ofNat 32 s.cfg.image.seq
  | 0xE0008 => BitVec.ofNat 32 (s.copySeq (1 - s.nor.cfgCopy))
  | 0xE000C => packF [(31, b2n s.cfg.pending), (30, b2n s.cfg.unstored), (0, s.cfg.lastReason % 256)]
  | 0xE0020 => packF [(31, b2n n.mbxBusy), (16, n.mbxNor % 2), (8, n.mbxStatus % 256), (0, n.mbxOp % 16)]
  | 0xE0024 => BitVec.ofNat 32 n.mbxAddr
  | 0xE0028 => BitVec.ofNat 32 n.mbxLen
  | 0xE002C => BitVec.ofNat 32 n.mbxRet
  | _ => s.reg off

/-- Firmware activation (R535, R536). -/
def State.readFw (s : State) (off : Nat) : Word :=
  let f := s.fw
  let a := f.act
  match off with
  | 0xF0000 => packF [(28, a.state % 16), (24, a.loader % 16), (18, s.nextSlot % 4), (16, f.activeSlot % 4), (8, s.fuses.antiRollback % 256),
      (0, f.lastReason % 256)]
  | 0xF0004 => s.reg off ||| packF [(0, min 0xFFFF ((f.probEnd.elim 0 (· - s.opMs)) / 1000))]
  | 0xF000C => BitVec.ofNat 32 f.received
  | 0xF0010 => s.reg off ||| packF [(0, f.dnState % 16)]
  | _ => s.reg off

/-- What a read of an offset returns (R12, R15, R16): the value its block gives it; zero where nothing is implemented. -/
def State.readReg (s : State) (off : Nat) : Word :=
  if (regRow off).isNone then 0
  else
    match off / 0x10000 with
    | 0x0 => s.readGlb off
    | 0x1 => s.readSeed off
    | 0x2 => s.readTherm off
    | 0x3 => s.readLoops off
    | 0x4 => s.readEvents off
    | 0x5 => s.readPun off
    | 0x6 => s.readDram off
    | 0x8 => s.readChan off
    | 0x9 => s.readChan off
    | 0xA => s.readStripes off
    | 0xB => s.readComp off
    | 0xC => s.readPorts off
    | 0xD => s.readEng off
    | 0xE => s.readNor off
    | 0xF => s.readFw off
    | _ => 0

/-- What a read changes: SEED_HOURS captures SEED_MS for the next read of SEED_MS (R442). -/
def State.afterRead (off : Nat) (s : State) : State :=
  let x := s.seed
  if off = Reg.SEED_HOURS then { s with seed := { x with msCapture := some s.ms } }
  else if off = Reg.SEED_MS then { s with seed := { x with msCapture := none } }
  else s

/-! ### The credentials of the management slice (R541, R542, R567) -/

/-- Bytes of MG_AUTH_DATA. -/
def State.mgBytes (s : State) : List Byte := s.slices.mgData.flatMap (fun w => natBytes 4 w.toNat)

/-- Lengths a credential may have; 0 removes it. -/
def credLen (type len : Nat) : Bool := len == 0 || len == 32 || len == 48 || (len == 64 && type != 3)

/-- R542 refuses the commit. -/
def State.credRefused (s : State) (type len : Nat) : Bool :=
  !credLen type len || (type == 2 && len != 0 && s.slices.mgHost.isEmpty) || (type == 1 && len == 0 && !s.slices.mgCtrl.isEmpty)

/-- A write of MG_AUTH_CTL: LEN and TYPE are kept; with COMMIT the credential is set or removed, written to the settings store and
recorded, or ERR sets. -/
def State.mgAuthWrite (v : Word) (writer : Nat) (s : State) : State :=
  let s := s.setReg Reg.MG_AUTH_CTL (v &&& 0x00FF0003)
  let type := bits v 1 0
  let len := bits v 23 16
  let x := s.slices
  if !v.getLsbD 8 || type == 0 then s
  else if s.credRefused type len then { s with slices := { x with mgErr := true } }
  else
    let w : List Byte := if len = 0 then [] else wrapRoot (s.mgBytes.take len)
    let y : Slices := match type with
      | 1 => { x with mgHost := w }
      | 2 => { x with mgCtrl := w }
      | _ => { x with mgPsk := w }
    (({ s with slices := { y with mgErr := false, mgData := List.replicate 16 0 } }).writeSettings).capture 0x0004 [type, len, writer]

/-! ### What a write does -/

/-- A write by field type alone (R12): nothing where no register is implemented or the register has no field that a write changes. -/
def State.plainWrite (off : Nat) (v : Word) (s : State) : State :=
  match regRow off with
  | none => s
  | some r => s.setReg off (fieldWrite (s.reg off).toNat v.toNat r.rw r.w1c 0)

/-- The state a step comes to. -/
def nextOr (s : State) (o : Out) : State :=
  match o with
  | .next t => t
  | .fault _ => s
  | .refused _ => s

/-- A write that leaves the register unchanged when it breaks a rule. -/
def State.checkedWrite (off : Nat) (v : Word) (ok : Bool) (s : State) : State := if ok then s.plainWrite off v else s

/-- TH_CFG: WARN < THROTTLE ≤ 115 (R483). -/
def thCfgOk (v : Word) : Bool := decide (bits v 31 24 < bits v 23 16) && decide (bits v 23 16 ≤ 115)

/-- HU_CFG3: HU_TLOW below HU_THIGH (R482). -/
def huCfg3Ok (v : Word) : Bool := decide (signed 8 (bits v 23 16) < signed 8 (bits v 31 24))

/-- PN_CLASSn: RESERVE not above LIMIT, the reserves at most 16,384 together (R414). -/
def State.pnClassOk (s : State) (off : Nat) (v : Word) : Bool :=
  let c := (off - Reg.PN_CLASS) / 4
  decide (bits v 14 0 ≤ bits v 30 16) &&
    decide (bits v 14 0 + sumBy ((List.range 7).filter (· != c)) (fun d => s.punReserve d) ≤ 16384)

/-- CH_TGATE: TG_LOW below TG_HIGH (R296). -/
def tgateOk (v : Word) : Bool := decide (signed 8 (bits v 23 16) < signed 8 (bits v 31 24))

/-- MNT_GC_CFG: 0 < FREE_CRIT < FREE_LOW < FREE_TARGET (R256). -/
def gcCfgOk (v : Word) : Bool := decide (0 < bits v 9 0) && decide (bits v 9 0 < bits v 19 10) && decide (bits v 19 10 < bits v 29 20)

/-- A write to LDPC_FLIP_CTL: CH is taken and ARM set (R300). -/
def State.ldpcFlipWrite (v : Word) (s : State) : State :=
  s.setReg Reg.LDPC_FLIP_CTL (fieldWrite (s.reg Reg.LDPC_FLIP_CTL).toNat v.toNat 0x11F 0 0x100)

/-- A write to HU_CFG0: a new charge voltage is a TARGET write of slot 16 (R466, R482). -/
def State.huCfg0Write (v : Word) (s : State) : State :=
  let old := s.vset
  let s := s.plainWrite Reg.HU_CFG0 v
  if s.vset = old then s else s.setTarget 16 s.chargeTarget

/-- The registers of one flash channel. -/
def State.chanWrite (off : Nat) (v : Word) (s : State) : State :=
  let n := (off - 0x80000) / 0x1000
  match (off - 0x80000) % 0x1000 with
  | 0x020 => s.checkedWrite off v (tgateOk v)
  | 0x030 => nextOr s (execChDieSelWrite n v s)
  | 0x064 => s.clearCounters (Reg.CH_CNT_READ + 0x1000 * n) 9 v
  | 0xF10 => if n = 0 then s.clearCounters Reg.LDPC_CNT_HD 3 v else s
  | 0xF18 => if n = 0 then s.ldpcFlipWrite v else s
  | _ => s.plainWrite off v

/-- A write of a register by the offsets that do more than keep their fields; the others by field type (R12, R15). `writer` is the
controller that writes. -/
def State.writeReg (off : Nat) (v : Word) (writer : Nat) (s : State) : State :=
  if (regRow off).isNone then s
  else if 0x30000 ≤ off && off < 0x30500 then s.loopWrite ((off - 0x30000) / 0x40) ((off - 0x30000) % 0x40) v 0
  else if 0x40100 ≤ off && off < 0x40190 then s.setReg off (stickyAfter (s.reg off) v 0)
  else if 0x40340 ≤ off && off < 0x40380 then
    let x := s.slices
    { s with slices := { x with mgData := modNth x.mgData ((off - 0x40340) / 4) (fun _ => v) } }
  else if 0x50010 ≤ off && off < 0x5002C then s.checkedWrite off v (s.pnClassOk off v)
  else if 0x80000 ≤ off && off < 0xA0000 then s.chanWrite off v
  else
    match off with
    | 0x10010 => s.rtcLo v
    | 0x10014 => s.rtcHi v
    | 0x1001C => s.clrRc v
    | 0x10070 => s.clearCounters Reg.PS_CNT_ENTRY_L1 8 v
    | 0x20004 => s.checkedWrite off v (thCfgOk v)
    | 0x20008 => s.plimWrite v
    | 0x2000C => s.offsetWrite v
    | 0x30800 => s.huCfg0Write v
    | 0x3080C => s.checkedWrite off v (huCfg3Ok v)
    | 0x40300 => s.mgAuthWrite v writer
    | 0x50064 => s.pnFlipWrite v
    | 0x50074 => nextOr s (execQFlipArm v s)
    | 0x50098 => s.clearCounters Reg.PN_CNT_CE 6 v
    | 0x6002C => s.retireCtl v
    | 0x60034 => s.dramFlipWrite v
    | 0x60054 => s.clearCounters Reg.DRAM_CNT_CE 5 v
    | 0xA0160 => s.clearCounters Reg.STR_CNT_DIE_FAIL 4 v
    | 0xA8008 => s.checkedWrite off v (gcCfgOk v)
    | 0xA8020 => s.mntCmd v
    | 0xB0000 => s.laneCfg v
    | 0xB002C => s.clearCounters Reg.CMP_CNT_IN_GIB 7 v
    | 0xC0028 => s.clearCounters Reg.PORT_CNT_CNP_TX 5 v
    | 0xC1028 => s.clearCounters (Reg.PORT_CNT_CNP_TX + 0x1000) 5 v
    | 0xD0020 => nextOr s (execCeCctSelWrite v s)
    | 0xD009C => s.clearCounters Reg.CE_CNT_ADMIT 7 v
    | 0xE0050 => s.clearCounters Reg.NOR_CNT_PROG 4 v
    | 0xF002C => s.clearCounters Reg.FW_CNT_ACTIVATE 3 v
    | _ => s.plainWrite off v

/-! ### The accesses of the register map that have rows of their own -/

/-- A register write of one dword (R12, R14, R15). -/
def execRegisterWrite (off : Nat) (v : Word) (s : State) : Out :=
  if off % 4 = 0 && decide (off < 0x100000) then (s.writeReg off v 0).done else .next s

def execLdpcFlipArm (v : Word) (s : State) : Out := .next (s.ldpcFlipWrite v)

/-- The counter clears: bit 0 written as 1 clears every counter of the block at once (R83, R134, R298, R299, R354, R379, R416, R422,
R454, R513, R537). -/
def execPortCntClr (p : Nat) (v : Word) (s : State) : Out :=
  if 2 ≤ p then .next s else .next (s.clearCounters (Reg.PORT_CNT_CNP_TX + 0x1000 * p) 5 v)
def execCeCntClr (v : Word) (s : State) : Out := .next (s.clearCounters Reg.CE_CNT_ADMIT 7 v)
def execChCntClr (ch : Nat) (v : Word) (s : State) : Out :=
  if 32 ≤ ch then .next s else .next (s.clearCounters (Reg.CH_CNT_READ + 0x1000 * ch) 9 v)
def execLdpcCntClr (v : Word) (s : State) : Out := .next (s.clearCounters Reg.LDPC_CNT_HD 3 v)
def execStrCntClr (v : Word) (s : State) : Out := .next (s.clearCounters Reg.STR_CNT_DIE_FAIL 4 v)
def execCmpCntClr (v : Word) (s : State) : Out := .next (s.clearCounters Reg.CMP_CNT_IN_GIB 7 v)
def execPnCntClr (v : Word) (s : State) : Out := .next (s.clearCounters Reg.PN_CNT_CE 6 v)
def execDramCntClr (v : Word) (s : State) : Out := .next (s.clearCounters Reg.DRAM_CNT_CE 5 v)
def execPsCntClr (v : Word) (s : State) : Out := .next (s.clearCounters Reg.PS_CNT_ENTRY_L1 8 v)
def execNorCntClr (v : Word) (s : State) : Out := .next (s.clearCounters Reg.NOR_CNT_PROG 4 v)
def execFwCntClr (v : Word) (s : State) : Out := .next (s.clearCounters Reg.FW_CNT_ACTIVATE 3 v)

/-- Sticky bits written as 1 clear, but for those whose sources raise events in the same cycle (R13, R556). -/
def execStickyClear (g : Nat) (v raised : Word) (s : State) : Out :=
  if 36 ≤ g then .next s else .next (s.setReg (Reg.STICKY + 4 * g) (stickyAfter (s.sticky g) v raised))

def execMgAuthCommit (v : Word) (writer : Nat) (s : State) : Out := (s.mgAuthWrite v writer).done

/-- An event is captured (R548). -/
def execEventCapture (code p0 p1 p2 p3 : Nat) (s : State) : Out := .next (s.capture code [p0, p1, p2, p3])

/-! ### Control Read and Control Write (R543 to R545) -/

/-- The fields of Control Read and Control Write are refused. -/
def ctlBad (c : Capsule) : Bool :=
  let n := dwBits c.dw11 10 0
  c.dw10.toNat % 4 != 0 || n == 0 || decide (1024 < n) || decide (0x100000 < c.dw10.toNat + 4 * n) || !onlyDws c 0xFFFFFFFF 0x7FF 0 0 0 0

/-- A Control Read or Control Write admitted earlier has not executed yet: they execute one at a time, in admission order (R544). -/
def State.ctlWaits (s : State) (e : Nat) : Bool :=
  (s.eng.cct.takeWhile (fun x => x.idx != e)).any (fun x =>
    !x.isIo && (x.cap.opc == 0xC0 || x.cap.opc == 0xC1) && x.slice == 0 && x.gate == .open && x.st != .completing)

/-- The offsets of a transfer, ascending. -/
def ctlOffs (c : Capsule) : List Nat := (List.range (dwBits c.dw11 10 0)).map (fun i => c.dw10.toNat + 4 * i)

/-- Reads the dwords in order. -/
def State.ctlRead (offs : List Nat) (s : State) : List Byte × State :=
  offs.foldl (fun (r : List Byte × State) o => (r.1 ++ natBytes 4 (r.2.readReg o).toNat, r.2.afterRead o)) ([], s)

/-- Writes the dwords in order, each as a write of its own. -/
def State.ctlWrite (c : Capsule) (writer : Nat) (s : State) : State :=
  (List.range (dwBits c.dw11 10 0)).foldl (fun s i =>
    s.writeReg (c.dw10.toNat + 4 * i) (BitVec.ofNat 32 (fieldAt c.data (4 * i) 4)) writer) s

def execControlRead (e : Nat) (s : State) : Out :=
  .next (s.withCmd e 0xC0 false (fun c s =>
    if s.ctlWaits e then s
    else if ctlBad c.cap then s.reply c St.invalidField
    else
      let r := s.ctlRead (ctlOffs c.cap)
      r.2.finish c.idx St.ok 0 (.bytes r.1)))

/-- The write waits for its data. -/
def execControlWrite (e : Nat) (s : State) : Out :=
  (s.withCmd e 0xC1 false (fun c s =>
    if s.ctlWaits e then s
    else if ctlBad c.cap then s.reply c St.invalidField
    else if c.cap.data.length < 4 * dwBits c.cap.dw11 10 0 then s
    else (s.ctlWrite c.cap c.cntl).reply c St.ok)).done

/-! ### Event Log Clear (R554) -/

/-- Reason the command is refused: 1 FIRST differs, 2 N is 0 or exceeds COUNT, 3 a reserved bit. -/
def State.logClearReason (s : State) (c : Capsule) : Option Nat :=
  let n := dwBits c.dw10 18 0
  if dwBits c.dw11 17 0 != s.events.first then some 1
  else if n == 0 || decide (s.events.log.length < n) then some 2
  else if !onlyDws c 0x7FFFF 0x3FFFF 0 0 0 0 then some 3
  else none

/-- Drops the `n` oldest records, records event 0x01 and starts DROPPED anew; recording resumes. -/
def State.logClear (n : Nat) (s : State) : State :=
  let e := s.events
  let first := (e.first + n) % 262144
  let old := e.dropped
  let s := { s with events := { e with log := e.log.drop n, first := first, full := false } }
  let s := s.capture 0x0001 [n, old, first]
  let e := s.events
  { s with events := { e with dropped := 0 } }

def execEventLogClear (e : Nat) (s : State) : Out :=
  .next (s.withCmd e 0xD4 false (fun c s =>
    match s.logClearReason c.cap with
    | some r => s.answer c St.invalidField (BitVec.ofNat 32 r)
    | none =>
      let n := dwBits c.cap.dw10 18 0
      (s.logClear n).answer c St.ok (BitVec.ofNat 32 n)))

end Sys2Proof.Machine
end

