-- ==== Sys2Proof/Machine/ConfigImage.lean ====
section
/-! DEFINITION. Apply Configuration: the records applied live, the records that act 100 ms later, and the copy stored (R78, R498, R499,
R502 to R504, R511). -/

namespace Sys2Proof.Machine

open Sys2Proof

/-! ### The values in force (R498, R504) -/

/-- The record in force of a type and index. -/
def State.inForce (s : State) (k : Nat × Nat) : Option ImgRecord := s.cfgFind (fun r => if recKey r == k then some r else none)

/-- What a record says of the live-applicable values, with the fixed values that are in force; none where it has no live value. -/
def liveRecord (old : Option ImgRecord) (r : ImgRecord) : Option ImgRecord :=
  match r, old with
  | .dramTopo .., _ => none
  | .dramTiming .., _ => none
  | .dramBoard .., _ => none
  | .carrierSlot n _ _ v _, some (.carrierSlot _ f m _ fs) => some (.carrierSlot n f m v fs)
  | .carrierSlot .., _ => none
  | .array _ _ _ _ a b c, some (.array u d p op _ _ _) => some (.array u d p op a b c)
  | .array .., _ => none
  | .port i _ l4 _ _ _ eq, some (.port _ m _ fec pol ord _) => some (.port i m l4 fec pol ord eq)
  | .port .., _ => none
  | .sense _ tr tb, some (.sense fs _ _) => some (.sense fs tr tb)
  | .sense .., _ => none
  | .unknown _, _ => none
  | r, _ => some r

/-- The values of a record that act at a cold boot only differ from those in force (R498). The geometry counts while no array exists
(R302). -/
def State.fixedDiffers (s : State) (old : Option ImgRecord) (r : ImgRecord) : Bool :=
  match r, old with
  | .dramTopo .., o => o != some r
  | .dramTiming .., o => o != some r
  | .dramBoard .., o => o != some r
  | .carrierSlot _ f m _ fs, some (.carrierSlot _ f0 m0 _ fs0) => f != f0 || m != m0 || fs != fs0
  | .carrierSlot .., _ => true
  | .array u d p op _ _ _, some (.array _ d0 p0 op0 _ _ _) =>
    u != s.array.mapUnitKib || op != op0 || (s.array.arrayId.isNone && (d != d0 || p != p0))
  | .array .., _ => true
  | .port _ m _ fec pol ord _, some (.port _ m0 _ fec0 pol0 ord0 _) => m != m0 || fec != fec0 || pol != pol0 || ord != ord0
  | .port .., _ => true
  | .sense fs _ _, some (.sense fs0 _ _) => fs != fs0
  | .sense .., _ => true
  | _, _ => false

/-- A logical MAC that the port modes in force provide (R47). -/
def State.macProvided (s : State) (m : Nat) : Bool := decide (m % 4 < macsOf (s.fabric.modes.getD (m / 4) 0))

/-- A record of a MAC that only the modes of the next cold boot provide. -/
def State.needsModes (s : State) (r : ImgRecord) : Bool :=
  match r with
  | .macAddr m _ => !s.macProvided m
  | .interface i => !s.macProvided i.mac
  | _ => false

/-- A record that acts 100 ms after the completion (R504). -/
def isAddressing (r : ImgRecord) : Bool :=
  match r with
  | .macAddr .. => true
  | .interface _ => true
  | .mgmtVlan _ => true
  | .ringPeer .. => true
  | _ => false

/-- Some fixed or next-boot value of an image differs from the one in force (R502). -/
def State.fixedPending (s : State) (l : List ImgRecord) : Bool :=
  l.any (fun r => let old := s.inForce (recKey r); s.fixedDiffers old r || (s.needsModes r && old != some r)) ||
    (List.range 16).any (fun k => (s.inForce (0x20, k)).isSome && !l.any (fun r => recKey r == (0x20, k)))

/-! ### Applying a record (R78, R499, R504) -/

/-- A live value comes into force. -/
def State.putLive (r : ImgRecord) (s : State) : State :=
  let c := s.cfg
  let l : List ImgRecord := r :: c.live.filter (fun x => recKey x != recKey r)
  { s with cfg := { c with live := l } }

/-- The entries of a REGISTERS record, each as one Control Write, in record order (R499). -/
def State.applyEntries (es : List (Nat × Word × Word)) (writer : Nat) (s : State) : State :=
  es.foldl (fun s e => s.writeReg e.1 ((s.readReg e.1 &&& ~~~e.2.1) ||| (e.2.2 &&& e.2.1)) writer) s

/-- The associations with a neighbour close: its connections end, both associations are lost (R78). -/
def State.ringClose (nb : Nat) (s : State) : State :=
  let ids := (s.fabric.conns.filter (fun y => y.ring == some nb)).map (·.id)
  let s := ids.foldl (fun s c => s.endConn c) s
  (s.assocLost nb true).assocLost nb false

/-- What a live record does at once, besides standing in force. -/
def State.actLive (r : ImgRecord) (writer : Nat) (s : State) : State :=
  let fb := s.fabric
  match r with
  | .port i _ l4 .. => { s with fabric := { fb with l4link := modNth fb.l4link i (fun _ => l4) } }
  | .dcb ps =>
    -- the ring priority is 5 (R56): its change closes the associations (R78)
    let s' := { s with fabric := { fb with dcb := ps } }
    if fb.dcb[5]? == ps[5]? then s' else (s'.ringClose 0).ringClose 1
  | .array .. => s.trimPslc
  | .ringSecret x =>
    let s := ({ s with fabric := { fb with ringSecret := wrapRoot x } }).writeSettings
    (s.ringClose 0).ringClose 1
  | .registers es => s.applyEntries es writer
  | .eventLimit es => { s with events := { s.events with limits := es } }
  | _ => s

/-- The record changes a live value: it differs from the one in force; a REGISTERS record writes whatever it holds, a ring secret is
compared as it is kept, wrapped. -/
def State.liveChange (s : State) (r : ImgRecord) : Option ImgRecord :=
  match r with
  | .ringSecret x => if s.fabric.ringSecret == wrapRoot x then none else some r
  | .registers _ => some r
  | _ =>
    let old := s.inForce (recKey r)
    match liveRecord old r with
    | none => none
    | some x => if old == some x || s.needsModes r then none else some x

/-- One record of an image applied live: an addressing record waits, any other acts at once. Answers the count of records applied. -/
def State.applyRecord (writer : Nat) (x : Nat × State) (r : ImgRecord) : Nat × State :=
  let (n, s) := x
  let c := s.cfg
  let rest : List ImgRecord := c.deferred.filter (fun y => recKey y != recKey r)
  match s.liveChange r with
  | none => if isAddressing r then (n, { s with cfg := { c with deferred := rest } }) else (n, s)
  | some y =>
    if isAddressing r then (n + 1, { s with cfg := { c with deferred := rest ++ [y] } })
    else
      let s := if isSecret r then s else s.putLive y
      (n + 1, s.actLive y writer)

/-- Live records in record order. -/
def State.applyLive (l : List ImgRecord) (writer : Nat) (s : State) : Nat × State :=
  l.foldl (fun x r => State.applyRecord writer x r) (0, s)

/-! ### APPLY_CONFIGURATION (R502 to R504) -/

/-- The copy not in force is written: its area is erased and programmed, read back and verified. An absent NOR takes no copy; where the
routine fails on that NOR (assumption 96), or power is lost while it is written (R505), the copy fails verification from then on. -/
def State.storeCopy (b : ImageBundle) (len : Nat) (w : NorWrite) (s : State) : Bool × State :=
  let n := 1 - s.nor.cfgCopy
  if norBytes (s.nor.sizes.getD n 0) = 0 then (false, s)
  else
    let ok := w == .done || (w != .cut && !(badNors w).contains n)
    let nr := s.nor
    let l : List (Option ImageBundle) := modNth nr.copies n (fun _ => some (if ok then b else { b with wellFormed := false }))
    let s := ({ s with nor := { nr with copies := l } }).norWrite 2097152 len
    (ok, if ok then s else s.norFailed w)

/-- A refusal is answered and recorded. -/
def State.cfgRefuse (c : Cct) (status dw0 : Nat) (s : State) : State :=
  (s.answer c status (BitVec.ofNat 32 dw0)).capture 0x0F06 [status, dw0]

/-- An image that passes every check is applied and stored. Where power is lost while the copy is written, no completion is posted
(R505). -/
def State.applyConfig (c : Cct) (b : ImageBundle) (w : NorWrite) (s : State) : State :=
  let l := b.image.records
  let apply := c.cap.dw10.getLsbD 0
  let store := c.cap.dw10.getLsbD 1
  let fixed := s.fixedPending l
  let (n, s) := if apply then s.applyLive l c.cntl else (0, s)
  let (stored, s) := if store then s.storeCopy b c.cap.dw11.toNat w else (false, s)
  let net := apply && !s.cfg.deferred.isEmpty
  let cf := s.cfg
  let s := { s with cfg := { cf with
    pending := if stored then fixed else cf.pending
    unstored := if apply then (if stored then false else cf.unstored || decide (0 < n)) else cf.unstored
    deferredAt := if net then s.seed.now else cf.deferredAt } }
  let d := b2n fixed + 2 * b2n stored + 4 * b2n net
  if store && w == .cut then s else (s.answer c St.ok (BitVec.ofNat 32 d)).capture 0x0F05 [b.image.seq, n, d]

def execApplyConfiguration (e : Nat) (w : NorWrite) (s : State) : Out :=
  (s.withCmd e 0xD0 false (fun c s =>
    let len := c.cap.dw11.toNat
    if s.glb.state != .ready then s.cfgRefuse c St.invalidField 2
    else if len = 0 || decide (2097152 < len) || !onlyDws c.cap 3 0xFFFFFFFF 0 0 0 0 then s.cfgRefuse c St.invalidField 3
    else if c.cap.data.length < len then s
    else
      let b := readImageBundle s.dieRev (c.cap.data.take len)
      match imageReason s.fuses.ownerKeyHash (if c.cap.dw10.getLsbD 1 then some s.cfg.image.seq else none) b with
      | some x =>
        let cf := s.cfg
        let s := { s with cfg := { cf with lastReason := x.1 } }
        s.cfgRefuse c St.imageInvalid (x.1 + x.2 * 65536)
      | none => s.applyConfig c b w)).done

/-! ### CONFIG_ADDRESSING_APPLY (R78, R504) -/

/-- Interfaces that a changed record affects: the changed one; those of a MAC whose address changes; those that leave or enter the
management VLAN. -/
def State.affected (s : State) (r : ImgRecord) : List Nat :=
  let l := s.fabric.ifaces
  match r with
  | .macAddr m _ => (l.filter (fun x => x.mac == m)).map (·.num)
  | .interface i => [i.num]
  | .mgmtVlan v => (l.filter (fun x => x.vlan == some v || x.vlan == some s.fabric.mgmtVlan)).map (·.num)
  | _ => []

/-- Every connection on an interface ends: ring connections as R78 has it, the controllers of the others as on a keep-alive expiry
(R117). -/
def State.closeIface (i : Nat) (s : State) : State :=
  let l := s.fabric.conns.filter (fun y => y.iface == i)
  let ids := l.map (·.id)
  let hosts := (s.eng.ctrls.filter (fun k => k.ring.isNone && (k.iface == i || s.eng.queues.any (fun q => q.cntl == k.id && ids.contains q.conn)))).map
    (·.id)
  let s := hosts.foldl (fun s k => s.loseHost k) s
  let s := ids.foldl (fun s c => if s.fabric.conns.any (·.id == c) then s.endConn c else s) s
  (l.filterMap (·.ring)).dedup.foldl (fun s nb => s.ringClose nb) s

/-- The new value of an addressing record. -/
def State.actAddressing (r : ImgRecord) (s : State) : State :=
  let fb := s.fabric
  match r with
  | .macAddr m a =>
    let v : List Mac := modNth fb.macs m (fun (y : Mac) => { y with addr := a })
    { s with fabric := { fb with macs := v } }
  | .interface i =>
    let v : List Iface := i :: fb.ifaces.filter (fun y => y.num != i.num)
    { s with fabric := { fb with ifaces := v } }
  | .mgmtVlan v => { s with fabric := { fb with mgmtVlan := v } }
  | .ringPeer n q a0 a1 i0 i1 =>
    let s := s.ringClose n
    let fb := s.fabric
    let v : List Neighbour := modNth fb.nbs n (fun (y : Neighbour) =>
      { y with configured := true, nqn := q, addr0 := a0, addr1 := a1, if0 := i0, if1 := i1, state := 1, retryAt := s.seed.now,
               tryPort := if s.portHealthy 0 then 0 else if s.portHealthy 1 then 1 else 0,
               lostAt := some (y.lostAt.getD s.seed.now) })
    { s with fabric := { fb with nbs := v } }
  | _ => s

/-- 100 ms after the completion was posted, the addressing records act in record order. -/
def execConfigAddressingApply (s : State) : Out :=
  let c := s.cfg
  if c.deferred.isEmpty || s.since c.deferredAt < 100000 || s.eng.cct.any (fun x => !x.isIo && x.cap.opc == 0xD0) then .next s
  else
    let ifs := (c.deferred.flatMap (fun r => s.affected r)).dedup
    let s := ifs.foldl (fun s i => s.closeIface i) s
    let s := c.deferred.foldl (fun s r => (s.actAddressing r).putLive r) s
    let cf := s.cfg
    ({ s with cfg := { cf with deferred := [] } }).done

end Sys2Proof.Machine
end

