-- ==== Sys2Proof/Machine/Records.lean ====
section
/-! DEFINITION. Journal records as the Quince dies hold them: the header with TYPE, LEN, JSEQ and CRC-32C, and the layout of each kind
(R207 to R210, R227, R234, R237, R251, R344). -/

namespace Sys2Proof.Machine

open Sys2Proof

/-- TYPE of a record (R208, R227, R234, R237, R251, R344). R501 gives the flush-start and stop records and R500 the totals of a minute
tick no TYPE and no layout. -/
def RecBody.type : RecBody → Option Nat
  | .staging .. => some 0x0001
  | .deallocRange .. => some 0x0002
  | .commit .. => some 0x0003
  | .void .. => some 0x0004
  | .landing .. => some 0x0005
  | .stripeOpen .. => some 0x0006
  | .gcCopy .. => some 0x0010
  | .eraseStarted .. => some 0x0011
  | .eraseComplete .. => some 0x0012
  | .blockRetired .. => some 0x0013
  | .lostUnits .. => some 0x0014
  | .member .. => some 0x0020
  | .rebuildProgress .. => some 0x0021
  | .boundary .. => some 0x0022
  | .flushStart .. | .stop .. | .totals .. => none

/-- BAND, STRIPE and N, then reserved bytes, of the records that place extents (R210, R227). -/
def placeHead (band stripe n tail : Nat) : List Byte := natBytes 4 band ++ natBytes 2 stripe ++ natBytes 2 n ++ natBytes 8 tail

/-- One extent of a commit or landing record (R210). -/
def Item.commitRow (i : Item) : List Byte :=
  natBytes 4 i.nsid ++ natBytes 6 i.mu ++ natBytes 3 (i.buf.getD 0) ++ natBytes 2 i.off ++ natBytes 1 i.len

/-- SRC of an extent of a copy record: the source GRANULE and bit 47 for the landing zone (R227). -/
def Item.srcField (i : Item) : Nat := let r := i.src.getD (0, false); r.1 % 2 ^ 42 + (if r.2 then 2 ^ 47 else 0)

/-- One extent of a copy record (R227). -/
def Item.copyRow (i : Item) : List Byte :=
  natBytes 4 i.nsid ++ natBytes 6 i.mu ++ natBytes 6 i.srcField ++ natBytes 2 i.off ++ natBytes 1 i.len ++ natBytes 5 0

/-- The bytes of an erase record after its header (R234). -/
def eraseBytes (band : Nat) (slc : Bool) (ms : List (Nat × Nat)) : List Byte :=
  natBytes 4 band ++ natBytes 2 ms.length ++ natBytes 1 (if slc then 1 else 0) ++ natBytes 1 0 ++
    ms.flatMap (fun m => natBytes 2 m.1 ++ natBytes 2 0 ++ natBytes 4 m.2)

/-- Bytes 16 onward of a record (R209, R210, R227, R234, R237, R251, R344). -/
def RecBody.bytes : RecBody → List Byte
  | .staging sl ns first cct seq es =>
    natBytes 4 ns ++ natBytes 2 sl ++ natBytes 2 es.length ++ natBytes 8 first ++ natBytes 4 cct ++ natBytes 4 seq.toNat ++
      natBytes 8 0 ++ es.flatMap (fun e => natBytes 8 e.encode.toNat)
  | .deallocRange sl ns first cct seq n =>
    natBytes 4 ns ++ natBytes 2 sl ++ natBytes 2 0 ++ natBytes 8 first ++ natBytes 4 cct ++ natBytes 4 seq.toNat ++ natBytes 8 n
  | .commit b n is => placeHead b n is.length 0 ++ is.flatMap Item.commitRow
  | .landing b n is => placeHead b n is.length 0 ++ is.flatMap Item.commitRow
  | .void b n cause => natBytes 4 b ++ natBytes 2 n ++ natBytes 2 cause ++ natBytes 8 0
  | .stripeOpen b n d p => natBytes 4 b ++ natBytes 2 n ++ natBytes 1 d ++ natBytes 1 p ++ natBytes 8 0
  | .gcCopy b n kind is => placeHead b n is.length (kind % 65536) ++ is.flatMap Item.copyRow
  | .eraseStarted b slc ms => eraseBytes b slc ms
  | .eraseComplete b slc ms => eraseBytes b slc ms
  | .blockRetired die cause block band new =>
    natBytes 2 die ++ natBytes 2 cause ++ natBytes 4 block ++ natBytes 4 band ++ natBytes 4 (new.getD 0xFFFFFFFF)
  | .lostUnits sl ns count first slba nlb whole =>
    natBytes 4 ns ++ natBytes 2 sl ++ natBytes 2 count ++ natBytes 8 first ++ natBytes 8 slba ++ natBytes 4 nlb ++
      natBytes 4 (if whole then 1 else 0)
  | .member slot cause die st direct epoch members =>
    natBytes 1 slot ++ natBytes 1 cause ++ natBytes 2 die ++ natBytes 1 st ++ natBytes 1 (if direct then 1 else 0) ++ natBytes 2 0 ++
      natBytes 8 epoch ++ natBytes 2 members ++ natBytes 14 0
  | .rebuildProgress band left moved => natBytes 4 band ++ natBytes 4 left ++ natBytes 8 moved
  | .boundary b dOld pOld dNew pNew =>
    natBytes 4 b ++ natBytes 1 dOld ++ natBytes 1 pOld ++ natBytes 1 dNew ++ natBytes 1 pNew ++ natBytes 8 0
  | .flushStart .. | .stop .. | .totals .. => []

/-- A record with a given CRC field (R207). -/
def recordWith (type len jseq crc : Nat) (body : List Byte) : List Byte :=
  natBytes 2 type ++ natBytes 2 len ++ natBytes 8 jseq ++ natBytes 4 crc ++ body

/-- A record as it is written: LEN is its length, and CRC the CRC-32C of the whole record with the field zero (R207). -/
def JRec.bytes (r : JRec) : Option (List Byte) :=
  r.body.type.map (fun t =>
    let put (crc : Nat) := recordWith t r.body.size r.jseq crc r.body.bytes
    put (crc32c (put 0)).toNat)

/-- A record read back stands when the CRC field agrees with its bytes; one that does not ends the replay (R207, R216). -/
def recordOk (l : List Byte) : Bool :=
  (l.drop 12).take 4 == natBytes 4 (crc32c (l.take 12 ++ natBytes 4 0 ++ l.drop 16)).toNat

/-- The root with its CRC-32C over generation, T and the location of every directory page (R211); its layout is open, so the CRC covers
those values in this order. -/
def MapRoot.crc (r : MapRoot) : Word :=
  crc32c (natBytes 8 r.gen ++ natBytes 8 r.t ++ (r.pages.filter (fun p => isDirPage p.id)).flatMap (fun p => natBytes 4 p.band ++ natBytes 8 p.gran))

end Sys2Proof.Machine
end

