-- ==== Sys2Proof/Machine/Recovery.lean ====
section
/-! DEFINITION. Recovery at a cold boot: the class of the last stop, the replay of the map, what an interrupted stripe, erase or flush
leaves, the slices and their meters, off time and read counts (R158, R166, R169, R173, R215 to R218, R238, R247 to R250, R500, R501). -/

namespace Sys2Proof.Machine

open Sys2Proof

/-! ### Replay of the map (R187, R188, R209 to R211, R215, R227, R251) -/

/-- The entry a list of map cells gives a unit. -/
def cellAt (l : List MapCell) (sl ns mu : Nat) : MapEntry :=
  ((l.find? (fun c => c.slice == sl && c.nsid == ns && c.mu == mu)).map (·.e)).getD {}

/-- A record applied to the map. -/
def replayRec (l : List MapCell) (b : RecBody) : List MapCell :=
  match b with
  | .staging sl ns first _ _ es => (List.range es.length).foldl (fun l i => mapPut l sl ns (first + i) (es.getD i {})) l
  | .deallocRange sl ns first _ _ n => l.filter (fun c => !(c.slice == sl && c.nsid == ns && decide (first ≤ c.mu) && decide (c.mu < first + n)))
  | .commit _ _ is => is.foldl (fun l i =>
      let e := cellAt l i.slice i.nsid i.mu
      if e.loc = .buffered (i.buf.getD 0) then mapPut l i.slice i.nsid i.mu { e with loc := .band i.gran } else l) l
  | .landing _ _ is => is.foldl (fun l i =>
      let e := cellAt l i.slice i.nsid i.mu
      if e.loc = .buffered (i.buf.getD 0) then mapPut l i.slice i.nsid i.mu { e with loc := .landing i.gran } else l) l
  | .gcCopy _ _ _ is => is.foldl (fun l i =>
      let e := cellAt l i.slice i.nsid i.mu
      let src := i.src.getD (0, false)
      if e.loc = (if src.2 then Loc.landing src.1 else Loc.band src.1) then mapPut l i.slice i.nsid i.mu { e with loc := .band i.gran } else l) l
  | .lostUnits sl ns n first _ _ whole => (List.range n).foldl (fun l i =>
      if whole then mapPut l sl ns (first + i) { loc := .gone, lost := true }
      else mapPut l sl ns (first + i) { cellAt l sl ns (first + i) with lost := true }) l
  | _ => l

/-- Map pages that a record's units lie in. -/
def recPages (l : List MapCell) (b : RecBody) : List (Nat × Nat × Nat) :=
  match b with
  | .staging sl ns first _ _ es => (List.range es.length).map (fun i => (sl, ns, pageOf (first + i)))
  | .deallocRange sl ns first _ _ n =>
    (l.filter (fun c => c.slice == sl && c.nsid == ns && decide (first ≤ c.mu) && decide (c.mu < first + n))).map (fun c => (sl, ns, pageOf c.mu))
  | .commit _ _ is => is.map (fun i => (i.slice, i.nsid, pageOf i.mu))
  | .landing _ _ is => is.map (fun i => (i.slice, i.nsid, pageOf i.mu))
  | .gcCopy _ _ _ is => is.map (fun i => (i.slice, i.nsid, pageOf i.mu))
  | .lostUnits sl ns n first _ _ _ => (List.range n).map (fun i => (sl, ns, pageOf (first + i)))
  | _ => []

/-- Records of the map-update ring above the T of the root, in JSEQ order, up to the first whose CRC fails. -/
def Journal.toReplay (j : Journal) : List JRec :=
  (j.recs.takeWhile (!·.torn)).filter (fun r => r.durable && r.body.inMapRing && decide (j.rootT < r.jseq))

/-- The map of the newest root with the records above its T applied. -/
def State.replayMap (s : State) : State :=
  let j := s.journal
  let r := j.toReplay.foldl (fun (x : List MapCell × List (Nat × Nat × Nat × Nat)) (r : JRec) =>
    ((replayRec x.1 r.body), (recPages x.1 r.body).dedup.foldl (fun d p => dirtyPut d p.1 p.2.1 p.2.2 r.jseq) x.2)) (j.rootMap, [])
  let st := s.store
  { s with store := { st with map := r.1, dirtyPages := r.2 }, journal := { j with recs := j.recs.takeWhile (!·.torn) } }

/-! ### The class of the last stop (R501) -/

/-- How the previous run ended: there was none; a stop that is not unsafe; an unsafe flush; a flush cut short, with the operating ms of its
trigger; a stop without a flush. -/
inductive StopClass where
  | first | safe | unsafe_ | cutShort (at_ : Nat) | noFlush
  deriving DecidableEq, Repr

/-- TRIGGER of the newest flush-start record, and its Seed time. -/
def Journal.lastFlush (j : Journal) : Option (Nat × Nat) :=
  j.recs.reverse.findSome? (fun r => match r.body with | .flushStart t a _ => some (t, a) | _ => none)

/-- A record of the kinds that R501 classes a stop from. -/
def isStopRec (b : RecBody) : Bool :=
  match b with
  | .flushStart .. => true
  | .stop .. => true
  | _ => false

/-- The class, from the newest record other than the totals of a minute tick. STOP kinds are 1 a flush, 2 a shutdown, 3 L4, 4 a trip
in L3. -/
def Journal.stopClass (j : Journal) : StopClass :=
  if j.nextSeq = 1 then .first
  else
    let l := j.recs.filter (fun r => match r.body with | .totals .. => false | _ => true)
    let last : Option RecBody := l.getLast?.map (·.body)
    match last with
    | some (.stop 1 dirty) => if dirty != 0 || j.lastFlush.any (fun x => x.1 == 3) then .unsafe_ else .safe
    | some (.stop 4 dirty) => if dirty != 0 then .unsafe_ else .safe
    | some (.stop _ _) => .safe
    | _ =>
      let mark : Option RecBody := (l.filter (fun r => isStopRec r.body)).getLast?.map (·.body)
      match mark with
      | some (.flushStart _ a _) => .cutShort a
      | _ => .noFlush

/-- The stop is counted in Unsafe Shutdowns. -/
def StopClass.isUnsafe : StopClass → Bool
  | .unsafe_ => true
  | .cutShort _ => true
  | .noFlush => true
  | _ => false

/-! ### Stripes, buffered units and bands (R214, R215, R222, R235, R238) -/

/-- Stripe open records that no commit, landing, copy or void record follows: band, stripe, D. -/
def Journal.openStripes (j : Journal) : List (Nat × Nat × Nat) :=
  j.recs.filterMap (fun r =>
    match r.body with
    | .stripeOpen b n d _ =>
      let ended := j.recs.any (fun x => decide (r.jseq < x.jseq) &&
        (match x.body with
         | .commit b1 n1 _ => b1 == b && n1 == n
         | .landing b1 n1 _ => b1 == b && n1 == n
         | .gcCopy b1 n1 _ _ => b1 == b && n1 == n
         | .void b1 n1 _ => b1 == b && n1 == n
         | _ => false))
      if ended then none else some (b, n, d)
    | _ => none)

/-- Data granules of a stripe of a band, by the D of its open record. -/
def State.openGran (s : State) (x : Nat × Nat × Nat) : Nat := ((s.band x.1).map (fun b => x.2.2 * s.bandMem b)).getD 0

/-- Stripes without an outcome are voided; those of the relocation stream leave orphans: event 0x07 and ORPHANS (R215, R238). Answers
how many were voided. -/
def State.voidOpen (s : State) : Nat × State :=
  let l := s.journal.openStripes
  let reloc := l.filter (fun x => (s.band x.1).any (fun b => b.stream == 1))
  let n := sumBy reloc s.openGran
  let s := l.foldl (fun s x => s.jwrite (.void x.1 x.2.1 3)) s
  let s := if reloc.isEmpty then s else (s.health 18 n).capture 0x0807 [reloc.length, n]
  (l.length, s)

/-- Staging records some unit of which is still buffered as the record says (R514). -/
def State.openStagings (s : State) : Nat :=
  (s.journal.recs.filter (fun r =>
    match r.body with
    | .staging sl ns first _ _ es => (List.range es.length).any (fun i =>
        match (es.getD i {}).loc with
        | .buffered o => (s.entryAt sl ns (first + i)).loc == .buffered o
        | _ => false)
    | _ => false)).length

/-- Every unit still marked buffered is lost in every LBA: CAUSE 3 after a flush cut short, else CAUSE 7; the event of the stop (R214,
R215, R501). -/
def State.loseBuffered (c : StopClass) (s : State) : State :=
  let l := s.store.map.filter (fun x => match x.e.loc with | .buffered _ => true | _ => false)
  let n := s.openStagings
  let cause := match c with | .cutShort _ => 3 | _ => 7
  let s := l.foldl (fun s x => s.loseUnit x.slice x.nsid x.mu cause none) s
  match c with
  | .cutShort a => s.capture 0x0705 [l.length, match s.seed.offLatch with | some t => t - a | none => 0xFFFFFFFF]
  | .noFlush => s.capture 0x0F09 [s.seed.pcycle, n, l.length]
  | _ => s

/-- Bands as recovery leaves them: an open band is FULL and takes no further stripes, a victim is FULL again, an erase that did not
complete runs again in full. -/
def State.recoverBand (s : State) (b : Band) : Band :=
  match b.st with
  | .opened => { b with st := .full, closed := true, closedMin := s.opMin }
  | .victim => { b with st := .full }
  | .erasing => { b with st := .erasePending, again := true, erased := [] }
  | _ => b

/-- The bands, and event 0x08 for interrupted erases (R235, R238). -/
def State.recoverBands (s : State) : State :=
  let hit := s.upkeep.bands.filter (fun b => b.st == .erasing)
  let u := s.upkeep
  let l : List Band := u.bands.map s.recoverBand
  let s := { s with upkeep := { u with bands := l } }
  if hit.isEmpty then s else s.capture 0x0808 [hit.length, sumBy hit (fun b => b.listed.length)]

/-! ### Media upkeep across the stop (R27, R247 to R250, R284) -/

/-- Read-offset entries start at option 0 with offset 0. -/
def State.resetOffsets (s : State) : State :=
  let u := s.upkeep
  let l : List Block := u.blocks.map (fun (x : Block) => { x with opt := 0, off := 0, track := false })
  { s with upkeep := { u with blocks := l } }

/-- After an unclean stop each read count is the saved value plus a quarter of its threshold (R250). -/
def State.addReads (s : State) : State :=
  let l := s.upkeep.bands.flatMap (fun b => b.members.map (fun m => (b, m)))
  let s := l.foldl (fun s x => s.readBlock x.1 x.2 (s.readLimit x.1 / 4)) s
  let u := s.upkeep
  ({ s with upkeep := { u with estimated := true } }).capture 0x0814 [l.length]

/-- Off time adds one equivalent hour per hour; without a measure of it a full lap starts (R249). -/
def State.ageOff (lost restored : Bool) (s : State) : State :=
  if lost then
    if !restored then s
    else
      let s := s.newLap
      let u := s.upkeep
      ({ s with upkeep := { u with fullLap := true } }).capture 0x0813 [s.seed.pcycle]
  else
    match s.seed.powerOffAt with
    | none => s
    | some t =>
      let a := s.since t / 60
      let u := s.upkeep
      let l : List Band := u.bands.map (fun b => if b.st == .erased then b else { b with age := b.age + a })
      { s with upkeep := { u with bands := l } }

/-! ### Slices (R118 to R120, R146, R157, R158, R166, R169) -/

/-- Reservations that do not persist end with power (R120). -/
def Ns.recovered (n : Ns) : Ns := { n with attached := [], resv := if n.resv.ptpl then n.resv else {} }

/-- A slice as a cold boot finds it: its meters continue from the totals and the newest snapshot; a replicated source waits for its
peer. -/
def State.recoverSlice (s : State) (x : SliceS) : SliceS :=
  let j := s.journal
  let t := ((j.totals.find? (·.1 == x.num)).map (·.2)).getD (List.replicate 16 0)
  let sn := (j.snaps.find? (·.1 == x.num)).map (·.2)
  let m : Meter := { totals := t, seq := (sn.map (·.seq)).getD 0, snaps := sn.toList, restarted := true }
  let rs : List (Nat × Nat) := (j.resync.filter (·.1 == x.num)).map (·.2)
  let nss : List Ns := x.nss.map (·.recovered)
  { x with
    state := if x.state == .quiescing then .quiesced else x.state
    nss := nss, meter := m, resync := rs, mig := none, migState := 0
    repl := if x.isSource && x.repl != 0 then (if x.desc.replHold then 4 else 3) else x.repl }

/-- Every slice, and event 0x0D of the metering history. -/
def State.recoverSlices (s : State) : State :=
  let sl := s.slices
  let l : List SliceS := sl.list.map s.recoverSlice
  let s := { s with slices := { sl with list := l } }
  if l.isEmpty then s else s.capture 0x060D [l.length, s.seed.pcycle]

/-- Minutes spent in L4 before a quiet power-down, and event 0x06 (R439). -/
def State.recoverL4 (s : State) : State :=
  let x := s.seed
  if !x.pfQuiet then s
  else
    match x.l4Entry, x.powerOffAt with
    | some a, some b =>
      let secs := (b - a) / 1000000
      let off := s.since b / 1000000
      let s := s.l4Minutes secs (x.rtc.toNat - off)
      if x.quietCause = 0 then s else s.capture 0x0106 [x.quietCause, secs]
    | _, _ => s

/-- A restoring slice discards what had been copied into it (R166). -/
def State.discardPartial (s : State) : State :=
  (s.slices.list.filter (fun x => x.state == .restoring)).foldl (fun s x =>
    (s.discardCopy x).capture 0x0606 [x.num, 3, x.peerId]) s

/-! ### Map unit and pool (R173, R218) -/

/-- A MAP_UNIT of the image that differs from the array's takes effect while no slice exists, and is refused otherwise (R173). -/
def State.takeMapUnit (s : State) : State :=
  let u := s.arrayRec.1
  if s.array.arrayId.isNone || u = s.array.mapUnitKib then s
  else if s.slices.list.isEmpty then
    let a := s.array
    { s with array := { a with mapUnitKib := u }, store := { s.store with map := [], dirtyPages := [] } }
  else s.capture 0x070A [u, s.array.mapUnitKib, s.slices.list.length]

/-- The pool, and event 0x09 where the map term binds. -/
def State.bootPool (s : State) : State :=
  let s := s.setPool
  match s.array.arrayId with
  | none => s
  | some _ =>
    let df := min s.array.d (s.usable.length - s.array.p)
    let m := s.mediaGib s.usable df s.array.p
    if 2 ≤ df && decide (s.mapGib < m) then s.capture 0x0709 [m, s.mapGib] else s

/-! ### Step 10 of a cold boot (R217, R500) -/

/-- Extents that still lie in the landing zone. -/
def State.landingExtents (s : State) : Nat :=
  (s.store.map.filter (fun x => match x.e.loc with | .landing _ => true | _ => false)).length

/-- Landing relocation starts unless the landing zone is erased. -/
def State.startLanding (s : State) : State :=
  let st := s.store
  if s.upkeep.bands.any (fun b => b.kind == .landing && b.st != .erased) then
    { s with store := { st with landingAt := some s.seed.now, relocated := 0 } }
  else s

/-- The stop records that classed this boot are spent. -/
def State.spendStops (s : State) : State :=
  let j := s.journal
  { s with journal := { j with recs := j.recs.filter (fun r => !isStopRec r.body) } }

/-- Recovery, the map having been replayed: `lost` VDD_SEED was lost, `restored` the counters were restored. -/
def State.recover (lost restored : Bool) (s : State) : State :=
  let c := s.journal.stopClass
  let n := s.journal.toReplay.length
  let j := s.journal
  let s := { s with journal := { j with unsafeCount := j.unsafeCount + b2n c.isUnsafe } }
  let s := s.recoverSlices.recoverL4
  let v := s.voidOpen
  let s := ((v.2.loseBuffered c).spendStops).recoverBands
  let s := (s.resetOffsets).ageOff lost restored
  let s := if c.isUnsafe then s.addReads else s
  let s := s.takeMapUnit.discardPartial
  let s := (s.settle s.rebuildSet).settleRelease
  let s := (s.bootPool.fitPages).startLanding
  let ms := s.drawFree
  ms.2.capture 0x0706 [n, ms.1.toNat, v.1, s.landingExtents]

end Sys2Proof.Machine
end

