-- ==== Sys2Proof/Machine/Boot.lean ====
section
/-! DEFINITION. Cold boot: the sequence of R485 from its trigger to ready or to configuration hold, with secure boot, the configuration
image, DRAM, firmware, ports and carriers (R44, R335 to R340, R405, R443, R444, R486 to R492, R499, R507, R528, R531). -/

namespace Sys2Proof.Machine

open Sys2Proof

/-! ### Steps 1 to 3 (R443, R444, R485, R487) -/

/-- SLED_DEBOUNCE_MS, at least 10 (R511). -/
def State.sledMs (s : State) : Nat := max 10 (s.fld Reg.SLED_CFG 15 0)

/-- The conditions that start a cold boot. -/
def State.mayBoot (s : State) : Bool :=
  let x := s.seed
  !s.glb.powered && x.vdd && x.rails && x.prsnt && !x.otTrip && decide (s.sledMs * 1000 ≤ s.since x.prsntAt)

/-- The counters saved in Quince, when VDD_SEED was lost (R444). -/
def State.savedCounters (s : State) : Option (Nat × Nat × Nat) := if s.seed.vddLost then s.journal.savedSeed else none

/-- Step 1: the counters, the power-cycle count, and what the Seed island held for PD5. -/
def State.bootStart (s : State) : State :=
  let sv := s.savedCounters
  let x := s.seed
  let pc := match sv with | some v => v.2.2 | none => x.pcycle
  let new := min 0xFFFFFFFF (pc + 1)
  let x := match sv with | some v => { x with hours := v.1, us := v.2.1 * 1000 } | none => x
  let l := x.latched
  let sd := { x with pcycle := new, ticks := 0, refReq := true, latched := [], countersRestored := sv.isSome, vddLost := false }
  let s := { s with seed := sd, glb := { state := .coldBoot, bootStep := 1, powered := true }, power := { enteredAt := x.now } }
  let s := s.putDoms [5, 35] .on
  let s := if new = 0xFFFFFFFF && pc != new then s.capture 0x011F [Reg.SEED_PCYCLE] else s
  let s := s.captureLatched l
  match sv with
  | some v => s.capture 0x0104 [v.1, v.2.2]
  | none => s

/-- Configuration hold at a step, with its cause: of the domains, the Seed island, PD5 and PD35 stay on (R492). -/
def State.enterHold (step cause : Nat) (s : State) : State :=
  let s := (s.capture 0x0F03 [step, cause]).putDoms (domOrder.drop 2) .off
  let g := s.glb
  let nr := s.nor
  { s with glb := { g with hold := some cause, bootStep := step }, nor := { nr with hiZ := true, writeProtect := false } }

/-- The NOR pair as a board programmer left it. -/
def State.takeNor (n : Option NorImage) (s : State) : State :=
  match n with
  | none => s
  | some x => { s with nor := { sizes := x.sizes, copies := x.copies, slots := x.slots, loaders := x.loaders } }

/-- Why the loader of a NOR is refused; an absent NOR holds none. -/
def State.loaderCause (s : State) (n : Nat) (verdict : Option Nat) : Option Nat :=
  if norBytes (s.nor.sizes.getD n 0) = 0 then some 3 else verdict

/-- Step 3: the NOR whose loader runs; none where neither is acceptable. -/
def State.bootNor (s : State) (f : BootFacts) : Option Nat :=
  if (s.loaderCause 0 f.loaderA).isNone then some 0
  else if (s.loaderCause 1 f.loaderB).isNone then some 1
  else none

def State.bootFrom (n : Nat) (f : BootFacts) (s : State) : State :=
  let nr := s.nor
  let g := s.glb
  let s := { s with nor := { nr with bootLoader := n, writeProtect := true }, glb := { g with bootStep := 3 } }
  if n = 0 then s else s.capture 0x0F04 [(s.loaderCause 0 f.loaderA).getD 0]

/-! ### Step 4: Quince, activation record, settings, image (R327, R491, R507, R531, R548) -/

/-- The boot buffer goes into the log. -/
def State.flushBoot (s : State) : State :=
  let e := s.events
  let g := s.glb
  let l := e.boot
  l.foldl (fun s r => (s.evWrite r 1).2) { s with events := { e with boot := [] }, glb := { g with bootStep := 4 } }

/-- What the activation record leaves at step 4 (R531). -/
def State.settleRecord (s : State) : State :=
  let a := s.fw.act
  let off (s : State) : State := { s with fw := s.fw.setAct (fun a => { a with state := 0, pinnedGen := 0 }) }
  if a.state = 1 || a.state = 2 then
    let n := s.fw.received
    (off s.dropStaging).capture 0x1006 [n, a.source, 1]
  else if a.state = 5 then
    let gens := s.fw.probGens
    let s := off (if a.pinnedGen = 0 then s else s.unpin a.pinnedGen)
    let s := s.dropStaging
    let f := s.fw
    let s := { s with fw := { f with probGens := 0 } }
    (s.bump Reg.FW_CNT_REVERT 1).capture 0x1005 [5, gens, 3 - a.confirmed]
  else s

/-- The settings generation that boot uses: the valid one with the higher GEN (R507); the GEN refused when the newer is invalid. -/
def Journal.choose (j : Journal) : Option Settings × Option Nat :=
  match j.setA, j.setB with
  | some a, some b =>
    let hi := if a.gen < b.gen then b else a
    let lo := if a.gen < b.gen then a else b
    if hi.valid then (some hi, none) else if lo.valid then (some lo, some hi.gen) else (none, none)
  | some a, none => (if a.valid then some a else none, none)
  | none, some b => (if b.valid then some b else none, none)
  | none, none => (none, none)

/-- The chosen generation comes into force; the slots it lists as releasing are answered. -/
def State.takeSettings (s : State) : List Nat × State :=
  match s.journal.choose with
  | (none, _) => ([], s)
  | (some x, bad) =>
    let j := s.journal
    let s := { s with journal := { j with gen := x.gen } }
    let s := match bad with | some g => s.capture 0x0F07 [x.gen, g] | none => s
    (x.releasing, s.loadSettings x)

/-- Verification of a configuration copy, with event 0x02 where it fails (R491). -/
def State.checkCopy (n : Nat) (s : State) : Option ImageBundle × State :=
  match s.nor.copies.getD n none with
  | none => (none, s.capture 0x0F02 [n, 1, noRecord])
  | some b =>
    match imageReason s.fuses.ownerKeyHash none b with
    | none => (some b, s)
    | some r => (none, s.capture 0x0F02 [n, r.1, r.2])

/-- Both copies are verified, and the valid one with the higher IMAGE_SEQ, CA on a tie, is in force; false where neither is valid. -/
def State.takeImage (s : State) : Bool × State :=
  let a := s.checkCopy 0
  let b := a.2.checkCopy 1
  let s := b.2
  let pick : Option (Nat × ImageBundle) :=
    match a.1, b.1 with
    | some x, some y => if x.image.seq < y.image.seq then some (1, y) else some (0, x)
    | some x, none => some (0, x)
    | none, some y => some (1, y)
    | none, none => none
  match pick with
  | none => (false, s)
  | some p =>
    let nr := s.nor
    (true, { s with nor := { nr with cfgCopy := p.1 }, cfg := { image := p.2.image, signer := p.2.keyHash } })

/-- The checks a block makes on a value written to it (R296, R414, R482, R483, R256). -/
def State.entryOk (s : State) (off : Nat) (v : Word) : Bool :=
  if 0x50010 ≤ off && off < 0x5002C then s.pnClassOk off v
  else if 0x80000 ≤ off && off < 0xA0000 && off % 0x1000 = 0x020 then tgateOk v
  else if off = 0x20004 then thCfgOk v
  else if off = 0x3080C then huCfg3Ok v
  else if off = 0xA8008 then gcCfgOk v
  else true

/-- One entry of a REGISTERS record, applied before its block starts work (R499). -/
def State.bootEntry (e : Nat × Word × Word) (s : State) : State :=
  let off := e.1
  let v := (s.reg off &&& ~~~e.2.1) ||| (e.2.2 &&& e.2.1)
  if 0x30000 ≤ off && off < 0x30500 then s.loopWrite ((off - 0x30000) / 0x40) ((off - 0x30000) % 0x40) v 0
  else if s.entryOk off v then s.setReg off v
  else s

/-- The REGISTERS and EVENT_LIMIT records of the image in force, in record order. -/
def State.bootRegisters (s : State) : State :=
  s.cfg.image.records.foldl (fun s r =>
    match r with
    | .registers es => es.foldl (fun s e => s.bootEntry e) s
    | .eventLimit es => { s with events := { s.events with limits := es } }
    | _ => s) s

/-- The control engine loads its loops and starts charging the bank; the thermal limit starts at PKG_LIMIT (R472, R475, R485 step 4). -/
def State.bootLoops (s : State) : State :=
  let t := s.thermal
  let s := { s with thermal := { t with limit := s.pkgLimit } }
  let s := (s.startSlot 16 s.chargeTarget).startSlot 17 (fracQ s.pLim 64)
  let b := s.bank
  match b.abandoned with
  | none => s
  | some n => ({ s with bank := { b with abandoned := none } }).capture 0x0E06 [n]

/-! ### Step 5: DRAM (R175, R405, R408, R409, R418, R486) -/

/-- DRAM_TOPO of the image in force: width, density, ranks, spare, rdimm, refresh, rate in 100 MT/s. -/
def State.imageTopo (s : State) : List Nat :=
  (s.cfg.image.records.findSome? (fun r => match r with | .dramTopo w d n sp rd rf rate => some [w, d, n, sp, rd, rf, rate / 100] | _ => none)).getD
    [0, 0, 0, 0, 0, 0, 0]

/-- The ranks of a channel as the population has them: the last one is the spare. -/
def topoRanks (n spare : Nat) : List Nat := (List.range 4).map (fun r => if n ≤ r then 0 else if spare = 1 && r + 1 = n then 2 else 1)

/-- A rank leaves service at boot: the channel's unused spare takes its place; answers whether it does. -/
def State.bootRemove (c r : Nat) (s : State) : Bool × State :=
  let sp := (List.range 4).find? (fun q => s.rankSt c q == 2 && q != r)
  let used := s.rankSt c r != 2
  let s := s.setRank c r 6
  match sp with
  | some q => if used then (true, s.setRank c q 1) else (false, s)
  | none => (false, s)

/-- The retirement table, less the entries asked to be cleared, is applied to the population. -/
def State.applyTable (s : State) : State :=
  let m := s.mem
  let t := s.imageTopo
  let rk : List Nat := topoRanks (t.getD 2 0) (t.getD 3 0)
  let ch := m.clearRanks || m.clearPages
  let m := { m with
    topo := t
    ranks := List.replicate 4 rk
    removedRanks := if m.clearRanks then [] else m.removedRanks
    retiredPages := if m.clearPages then [] else m.retiredPages
    retiredBanks := if m.clearPages then [] else m.retiredBanks
    clearRanks := false
    clearPages := false }
  let s := { s with mem := m }
  let s := m.removedRanks.foldl (fun s x => if s.rankSt x.1 x.2 = 0 then s else (s.bootRemove x.1 x.2).2) s
  let s := m.retiredBanks.foldl (fun s x => if s.rankSt x.1 x.2.1 = 1 then s.setRank x.1 x.2.1 7 else s) s
  if ch then s.writeSettings else s

/-- A rank that fails training is recorded as removed, with event 0x0B (R486). -/
def State.rankFailed (x : Nat × Nat) (s : State) : State :=
  let st := s.rankSt x.1 x.2
  if st = 0 || st = 6 then s
  else
    let r := s.bootRemove x.1 x.2
    let s := r.2
    let m := s.mem
    let s := ({ s with mem := { m with removedRanks := m.removedRanks ++ [x] } }).writeSettings
    s.capture 0x0F0B [x.1, x.2, b2n r.1]

/-- GiB of the ranks in use. -/
def State.usedGib (s : State) : Nat :=
  sumBy (List.range 4) (fun c => ((List.range 4).filter (fun r => s.rankUsed c r)).length) * rankGib s.mem.width s.mem.density

/-- DRAM initialised and trained: its capacity and the map space lost. -/
def State.bootDram (f : BootFacts) (s : State) : State :=
  let s := f.rankFail.foldl (fun s x => s.rankFailed x) (s.putDoms [28, 29, 30, 31] .on).applyTable
  let m := s.mem
  let g := s.glb
  { s with mem := { m with lostMib := m.lossMib },
           glb := { g with bootStep := 6, dramGib := 4 * (m.rankCount - m.spare) * rankGib m.width m.density } }

/-! ### Step 7: firmware (R517, R524, R530, R531) -/

/-- Position of a slot's copy in the list A0, A1, B0, B1. -/
def copyIndex (k c : Nat) : Nat := k - 1 + 2 * c

/-- Why a copy of a slot fails R517; none when it verifies. -/
def State.copyReason (s : State) (f : BootFacts) (k c : Nat) : Option Nat :=
  match s.nor.slots.getD (copyIndex k c) none with
  | none => some 6
  | some b => if f.slotOk.getD (copyIndex k c) true then s.verifyFw b else some 6

/-- The bundle of a slot that boots: copy A, or with event 0x07 copy B in its place; the reason where both fail. The NOR stays as it
is: the loader runs until the end of step 7 (R487). -/
def State.bootSlot (f : BootFacts) (k : Nat) (s : State) : (Option Bundle × Nat) × State :=
  match s.copyReason f k 0 with
  | none => ((s.nor.slots.getD (copyIndex k 0) none, 0), s)
  | some r =>
    match s.copyReason f k 1 with
    | some _ => ((none, r), s)
    | none =>
      let b : Option Bundle := s.nor.slots.getD (copyIndex k 1) none
      ((b, 0), s.capture 0x1007 [k, 0, r])

/-- The image that runs. -/
def State.runImage (k : Nat) (b : Bundle) (s : State) : State :=
  let f := s.fw
  let g := s.glb
  let nr := s.nor
  { s with fw := { f with activeSlot := k, running := b }, glb := { g with bootStep := 7 }, nor := { nr with writeProtect := false } }

/-- The confirmed slot boots, or with STATE 0 the other slot where neither of its copies verifies; false where none does. A staged
candidate that no cold boot was asked to run never runs so. -/
def State.bootConfirmed (f : BootFacts) (s : State) : Bool × State :=
  let k := s.fw.act.confirmed
  let r := s.bootSlot f k
  match r.1.1 with
  | some b => (true, r.2.runImage k b)
  | none =>
    if s.fw.act.state != 0 then (false, r.2)
    else
    let q := r.2.bootSlot f (3 - k)
    match q.1.1 with
    | some b => (true, ((q.2.runImage (3 - k) b).bump Reg.FW_CNT_REVERT 1).capture 0x1008 [k, 3 - k])
    | none => (false, q.2)

/-- A candidate committed for this boot runs on probation where it verifies; else the confirmed image boots (R531). -/
def State.bootFirmware (f : BootFacts) (s : State) : Bool × State :=
  if s.fw.act.state != 4 then s.bootConfirmed f
  else
    let k := s.stagingSlot
    let r := s.bootSlot f k
    let s := r.2
    match r.1.1 with
    | some b =>
      let g := s.journal.gen
      let s := { s with fw := s.fw.setAct (fun a => { a with state := 5, pinnedGen := g }) }
      (true, ((s.runImage k b).bump Reg.FW_CNT_ACTIVATE 1).capture 0x1002 [k, 0, b.secver, 1])
    | none =>
      let s := { s with fw := s.fw.setAct (fun a => { a with state := 0 }) }
      (s.dropStaging.capture 0x1003 [r.1.2, 7, 0]).bootConfirmed f

/-! ### Step 8: cores and ports (R44, R45, R47, R48, R52, R56, R74) -/

/-- Cores 0 to 17 that pass the self-test; the first sixteen are active. -/
def State.bootCores (fail : List Nat) (s : State) : State :=
  let ok := (List.range 18).filter (fun c => !fail.contains c)
  let mask (l : List Nat) : BitVec 18 := BitVec.ofNat 18 (sumBy l (fun c => 2 ^ c))
  let bad := (List.range 18).filter (fun c => fail.contains c)
  let g := s.glb
  let s := { s with glb := { g with coreActive := mask (ok.take 16), coreFailed := mask bad } }
  bad.foldl (fun s c => s.capture 0x0503 [c]) s

/-- The ports as the image describes them; link bring-up starts. -/
def State.bootPorts (s : State) : State :=
  let l := s.cfg.image.records
  let port (p : Nat) : Nat × Nat × Nat :=
    (l.findSome? (fun r => match r with | .port i m l4 f .. => if i = p then some (m, l4, f) else none | _ => none)).getD (0, 0, 0)
  let addr (m : Nat) : BitVec 48 :=
    (l.findSome? (fun r => match r with | .macAddr n a => if n = m then some a else none | _ => none)).getD 0
  let macs : List Mac := (List.range 8).map (fun m => { present := decide (m % 4 < macsOf (port (m / 4)).1), addr := addr m })
  let ifs : List Iface := l.filterMap (fun r => match r with | .interface i => some i | _ => none)
  let fb := s.fabric
  let dcb := (l.findSome? (fun r => match r with | .dcb ps => some ps | _ => none)).getD fb.dcb
  let nb (n : Nat) : Neighbour :=
    (l.findSome? (fun r =>
      match r with
      | .ringPeer i q a0 a1 i0 i1 =>
        let x : Neighbour := { configured := true, nqn := q, addr0 := a0, addr1 := a1, if0 := i0, if1 := i1, state := 1, lostAt := some s.seed.now, retryAt := s.seed.now }
        if i = n then some x else none
      | _ => none)).getD {}
  let g := s.glb
  { s with
    fabric := { fb with modes := [(port 0).1, (port 1).1], l4link := [(port 0).2.1, (port 1).2.1],
                        fecCfg := [(port 0).2.2, (port 1).2.2], macs := macs, ifaces := ifs,
                        mgmtVlan := (vlanIn l).getD 0, dcb := dcb, nbs := [nb 0, nb 1] }
    glb := { g with bootStep := 8 } }

/-! ### Step 9: carriers (R335, R336, R339, R340) -/

/-- How a cold boot takes a carrier that is present. -/
inductive BootClass where
  | unwired | refused (cause : Nat) | pending | stale (why : Nat) | admitting | member
  deriving DecidableEq, Repr

/-- The class of R335 at cold boot; a record in STATE admitting with this array's ARRAY_ID is admitted again (R340). -/
def State.bootClass (s : State) (k : Nat) : BootClass :=
  let c := s.carrier k
  match c.facts with
  | none => .unwired
  | some f =>
    if !c.present || (s.slotRec k).isNone then .unwired
    else
      match s.eepromCause k f.eeprom with
      | some x => .refused x
      | none =>
        match c.record with
        | none => .pending
        | some r =>
          if r.state = 3 then .pending
          else if s.array.arrayId != some r.arrayId then .stale 1
          else if r.slot != k then .stale 3
          else if r.state = 1 then .admitting
          else if r.epoch = s.array.epoch || (r.epoch + 1 = s.array.epoch && s.array.members.testBit k) then .member
          else .stale 2

/-- Power of a carrier: its slot runs at its running current, its domain is on. -/
def State.bootPower (k : Nat) (f : CarrierFacts) (s : State) : State :=
  let s := s.startSlot k (fracQ f.eeprom.runMa (s.carFs k))
  (s.modCarrier k (fun c => { c with pwrOn := true, temp := f.temp, minuteMax := some f.temp, cause := 0 })).setDom k .on

/-- A member carrier returns: its dies keep the state their records say, a die that fails its checks fails as a member; one of a
release that was under way goes on with it. -/
def State.bootMember (releasing : List Nat) (k : Nat) (s : State) : State :=
  match (s.carrier k).facts with
  | none => s
  | some f =>
    let s := s.bootPower k f
    let a := s.array
    let dies : List Die := a.dies.map (fun (d : Die) =>
      if dieCar d.idx == k && !d.old then { d with facts := (((carrierDies k f).find? (·.1 == d.idx)).map (·.2)).getD d.facts } else d)
    let s := State.calibrate k f { s with array := { a with dies := dies } }
    let rel := releasing.contains k
    let old := ((s.carrier k).record.elim 0 (·.epoch))
    let s := s.modCarrier k (fun c => { c with st := if rel then 7 else 5, releaseAt := s.seed.now })
    let s := if old = s.array.epoch then s else s.writeRec k 2
    let s := ((carrierDies k f).filter (dieBad k f)).foldl (fun s x =>
      (s.failDie x.1 9 1).modDie x.1 (fun d => { d with refused := true })) s
    s.settleCarrier k

/-- A carrier that is no member: refused, pending, stale, or admitted again. -/
def State.bootOther (k : Nat) (c : BootClass) (s : State) : State :=
  match (s.carrier k).facts with
  | none => s
  | some f =>
    let r := (s.carrier k).record
    let place (st : Nat) (s : State) : State :=
      let s := (s.bootPower k f).identify k (dieClass st) s.array.epoch
      if s.allRefused k then ((s.openSwitch k).setDom k .off).refuseCarrier k 5
      else (s.modCarrier k (fun c => { c with st := st, class_ := st })).capture 0x0A0D [k, st, (r.elim 0 (·.epoch)) % 2 ^ 32]
    match c with
    | .unwired => s
    | .member => s
    | .refused x => s.refuseCarrier k x
    | .pending => place 2 s
    | .stale w => place 3 (s.capture 0x0A12 [k, w, (r.elim 0 (·.epoch)) % 2 ^ 32])
    | .admitting => ((s.bootPower k f).identify k 8 s.array.epoch).startAdmit k

/-- AUTO_ADMIT at step 7 of R339: a blank carrier is admitted while no other admission or release runs. -/
def State.autoAdmit (k : Nat) (s : State) : State :=
  let c := s.carrier k
  if s.fld Reg.CAR_CFG 0 0 == 1 && s.array.arrayId.isSome && c.st == 2 && c.record.isNone && s.array.reshape.isNone && !s.moveRuns k then
    s.startAdmit k
  else s

/-- Every carrier is classed before any record is written; members come first, then members that are missing are lost, then the
others. -/
def State.bootCarriers (releasing : List Nat) (s : State) : State :=
  let cls := (List.range 16).map (fun k => (k, s.bootClass k))
  let s := cls.foldl (fun s x => if x.2 == .member then s.bootMember releasing x.1 else s) s
  let gone := cls.filter (fun x => x.2 != .member && s.array.members.testBit x.1)
  let s := gone.foldl (fun s x => s.loseMember x.1 1 9) s
  let s := cls.foldl (fun s x => s.bootOther x.1 x.2) s
  let s := ((List.range 16).foldl (fun s k => s.autoAdmit k) s).finishAdmit
  let g := s.glb
  { s with glb := { g with bootStep := 9 } }

/-! ### Step 11 (R489, R528) -/

/-- A blank owner key is fused with the key that signed the image in force (R489). -/
def State.fuseOwner (s : State) : State :=
  let fu := s.fuses
  if fu.ownerKeyHash.isSome then s
  else ({ s with fuses := { fu with ownerKeyHash := some s.cfg.signer } }).capture 0x0F0C [(s.cfg.signer >>> 352).toNat]

/-- What LOADER of the activation record asks for once the device has booted (R528, R531). -/
def State.settleLoader (s : State) : State :=
  let a := s.fw.act.loader
  let set (n : Nat) (s : State) : State := { s with fw := s.fw.setAct (fun a => { a with loader := n }) }
  let la := s.nor.loaders.getD 0 (0, 0)
  let lb := s.nor.loaders.getD 1 (0, 0)
  if a = 1 then (set 2 s.updateLoader)
  else if a = 2 && s.nor.bootLoader = 0 then set 0 ((set 3 s).writeLoader 1 la)
  else if a = 2 then
    let s := set 0 (s.writeLoader 0 lb)
    s.capture 0x100A [la.1]
  else if a = 3 then set 0 (s.writeLoader 1 la)
  else s

/-- The device is ready. -/
def State.bootReady (f : BootFacts) (unsafe_ : Bool) (s : State) : State :=
  let g := s.glb
  let s := { s with glb := { g with state := .ready, bootStep := 11 } }
  let s := s.capture 0x0F01 [f.ms, s.cfg.image.seq, s.nor.bootLoader, b2n unsafe_]
  let s := s.fuseOwner.settleLoader
  let s := if s.fw.act.state = 5 then s.startProbation s.fw.activeSlot s.fw.running else s
  let x := s.seed
  let s := { s with seed := { x with pfQuiet := false, quietCause := 0, l4Entry := none, offLatch := none, powerOffAt := none } }
  (s.evalTolerance).trackIdle

/-! ### COLD_BOOT (R485) -/

/-- Steps 8 to 11. -/
def State.bootRest (f : BootFacts) (lost restored : Bool) (releasing : List Nat) (s : State) : State :=
  let s := ((s.burnFuse.putDoms (domOrder.drop 6) .on).bootCores f.coreFail).bootPorts
  let s := (s.replayMap).bootCarriers releasing
  let bad := s.journal.stopClass.isUnsafe
  let g := s.glb
  let s := { s with glb := { g with state := .recovery } }
  let s := s.recover lost restored
  let g := s.glb
  ({ s with glb := { g with bootStep := 10 } }).bootReady f bad

/-- Steps 4 to 7, from the loader on. -/
def State.bootLoaded (f : BootFacts) (lost restored : Bool) (s : State) : State :=
  let bad := (List.range 2).filter (fun d => !f.quinceOk.getD d true)
  let s := ((bad.foldl (fun s d => s.quinceFail d) s).flushBoot).settleRecord
  let r := s.takeSettings
  let i := r.2.takeImage
  if !i.1 then i.2.enterHold 3 2
  else
    let s := ((i.2.bootRegisters).bootLoops).bootDram f
    if s.usedGib < 32 then s.enterHold 4 3
    else
      let b := s.bootFirmware f
      if b.1 then b.2.bootRest f lost restored r.1 else b.2.enterHold 6 2

def execColdBoot (f : BootFacts) (s : State) : Out :=
  if !s.mayBoot then .next s
  else
    let lost := s.seed.vddLost
    let restored := s.savedCounters.isSome
    let s := s.bootStart.takeNor f.nor
    match s.bootNor f with
    | none => .next (s.enterHold 2 1)
    | some n => ((s.bootFrom n f).bootLoaded f lost restored).done

end Sys2Proof.Machine
end

