-- ==== Sys2Proof/Machine/RomCalls.lean ====
section
/-! DEFINITION. The calls of the ROM routine on the NOR pair (R493 to R495, R512, R513). -/

namespace Sys2Proof.Machine

open Sys2Proof

/-- Bytes of the loader region, and of a configuration copy area (R490). -/
def loaderBytes : Nat := 0x200000

/-- The routine runs once the loader has ended (R485 step 7). -/
def State.romUp (s : State) : Bool := s.glb.powered && s.glb.hold.isNone && decide (7 ≤ s.glb.bootStep)

/-- Length and alignment of a call by its operation (R493). -/
def romAligned (op : Nat) (c : RomCall) : Bool :=
  match op with
  | 1 => decide (1 ≤ c.len) && decide (c.len ≤ 65536)
  | 2 => decide (1 ≤ c.len) && decide (c.addr % 256 + c.len ≤ 256)
  | _ => c.len == 65536 && c.addr % 65536 == 0

/-- The status a call ends with (R493). -/
def State.romStatus (s : State) (op : Nat) (c : RomCall) : Nat :=
  let size := norBytes (s.nor.sizes.getD c.nor 0)
  if size = 0 then 0x07
  else if size < c.addr + c.len then 0x01
  else if !romAligned op c then 0x02
  else if c.retIn = some c.nor then 0x05
  else if op != 1 && decide (c.addr < loaderBytes) && !c.path then 0x03
  else if c.timedOut then 0x06
  else if c.devErr then 0x04
  else 0

/-- The mailbox registers show the call; a failure is recorded, a refusal counted (R512 to R514). -/
def State.romEnd (op st : Nat) (c : RomCall) (s : State) : State :=
  let nr := s.nor
  let s := { s with nor := { nr with mbxOp := op, mbxNor := c.nor, mbxStatus := st, mbxAddr := c.addr, mbxLen := c.len, mbxRet := c.ret } }
  let s := if st = 0x05 then s.bump Reg.NOR_CNT_REFUSE 1 else s
  if st = 0 then s else s.capture 0x0F08 [c.nor, op, c.addr, st]

/-- An erase that was running has ended (R495). -/
def State.endErase (s : State) : State :=
  let nr := s.nor
  { s with nor := { nr with erasing := [false, false], mbxBusy := false } }

/-- Half of the firmware area of a NOR (R490). -/
def slotArea (size : Nat) : Nat := (size - 0x400000) / 2

/-- A range of a NOR is changed by a call: the structured content of each area it touches no longer stands (R490). -/
def State.norTouched (n a len : Nat) (s : State) : State :=
  let nr := s.nor
  let h := slotArea (norBytes (nr.sizes.getD n 0))
  let hit (lo hi : Nat) : Bool := decide (a < hi) && decide (lo < a + len)
  let ld : List (Nat × Nat) := if hit 0 loaderBytes then modNth nr.loaders n (fun _ => (0, 0)) else nr.loaders
  let cp : List (Option ImageBundle) := if hit loaderBytes 0x400000 then modNth nr.copies n (fun _ => none) else nr.copies
  let s0 : List (Option Bundle) := if hit 0x400000 (0x400000 + h) then modNth nr.slots (2 * n) (fun _ => none) else nr.slots
  let s1 : List (Option Bundle) := if hit (0x400000 + h) (0x400000 + 2 * h) then modNth s0 (2 * n + 1) (fun _ => none) else s0
  { s with nor := { nr with loaders := ld, copies := cp, slots := s1 } }

/-- A programmed byte: bits only clear. -/
def cellPut (l : List (Nat × Nat × Byte)) (n a : Nat) (b : Byte) : List (Nat × Nat × Byte) :=
  let old := ((l.find? (fun x => x.1 == n && x.2.1 == a)).map (·.2.2)).getD 0xFF
  (n, a, old &&& b) :: l.filter (fun x => !(x.1 == n && x.2.1 == a))

/-- A read. Of a NOR that is erasing, the loader region is read on the other NOR, and any other read suspends the erase. -/
def execRomRead (c : RomCall) (s : State) : Out :=
  if !s.romUp then .next s
  else
    let st := s.romStatus 1 c
    let susp := st = 0 && s.nor.erasing.getD c.nor false && !decide (c.addr + c.len ≤ loaderBytes)
    let s := if susp then s.bump Reg.NOR_CNT_SUSP 1 else s
    .next (s.romEnd 1 st c)

/-- A page program. -/
def execRomProgram (c : RomCall) (s : State) : Out :=
  if !s.romUp then .next s
  else
    let s := s.endErase
    let st := s.romStatus 2 c
    let s := if st = 0 || st = 4 || st = 6 then s.norTouched c.nor c.addr c.len else s
    let s := if st = 0 then
        let nr := s.nor
        let l : List (Nat × Nat × Byte) := (List.range c.len).foldl (fun l i => cellPut l c.nor (c.addr + i) (c.data.getD i 0xFF)) nr.cells
        ({ s with nor := { nr with cells := l } }).bump Reg.NOR_CNT_PROG 1
      else s
    .next (s.romEnd 2 st c)

/-- A sector erase: it runs until the next program or erase call. -/
def execRomEraseSector (c : RomCall) (s : State) : Out :=
  if !s.romUp then .next s
  else
    let s := s.endErase
    let st := s.romStatus 3 c
    let s := if st = 0 || st = 4 || st = 6 then s.norTouched c.nor c.addr c.len else s
    let s := if st = 0 then
        let nr := s.nor
        let l : List (Nat × Nat × Byte) := nr.cells.filter (fun x => !(x.1 == c.nor && decide (c.addr ≤ x.2.1) && decide (x.2.1 < c.addr + 65536)))
        let er : List Bool := modNth nr.erasing c.nor (fun _ => true)
        ({ s with nor := { nr with cells := l, erasing := er, mbxBusy := true } }).bump Reg.NOR_CNT_ERASE 1
      else s
    .next (s.romEnd 3 st c)

end Sys2Proof.Machine
end

