-- ==== Sys2Proof/Machine/Dispatch.lean ====
section
/-! DEFINITION. The dispatch of the commands to their meanings, one arm per constructor. -/

namespace Sys2Proof.Machine

open Sys2Proof

/-- The effect of a command on everything but the queue. -/
def exec (i : Instr) (s : State) : Host.Outcome State Fault Refusal :=
  match i with
  | .controlRead e => Sys2Proof.Machine.execControlRead e s
  | .controlWrite e => Sys2Proof.Machine.execControlWrite e s
  | .registerWrite off v => Sys2Proof.Machine.execRegisterWrite off v s
  | .seedHoursRead => Sys2Proof.Machine.execSeedHoursRead s
  | .seedRtcLoWrite v => Sys2Proof.Machine.execSeedRtcLoWrite v s
  | .seedRtcHiWrite v => Sys2Proof.Machine.execSeedRtcHiWrite v s
  | .clrRc v => Sys2Proof.Machine.execClrRc v s
  | .lapNow v => Sys2Proof.Machine.execLapNow v s
  | .eolNow v => Sys2Proof.Machine.execEolNow v s
  | .ceCctSelWrite v => Sys2Proof.Machine.execCeCctSelWrite v s
  | .chDieSelWrite ch v => Sys2Proof.Machine.execChDieSelWrite ch v s
  | .ldpcFlipArm v => Sys2Proof.Machine.execLdpcFlipArm v s
  | .pnFlipArm v => Sys2Proof.Machine.execPnFlipArm v s
  | .pnFlipRun v => Sys2Proof.Machine.execPnFlipRun v s
  | .qFlipArm v => Sys2Proof.Machine.execQFlipArm v s
  | .dramFlipArm v => Sys2Proof.Machine.execDramFlipArm v s
  | .dramFlipRun v => Sys2Proof.Machine.execDramFlipRun v s
  | .clearRanks v => Sys2Proof.Machine.execClearRanks v s
  | .clearPages v => Sys2Proof.Machine.execClearPages v s
  | .portCntClr p v => Sys2Proof.Machine.execPortCntClr p v s
  | .ceCntClr v => Sys2Proof.Machine.execCeCntClr v s
  | .chCntClr ch v => Sys2Proof.Machine.execChCntClr ch v s
  | .ldpcCntClr v => Sys2Proof.Machine.execLdpcCntClr v s
  | .strCntClr v => Sys2Proof.Machine.execStrCntClr v s
  | .cmpCntClr v => Sys2Proof.Machine.execCmpCntClr v s
  | .pnCntClr v => Sys2Proof.Machine.execPnCntClr v s
  | .dramCntClr v => Sys2Proof.Machine.execDramCntClr v s
  | .psCntClr v => Sys2Proof.Machine.execPsCntClr v s
  | .norCntClr v => Sys2Proof.Machine.execNorCntClr v s
  | .fwCntClr v => Sys2Proof.Machine.execFwCntClr v s
  | .stickyClear g v raised => Sys2Proof.Machine.execStickyClear g v raised s
  | .mgAuthCommit v writer => Sys2Proof.Machine.execMgAuthCommit v writer s
  | .loopFlagClear slot v raised => Sys2Proof.Machine.execLoopFlagClear slot v raised s
  | .loopCoeffWrite slot off v => Sys2Proof.Machine.execLoopCoeffWrite slot off v s
  | .loopTargetWrite slot off v => Sys2Proof.Machine.execLoopTargetWrite slot off v s
  | .thOffsetWrite v => Sys2Proof.Machine.execThOffsetWrite v s
  | .pkgLimitWrite v => Sys2Proof.Machine.execPkgLimitWrite v s
  | .plimFloorWrite v => Sys2Proof.Machine.execPlimFloorWrite v s
  | .laneEnWrite v => Sys2Proof.Machine.execLaneEnWrite v s
  | .linkFault mac f => Sys2Proof.Machine.execLinkFault mac f s
  | .macDown mac => Sys2Proof.Machine.execMacDown mac s
  | .linkUp mac p => Sys2Proof.Machine.execLinkUp mac p s
  | .macUp mac => Sys2Proof.Machine.execMacUp mac s
  | .pauseFrameReceived mac prio on => Sys2Proof.Machine.execPauseFrameReceived mac prio on s
  | .pauseLong mac prio => Sys2Proof.Machine.execPauseLong mac prio s
  | .arpRequest f ip => Sys2Proof.Machine.execArpRequest f ip s
  | .neighborSolicitation f ip => Sys2Proof.Machine.execNeighborSolicitation f ip s
  | .echoRequest f q => Sys2Proof.Machine.execEchoRequest f q s
  | .ecnCeReceived flow => Sys2Proof.Machine.execEcnCeReceived flow s
  | .cnpReceived flow => Sys2Proof.Machine.execCnpReceived flow s
  | .tcpEceAck flow => Sys2Proof.Machine.execTcpEceAck flow s
  | .rateIncrease flow => Sys2Proof.Machine.execRateIncrease flow s
  | .tcpConnectRequest conn f q remote => Sys2Proof.Machine.execTcpConnectRequest conn f q remote s
  | .rdmaConnectRequest conn r remote => Sys2Proof.Machine.execRdmaConnectRequest conn r remote s
  | .tlsHandshake conn h => Sys2Proof.Machine.execTlsHandshake conn h s
  | .icreq conn hdgst ddgst hpda => Sys2Proof.Machine.execIcreq conn hdgst ddgst hpda s
  | .capsuleReceived q c => Sys2Proof.Machine.execCapsuleReceived q c s
  | .capsuleIntakeResume conn => Sys2Proof.Machine.execCapsuleIntakeResume conn s
  | .h2cDataReceived e bytes digestOk => Sys2Proof.Machine.execH2cDataReceived e bytes digestOk s
  | .rdmaReadCompletion e bytes ok => Sys2Proof.Machine.execRdmaReadCompletion e bytes ok s
  | .ringAssociationUp nb initiator port => Sys2Proof.Machine.execRingAssociationUp nb initiator port s
  | .ringRetry nb authFailed => Sys2Proof.Machine.execRingRetry nb authFailed s
  | .ringPeerUnreachable nb => Sys2Proof.Machine.execRingPeerUnreachable nb s
  | .ringKeepAliveExpiry nb initiator => Sys2Proof.Machine.execRingKeepAliveExpiry nb initiator s
  | .admitCapsule q e => Sys2Proof.Machine.execAdmitCapsule q e s
  | .tokenRefill => Sys2Proof.Machine.execTokenRefill s
  | .releasePass core => Sys2Proof.Machine.execReleasePass core s
  | .orderingPoint e => Sys2Proof.Machine.execOrderingPoint e s
  | .commandComplete e => Sys2Proof.Machine.execCommandComplete e s
  | .holdWarn e => Sys2Proof.Machine.execHoldWarn e s
  | .shadowCheckerFault core us => Sys2Proof.Machine.execShadowCheckerFault core us s
  | .ccEnClear e => Sys2Proof.Machine.execCcEnClear e s
  | .ccEnSet e => Sys2Proof.Machine.execCcEnSet e s
  | .ccShnTenant e => Sys2Proof.Machine.execCcShnTenant e s
  | .shutdownAbortTimeout cntl => Sys2Proof.Machine.execShutdownAbortTimeout cntl s
  | .ccShnDevice e => Sys2Proof.Machine.execCcShnDevice e s
  | .shutdownStopRecord => Sys2Proof.Machine.execShutdownStopRecord s
  | .shutdownResume e => Sys2Proof.Machine.execShutdownResume e s
  | .keepAliveExpiry cntl => Sys2Proof.Machine.execKeepAliveExpiry cntl s
  | .propertyGet e => Sys2Proof.Machine.execPropertyGet e s
  | .propertySet e => Sys2Proof.Machine.execPropertySet e s
  | .connect c => Sys2Proof.Machine.execConnect c s
  | .authenticationSend e x => Sys2Proof.Machine.execAuthenticationSend e x s
  | .authenticationReceive e => Sys2Proof.Machine.execAuthenticationReceive e s
  | .flush e => Sys2Proof.Machine.execFlush e s
  | .write e => Sys2Proof.Machine.execWrite e s
  | .read e => Sys2Proof.Machine.execRead e s
  | .compare e => Sys2Proof.Machine.execCompare e s
  | .writeZeroes e => Sys2Proof.Machine.execWriteZeroes e s
  | .datasetManagement e => Sys2Proof.Machine.execDatasetManagement e s
  | .verify e => Sys2Proof.Machine.execVerify e s
  | .reservationRegister e => Sys2Proof.Machine.execReservationRegister e s
  | .reservationReport e => Sys2Proof.Machine.execReservationReport e s
  | .reservationAcquire e => Sys2Proof.Machine.execReservationAcquire e s
  | .reservationRelease e => Sys2Proof.Machine.execReservationRelease e s
  | .copy e => Sys2Proof.Machine.execCopy e s
  | .getLogPage e => Sys2Proof.Machine.execGetLogPage e s
  | .identify e => Sys2Proof.Machine.execIdentify e s
  | .abort e => Sys2Proof.Machine.execAbort e s
  | .setFeatures e => Sys2Proof.Machine.execSetFeatures e s
  | .getFeatures e => Sys2Proof.Machine.execGetFeatures e s
  | .asynchronousEventRequest e => Sys2Proof.Machine.execAsynchronousEventRequest e s
  | .namespaceManagement e => Sys2Proof.Machine.execNamespaceManagement e s
  | .namespaceAttachment e => Sys2Proof.Machine.execNamespaceAttachment e s
  | .keepAlive e => Sys2Proof.Machine.execKeepAlive e s
  | .formatNvm e => Sys2Proof.Machine.execFormatNvm e s
  | .sanitize e => Sys2Proof.Machine.execSanitize e s
  | .sanitizeComplete slice ms => Sys2Proof.Machine.execSanitizeComplete slice ms s
  | .firmwareImageDownload e w => Sys2Proof.Machine.execFirmwareImageDownload e w s
  | .firmwareCommit e settingsOk => Sys2Proof.Machine.execFirmwareCommit e settingsOk s
  | .firmwareConfirm e => Sys2Proof.Machine.execFirmwareConfirm e s
  | .probationExpiry => Sys2Proof.Machine.execProbationExpiry s
  | .firmwareForward => Sys2Proof.Machine.execFirmwareForward s
  | .forwardRetry => Sys2Proof.Machine.execForwardRetry s
  | .sliceCreate e => Sys2Proof.Machine.execSliceCreate e s
  | .sliceDelete e => Sys2Proof.Machine.execSliceDelete e s
  | .sliceQuiesce e => Sys2Proof.Machine.execSliceQuiesce e s
  | .sliceQuiesced slice us => Sys2Proof.Machine.execSliceQuiesced slice us s
  | .sliceResume e => Sys2Proof.Machine.execSliceResume e s
  | .sliceFreeze e => Sys2Proof.Machine.execSliceFreeze e s
  | .sliceSave e => Sys2Proof.Machine.execSliceSave e s
  | .sliceRestore e => Sys2Proof.Machine.execSliceRestore e s
  | .replicationPairing slice => Sys2Proof.Machine.execReplicationPairing slice s
  | .forwardedChangeReceived p x => Sys2Proof.Machine.execForwardedChangeReceived p x s
  | .replicaAck slice nsid mu => Sys2Proof.Machine.execReplicaAck slice nsid mu s
  | .lostUnitReport slice nsid mu => Sys2Proof.Machine.execLostUnitReport slice nsid mu s
  | .peerRepairComplete slice nsid mu x => Sys2Proof.Machine.execPeerRepairComplete slice nsid mu x s
  | .replicaDetachReceived p => Sys2Proof.Machine.execReplicaDetachReceived p s
  | .precopyPassComplete slice => Sys2Proof.Machine.execPrecopyPassComplete slice s
  | .migrationDataReceived p x => Sys2Proof.Machine.execMigrationDataReceived p x s
  | .migrationCommitReceived p => Sys2Proof.Machine.execMigrationCommitReceived p s
  | .migrationCommitAck slice ms => Sys2Proof.Machine.execMigrationCommitAck slice ms s
  | .streamChunkReceived job c => Sys2Proof.Machine.execStreamChunkReceived job c s
  | .streamRestartRequest job seq cause => Sys2Proof.Machine.execStreamRestartRequest job seq cause s
  | .apstTransition cntl => Sys2Proof.Machine.execApstTransition cntl s
  | .carrierRelease e => Sys2Proof.Machine.execCarrierRelease e s
  | .carrierAdmit e => Sys2Proof.Machine.execCarrierAdmit e s
  | .reshape e arrayId => Sys2Proof.Machine.execReshape e arrayId s
  | .reshapeBandStep => Sys2Proof.Machine.execReshapeBandStep s
  | .applyConfiguration e w => Sys2Proof.Machine.execApplyConfiguration e w s
  | .configAddressingApply => Sys2Proof.Machine.execConfigAddressingApply s
  | .eventLogClear e => Sys2Proof.Machine.execEventLogClear e s
  | .holdUpTest e => Sys2Proof.Machine.execHoldUpTest e s
  | .holdupTestAuto => Sys2Proof.Machine.execHoldupTestAuto s
  | .writeBufferAllocate job off => Sys2Proof.Machine.execWriteBufferAllocate job off s
  | .laneUnitComplete lane job r => Sys2Proof.Machine.execLaneUnitComplete lane job r s
  | .stagingDurable job => Sys2Proof.Machine.execStagingDurable job s
  | .punnetGrant req punnets => Sys2Proof.Machine.execPunnetGrant req punnets s
  | .punnetRelease p => Sys2Proof.Machine.execPunnetRelease p s
  | .punnetWaitWarn req => Sys2Proof.Machine.execPunnetWaitWarn req s
  | .stripeFlush stream band => Sys2Proof.Machine.execStripeFlush stream band s
  | .stripePadIdle stream => Sys2Proof.Machine.execStripePadIdle stream s
  | .l3PadFlush => Sys2Proof.Machine.execL3PadFlush s
  | .memberProgramStatus band stripe mem st busyUs => Sys2Proof.Machine.execMemberProgramStatus band stripe mem st busyUs s
  | .mapPageWrite n => Sys2Proof.Machine.execMapPageWrite n s
  | .mapRootWrite => Sys2Proof.Machine.execMapRootWrite s
  | .journalTruncate t => Sys2Proof.Machine.execJournalTruncate t s
  | .pwrFailAssert f => Sys2Proof.Machine.execPwrFailAssert f s
  | .prsntNDeassert f => Sys2Proof.Machine.execPrsntNDeassert f s
  | .hubLowAssert => Sys2Proof.Machine.execHubLowAssert s
  | .mainRailOutOfRange => Sys2Proof.Machine.execMainRailOutOfRange s
  | .mainRailsInRange => Sys2Proof.Machine.execMainRailsInRange s
  | .sledPresenceAssert => Sys2Proof.Machine.execSledPresenceAssert s
  | .coldBoot f => Sys2Proof.Machine.execColdBoot f s
  | .romRead c => Sys2Proof.Machine.execRomRead c s
  | .romProgram c => Sys2Proof.Machine.execRomProgram c s
  | .romEraseSector c => Sys2Proof.Machine.execRomEraseSector c s
  | .maintenanceMoveStart eng => Sys2Proof.Machine.execMaintenanceMoveStart eng s
  | .eraseStart band => Sys2Proof.Machine.execEraseStart band s
  | .eraseStatus band mem st busyUs => Sys2Proof.Machine.execEraseStatus band mem st busyUs s
  | .eraseStarved band => Sys2Proof.Machine.execEraseStarved band s
  | .eolPrediction => Sys2Proof.Machine.execEolPrediction s
  | .patrolReadComplete band stripe mem cw r => Sys2Proof.Machine.execPatrolReadComplete band stripe mem cw r s
  | .patrolLapOverrun => Sys2Proof.Machine.execPatrolLapOverrun s
  | .retentionAgeUpdate => Sys2Proof.Machine.execRetentionAgeUpdate s
  | .dieReadRequest die op cls band stripe mem cw => Sys2Proof.Machine.execDieReadRequest die op cls band stripe mem cw s
  | .reconWaitExpiry die op => Sys2Proof.Machine.execReconWaitExpiry die op s
  | .operationAgePromotion die op => Sys2Proof.Machine.execOperationAgePromotion die op s
  | .dieOperationStart die => Sys2Proof.Machine.execDieOperationStart die s
  | .readSenseComplete die => Sys2Proof.Machine.execReadSenseComplete die s
  | .ldpcDecodeComplete op corrected => Sys2Proof.Machine.execLdpcDecodeComplete op corrected s
  | .reconstructionComplete op ok => Sys2Proof.Machine.execReconstructionComplete op ok s
  | .trackValley die blk opt off => Sys2Proof.Machine.execTrackValley die blk opt off s
  | .memberOperationTimeout die => Sys2Proof.Machine.execMemberOperationTimeout die s
  | .dieResetTimeout die => Sys2Proof.Machine.execDieResetTimeout die s
  | .zqPeriod ch => Sys2Proof.Machine.execZqPeriod ch s
  | .carrierTempSample k t => Sys2Proof.Machine.execCarrierTempSample k t s
  | .carrierSensorTimeout k => Sys2Proof.Machine.execCarrierSensorTimeout k s
  | .i2cStretchTimeout k => Sys2Proof.Machine.execI2cStretchTimeout k s
  | .carrierDomainWake k us => Sys2Proof.Machine.execCarrierDomainWake k us s
  | .carrierDomainGate k => Sys2Proof.Machine.execCarrierDomainGate k s
  | .carrierInsert k f => Sys2Proof.Machine.execCarrierInsert k f s
  | .carrierPowerGood k => Sys2Proof.Machine.execCarrierPowerGood k s
  | .carrierPowerGoodTimeout k => Sys2Proof.Machine.execCarrierPowerGoodTimeout k s
  | .carrierRemove k => Sys2Proof.Machine.execCarrierRemove k s
  | .rebuildDelayExpiry k => Sys2Proof.Machine.execRebuildDelayExpiry k s
  | .rebuildStart eng => Sys2Proof.Machine.execRebuildStart eng s
  | .slowRecovery die => Sys2Proof.Machine.execSlowRecovery die s
  | .slowFail die => Sys2Proof.Machine.execSlowFail die s
  | .quinceDieFailure d => Sys2Proof.Machine.execQuinceDieFailure d s
  | .journalAreaFull => Sys2Proof.Machine.execJournalAreaFull s
  | .dramCorrectedError c rank dev bank page => Sys2Proof.Machine.execDramCorrectedError c rank dev bank page s
  | .dramUncorrectable c rank cause owner => Sys2Proof.Machine.execDramUncorrectable c rank cause owner s
  | .punnetUncorrectable p word owner => Sys2Proof.Machine.execPunnetUncorrectable p word owner s
  | .tableCopyError table idx => Sys2Proof.Machine.execTableCopyError table idx s
  | .dramRefresh c rank queued => Sys2Proof.Machine.execDramRefresh c rank queued s
  | .dramMr4Poll c rank hot => Sys2Proof.Machine.execDramMr4Poll c rank hot s
  | .dramRetrainStep c ok ns => Sys2Proof.Machine.execDramRetrainStep c ok ns s
  | .dramScrub c lines fixed => Sys2Proof.Machine.execDramScrub c lines fixed s
  | .dramScrubLapWarn => Sys2Proof.Machine.execDramScrubLapWarn s
  | .sramScrubPass fixed => Sys2Proof.Machine.execSramScrubPass fixed s
  | .quinceRefresh fixed bad => Sys2Proof.Machine.execQuinceRefresh fixed bad s
  | .powerStateEntry => Sys2Proof.Machine.execPowerStateEntry s
  | .toleranceEvaluation => Sys2Proof.Machine.execToleranceEvaluation s
  | .wakeEvent src lateUs => Sys2Proof.Machine.execWakeEvent src lateUs s
  | .maintenanceWake => Sys2Proof.Machine.execMaintenanceWake s
  | .minuteTick => Sys2Proof.Machine.execMinuteTick s
  | .seedHourRollover => Sys2Proof.Machine.execSeedHourRollover s
  | .crystalStop => Sys2Proof.Machine.execCrystalStop s
  | .crystalRestore => Sys2Proof.Machine.execCrystalRestore s
  | .pllLockTimeout pll => Sys2Proof.Machine.execPllLockTimeout pll s
  | .loopSample slot convs => Sys2Proof.Machine.execLoopSample slot convs s
  | .followingErrorTimeout slot => Sys2Proof.Machine.execFollowingErrorTimeout slot s
  | .dirtyLimitUpdate => Sys2Proof.Machine.execDirtyLimitUpdate s
  | .thermalSample tj => Sys2Proof.Machine.execThermalSample tj s
  | .thermalLimitStep => Sys2Proof.Machine.execThermalLimitStep s
  | .rorStep => Sys2Proof.Machine.execRorStep s
  | .thermalLimitRise => Sys2Proof.Machine.execThermalLimitRise s
  | .overTemperatureTrip f => Sys2Proof.Machine.execOverTemperatureTrip f s
  | .eventCapture code p0 p1 p2 p3 => Sys2Proof.Machine.execEventCapture code p0 p1 p2 p3 s
  | .journalGroupTimeout => Sys2Proof.Machine.execJournalGroupTimeout s
  | .holdupDischargeEnd v1 charge esr => Sys2Proof.Machine.execHoldupDischargeEnd v1 charge esr s
  | .holdupRechargeTimeout => Sys2Proof.Machine.execHoldupRechargeTimeout s
  | .rankMigratedToSpare c ms => Sys2Proof.Machine.execRankMigratedToSpare c ms s
  | .keyEraseCompleted slice ms => Sys2Proof.Machine.execKeyEraseCompleted slice ms s
  | .migrationAcceptReceived slice fits => Sys2Proof.Machine.execMigrationAcceptReceived slice fits s
  | .migrationCancelReceived p => Sys2Proof.Machine.execMigrationCancelReceived p s
  | .forwardCompletionReceived reason => Sys2Proof.Machine.execForwardCompletionReceived reason s
  | .meteringMsSum => Sys2Proof.Machine.execMeteringMsSum s
  | .vddSeedLoss => Sys2Proof.Machine.execVddSeedLoss s
  | .vddSeedReturn => Sys2Proof.Machine.execVddSeedReturn s
  | .transportConnectionClosed conn => Sys2Proof.Machine.execTransportConnectionClosed conn s

end Sys2Proof.Machine
end

