-- ==== Sys2Proof/Machine/Step.lean ====
section
/-! DEFINITION. One step: the command at the front of the queue takes effect; with an empty queue the block idles for one
microsecond. -/

namespace Sys2Proof.Machine

open Sys2Proof

/-- Takes the command at the front of the queue and runs it on the state with the queue's rest; an empty queue lets one
microsecond pass (assumption 3). -/
def step (s : State) : Host.Outcome State Fault Refusal :=
  match s.pending with
  | c :: rest => exec c { s with pending := rest }
  | [] => .next (idleTick s)

/-- The state with the command a word spells put at the front of its queue. No row of the table has bits, so no word spells
a command. -/
def State.withFetchWord (s : State) (nbits w : Nat) : State :=
  match decodeTableWord nbits w with
  | some c => { s with pending := c :: s.pending }
  | none => s

end Sys2Proof.Machine
end

