-- ==== Sys2Proof/Safety.lean ====
section
/-! DEFINITION. What the statements speak of: a safe state, a command that completes, and what the recording of an event leaves
alone. -/

namespace Sys2Proof

open Sys2Proof.Machine

/-- The canonical form of the register store (Machine/Regs.lean): offsets strictly rising, no entry equal to its reset value. -/
def Safe (s : State) : Prop := regWf s.regs = true

/-- A command completes from a state: its meaning answers a next state, of which `P` holds. -/
def Completes (c : Instr) (s : State) (P : State → Prop) : Prop := ∃ t, exec c s = .next t ∧ P t

/-- Entry `e` holds the command `c`, dispatched, with that opcode, on an I/O queue or on an admin queue. -/
def OnEntry (s : State) (e opc : Nat) (io : Bool) (c : Cct) : Prop :=
  s.entry e = some c ∧ c.st = .dispatched ∧ c.cap.opc = opc ∧ c.isIo = io

/-- Entry `e` holds the I/O command `c`, dispatched, with that opcode, not begun, on the namespace `n`. -/
def OnNs (s : State) (e opc : Nat) (c : Cct) (n : Ns) : Prop :=
  OnEntry s e opc true c ∧ s.nsOf c.slice c.cap.nsid = some n ∧ c.step = 0

/-- Entry `e` holds the command `c`, a dispatched Property Set of CC on controller `k` that does what `kind` says. -/
def OnCc (s : State) (e kind : Nat) (c : Cct) (k : Ctrl) : Prop :=
  s.entry e = some c ∧ s.ctrl c.cntl = some k ∧ c.st = .dispatched ∧ c.cap.opc = 0x7F ∧ c.cap.fabrics = 0 ∧
  c.cap.dw11.toNat = 0x14 ∧ s.ccKind k c.cap.dw12 = kind

/-- The stored words agree everywhere but in the sticky status words (R557). -/
def RegsAside (s t : State) : Prop := ∀ off, off < Reg.STICKY ∨ Reg.STICKY + 144 ≤ off → t.reg off = s.reg off

/-- `t` differs from `s` at most in what the capture of an event, a notice and the completion of an Asynchronous Event Request
touch: the sticky words, the recorder, the command engine, the slices' meters and counts, buffer extents and jobs a freed entry held,
punnet requests, the bands' pins, and the fault mark of an image on probation. -/
structure Aside (s t : State) : Prop where
  rest : t = { s with
    regs := t.regs, events := t.events, eng := t.eng, slices := t.slices
    store := { s.store with buf := t.store.buf, jobs := t.store.jobs }
    mem := { s.mem with reqs := t.mem.reqs }
    upkeep := { s.upkeep with bands := t.upkeep.bands }
    fw := { s.fw with probFault := t.fw.probFault } }
  regs : RegsAside s t

/-- `t` differs from `s` at most in what a capsule or data from the fabric touches: the connections, flows and frames sent, the command
engine, punnets and requests, free values drawn, XOFFs counted, and what the recording of an event touches. -/
structure IntakeFrame (s t : State) : Prop where
  rest : t = { s with
    regs := t.regs, events := t.events, eng := t.eng, slices := t.slices, free := t.free, mem := t.mem
    fabric := { s.fabric with conns := t.fabric.conns, flows := t.fabric.flows, sent := t.fabric.sent }
    store := { s.store with buf := t.store.buf, jobs := t.store.jobs }
    upkeep := { s.upkeep with bands := t.upkeep.bands }
    fw := { s.fw with probFault := t.fw.probFault } }
  regs : ∀ off, (off < Reg.STICKY ∨ Reg.STICKY + 144 ≤ off) → off ≠ Reg.PORT_CNT_PFC_TX → off ≠ Reg.PORT_CNT_PFC_TX + 0x1000 →
    off ≠ Reg.PN_CNT_WAIT → t.reg off = s.reg off

/-- A write of a counter-clear register: `n` counters from `base` read zero where bit 0 of `v` is 1, and nothing else changes. -/
def ClearsCounters (c : Instr) (s : State) (v : Word) (base n : Nat) : Prop :=
  Completes c s (fun t => t = { s with regs := t.regs } ∧
    (∀ i, i < n → v.getLsbD 0 = true → t.reg (base + 4 * i) = 0) ∧
    (∀ off, (v.getLsbD 0 = false ∨ ∀ i, i < n → off ≠ base + 4 * i) → t.reg off = s.reg off))

/-- The lists whose lengths the hardware fixes: MACs, neighbours, lanes, loop slots, carriers, channels, maintenance engines and
what each moves, event groups, sense inputs, carrier domains, the other switched domains, and kinds of paced work. -/
def Shape (s : State) : Prop :=
  s.fabric.macs.length = 8 ∧ s.fabric.nbs.length = 2 ∧ s.comp.lanes.length = 8 ∧ s.loops.length = 20 ∧
  s.array.carriers.length = 16 ∧ s.array.chans.length = 32 ∧ s.upkeep.jobs.length = 4 ∧ s.upkeep.moving.length = 4 ∧
  s.events.groups.length = 36 ∧ s.bank.sense.length = 24 ∧ s.power.carDom.length = 16 ∧
  s.power.doms.length = 20 ∧ s.thermal.pace.length = 4

end Sys2Proof
end

