-- ==== Sys2Proof/Certificates/Slice0/Obligations.lean ====
section
/-! DEFINITION. The statements for the provers. -/

open Sys2Proof Sys2Proof.Machine

/-- For every command c, queue rest and state s: step of s with c at the front of its queue is exec c on s with the queue's rest. -/
def Obligations.StepRunsFrontCommand : Prop :=
  ∀ (c : Instr) (rest : List Instr) (s : State), step { s with pending := c :: rest } = exec c { s with pending := rest }

/-- With an empty queue step answers a next state whose clock is one microsecond later, whose queue is empty, and that differs from
s only in the Seed island and in the two times idleness is measured from. That the block idles by ticks is the model's choice
(log 3). (R427, R442, R445) -/
def Obligations.EmptyQueueLetsOneMicrosecondPass : Prop :=
  ∀ s : State, s.pending = [] → ∃ t, step s = .next t ∧ t.seed.now = s.seed.now + 1 ∧ t.seed.hours = s.seed.hours ∧
    (t.seed.us = s.seed.us ∨ t.seed.us = s.seed.us + 1) ∧
    t = { s with seed := t.seed, power := { s.power with idleAt := t.power.idleAt, idle3At := t.power.idle3At } }

/-- State.reset has its register store in canonical form, its lists of fixed length have that length, and no command waits. (R12,
R47, R337, R456) -/
def Obligations.ResetStateIsSafe : Prop :=
  Safe State.reset ∧ Shape State.reset ∧ State.reset.pending = []

/-- For each listed register, in every block of the control space, a read in State.reset returns the reset value of its table. (R12,
R41, R44, R45, R256, R299, R413, R426, R453, R483, R552, R566) -/
def Obligations.RegistersReadTheirResetValues : Prop :=
  ∀ p ∈ ([(0x104, 0x08122042), (0x108, 0x117000), (0x10C, 0xFFFF), (0x114, 0x200), (0x10000, 0x800), (0x10030, 0x3C001E),
    (0x10034, 0xA0001), (0x10038, 0x64000A), (0x1003C, 0x1E), (0x10040, 0xFFFFFFFF), (0x10044, 0x80000000), (0x20004, 0x5F642819),
    (0x20008, 0x34100934), (0x30004, 0), (0x30800, 0x8CA0505A), (0x30804, 0xF01814), (0x30808, 0x9C400064), (0x3080C, 0x46F6003C),
    (0x4000C, 3), (0x40200, 8), (0x50000, 0x4000), (0x50004, 0x640000), (0x50010, 0x8000400), (0x50078, 0x22380000),
    (0x60018, 0x32), (0x6001C, 0x1807D0), (0x60024, 0x4000040), (0x80010, 0x12C07D0), (0x80014, 0x3240), (0x80018, 0x320003F0),
    (0x80020, 0x50000200), (0xA0024, 0x7D0), (0xA0028, 0xC80800), (0xA002C, 0xFFFFFFFF), (0xA0144, 0x3200), (0xA8008, 0x1E03C05),
    (0xA800C, 0x5A020A), (0xA8010, 0xA84605), (0xB0000, 0x4FF10), (0xB0004, 0xFF), (0xC0008, 0x3E80004), (0xC000C, 0x200A320A),
    (0xC0010, 0x13200), (0xC2004, 0x32000A), (0xD0010, 0x1F000), (0xD0014, 0x3E80000), (0xE0010, 0x64), (0xF0004, 0xA0000),
    (0xF0008, 1), (0xF0010, 0x3C0000)] : List (Nat × Word)), State.reset.readReg p.1 = p.2

/-- For every state s whose register store is canonical (offsets strictly rising, no entry equal to its reset value): if step s
answers next t, the store of t is canonical. (R12, R14, R16) -/
def Obligations.EveryStepKeepsTheRegisterStoreCanonical : Prop :=
  ∀ s t : State, Safe s → step s = .next t → Safe t

/-- For every state s whose lists have the lengths the hardware fixes: if step s answers next t, those of t have the same lengths.
(R47, R74, R258, R337, R358, R456, R549) -/
def Obligations.EveryStepKeepsTheFixedShape : Prop :=
  ∀ s t : State, Shape s → step s = .next t → Shape t

/-- For every command c and state s: if exec c s answers next t, the waiting commands of t are those of s, and the clock of t stands
where that of s stood. (R442) -/
def Obligations.EveryCommandLeavesTheQueueAndTheClock : Prop :=
  ∀ (c : Instr) (s t : State), exec c s = .next t → t.pending = s.pending ∧ t.seed.now = s.seed.now

/-- For every command c and state s with a next state t: VENDOR_KEY_HASH, JTAG_LOCK and GRADE are unchanged, ANTI_ROLLBACK does not
fall, and an OWNER_KEY_HASH that is set stays as it is. (R488, R489, R528) -/
def Obligations.FusesAreNeverUndone : Prop :=
  ∀ (c : Instr) (s t : State), exec c s = .next t →
    t.fuses.vendorKeyHash = s.fuses.vendorKeyHash ∧ t.fuses.jtagLock = s.fuses.jtagLock ∧ t.fuses.grade = s.fuses.grade ∧
    s.fuses.antiRollback ≤ t.fuses.antiRollback ∧
    (s.fuses.ownerKeyHash.isSome = true → t.fuses.ownerKeyHash = s.fuses.ownerKeyHash)

/-- In a canonical store, after a word is put at an offset, that offset reads the word, every other offset reads as before, and the
store is canonical. (R12) -/
def Obligations.RegisterStoreReadsBackWhatWasWritten : Prop :=
  ∀ (s : State) (off : Nat) (v : Word), Safe s →
    (s.setReg off v).reg off = v ∧ (∀ o, o ≠ off → (s.setReg off v).reg o = s.reg o) ∧ Safe (s.setReg off v)

/-- For every old value, written value, and sets of RW, RW1C and W1S bits that do not overlap: after the write an RW bit holds the
written bit, an RW1C bit is cleared by a 1 and kept by a 0, a W1S bit is set by a 1 and kept by a 0, and every other bit is
kept. (R12) -/
def Obligations.RegisterFieldsActByTheirType : Prop :=
  ∀ (old v rw w1c w1s : Nat) (i : Nat), i < 32 → rw < 2 ^ 32 → w1c < 2 ^ 32 → w1s < 2 ^ 32 →
    rw &&& w1c = 0 → rw &&& w1s = 0 → w1c &&& w1s = 0 →
    (fieldWrite old v rw w1c w1s).getLsbD i =
      if rw.testBit i then v.testBit i
      else if w1c.testBit i then old.testBit i && !v.testBit i
      else old.testBit i

/-- For every offset at which the register map holds no register: a read returns zero, a write through REGISTER_WRITE leaves what
the write may act on unchanged (the next state is that of the check of the warnings alone), and neither refuses. (R15) -/
def Obligations.UnimplementedOffsetsReadZeroAndIgnoreWrites : Prop :=
  ∀ (s : State) (off : Nat) (v : Word), regRow off = none →
    s.readReg off = 0 ∧ s.writeReg off v 0 = s ∧
    (off % 4 = 0 → off < 0x100000 → exec (.registerWrite off v) s = .next s.smartCheck) ∧
    (¬ (off % 4 = 0 ∧ off < 0x100000) → exec (.registerWrite off v) s = .next s)

/-- For each listed register, whose fields are RW without a rule of their own: REGISTER_WRITE completes, the stored word takes the
written value in its RW bits and keeps its other bits, every other stored word outside the sticky words stays, and the state
differs only in what the check of the Critical Warnings touches. (R12, R132, R426) -/
def Obligations.RegisterWriteStoresThePlainRegisters : Prop :=
  ∀ (s : State) (v : Word), Safe s → ∀ off ∈ [0x10030, 0x10034, 0x10038, 0x1003C, 0x30804, 0x30808, 0x4000C, 0x40200, 0x40204, 0x40208, 0x4020C, 0x40210,
    0x40214, 0x40218, 0x4021C, 0x40220, 0x40224, 0x40228, 0x4022C, 0x40230, 0x40234, 0x40238, 0x4023C, 0x40240,
    0x50004, 0x50060, 0x50070, 0x50078, 0x60018, 0x6001C, 0x60024, 0x60030, 0xA0024, 0xA0028, 0xA0140, 0xA0144,
    0xA800C, 0xA8010, 0xA8014, 0xA8018, 0xA801C, 0xC2004, 0xD0014, 0xE0010, 0xF0004, 0xF0008, 0xF0010], ∀ r, regRow off = some r →
    Completes (.registerWrite off v) s (fun t =>
      t.reg off = fieldWrite (s.reg off).toNat v.toNat r.rw r.w1c 0 ∧ Aside (s.setReg off (t.reg off)) t)

/-- For each of the eleven clear registers: written with bit 0 as 1 its counters read zero afterwards; with bit 0 as 0 nothing
changes; no other stored word and no other part of the state changes. (R83, R134, R298, R299, R354, R379, R416, R422, R454,
R513, R537) -/
def Obligations.CounterClearsZeroTheirBlockAtOnce : Prop :=
  ∀ (s : State) (v : Word), Safe s →
    (∀ p, p < 2 → ClearsCounters (.portCntClr p v) s v (Reg.PORT_CNT_CNP_TX + 0x1000 * p) 5) ∧
    ClearsCounters (.ceCntClr v) s v Reg.CE_CNT_ADMIT 7 ∧
    (∀ ch, ch < 32 → ClearsCounters (.chCntClr ch v) s v (Reg.CH_CNT_READ + 0x1000 * ch) 9) ∧
    ClearsCounters (.ldpcCntClr v) s v Reg.LDPC_CNT_HD 3 ∧ ClearsCounters (.strCntClr v) s v Reg.STR_CNT_DIE_FAIL 4 ∧
    ClearsCounters (.cmpCntClr v) s v Reg.CMP_CNT_IN_GIB 7 ∧ ClearsCounters (.pnCntClr v) s v Reg.PN_CNT_CE 6 ∧
    ClearsCounters (.dramCntClr v) s v Reg.DRAM_CNT_CE 5 ∧ ClearsCounters (.psCntClr v) s v Reg.PS_CNT_ENTRY_L1 8 ∧
    ClearsCounters (.norCntClr v) s v Reg.NOR_CNT_PROG 4 ∧ ClearsCounters (.fwCntClr v) s v Reg.FW_CNT_ACTIVATE 3

/-- For every group, written value and set of bits raised in the same cycle: a bit of the group's word is set afterwards exactly
when it was raised in that cycle, or was set and not written as 1. No other stored word and no other part of the state changes.
The same holds of the flags of a loop slot. (R13) -/
def Obligations.StickyBitsClearUnlessRaisedAgain : Prop :=
  ∀ (s : State) (v raised : Word), Safe s →
    (∀ g, g < 36 → Completes (.stickyClear g v raised) s (fun t =>
      (∀ i, i < 32 → (t.sticky g).getLsbD i = (raised.getLsbD i || ((s.sticky g).getLsbD i && !v.getLsbD i))) ∧
      (∀ off, off ≠ Reg.STICKY + 4 * g → t.reg off = s.reg off) ∧ t = { s with regs := t.regs })) ∧
    (∀ k, k < s.loops.length → Completes (.loopFlagClear k v raised) s (fun t =>
      (∀ i, i < 5 → (t.slot k).flags.getLsbD i = (raised.getLsbD i || ((s.slot k).flags.getLsbD i && !v.getLsbD i))) ∧
      (∀ j, j ≠ k → t.slot j = s.slot j) ∧ t = { s with loops := t.loops }))

/-- For every code of the event tables and its parameters, in a safe state with 36 groups: EVENT_CAPTURE completes; the bit of the
code in its group's sticky word is set; no sticky bit clears; the log keeps every record it held; everything outside what a
capture touches stays. A code that no table lists changes nothing. (R548, R549, R552, R556) -/
def Obligations.EventCaptureSetsStickyAndCounts : Prop :=
  ∀ (s : State) (code p0 p1 p2 p3 : Nat), Safe s → Shape s →
    ((severity code).isSome = true → Completes (.eventCapture code p0 p1 p2 p3) s (fun t =>
      (t.sticky (code / 256)).getLsbD (code % 256) = true ∧
      (∀ g i, g < 36 → (s.sticky g).getLsbD i = true → (t.sticky g).getLsbD i = true) ∧
      (∃ l, t.events.log = s.events.log ++ l) ∧ Aside s t)) ∧
    (severity code = none → exec (.eventCapture code p0 p1 p2 p3) s = .next s)

/-- SEED_HOURS_READ captures SEED_MS and the next read of SEED_MS returns the capture; SEED_RTC_LO is held; CLR_RC clears RC_CLK
while the crystal runs; a crystal that stops hands over to the oscillator, with RC_CLK set; one that is back is returned to,
with RC_CLK kept; a PLL that failed to lock counts one failure more. Each changes nothing but the Seed island, the oscillator
and third PLL failures apart, which are also recorded. (R441, R442, R445, R448) -/
def Obligations.SeedClockCommandsSetTheSeedIsland : Prop :=
  ∀ (s : State) (v : Word),
    (∃ t, exec .seedHoursRead s = .next t ∧ t = { s with seed := { s.seed with msCapture := some s.ms } } ∧
      t.readReg Reg.SEED_MS = BitVec.ofNat 32 s.ms) ∧
    exec (.seedRtcLoWrite v) s = .next { s with seed := { s.seed with rtcLoHeld := some v } } ∧
    (v.getLsbD 0 = true → s.seed.onRc = false → exec (.clrRc v) s = .next { s with seed := { s.seed with rcClk := false } }) ∧
    (v.getLsbD 0 = false ∨ s.seed.onRc = true → exec (.clrRc v) s = .next s) ∧
    (s.seed.onRc = false → s.seed.vdd = true → Completes .crystalStop s (fun t =>
      t.seed.onRc = true ∧ t.seed.rcClk = true ∧ t.seed.crystal = false ∧ t.seed.crystalAt = s.seed.now)) ∧
    (s.seed.onRc = true → exec .crystalRestore s =
      .next { s with seed := { s.seed with crystal := true, onRc := false, crystalAt := s.seed.now } }) ∧
    (∀ p, p < 10 → p < s.seed.pllFails.length → Completes (.pllLockTimeout p) s (fun t =>
      t.seed.pllFails.getD p 0 = s.seed.pllFails.getD p 0 + 1 ∧ (s.seed.pllFails.getD p 0 ≠ 2 →
        t = { s with seed := { s.seed with pllFails := modNth s.seed.pllFails p (· + 1) } })))

/-- A write of SEED_RTC_HI makes the clock the written high half with the held low half (or the low half as it stands), ends the
hold, and captures event 0x0105; moving forward across a multiple of 60 seconds makes one minute tick and no other write does.
(R445, R451, R455) -/
def Obligations.SettingTheClockTakesTheHeldHalf : Prop :=
  ∀ (s : State) (v : Word), Safe s → Shape s →
    Completes (.seedRtcHiWrite v) s (fun t =>
      t.seed.rtc = v ++ (s.seed.rtcLoHeld.getD (s.seed.rtc.extractLsb' 0 32)) ∧ t.seed.rtcLoHeld = none ∧
      (t.sticky 1).getLsbD 5 = true ∧
      t.seed.ticks = if s.seed.rtc.toNat / 60 < t.seed.rtc.toNat / 60 then min 0xFFFFFFFF (s.seed.ticks + 1) else s.seed.ticks)

/-- MINUTE_TICK raises SEED_TICKS by one, saturating; with the main domains on and outside L4 every slice's banks switch, its
snapshot number rises by one and the Seed counters are saved; in L4 or without power nothing else but the check of the warnings
happens. SEED_HOUR_ROLLOVER at the end of the hour raises SEED_HOURS by one, saturating, starts the hour anew and writes a
settings generation. (R168, R169, R442, R444, R451, R478) -/
def Obligations.MinuteAndHourTicksCount : Prop :=
  ∀ s : State,
    Completes .minuteTick s (fun t => t.seed.ticks = min 0xFFFFFFFF (s.seed.ticks + 1) ∧
      (s.glb.powered = true → s.power.state ≠ .l4 →
        t.slices.list.map (fun x => (x.num, x.meter.seq, x.meter.sel)) =
          s.slices.list.map (fun x => (x.num, x.meter.seq + 1, !x.meter.sel)) ∧
        t.journal.savedSeed = some (s.seed.hours, s.ms, s.seed.pcycle))) ∧
    (s.glb.powered = false ∨ s.power.state = .l4 → exec .minuteTick s =
      .next ({ s with seed := { s.seed with ticks := min 0xFFFFFFFF (s.seed.ticks + 1) } }).smartCheck) ∧
    (3599999999 ≤ s.seed.us → Completes .seedHourRollover s (fun t =>
      t.seed.hours = min 0xFFFFFFFF (s.seed.hours + 1) ∧ t.seed.us = 0 ∧ t.journal.gen = s.journal.gen + 1))

/-- With the main domains on and outside L4, and slice numbers all different: METERING_MS_SUM changes the slices only, and in each
slice adds the granules its extents hold to counter 7, its provisioned granules to counter 8 and its controllers to counter 14
of the bank in use, and leaves the other bank alone. (R167) -/
def Obligations.MillisecondSumsMeterEverySlice : Prop :=
  ∀ s : State, s.glb.powered = true → s.power.state ≠ .l4 → (s.slices.list.map (·.num)).Nodup →
    Completes .meteringMsSum s (fun t => t = { s with slices := { s.slices with list := t.slices.list } } ∧
      t.slices.list.map (fun x => (x.num, if x.meter.sel then x.meter.bank1 else x.meter.bank0,
          if x.meter.sel then x.meter.bank0 else x.meter.bank1)) =
        s.slices.list.map (fun x => (x.num,
          modNth (modNth (modNth (if x.meter.sel then x.meter.bank1 else x.meter.bank0) 7 (· + s.allocGran x.num)) 8
            (· + provGran x)) 14 (· + s.ctrlCount x.num),
          if x.meter.sel then x.meter.bank0 else x.meter.bank1)))

/-- POWER_STATE_ENTRY enters the deepest allowed state whose dwell holds, and the switched domains take the conditions of that
state. TOLERANCE_EVALUATION in L0 only evaluates R434; below L0 it returns to L0 when R429 holds, or goes to the allowed state
when the tolerance is below the exit latency. A capsule, a carrier and due maintenance wake from any state below L0 (a capsule
from L4 only with wake logic), a frame and a keep-alive from L4; SEED_WAKE then holds the cause and the state left. HUB_LOW from
L4 goes to L3 or shallower. MAINT_WAKE_MIN below L0 returns to L0 with event 0x0109. An idle controller moves to its table's
power state. (R25, R426, R427, R429, R431, R433, R434, R435, R436, R437, R446, R451) -/
def Obligations.PowerStatesAreEnteredAndLeft : Prop :=
  ∀ s : State,
    (let u := s.trackIdle.evalTolerance
     u.glb.powered = true → u.mustStay = false → u.power.state.code < u.deepest →
       Completes .powerStateEntry s (fun t => t.power.state = pstateOf u.deepest ∧ t.power.enteredAt = s.seed.now ∧
         (Shape s → ∀ d ∈ domOrder, t.domain d = domCond (pstateOf u.deepest) (s.fabric.l4link.getD ((d + 1) % 2) 0) d))) ∧
    (s.power.state = .l0 → s.power.maintDue = false → exec .toleranceEvaluation s = .next s.trackIdle.evalTolerance) ∧
    (s.power.state ≠ .l0 → s.glb.powered = true → s.trackIdle.evalTolerance.mustStay = true →
      Completes .toleranceEvaluation s (fun t => t.power.state = .l0)) ∧
    (s.power.state ≠ .l0 → s.glb.powered = true → s.trackIdle.evalTolerance.mustStay = false →
      s.trackIdle.evalTolerance.power.lt.toNat < s.power.state.exitUs →
      Completes .toleranceEvaluation s (fun t => t.power.state = s.trackIdle.evalTolerance.power.allowed)) ∧
    (∀ (src : WakeSource) (late : Nat), s.power.state ≠ .l0 →
      (src = .capsule ∧ (s.power.state ≠ .l4 ∨ s.wakeLogic = true) ∨ src = .carrier ∨ src = .maintenance ∨
        src = .frame ∧ s.power.state = .l4 ∧ s.wakeLogic = true ∨ src = .keepAlive ∧ s.power.state = .l4) →
      Completes (.wakeEvent src late) s (fun t => t.power.state = .l0 ∧
        t.seed.wake = BitVec.ofNat 9 (2 ^ wakeBit src) ∧ t.seed.wakeFrom = s.power.state.code)) ∧
    (∀ late, s.power.state = .l4 → Completes (.wakeEvent .hubLow late) s (fun t => t.power.state.code ≤ 3)) ∧
    (∀ a, s.power.belowAt = some a → s.power.state ≠ .l0 →
      max 1 (s.fld Reg.PS_CFG 31 16) * 60000000 ≤ s.since a →
      Completes .maintenanceWake s (fun t => t.power.state = .l0 ∧ t.power.maintDue = true)) ∧
    (∀ (i : Nat) (k : Ctrl) (p itpt : Nat), s.ctrl i = some k → k.apste = true → k.apst.getD k.ps (0, 0) = (p, itpt) → itpt ≠ 0 →
      itpt * 1000 ≤ s.since k.lastIo → (∀ c ∈ s.eng.cct, c.cntl = i → ¬ c.queue < 8192) →
      Completes (.apstTransition i) s (fun t => t.ctrl i = some { k with ps := p }))

/-- Writes of the flip control registers take their fields; ARM, once set, stays set under a write of 0 (W1S); Q_FLIP_CTL takes ARM
only with at most two mask bits. A test write without an armed mask reports RESULT 1, and one the punnet pool cannot serve
reports 4. Keyed writes of DRAM_RETIRE_CTL ask for the clears at the next cold boot; without the key nothing changes. What they
leave unchanged is everything but their register, the named result or request. (R300, R405, R411, R412, R415, R420, R421) -/
def Obligations.FlipControlsArmAndTest : Prop :=
  ∀ (s : State) (v : Word), Safe s →
    (exec (.ldpcFlipArm v) s = .next (s.setReg Reg.LDPC_FLIP_CTL
      (fieldWrite (s.reg Reg.LDPC_FLIP_CTL).toNat v.toNat 0x11F 0 0x100))) ∧
    (bits v 9 9 = 0 → Completes (.pnFlipArm v) s (fun t =>
      t.fld Reg.PN_FLIP_CTL 7 0 = bits v 7 0 ∧
      (t.fld Reg.PN_FLIP_CTL 8 8 = 1 ↔ s.fld Reg.PN_FLIP_CTL 8 8 = 1 ∨ bits v 8 8 = 1) ∧
      Aside (s.setReg Reg.PN_FLIP_CTL (t.reg Reg.PN_FLIP_CTL)) t)) ∧
    (bits v 9 9 = 1 → bits v 8 8 = 0 → s.fld Reg.PN_FLIP_CTL 8 8 = 0 → Completes (.pnFlipRun v) s (fun t =>
      t.mem.pnResult = if (s.setReg Reg.PN_FLIP_CTL (BitVec.ofNat 32 (bits v 7 0))).punMay 0 1 then 1 else 4)) ∧
    Completes (.qFlipArm v) s (fun t => t = s.setReg Reg.Q_FLIP_CTL (t.reg Reg.Q_FLIP_CTL) ∧
      t.fld Reg.Q_FLIP_CTL 0 0 = bits v 0 0 ∧
      (t.fld Reg.Q_FLIP_CTL 8 8 = 1 ↔
        s.fld Reg.Q_FLIP_CTL 8 8 = 1 ∨ (bits v 8 8 = 1 ∧ popcount (s.reg Reg.Q_FLIP_MASK) ≤ 2))) ∧
    (bits v 0 0 = 0 → Completes (.dramFlipArm v) s (fun t =>
      t.fld Reg.DRAM_FLIP_CTL 31 24 = bits v 31 24 ∧
      (t.fld Reg.DRAM_FLIP_CTL 8 8 = 1 ↔ s.fld Reg.DRAM_FLIP_CTL 8 8 = 1 ∨ bits v 8 8 = 1) ∧
      Aside (s.setReg Reg.DRAM_FLIP_CTL (t.reg Reg.DRAM_FLIP_CTL)) t)) ∧
    (bits v 0 0 = 1 → bits v 8 8 = 0 → s.fld Reg.DRAM_FLIP_CTL 8 8 = 0 →
      Completes (.dramFlipRun v) s (fun t => t.mem.dramResult = 1)) ∧
    (bits v 31 16 = 0xD5A7 → bits v 1 1 = 1 → bits v 0 0 = 0 →
      exec (.clearRanks v) s = .next { s with mem := { s.mem with clearRanks := true } }) ∧
    (bits v 31 16 = 0xD5A7 → bits v 0 0 = 1 → bits v 1 1 = 0 →
      exec (.clearPages v) s = .next { s with mem := { s.mem with clearPages := true } }) ∧
    (bits v 31 16 ≠ 0xD5A7 → exec (.clearRanks v) s = .next s ∧ exec (.clearPages v) s = .next s)

/-- After CE_CCT_SEL is written, the sixteen CE_CCT_DATA words read the fields of the named entry, or zero when it is free, and
nothing else changes. After CH_DIE_SEL is written the three CH_DIE_DATA words of that channel are captured, no other channel's
change, and nothing else changes; a die that is absent reads zero. LAP_NOW restarts the patrol lap: its start is now and its
counts and positions are empty. EOL_NOW predicts every carrier's end of life. A write with both bits 0 changes neither.
LANE_EN_WRITE stores the fields of CMP_CFG, and only queued units change their lane. (R92, R133, R245, R256, R297, R376, R377) -/
def Obligations.SelectionWritesCaptureOneEntryAndOneDie : Prop :=
  ∀ (s : State) (v : Word),
    Completes (.ceCctSelWrite v) s (fun t =>
      t = { s.setReg Reg.CE_CCT_SEL (BitVec.ofNat 32 (bits v 16 0)) with eng := { s.eng with capture := t.eng.capture } } ∧
      (s.entry (bits v 16 0) = none → ∀ i, i < 16 → t.readReg (0xD0040 + 4 * i) = 0) ∧
      (∀ c, s.entry (bits v 16 0) = some c → ∀ i, i < 16 → t.readReg (0xD0040 + 4 * i) =
        ((s.setReg Reg.CE_CCT_SEL (BitVec.ofNat 32 (bits v 16 0))).cctWords c).getD i 0)) ∧
    (∀ ch, ch < 32 → ch < s.array.chans.length → Completes (.chDieSelWrite ch v) s (fun t =>
      (∀ k, k ≠ ch → t.chan k = s.chan k) ∧
      (s.die (64 * ch + bits v 5 0) = none → (t.chan ch).data0 = 0 ∧ (t.chan ch).data1 = 0 ∧ (t.chan ch).data2 = 0) ∧
      t = { s.setReg (Reg.CH_DIE_SEL + 0x1000 * ch) (BitVec.ofNat 32 (bits v 5 0)) with array := { s.array with chans := t.array.chans } })) ∧
    (bits v 1 1 = 0 → exec (.lapNow v) s = .next (s.mntCmd v).smartCheck ∧
      (bits v 0 0 = 1 → (s.mntCmd v).upkeep.lapAt = s.seed.now ∧ (s.mntCmd v).upkeep.lapCw = 0 ∧
        (s.mntCmd v).upkeep.lapDone = [] ∧ (s.mntCmd v).upkeep.lapPos = [] ∧ (s.mntCmd v).upkeep.lapOver = false ∧
        s.mntCmd v = { s with upkeep := (s.mntCmd v).upkeep })) ∧
    (bits v 1 1 = 1 → bits v 0 0 = 0 → exec (.eolNow v) s = .next s.predictAll.smartCheck) ∧
    (bits v 0 0 = 0 → bits v 1 1 = 0 → s.mntCmd v = s) ∧
    (∀ u : State, s.laneCfg v = u → exec (.laneEnWrite v) s = .next u ∧
      u = { s.setReg Reg.CMP_CFG (v &&& 0x00FFFF13) with store := { s.store with jobs := u.store.jobs } } ∧
      u.store.jobs.map (fun j => (j.id, j.stage, j.slice, j.mu)) = s.store.jobs.map (fun j => (j.id, j.stage, j.slice, j.mu)))

/-- For every command c and state s there is a t with exec c s = next t. The spec gives the block no command that stops it; what a
command may not do from a state leaves the state as it is (log 5). (R15) -/
def Obligations.EveryCommandAnswersANextState : Prop :=
  ∀ (c : Instr) (s : State), ∃ t, exec c s = .next t

/-- For every state s: after the check of the Critical Warnings everything stays but the sticky words, the recorder, the command
engine, the slices, the extents and jobs a freed entry held, punnet requests, band pins and the mark of an image on probation;
when no controller's warnings change, nothing changes. (R253, R560) -/
def Obligations.WarningsAreCheckedAside : Prop :=
  ∀ s : State, Aside s s.smartCheck ∧ ((∀ c ∈ s.eng.ctrls, s.critWarn c = c.warn) → s.smartCheck = s)

/-- For a dispatched Control Read or Control Write that no earlier one keeps waiting: bad fields answer Invalid Field in Command and
change nothing else; a Control Read whose range names neither SEED_HOURS nor SEED_MS answers the words of the range in ascending
order, 4 bytes each, and changes nothing but its entry; a Control Write with its data applies its dwords one after the other,
from the lowest offset, then answers Successful. One that waits changes nothing. (R14, R442, R543, R544) -/
def Obligations.ControlReadsAndWritesGoDwordByDword : Prop :=
  ∀ (s : State) (e : Nat) (c : Cct),
    (OnEntry s e 0xC0 false c → s.ctlWaits e = true → exec (.controlRead e) s = .next s) ∧
    (OnEntry s e 0xC0 false c → s.ctlWaits e = false → ctlBad c.cap = true →
      exec (.controlRead e) s = .next (s.finish e St.invalidField 0 .none)) ∧
    (OnEntry s e 0xC0 false c → s.ctlWaits e = false → ctlBad c.cap = false →
      (∀ o ∈ ctlOffs c.cap, o ≠ Reg.SEED_HOURS ∧ o ≠ Reg.SEED_MS) →
      exec (.controlRead e) s = .next (s.finish e St.ok 0
        (.bytes ((ctlOffs c.cap).flatMap (fun o => natBytes 4 (s.readReg o).toNat))))) ∧
    (OnEntry s e 0xC1 false c → s.ctlWaits e = false → ctlBad c.cap = true →
      exec (.controlWrite e) s = .next (s.finish e St.invalidField 0 .none).smartCheck) ∧
    (OnEntry s e 0xC1 false c → s.ctlWaits e = false → ctlBad c.cap = false →
      4 * dwBits c.cap.dw11 10 0 ≤ c.cap.data.length →
      exec (.controlWrite e) s = .next (((List.range (dwBits c.cap.dw11 10 0)).foldl (fun u i =>
        u.writeReg (c.cap.dw10.toNat + 4 * i) (BitVec.ofNat 32 (fieldAt c.cap.data (4 * i) 4)) c.cntl) s).finish
          e St.ok 0 .none).smartCheck)

/-- MG_AUTH_CTL with COMMIT and a type: a refused commit sets ERR and changes no credential; an accepted one clears ERR and the data
words, writes a settings generation, records event 0x0004 and changes the named credential alone: removed with LEN 0, else the
first LEN bytes of the data words, wrapped. Event Log Clear with the current FIRST and 1 to COUNT records drops the N oldest,
moves FIRST by N modulo 262,144, ends with DROPPED zero and answers N; otherwise it answers Invalid Field in Command with the
reason and nothing else changes. (R507, R541, R542, R554, R567) -/
def Obligations.CredentialsAndTheEventLogAreChangedAsAsked : Prop :=
  ∀ s : State, Safe s → Shape s →
    (∀ (v : Word) (writer : Nat), v.getLsbD 8 = true → bits v 1 0 ≠ 0 → s.credRefused (bits v 1 0) (bits v 23 16) = true →
      exec (.mgAuthCommit v writer) s = .next { s.setReg Reg.MG_AUTH_CTL (v &&& 0x00FF0003) with slices := { s.slices with mgErr := true } }.smartCheck) ∧
    (∀ (v : Word) (writer : Nat), v.getLsbD 8 = true → bits v 1 0 ≠ 0 → s.credRefused (bits v 1 0) (bits v 23 16) = false →
      Completes (.mgAuthCommit v writer) s (fun t =>
        let w : List Byte := if bits v 23 16 = 0 then [] else wrapRoot (s.mgBytes.take (bits v 23 16))
        t.slices.mgErr = false ∧ t.slices.mgData = List.replicate 16 0 ∧ t.journal.gen = s.journal.gen + 1 ∧
        (t.sticky 0).getLsbD 4 = true ∧
        t.slices.mgHost = (if bits v 1 0 = 1 then w else s.slices.mgHost) ∧
        t.slices.mgCtrl = (if bits v 1 0 = 2 then w else s.slices.mgCtrl) ∧
        t.slices.mgPsk = (if bits v 1 0 = 3 then w else s.slices.mgPsk))) ∧
    (∀ (e : Nat) (c : Cct), OnEntry s e 0xD4 false c →
      (∀ r, s.logClearReason c.cap = some r →
        exec (.eventLogClear e) s = .next (s.finish e St.invalidField (BitVec.ofNat 32 r) .none)) ∧
      (s.logClearReason c.cap = none → ∃ (u : State) (l : List EvRec), Aside { s with events := u.events } u ∧
        u.events.first = (s.events.first + dwBits c.cap.dw10 18 0) % 262144 ∧ u.events.dropped = 0 ∧
        u.events.log = s.events.log.drop (dwBits c.cap.dw10 18 0) ++ l ∧
        exec (.eventLogClear e) s = .next (u.finish e St.ok (BitVec.ofNat 32 (dwBits c.cap.dw10 18 0)) .none)))

/-- A write of one coefficient or limit of a slot stores that word and changes nothing else; one that would make OUT_MIN exceed
OUT_MAX, or that names OUT_MAX of slot 16, changes nothing. A TARGET write to slot 18 or 19 stores it and marks the ramp to
restart; to slots 0 to 17, whose targets the device owns, it changes nothing. EN written from 0 to 1 marks the ramp of slot 18
or 19 to restart. A write of OFFSET stores it and records event 0x0208; the sample then applies it. (R459, R460, R473, R479,
R481) -/
def Obligations.LoopRegisterWritesTakeEffectAlone : Prop :=
  ∀ (s : State) (v : Word),
    (∀ k, k < 20 → ∀ off ∈ [0x08, 0x0C, 0x10, 0x18, 0x24],
      exec (.loopCoeffWrite k off v) s = .next (s.setReg (0x30000 + 0x40 * k + off) v)) ∧
    (∀ k, k < 20 → exec (.loopCoeffWrite k 0x1C v) s =
      .next (if (s.reg (0x30020 + 0x40 * k)).toInt < v.toInt then s else s.setReg (0x3001C + 0x40 * k) v)) ∧
    (∀ k, k < 20 → exec (.loopCoeffWrite k 0x20 v) s =
      .next (if k = 16 ∨ v.toInt < (s.reg (0x3001C + 0x40 * k)).toInt then s else s.setReg (0x30020 + 0x40 * k) v)) ∧
    (∀ k, k < 18 → exec (.loopTargetWrite k 0x14 v) s = .next s) ∧
    (∀ k, k = 18 ∨ k = 19 → exec (.loopTargetWrite k 0x14 v) s =
      .next ((s.setReg (0x30014 + 0x40 * k) v).modSlot k (fun x => { x with arm := true }))) ∧
    (∀ k, k = 18 ∨ k = 19 → s.loopEn k = false → v.getLsbD 31 = true → Safe s →
      Completes (.loopTargetWrite k 0x00 v) s (fun t => t.loopEn k = true ∧
        t = (s.setReg (0x30000 + 0x40 * k) (t.reg (0x30000 + 0x40 * k))).modSlot k
          (fun x => { x with arm := true, feSince := none }))) ∧
    exec (.thOffsetWrite v) s = .next ((s.setReg Reg.TH_CAL (v &&& 0xFFFF)).capture 0x0208
      [unsigned 32 (signed 16 (s.fld Reg.TH_CAL 15 0)),
       unsigned 32 (signed 16 ((s.setReg Reg.TH_CAL (v &&& 0xFFFF)).fld Reg.TH_CAL 15 0))])

/-- When PKG_LIMIT is written, with a floor not above the new limit and the thermal limit at or above the floor: the thermal limit
is the lesser of the two afterwards, and outside L4 a step of the limit that is then due in THROTTLE lowers that value by 2 W,
not below the floor. (R476) -/
def Obligations.PackageLimitWriteCutsTheThermalLimitAtOnce : Prop :=
  ∀ (s : State) (v : Word), Safe s →
    clampNat 10 40 (bits v 23 16) ≤ clampNat 20 52 (bits v 31 24) → clampNat 10 40 (bits v 23 16) ≤ s.thermal.limit →
    Completes (.pkgLimitWrite v) s (fun t =>
      t.pkgLimit = clampNat 20 52 (bits v 31 24) ∧ t.plimFloor = clampNat 10 40 (bits v 23 16) ∧
      t.thermal.limit = min (clampNat 20 52 (bits v 31 24)) s.thermal.limit ∧
      t = { s with regs := t.regs, thermal := t.thermal, loops := t.loops } ∧
      (t.power.state ≠ .l4 → t.thermal.state = 2 → 500000 ≤ t.since t.thermal.stepAt → Completes .thermalLimitStep t (fun r =>
        r.thermal.limit = min t.thermal.limit (max t.plimFloor (t.thermal.limit - 2)))))

/-- A product is a Q1.31 number and its mark says that it was cut. With OUT_MIN not above OUT_MAX a sample's integrator and output
lie between them; an armed slot takes the measured value as its set-point and goes on ramping. LOOP_SAMPLE of an enabled slot
other than 16 in a powered device outside L4, when the sample sets no new flag, saturates nowhere where a saturation faults the
slot, and no released carrier is at its end, replaces that slot by its sample and changes nothing but that and the conversions.
The charger of slot 16 holds OUT_MIN while the temperature forbids charging. (R456, R457, R458, R460, R463, R466) -/
def Obligations.LoopSamplesComputeInSaturatingQ31 : Prop :=
  (∀ (a b : Int) (k : Nat), (-2147483648 : Int) ≤ (mulQ a b k).1 ∧ (mulQ a b k).1 ≤ 2147483647 ∧
      ((mulQ a b k).2 = false → (mulQ a b k).1 = Int.tdiv (a * b) 2147483648 * 2 ^ k)) ∧
    (∀ (s : State) (k : Nat), s.loopQ Reg.LOOP_OUT_MIN k ≤ s.loopQ Reg.LOOP_OUT_MAX k →
      s.loopQ Reg.LOOP_OUT_MIN k ≤ (s.slotSample k).u ∧ (s.slotSample k).u ≤ s.loopQ Reg.LOOP_OUT_MAX k ∧
      s.loopQ Reg.LOOP_OUT_MIN k ≤ (s.slotSample k).i ∧ (s.slotSample k).i ≤ s.loopQ Reg.LOOP_OUT_MAX k) ∧
    (∀ (s : State) (k : Nat), (s.slot k).arm = true →
      (s.slotSample k).sp = s.measured k ∧ (s.slotSample k).pv = s.measured k ∧ (s.slotSample k).ramping = true) ∧
    (∀ (s : State) (k : Nat) (convs : List (Nat × Int)), s.glb.powered = true → s.power.state ≠ .l4 → k < 20 → k ≠ 16 →
      s.loopEn k = true → (k = 17 → (s.slot 17).faulted = false) → (k < 16 → (s.carrier k).st ≠ 8) →
      (s.takeConvs convs).satMarks k &&& ~~~(s.slot k).flags = 0 →
      (s.loopCtl k 28 28 = 1 → (s.takeConvs convs).satMarks k = 0) →
      exec (.loopSample k convs) s =
        .next ((s.takeConvs convs).modSlot k (fun _ => (s.takeConvs convs).slotSample k)).smartCheck) ∧
    (∀ (s : State) (convs : List (Nat × Int)), Safe s → s.loops.length = 20 → s.glb.powered = true → s.power.state ≠ .l4 →
      s.loopEn 16 = true → (s.takeConvs convs).chargeRange.bank.forbidden = true →
      Completes (.loopSample 16 convs) s (fun t => (t.slot 16).u = t.loopQ Reg.LOOP_OUT_MIN 16))

/-- FOLLOWING_ERROR_TIMEOUT of an enabled slot whose error has counted for FE_TIME_MS sets FE_FAULT and faults the slot: the limiter
of slot 17 then grants the share of PLIM_FLOOR, slots 18 and 19 go to OUT_MIN with EN clear, and a fault of slot 16 stops the
charger and marks the bank failed. DIRTY_LIMIT_UPDATE takes the energy term as the limit; a limit that falls to zero is recorded
once. (R461, R462, R468, R471) -/
def Obligations.LoopFaultsAndTheDirtyLimitFollowTheirRules : Prop :=
  ∀ s : State, Safe s → s.loops.length = 20 →
    (∀ (k t0 : Nat), (s.slot k).feSince = some t0 → s.loopEn k = true → max 1 (s.loopCtl k 24 16) * 1000 ≤ s.since t0 →
      exec (.followingErrorTimeout k) s = .next
        ((s.modSlot k (fun x => { x with flags := x.flags ||| 0x10, feSince := none })).faultSlot k).smartCheck) ∧
    (∀ k, 16 ≤ k → k < 20 → ∃ t, t = s.faultSlot k ∧ (t.sticky 14).getLsbD 1 = true ∧
      (k = 17 → (t.slot 17).u = fracQ s.plimFloor 52 ∧ (t.slot 17).faulted = true) ∧
      (k ≠ 17 → (t.slot k).u = s.loopQ Reg.LOOP_OUT_MIN k ∧ t.loopEn k = false) ∧ (k = 16 → t.bank.failed = true) ∧
      (∀ j, j ≠ k → t.slot j = s.slot j)) ∧
    (s.glb.powered = true → s.power.state ≠ .l4 → s.store.flush = none →
      (s.energyLimit ≠ 0 ∨ s.bank.limit = 0 → exec .dirtyLimitUpdate s = .next { s with bank := { s.bank with limit := s.energyLimit }, thermal := { s.thermal with minDirty := min s.thermal.minDirty (s.energyLimit / 2 ^ 20) } }) ∧
      (s.energyLimit = 0 → s.bank.limit ≠ 0 → Completes .dirtyLimitUpdate s (fun t =>
        t.bank.limit = 0 ∧ (t.sticky 14).getLsbD 9 = true ∧ t.bank = { s.bank with limit := 0 })))

/-- In a powered device outside L4 a sample gives Tj with OFFSET added and moves the thermal state as the table says. Outside L4, in
THROTTLE a step that is due lowers a limit above the floor by 2 W, not below it, with event 0x0205; so does the rate above ROR
for ROR_MS. At the floor nothing is recorded. Outside THROTTLE 500 ms of calm raise the limit by 2 W toward PKG_LIMIT. Nothing
else changes but what a capture, the history of the minute and the target of slot 17 touch. (R473, R475, R476, R483) -/
def Obligations.ThermalSamplesAndStepsFollowTheTable : Prop :=
  ∀ s : State, Safe s → Shape s →
    (∀ tj : Int, s.glb.powered = true → s.power.state ≠ .l4 → Completes (.thermalSample tj) s (fun t =>
      let x := tj + signed 16 (s.fld Reg.TH_CAL 15 0)
      let a := if s.thermal.state = 0 ∧ s.warnAt ≤ x then 1 else s.thermal.state
      let b := if a = 1 ∧ s.throttleAt ≤ x then 2 else a
      let c := if b = 2 ∧ x < s.throttleAt - 32 then 1 else b
      t.thermal.tj = x ∧ t.thermal.rate = s.tjRate x ∧ t.thermal.limit = s.thermal.limit ∧
      t.thermal.state = (if c = 1 ∧ x < s.warnAt - 32 then 0 else c) ∧
      Aside { s with thermal := t.thermal } t)) ∧
    (s.power.state ≠ .l4 → s.thermal.state = 2 → 500000 ≤ s.since s.thermal.stepAt → s.plimFloor < s.thermal.limit →
      Completes .thermalLimitStep s (fun t => t.thermal.limit = max s.plimFloor (s.thermal.limit - 2) ∧
        (t.sticky 2).getLsbD 5 = true)) ∧
    (s.power.state ≠ .l4 → s.thermal.state = 2 → 500000 ≤ s.since s.thermal.stepAt → s.thermal.limit ≤ s.plimFloor →
      exec .thermalLimitStep s = .next { s with thermal := { s.thermal with stepAt := s.seed.now } }) ∧
    (∀ a, s.power.state ≠ .l4 → s.thermal.rorSince = some a → max 1 (s.fld Reg.TH_CFG 7 0) * 10000 ≤ s.since a → s.plimFloor < s.thermal.limit →
      Completes .rorStep s (fun t => t.thermal.limit = max s.plimFloor (s.thermal.limit - 2) ∧
        (t.sticky 2).getLsbD 5 = true)) ∧
    (∀ a, s.power.state ≠ .l4 → s.thermal.calmSince = some a → s.thermal.state ≠ 2 → 500000 ≤ s.since a → s.thermal.limit < s.pkgLimit →
      Completes .thermalLimitRise s (fun t => t.thermal.limit = min s.pkgLimit (s.thermal.limit + 2))) ∧
    (∀ v : Word, Completes (.plimFloorWrite v) s (fun t => t.thermal.limit = max (clampNat 10 40 (bits v 23 16))
        (min (clampNat 20 52 (bits v 31 24)) s.thermal.limit) ∧
      t = { s with regs := t.regs, thermal := t.thermal, loops := t.loops }))

/-- Hold-up Test that may start waits for its result and the discharge begins from the measured voltage with the charger at OUT_MIN;
the automatic test begins the same when it is due in L0. One that cannot start answers Invalid Field in Command with the reason.
A discharge that has fallen by HU_TEST_DV gives c = Q / (v0 - v1), stores it, and passes exactly when c and ESR are within their
limits. A recharge that takes 10 minutes fails the test and stops the charger. (R469, R470, R471) -/
def Obligations.HoldUpTestsMeasureTheBank : Prop :=
  ∀ s : State, Safe s → s.loops.length = 20 →
    (∀ (e : Nat) (c : Cct), OnEntry s e 0xD6 false c → onlyDws c.cap 0 0 0 0 0 0 = true →
      (∀ r, s.testRefused = some r →
        exec (.holdUpTest e) s = .next (s.finish e St.invalidField (BitVec.ofNat 32 r) .none)) ∧
      (s.testRefused = none → (s.slot 16).faulted = false → Completes (.holdUpTest e) s (fun t =>
        t.bank = { s.bank with step := 1, v0 := s.bank.vMv, testAt := s.seed.now, waiting := some e, auto := false } ∧
        (t.slot 16).u = s.loopQ Reg.LOOP_OUT_MIN 16 ∧ (t.entry e).map (·.st) = some .heldResource ∧
        t = { s with eng := t.eng, bank := t.bank, loops := t.loops }))) ∧
    (s.testDue = true → s.testRefused = none → s.power.state = .l0 → (s.slot 16).faulted = false →
      Completes .holdupTestAuto s (fun t =>
        t.bank = { s.bank with step := 1, v0 := s.bank.vMv, testAt := s.seed.now, waiting := none, auto := true } ∧
        t = { s with bank := t.bank, loops := t.loops })) ∧
    (∀ v1 q esr : Nat, s.bank.step ≠ 0 → s.bank.step ≠ 6 → max 1 (s.fld Reg.HU_CFG1 7 0) * 100 ≤ s.bank.v0 - s.bank.vMv →
      v1 < s.bank.v0 → Completes (.holdupDischargeEnd v1 q esr) s (fun t =>
        t.bank.step = 0 ∧ t.bank.cUf = some (q * 1000 / (s.bank.v0 - v1)) ∧ t.bank.esr = esr ∧
        t.bank.lastTestH = s.seed.hours ∧ t.journal.gen = s.journal.gen + 1 ∧
        (t.bank.failed = false ↔ s.fld Reg.HU_CFG2 31 16 ≤ q * 1000 / (s.bank.v0 - v1) ∧ esr ≤ s.fld Reg.HU_CFG2 15 0))) ∧
    (s.bank.step = 6 → 600000000 ≤ s.since s.bank.testAt → Completes .holdupRechargeTimeout s (fun t =>
      t.bank.step = 0 ∧ t.bank.failed = true ∧ t.bank.cUf = s.bank.cUf ∧ t.loopEn 16 = false ∧
      (t.slot 16).faulted = true))

/-- For a MAC of the device: a link fault marks it, starts DOWN_HOLD and counts the uncorrectable codewords; a link that comes up
clears the fault, takes the FEC of its mode, PHY type and partner (RS(544,514) in modes 0 to 3) and starts UP_HOLD; each changes
that MAC alone. At the end of DOWN_HOLD the MAC is down, no priority of it is paused, its commands' completions are discarded,
the ANA change count rises by one, and events 0x01 and 0x03 of its port are captured; at the end of UP_HOLD it is up, with
events 0x02 and 0x03. A pause frame pauses or releases one priority and counts; 100 ms of pause are recorded once. No other MAC
changes. (R47, R49, R57, R58, R70, R71, R72, R81, R83) -/
def Obligations.LinksGoDownAndUpAfterTheirHolds : Prop :=
  ∀ (s : State) (mac : Nat) (m : Mac), Safe s → Shape s → s.mac mac = some m →
    (∀ (f : PcsFault), m.present = true → m.fault = false → 1 ≤ f.cause → f.cause ≤ 3 → Completes (.linkFault mac f) s (fun t =>
      t.mac mac = some { m with fault := true, faultAt := s.seed.now, cause := f.cause, link := false } ∧
      (∀ j, j ≠ mac → t.mac j = s.mac j) ∧
      (t.reg (portReg (macPort mac) Reg.PORT_CNT_FEC_UNC)).toNat =
        min ((s.reg (portReg (macPort mac) Reg.PORT_CNT_FEC_UNC)).toNat + f.unc) 0xFFFFFFFF ∧
      Aside { s.setReg (portReg (macPort mac) Reg.PORT_CNT_FEC_UNC) (t.reg (portReg (macPort mac) Reg.PORT_CNT_FEC_UNC)) with fabric := { s.fabric with macs := t.fabric.macs } } t)) ∧
    (∀ (p : LinkPartner), m.present = true → m.link = false → phyOf (s.fabric.modes.getD (macPort mac) 0) p.phy = true →
      ∃ fec, (s.fabric.modes.getD (macPort mac) 0 < 4 → fec = 3) ∧
        fec = linkFec (s.fabric.modes.getD (macPort mac) 0) p.phy p.fecs (s.fabric.fecCfg.getD (macPort mac) 0) ∧
        exec (.linkUp mac p) s = .next (s.modMac mac
          (fun m => { m with link := true, linkAt := s.seed.now, fault := false, fec := fec, phy := p.phy }))) ∧
    (m.up = true → m.fault = true → s.downHold mac ≤ s.since m.faultAt → Completes (.macDown mac) s (fun t =>
      t.mac mac = some { m with up := false, paused := List.replicate 8 none, pauseWarned := List.replicate 8 false } ∧ (∀ j, j ≠ mac → t.mac j = s.mac j) ∧
      t.fabric.anaCount = s.fabric.anaCount + 1 ∧
      (t.sticky (3 + macPort mac)).getLsbD 1 = true ∧ (t.sticky (3 + macPort mac)).getLsbD 3 = true ∧
      (∀ c ∈ t.eng.cct, (∃ q ∈ s.eng.queues, q.idx = c.queue ∧ ∃ y ∈ s.fabric.conns, y.id = q.conn ∧ y.mac = mac) →
        c.discard = true) ∧ Aside { s with fabric := t.fabric } t)) ∧
    (m.up = false → m.link = true → m.fault = false → s.upHold mac * 1000 ≤ s.since m.linkAt → Completes (.macUp mac) s (fun t =>
      t.mac mac = some { m with up := true } ∧ (∀ j, j ≠ mac → t.mac j = s.mac j) ∧
      t.fabric.anaCount = s.fabric.anaCount + 1 ∧
      (t.sticky (3 + macPort mac)).getLsbD 2 = true ∧ (t.sticky (3 + macPort mac)).getLsbD 3 = true ∧
      Aside { s with fabric := t.fabric } t)) ∧
    (∀ (prio : Nat) (on : Bool), m.up = true → prio < 8 → Completes (.pauseFrameReceived mac prio on) s (fun t =>
      t.mac mac = some (if on then { m with paused := modNth m.paused prio (fun x => some (x.getD s.seed.now)) }
        else { m with paused := modNth m.paused prio (fun _ => none), pauseWarned := modNth m.pauseWarned prio (fun _ => false) }) ∧
      (∀ j, j ≠ mac → t.mac j = s.mac j) ∧
      (t.reg (portReg (macPort mac) Reg.PORT_CNT_PFC_RX)).toNat =
        min ((s.reg (portReg (macPort mac) Reg.PORT_CNT_PFC_RX)).toNat + 1) 0xFFFFFFFF)) ∧
    (∀ (prio t0 : Nat), m.paused[prio]? = some (some t0) → 100000 ≤ s.since t0 → m.pauseWarned.getD prio true = false →
      Completes (.pauseLong mac prio) s (fun t =>
        t.mac mac = some { m with pauseWarned := modNth m.pauseWarned prio (fun _ => true) } ∧
        (t.sticky (3 + macPort mac)).getLsbD 5 = true ∧ Aside { s with fabric := t.fabric } t))

/-- On an interface whose MAC carries frames, an ARP request or a solicitation for its address and an echo request are answered, one
for another address is not, and a frame whose VLAN tag is not the interface's is dropped; an echo reply is cut to the MTU, and
an echo in L4 also wakes the device. An ECN-CE mark sends one CNP and counts, at most one per CNP_GAP; a CNP, or an ACK with ECE
of a connection that negotiated ECN, lowers the rate of the flow by its share, not below RMIN and not within DEC_GAP, and the
ACK halves the window, to two segments at least; INC_PERIOD after the last decrease and the last increase the rate rises by
INC_STEP, not above the line rate. (R51, R52, R54, R59, R60, R61, R82, R431) -/
def Obligations.AddressesAreAnsweredAndRatesFollowCongestion : Prop :=
  ∀ s : State, Safe s → Shape s →
    (∀ (i : Nat) (tag : Option Nat) (x : Iface), s.liveIface i = some x →
      (tagOk x tag = false → ∀ ip ip6 len v6, exec (.arpRequest ⟨i, tag⟩ ip) s = .next s ∧
        exec (.neighborSolicitation ⟨i, tag⟩ ip6) s = .next s ∧ exec (.echoRequest ⟨i, tag⟩ ⟨len, v6⟩) s = .next s) ∧
      (tagOk x tag = true →
        (∀ ip, exec (.arpRequest ⟨i, tag⟩ ip) s = .next (if x.ip4 = ip then s.send (.arpReply i ip) else s)) ∧
        (∀ ip, exec (.neighborSolicitation ⟨i, tag⟩ ip) s = .next (if ip ∈ x.ip6 then s.send (.neighborAdvert i ip) else s)) ∧
        (∀ len v6, (v6 = true → x.ip6 ≠ []) → len ≤ 9000 →
          (s.power.state ≠ .l4 → exec (.echoRequest ⟨i, tag⟩ ⟨len, v6⟩) s =
            .next (s.send (.echoReply i len (framesOf x.mtu len v6))).smartCheck) ∧
          (s.power.state = .l4 → Completes (.echoRequest ⟨i, tag⟩ ⟨len, v6⟩) s (fun t => t.power.state = .l0 ∧
            .echoReply i len (framesOf x.mtu len v6) ∈ t.fabric.sent))))) ∧
    (∀ (fl : Nat) (f : Flow), s.flow fl = some f → f.tcp = false →
      (s.gapOk f.lastCnp (s.portFld f.mac Reg.RC_CFG1 15 8) = false → exec (.ecnCeReceived fl) s = .next s) ∧
      (s.gapOk f.lastCnp (s.portFld f.mac Reg.RC_CFG1 15 8) = true → Completes (.ecnCeReceived fl) s (fun t =>
        t.flow fl = some { f with lastCnp := some s.seed.now } ∧ t.fabric.sent = s.fabric.sent ++ [.cnp fl] ∧
        (t.reg (portReg (macPort f.mac) Reg.PORT_CNT_CNP_TX)).toNat =
          min ((s.reg (portReg (macPort f.mac) Reg.PORT_CNT_CNP_TX)).toNat + 1) 0xFFFFFFFF)) ∧
      Completes (.cnpReceived fl) s (fun t =>
        (t.reg (portReg (macPort f.mac) Reg.PORT_CNT_CNP_RX)).toNat =
          min ((s.reg (portReg (macPort f.mac) Reg.PORT_CNT_CNP_RX)).toNat + 1) 0xFFFFFFFF ∧
        t.flow fl = some (if s.portFld f.mac Reg.RC_CFG0 31 24 = 0 ∨
            s.gapOk f.lastDec (s.portFld f.mac Reg.RC_CFG0 15 8) = false then f
          else { f with rc := s.rcDown f, lastDec := some s.seed.now }))) ∧
    (∀ (fl : Nat) (f : Flow) (y : Conn), s.flow fl = some f → f.tcp = true → s.fabric.conns.find? (·.id == fl) = some y →
      (y.ecn = true → Completes (.tcpEceAck fl) s (fun t => ∃ w, 2 * s.smss fl ≤ w ∧ w ≤ max (f.cwnd / 2) (2 * s.smss fl) ∧
        t.flow fl = some (if s.portFld f.mac Reg.RC_CFG0 31 24 = 0 ∨
            s.gapOk f.lastDec (s.portFld f.mac Reg.RC_CFG0 15 8) = false then { f with cwnd := w, ssthresh := some w }
          else { f with rc := s.rcDown f, lastDec := some s.seed.now, cwnd := w, ssthresh := some w }) ∧
        t = { s with fabric := { s.fabric with flows := t.fabric.flows }, free := t.free })) ∧
      (y.ecn = false → exec (.tcpEceAck fl) s = .next s)) ∧
    (∀ (fl : Nat) (f : Flow), s.flow fl = some f → s.gapOk f.lastDec (s.incPeriod f.mac) = true →
      s.incPeriod f.mac ≤ s.since f.lastInc → exec (.rateIncrease fl) s =
        .next (s.modFlow fl (fun y => { y with rc := min (s.lineRate f.mac) (f.rc + s.incStep f.mac), lastInc := s.seed.now })))

/-- On a live interface whose tag the frame has, outside L4 and with the services open, a TCP request on port 4420 or 8009 and an
RDMA request for a Reliable Connected queue pair are accepted at the line rate; otherwise they are reset or rejected; in L4 the
frame first wakes the device. A TLS handshake that fits (TLS 1.3, a suite and mode of R63, a key the device holds) marks its
connection and its key; a failed one, or any on the discovery port, ends it and is recorded; ICReq takes digests and alignment
and ICResp names MAXH2CDATA. An ended connection leaves the table with its flow, commands of its queues run on with discarded
completions, and a queue of it that has no command left is freed. (R37, R51, R52, R55, R59, R60, R62, R63, R65, R88) -/
def Obligations.ConnectionsOpenAndEnd : Prop :=
  ∀ s : State,
    (∀ (conn i port : Nat) (tag : Option Nat) (ecn : Bool) (remote : BitVec 128) (x : Iface), s.ifaceIn i tag = some x →
      s.fabric.conns.any (·.id == conn) = false →
      (s.power.state ≠ .l4 → exec (.tcpConnectRequest conn ⟨i, tag⟩ ⟨port, ecn⟩ remote) s = .next
        (if s.services = true ∧ (port = 4420 ∨ port = 8009) then
          (s.addConn { id := conn, iface := i, mac := x.mac, tcp := true, port := port, ecn := ecn }).send (.tcpAccept conn ecn)
        else s.send (.tcpReset conn))) ∧
      (s.power.state = .l4 → Completes (.tcpConnectRequest conn ⟨i, tag⟩ ⟨port, ecn⟩ remote) s (fun t => t.power.state = .l0 ∧
        (if s.services = true ∧ (port = 4420 ∨ port = 8009) then .tcpAccept conn ecn else .tcpReset conn) ∈ t.fabric.sent))) ∧
    (∀ (conn : Nat) (r : RdmaReq) (remote : BitVec 128) (x : Iface), s.ifaceIn r.frame.iface r.frame.tag = some x → r.udp = 4791 → r.icrcOk = true →
      s.fabric.conns.any (·.id == conn) = false →
      (s.power.state ≠ .l4 → exec (.rdmaConnectRequest conn r remote) s = .next (if s.services = true ∧ r.rc = true then
        (s.addConn { id := conn, iface := r.frame.iface, mac := x.mac, tcp := false, ring := s.nbOf r.frame.iface remote, ecn := true, pmtu := rdmaMtu r.mtu x.mtu, readMax := min 16 r.reads }).send
            (.rdmaAccept conn (rdmaMtu r.mtu x.mtu) (min 16 r.reads))
        else s.send (.rdmaReject conn))) ∧
      (s.power.state = .l4 → Completes (.rdmaConnectRequest conn r remote) s (fun t => t.power.state = .l0 ∧
        (if s.services = true ∧ r.rc = true then .rdmaAccept conn (rdmaMtu r.mtu x.mtu) (min 16 r.reads) else .rdmaReject conn) ∈
          t.fabric.sent))) ∧
    (∀ (conn : Nat) (y : Conn), s.fabric.conns.find? (·.id == conn) = some y →
      (y.tcp = true → y.icDone = false → y.tls = false →
        ∀ h : TlsHello,
        (h.alert = none → y.port ≠ 8009 → s.tlsFits h = true → exec (.tlsHandshake conn h) s = .next { s with fabric := { s.fabric with conns := modFirst s.fabric.conns (·.id == conn) (fun y => { y with tls := true, psk := h.psk }) } }) ∧
        (h.alert = none → y.port = 8009 ∨ s.tlsFits h = false → exec (.tlsHandshake conn h) s = .next
          ((s.drawFree.2.endConn conn).capture ((3 + macPort y.mac) * 256 + 6) [y.mac, s.drawFree.1.toNat]).smartCheck) ∧
        (∀ a, h.alert = some a → exec (.tlsHandshake conn h) s =
          .next ((s.endConn conn).capture ((3 + macPort y.mac) * 256 + 6) [y.mac, a]).smartCheck)) ∧
      (∀ h d p, y.tcp = true → y.icDone = false → p < 32 → exec (.icreq conn h d p) s = .next
        (({ s with fabric := { s.fabric with conns := modFirst s.fabric.conns (·.id == conn) (fun y => { y with icDone := true, hdgst := h, ddgst := d, hpda := p }) } } : State).send (.icResp conn 0 131072))) ∧
      (y.ring = none → exec (.transportConnectionClosed conn) s = .next (s.endConn conn).smartCheck) ∧
      (∀ nb, y.ring = some nb →
        exec (.transportConnectionClosed conn) s = .next ((s.endConn conn).assocLost nb false).smartCheck)) ∧
    (∀ (conn : Nat) (u : State), u = s.endConn conn →
      (∀ y ∈ u.fabric.conns, y.id ≠ conn) ∧ (∀ f ∈ u.fabric.flows, f.id ≠ conn) ∧
      (∀ q ∈ u.eng.queues, q.conn = conn → q.dead = true ∧ ((s.eng.queues.map (·.idx)).Nodup → q.ring = []) ∧ ∃ c ∈ u.eng.cct, c.queue = q.idx) ∧
      (∀ q ∈ s.eng.queues, q.conn = conn → ∀ c ∈ u.eng.cct, c.queue = q.idx → c.discard = true) ∧
      u = { s with eng := { s.eng with cct := u.eng.cct, queues := u.eng.queues, poolUsed := u.eng.poolUsed }, fabric := { s.fabric with conns := u.fabric.conns, flows := u.fabric.flows, sent := s.fabric.sent ++ [.connClosed conn] } })

/-- On a live connection of a ready device whose priority is not paused, a Connect counts as admitted. An admin Connect to a
subsystem it may reach, with its authentication, a keep-alive value, a legal size, room, and a free controller and queue number,
creates the controller with its admin queue and answers its identifier; an I/O Connect of the host of a controller of a tenant
slice with queue pairs left creates a queue pair. A Connect to a subsystem the connection may not reach, or without its
authentication, is refused as Connect Invalid Host and creates nothing. An exchange with a hash or a group the device does not
take has failed. Authentication commands answer; Authentication Send of an exchange that did not fail changes nothing else.
(R53, R58, R66, R67, R105, R123, R134, R138, R139, R541, R589) -/
def Obligations.ConnectCreatesControllersAndQueues : Prop :=
  ∀ (s : State) (c : ConnectReq) (y : Conn) (g : ConnTarget), s.fabric.conns.find? (·.id == c.conn) = some y →
    s.glb.state = .ready → s.store.flush = none → (y.tcp = true → y.icDone = true) → s.connPaused y = false →
    s.target y c.subnqn = some g → (s.reg Reg.CE_CNT_ADMIT).toNat < 0xFFFFFFFE →
    ∀ (u : State) (a : AuthOutcome), u = s.setReg Reg.CE_CNT_ADMIT (s.reg Reg.CE_CNT_ADMIT + 1) →
      a = authRun y.ring.isSome c.authHash c.authDh c.auth →
    (s.mayConnect y g = false → exec (.connect c) s = .next (match s.ioCtrl c with
      | none => u.postConnect c St.connectInvalidHost 0
      | some k => u.refuseIo c k St.connectInvalidHost 0)) ∧
    (∀ n cause, g = .slice n → s.mayConnect y g = true → s.authCause y g a (c.qid != 0) = some cause →
      exec (.connect c) s = .next ((match s.ioCtrl c with
      | none => u.postConnect c St.connectInvalidHost 0
      | some k => u.refuseIo c k St.connectInvalidHost 0).capture ((3 + macPort y.mac) * 256 + 7) [y.mac, n, cause])) ∧
    (∀ n kato, g = .slice n → s.mayConnect y g = true → s.authCause y g a (c.qid != 0) = none → c.qid = 0 →
      katoOf c.kato = some kato → sizeOk g false c.sqsize = true → s.ctrlRoom g = true → 1 ≤ c.newCntlid → c.newCntlid ≤ 0x800 →
      s.ctrl c.newCntlid = none → s.queueFree g false c.newQueue = true → Completes (.connect c) s (fun t =>
        (∃ k, t.ctrl c.newCntlid = some k ∧ k.slice = n ∧ k.hostNqn = c.hostNqn ∧ k.hostId = c.hostId ∧ k.kato = kato ∧
          k.kaAt = s.seed.now ∧ k.en = false ∧ k.ring = none) ∧
        t.queue c.newQueue = some { idx := c.newQueue, cntl := c.newCntlid, qid := c.qid, conn := c.conn, size := c.sqsize, flowOff := c.flowOff } ∧
        t.eng.posted = s.eng.posted ++ [{ queue := c.newQueue, cid := c.cid, status := St.ok, result := BitVec.ofNat 32 c.newCntlid, sqhd := if c.flowOff then 0xFFFF else 0 }] ∧
        t = { u with eng := { s.eng with ctrls := t.eng.ctrls, queues := t.eng.queues, posted := t.eng.posted }, power := t.power })) ∧
    (∀ n k x, g = .slice n → n ≠ 0 → s.mayConnect y g = true → s.authCause y g a (c.qid != 0) = none → c.qid ≠ 0 →
      s.joins g c = some k → s.slice n = some x → (s.eng.queues.any (fun q => q.cntl == k.id && q.qid == c.qid)) = false →
      (s.eng.queues.filter (fun q => q.cntl == k.id && q.qid != 0)).length < 128 → sizeOk g true c.sqsize = true →
      s.usedPairs x.num < x.desc.qpairs → s.queueFree g true c.newQueue = true →
      exec (.connect c) s = .next (({ u with eng := { s.eng with queues := s.eng.queues ++ [ { idx := c.newQueue, cntl := k.id, qid := c.qid, conn := c.conn, size := c.sqsize, flowOff := c.flowOff }] } } : State).postConnect c
          St.ok (BitVec.ofNat 32 k.id))) ∧
    (∀ (e : Nat) (x : Cct) (k : Ctrl), s.entry e = some x → s.ctrl x.cntl = some k → x.st = .dispatched → x.cap.opc = 0x7F →
      (x.cap.fabrics = 5 → ∀ hash dh o, authRun k.ring.isSome hash dh o ≠ .failed →
        exec (.authenticationSend e ⟨hash, dh, o⟩) s = .next (s.finish e St.ok 0 .none).smartCheck) ∧
      (x.cap.fabrics = 6 → exec (.authenticationReceive e) s = .next (s.finish e St.ok 0 (.page 0 x.cap.dw11.toNat []))))

/-- A capsule on a live queue of a connection that stands goes to the end of the ring where the ring and the pool have room; without
pool room it waits on its connection, which is then held; without room in the ring of an I/O queue the connection ends.
CAPSULE_INTAKE_RESUME takes the one capsule that waits, or, when none does, ends the hold. ADMIT_CAPSULE in a ready device in L0
takes the oldest capsule of a ring whose turn it is and whose slice does not hold it into a free entry: with the first failing
check of R93 it is completed at once, else the entry is held for QoS, or for overlap behind the older commands it conflicts
with. Data that answers the R2T of a command on TCP, or its RDMA READ, joins the command; a failed digest or READ ends the
command with its transport status. What each leaves as it was is named. (R62, R65, R87, R88, R89, R92, R93, R94, R99, R383) -/
def Obligations.CapsulesAndDataAreTakenInOrder : Prop :=
  ∀ s : State,
    (∀ (q : Nat) (x : Queue) (k : Ctrl) (c : Capsule) (y : Conn), s.queue q = some x → x.dead = false → s.store.flush = none →
      s.fabric.conns.find? (·.id == x.conn) = some y → y.lost = false → y.held = false → s.ctrl x.cntl = some k →
      (k.stopped = false ∨ isProperty c = true) →
      (s.poolRoom c = true → x.ring.length < x.size → Completes (.capsuleReceived q c) s (fun t =>
        (t.queue q).map (·.ring) = some (x.ring ++ [c]) ∧ t.eng.poolUsed = s.eng.poolUsed + c.inCapsule ∧
        t.fabric.conns = s.fabric.conns ∧ IntakeFrame s t)) ∧
      (s.poolRoom c = true → x.size ≤ x.ring.length → x.qid ≠ 0 → Completes (.capsuleReceived q c) s (fun t =>
        (∀ z ∈ t.fabric.conns, z.id ≠ x.conn) ∧ .connClosed x.conn ∈ t.fabric.sent ∧ IntakeFrame s t)) ∧
      (s.poolRoom c = false → Completes (.capsuleReceived q c) s (fun t =>
        t.fabric.conns.find? (·.id == x.conn) = some { y with held := true, waiting := y.waiting ++ [(q, c)] } ∧
        (t.queue q).map (·.ring) = some x.ring ∧ t.eng.poolUsed = s.eng.poolUsed ∧
        (y.tcp = false → .rnrNak x.conn ∈ t.fabric.sent) ∧ IntakeFrame s t))) ∧
    (∀ (conn : Nat) (y : Conn), s.fabric.conns.find? (·.id == conn) = some y → y.held = true → s.store.flush = none →
      (y.waiting = [] → exec (.capsuleIntakeResume conn) s = .next { s with fabric := { s.fabric with conns := modFirst s.fabric.conns (·.id == conn) (fun y => { y with held := false }) } }.smartCheck) ∧
      (∀ (q : Nat) (c : Capsule) (x : Queue) (k : Ctrl), y.waiting = [(q, c)] → s.queue q = some x → x.dead = false →
        s.ctrl x.cntl = some k → k.stopped = false → x.ring.length < x.size →
        (s.poolRoom c = true → Completes (.capsuleIntakeResume conn) s (fun t =>
          (t.queue q).map (·.ring) = some (x.ring ++ [c]) ∧ t.eng.poolUsed = s.eng.poolUsed + c.inCapsule ∧
          (t.fabric.conns.find? (·.id == conn)).map (fun y => (y.held, y.waiting)) = some (false, []) ∧ IntakeFrame s t)) ∧
        (s.poolRoom c = false → exec (.capsuleIntakeResume conn) s = .next s.smartCheck))) ∧
    (∀ (qi e : Nat) (q : Queue) (k : Ctrl) (c : Capsule) (l : List Capsule), Safe s → s.queue qi = some q → s.ctrl q.cntl = some k →
      s.glb.state = .ready → s.store.flush = none → s.power.state = .l0 → q.dead = false → s.adminFirst k q = false →
      s.turnOk k q = true → ((s.slice k.slice).map (·.holds)).getD false = false → (k.holdList = [] ∨ q.qid ≠ 0) → q.ring = c :: l →
      s.stops k c = false → e < 131072 → s.entry e = none → s.cctRoom k = true →
      (s.fabric.conns.find? (·.id == q.conn)).elim false s.connPaused = false →
      (s.reg Reg.CE_CNT_ADMIT).toNat < 0xFFFFFFFE → (s.reg Reg.CE_CNT_OVL_HOLD).toNat < 0xFFFFFFFE →
      (s.reg Reg.PN_CNT_WAIT).toNat < 0xFFFFFFFE → s.eng.cct.any (fun y => y.queue == qi && y.cap.cid == c.cid) = false →
      ∃ u : State, exec (.admitCapsule qi e) s = .next u.smartCheck ∧ (u.reg Reg.CE_CNT_ADMIT).toNat = (s.reg Reg.CE_CNT_ADMIT).toNat + 1 ∧
        (u.queue qi).map (fun y => (y.ring, y.sqhd, y.nextSeq)) = some (l, (q.sqhd + 1) % max 1 q.size, q.nextSeq + 1) ∧
        (s.validate k q c = St.ok → s.older k q c = [] → (u.entry e).map (fun x =>
          (x.queue, x.cap, x.seq, x.cntl, x.arrival, x.st, x.waits)) = some (qi, c, q.nextSeq, k.id, s.seed.now, .heldQos, 0)) ∧
        (s.validate k q c = St.ok → s.older k q c ≠ [] → (u.entry e).map (fun x => (x.queue, x.cap, x.st, x.waits)) =
          some (qi, c, .heldOverlap, (s.older k q c).length)) ∧
        (s.validate k q c ≠ St.ok → u.entry e = none) ∧
        u = { s with regs := u.regs, eng := u.eng, mem := u.mem, events := u.events, fw := u.fw, upkeep := { s.upkeep with bands := u.upkeep.bands }, slices := u.slices, store := { s.store with buf := u.store.buf, jobs := u.store.jobs }, fabric := { s.fabric with conns := u.fabric.conns, sent := u.fabric.sent }, power := { s.power with idleAt := u.power.idleAt, idle3At := u.power.idle3At } }) ∧
    (∀ (e : Nat) (c : Cct) (y : Conn) (bytes : List Byte), s.entry e = some c → s.connOf c = some y → c.mayFetch = true →
      (∀ k ∈ s.eng.ctrls, e ∉ k.aers) →
      (y.tcp = true → c.r2t ≠ 0 → bytes ≠ [] → bytes.length ≤ 131072 → bytes.length ≤ c.r2t →
        Completes (.h2cDataReceived e bytes true) s (fun t =>
          (t.entry e).map (fun x => (x.r2t, x.cap.data)) = some (c.r2t - bytes.length, c.cap.data ++ bytes) ∧ IntakeFrame s t) ∧
        Completes (.h2cDataReceived e bytes false) s (fun t =>
          (t.entry e).map (fun x => (x.st, x.status)) = some (.completing, St.transientTransport) ∧ IntakeFrame s t)) ∧
      (y.tcp = true → c.r2t ≠ 0 → bytes ≠ [] → 131072 < bytes.length ∨ c.r2t < bytes.length → ∀ ok,
        Completes (.h2cDataReceived e bytes ok) s (fun t => (∀ z ∈ t.fabric.conns, z.id ≠ y.id) ∧ IntakeFrame s t)) ∧
      (y.tcp = false → c.fetching = true → bytes.length ≤ s.bytesDue c →
        Completes (.rdmaReadCompletion e bytes true) s (fun t =>
          (t.entry e).map (fun x => x.cap.data) = some (c.cap.data ++ bytes) ∧ IntakeFrame s t) ∧
        Completes (.rdmaReadCompletion e bytes false) s (fun t =>
          (t.entry e).map (fun x => (x.st, x.status)) = some (.completing, St.dataTransferError) ∧ IntakeFrame s t)))

/-- For a configured neighbour: an association that comes up with the services open and a ring secret marks its direction, takes its
port, ends the time toward PEER_LOSS and is recorded as 0x0310, a move of that association to the other port as 0x0312; one the
device initiates brings its 17 queue pairs, each a flow at the line rate. 100 ms without a sign of the peer on an association
lose that association. A retry of the association the device initiates that is due goes to the other address; a failed
authentication is recorded as 0x0313. PEER_LOSS without an association makes the peer unreachable, with 0x0311. (R60, R74, R75,
R76, R77, R84) -/
def Obligations.RingAssociationsComeAndGo : Prop :=
  ∀ (s : State) (nb : Nat) (n : Neighbour), Safe s → Shape s → s.nb nb = some n → n.configured = true →
    (∀ (init : Bool) (port : Nat), port ≤ 1 → (if init then n.assocInit else n.assocTarget) = false →
      (init = true → n.tryPort = port) → s.services = true → s.fabric.ringSecret ≠ [] →
      Completes (.ringAssociationUp nb init port) s (fun t =>
        t.nb nb = some { n with assocInit := n.assocInit || init, assocTarget := n.assocTarget || !init, port := port, lastPortI := if init then some port else n.lastPortI, lastPortT := if init then n.lastPortT else some port, heardI := if init then s.seed.now else n.heardI, heardT := if init then n.heardT else s.seed.now, initQps := if init then ringQps nb else n.initQps, state := if (if init then n.assocTarget else n.assocInit) then 3 else 1, lostAt := none } ∧ (∀ j, j ≠ nb → t.nb j = s.nb j) ∧
        (init = true → ∀ q ∈ ringQps nb, ∃ f ∈ t.fabric.flows, f.id = q.2.2 ∧ f.tcp = false ∧ f.rc = s.lineRate (s.ringMac n port)) ∧
        (t.sticky 3).getLsbD 0x10 = true ∧
        (∀ p, (if init then n.lastPortI else n.lastPortT) = some p → p ≠ port → (t.sticky 3).getLsbD 0x12 = true))) ∧
    (∀ init : Bool, (if init then n.assocInit else n.assocTarget) = true →
      100000 ≤ s.since (if init then n.heardI else n.heardT) →
      Completes (.ringKeepAliveExpiry nb init) s (fun t => (t.nb nb).map (fun m =>
          (m.assocInit, m.assocTarget, m.state, m.retryAt)) =
        some (n.assocInit && !init, n.assocTarget && init, 1, s.seed.now))) ∧
    (n.assocInit = false → s.retryUs n ≤ s.since n.retryAt →
      exec (.ringRetry nb false) s = .next (s.modNb nb (fun n => { n with tryPort := 1 - n.tryPort, retryAt := s.seed.now })) ∧
      exec (.ringRetry nb true) s = .next
        ((s.modNb nb (fun n => { n with tryPort := 1 - n.tryPort, retryAt := s.seed.now })).capture 0x0313 [nb, n.tryPort]).smartCheck) ∧
    (∀ t0, n.lostAt = some t0 → n.state ≠ 4 → n.assocInit = false → n.assocTarget = false →
      max 1 (s.fld Reg.RING_TIMERS 31 16) * 1000 ≤ s.since t0 → Completes (.ringPeerUnreachable nb) s (fun t =>
        (t.nb nb).map (·.state) = some 4 ∧ (t.sticky 3).getLsbD 0x11 = true))

/-- TOKEN_REFILL adds 10 µs of each slice's ceilings to its buckets, not above the bursts, and changes nothing else. In a release
pass of an active core of a ready device every exempt entry held for QoS is dispatched to that core, and waits there only for
the punnets of its data; an I/O entry of a slice without tokens stays held. ORDERING_POINT of a command that has begun releases
the entries that wait on it. A finished command whose priority is not paused is posted and leaves the table; while it is paused
the completion waits in its entry. An entry held beyond HOLD_WARN_MS is recorded once. A failed core is fenced; the lowest free
spare takes its entries. (R44, R58, R94, R95, R96, R97, R98, R106, R110, R111, R144, R150) -/
def Obligations.EntriesAreReleasedOrderedAndCompleted : Prop :=
  ∀ s : State, Safe s → Shape s →
    (∃ l, exec .tokenRefill s = .next { s with slices := { s.slices with list := l } } ∧ l.length = s.slices.list.length ∧
      ∀ (i : Nat) (x : SliceS), s.slices.list[i]? = some x → ∃ y, l[i]? = some y ∧ y = { x with qosOld := none, opTok := y.opTok, byteTok := y.byteTok } ∧
        (x.desc.iopsCeil ≠ 0 → y.opTok = min (x.desc.opBurstU : Int) (x.opTok + (x.desc.iopsCeil : Int))) ∧
        (x.desc.bwCeil ≠ 0 → y.byteTok = min (x.desc.byteBurstU : Int) (x.byteTok + ((x.desc.bwCeil * 10 : Nat) : Int)))) ∧
    (∀ core, s.glb.coreActive.getLsbD core = true → s.glb.state = .ready → s.store.flush = none →
      (s.reg Reg.CE_CNT_QOS_HOLD).toNat < 0xFFFFFFFE → (s.eng.cct.map (·.idx)).Nodup → (s.slices.list.map (·.num)).Nodup →
      (∀ k ∈ s.eng.ctrls, ∀ i ∈ k.aers, ∀ c, s.entry i = some c → c.st = .heldResource) →
      Completes (.releasePass core) s (fun t =>
        (∀ e c, s.entry e = some c → c.st = .heldQos → c.isIo = false →
          ∃ x, t.entry e = some x ∧ x.core = some core ∧ (x.st = .dispatched ∨ x.st = .heldResource ∧ t.waitsPun e = true)) ∧
        (∀ e c x, s.entry e = some c → c.st = .heldQos → c.isIo = true → s.slice c.slice = some x →
          (x.refill true).mayRelease = false → (t.entry e).map (·.st) = some .heldQos))) ∧
    (∀ e c, s.entry e = some c → c.orderDone = false → c.step = 1 → (isWriteLike c.cap.opc = true → c.left = 0) →
      Completes (.orderingPoint e) s (fun t => (∀ x, x ∈ c.waiters → x ≠ e → ∀ y, s.entry x = some y → y.st = .heldOverlap →
          y.waits ≤ 1 → (t.entry x).map (·.st) = some .heldQos) ∧
        t = { s with eng := { s.eng with cct := t.eng.cct } })) ∧
    (∀ e c, s.entry e = some c → s.sendPaused c = false → (c.isIo = true ∨ c.cap.opc ≠ 0xD0) →
      (c.st = .completing → c.parked = false → exec (.commandComplete e) s =
        .next (((s.post c c.status c.result).settleDisable c.cntl).settleShutdown c.cntl).smartCheck) ∧
      (c.parked = true → exec (.commandComplete e) s =
        .next (((s.sendCqe c c.status c.result).settleDisable c.cntl).settleShutdown c.cntl).smartCheck)) ∧
    (∀ e c, s.entry e = some c → s.sendPaused c = true → exec (.commandComplete e) s = .next s) ∧
    (∀ (c : Cct) (st : Nat) (r : Word),
      (s.sendPaused c = false ∨ c.discard = true → ∀ x ∈ (s.post c st r).eng.cct, x.idx ≠ c.idx) ∧
      (s.sendPaused c = true → c.discard = false → s.store.flush = none → (s.post c st r).eng.posted = s.eng.posted ∧
        ((s.post c st r).entry c.idx).map (fun x => (x.parked, x.status, x.result)) = some (true, st, r)) ∧
      (c.discard = false → s.store.flush = none → s.sendPaused c = false → ∃ q, (s.post c st r).eng.posted = s.eng.posted ++
        [{ queue := c.queue, cid := c.cap.cid, status := st, result := r, sqhd := q, data := if st == St.ok then c.out else .none }]) ∧
      (c.discard = true → (s.post c st r).eng.posted = s.eng.posted)) ∧
    (∀ e c, s.entry e = some c → s.fld Reg.CE_CFG 31 16 ≠ 0 → c.warned = false →
      s.fld Reg.CE_CFG 31 16 * 1000 < s.since c.heldAt → (c.st = .heldOverlap ∨ c.st = .heldQos) →
      exec (.holdWarn e) s = .next ((s.modEntry e (fun c => { c with warned := true })).capture
        (if c.st = .heldOverlap then 0x0505 else 0x0506) [c.slice, c.queue, c.cap.cid, s.since c.heldAt / 1000]).smartCheck) ∧
    (∀ core us, core < 18 → s.glb.coreFailed.getLsbD core = false → s.glb.coreActive.getLsbD core = true →
      s.glb.coreActive.getLsbD 16 = false → s.glb.coreFailed.getLsbD 16 = false → core ≠ 16 →
      Completes (.shadowCheckerFault core us) s (fun t =>
        t.glb.coreFailed = s.glb.coreFailed ||| BitVec.ofNat 18 (2 ^ core) ∧
        t.glb.coreActive = (s.glb.coreActive &&& ~~~BitVec.ofNat 18 (2 ^ core)) ||| BitVec.ofNat 18 (2 ^ 16) ∧
        (∀ c ∈ t.eng.cct, c.core ≠ some core) ∧ (t.sticky 5).getLsbD 1 = true))

/-- A Property Set of CC that sets EN enables an idle controller; one that clears it stops admission and closes every open entry of
the controller aborted; a shutdown request of a tenant stops its controller, one of a management controller begins the device
shutdown with the dirty amount of that time; 9 ms after it the open entries close aborted, those of every controller for the
device; with nothing dirty the stop record is written and SHST reads 0b10; EN without SHN resumes. An expired keep-alive
disables the controller without completions and frees it. Properties are read and written as listed. (R113, R114, R115, R116,
R117, R123) -/
def Obligations.ControllersAreEnabledDisabledAndShutDown : Prop :=
  ∀ s : State, (s.eng.cct.map (·.idx)).Nodup →
    (∀ e c k, OnCc s e 2 c k → k.dis = none → exec (.ccEnSet e) s = .next ((s.setCc k.id c.cap.dw12).finish e St.ok 0 .none |>.modCtrl k.id
      (fun k => { k with en := true, rdy := true, stopped := false, shst := 0, shnAt := none })).smartCheck) ∧
    (∀ e c k, OnCc s e 1 c k → k.dying = false → ∃ u : State, exec (.ccEnClear e) s = .next u.smartCheck ∧
      (u.ctrl k.id).map (·.en) = some false ∧ (∀ x ∈ u.eng.cct, x.cntl = k.id → isProperty x.cap = true ∨ x.gate ≠ .open)) ∧
    (∀ e c k, OnCc s e 3 c k → ∃ u : State, exec (.ccShnTenant e) s = .next u.smartCheck ∧
      (u.ctrl k.id).map (fun k => (k.stopped, k.holdList)) = some (true, []) ∧
      (∀ q ∈ u.eng.queues, q.cntl = k.id → (s.eng.queues.map (·.idx)).Nodup → q.ring = [])) ∧
    (∀ e c k, OnCc s e 4 c k → s.eng.shutdown = none → Completes (.ccShnDevice e) s (fun t =>
      t.eng.shutdown = some (k.id, s.dirtyKib, s.seed.now) ∧ (t.ctrl k.id).map (·.shst) = some 1)) ∧
    (∀ i k t0, s.ctrl i = some k → k.shnAt = some t0 → 9000 ≤ s.since t0 → k.shst = 1 → (∀ p, s.eng.shutdown = some p → p.1 ≠ i) →
      ∃ u : State, exec (.shutdownAbortTimeout i) s = .next u.smartCheck ∧ ∀ x ∈ u.eng.cct, x.cntl = i → x.gate ≠ .open) ∧
    (∀ i kib t0, s.eng.shutdown = some (i, kib, t0) → 9000 ≤ s.since t0 → s.eng.shutDone = false → ∃ u : State,
      exec (.shutdownAbortTimeout i) s = .next u.smartCheck ∧ ∀ x ∈ u.eng.cct, x.gate ≠ .open) ∧
    (∀ i k kib t0, s.eng.shutdown = some (i, kib, t0) → s.eng.shutDone = false → s.dirty = 0 → s.ctrl i = some k →
      s.eng.cct.any (fun x => !isProperty x.cap && x.st != .heldResource && !x.peerWait) = false →
      Completes .shutdownStopRecord s (fun t => (t.ctrl i).map (·.shst) = some 2 ∧ t.eng.shutDone = true ∧
        (∃ r ∈ t.journal.recs, r.body = .stop 2 kib))) ∧
    (∀ e c k, OnCc s e 5 c k → ∃ u : State, exec (.shutdownResume e) s = .next u.smartCheck ∧ u.eng.shutdown = none ∧
      (u.ctrl k.id).map (fun k => (k.en, k.rdy, k.shst)) = some (true, true, 0)) ∧
    (∀ i k, s.ctrl i = some k → k.ring = none → k.kato * 1000 ≤ s.since k.kaAt →
      exec (.keepAliveExpiry i) s = .next (s.startDisable i true true).smartCheck) ∧
    (∀ e c k, s.entry e = some c → s.ctrl c.cntl = some k → c.st = .dispatched → c.cap.opc = 0x7F →
      (c.cap.fabrics = 4 → exec (.propertyGet e) s = .next (match propVal k c.cap.dw11.toNat with
        | none => s.finish e St.invalidField 0 .none
        | some v => s.finish e St.ok (BitVec.ofNat 32 (v % 2 ^ 32)) (.bytes (natBytes 8 v)))) ∧
      (c.cap.fabrics = 0 → c.cap.dw11.toNat = 0x20 → exec (.propertySet e) s = .next (s.finish e St.ok 0 .none)) ∧
      (c.cap.fabrics = 0 → c.cap.dw11.toNat = 0x14 → s.ccKind k c.cap.dw12 = 0 → exec (.propertySet e) s =
        .next ((s.modCtrl k.id (fun k => { k with cc := c.cap.dw12, shn := dwBits c.cap.dw12 15 14 })).finish e St.ok 0 .none)))

/-- For a dispatched I/O command that has not begun, with its namespace: Flush answers Successful; a Write whose protection fails
answers that status and writes nothing; a Write within one map unit with punnets at hand starts one job in the lane in service
with the least queued work, with the LBAs it writes, and changes nothing else; a Read, Compare or Verify of a range with a lost
LBA that no peer repairs answers Unrecovered Read Error; of a range with none, whose units need no lane and whose codewords find
punnets at hand, it completes: Read with the stored content, Compare by its equality. A map unit that holds nothing reads as
deallocated LBAs. Write Zeroes and Dataset Management deallocate; a deallocated run of units leaves the map and no other unit
changes. Copy reads its source; once it is read, a Copy to one map unit without protection information starts one job with the
LBAs of its source. (R32, R118, R127, R181, R187, R199, R201, R359, R369) -/
def Obligations.IoCommandsReadAndWriteTheirRange : Prop :=
  ∀ (s : State) (e : Nat) (c : Cct) (n : Ns),
    (OnEntry s e 0x00 true c → exec (.flush e) s = .next (s.finish e St.ok 0 .none)) ∧
    (OnNs s e 0x01 c n → c.dataHere n = true → n.lbaf = 2 → lbaWire n c.cap ≠ lbaSize n.lbaf →
      piStatus n c.cap (hostLbas n c.cap) ≠ St.ok →
      exec (.write e) s = .next (s.finish e (piStatus n c.cap (hostLbas n c.cap)) 0 .none)) ∧
    (∀ mu, OnNs s e 0x01 c n → c.dataHere n = true → n.lbaf ≠ 2 → s.unitsOf n c.cap.slba c.cap.nlb = [mu] →
      s.punMay 3 (ceilDiv (16 + s.origLen (s.lbafOf c.slice n.nsid)) 4096) = true → s.mem.reqs.any (·.cls == 3) = false →
      (∀ j ∈ s.store.jobs, j.id ≠ s.store.nextJob) → Completes (.write e) s (fun t =>
        ∃ j : UnitJob, t.store.jobs = s.store.jobs ++ [j] ∧ j.id = s.store.nextJob ∧ j.entry = some e ∧ j.slice = c.slice ∧
        j.nsid = n.nsid ∧ j.mu = mu ∧ j.stage = 0 ∧ j.reading = false ∧ j.wrote = s.offsIn n c.cap.slba c.cap.nlb mu ∧
        j.orig = j.wrote.map (fun i => (hostLbas n c.cap).getD (mu * s.unitLbas n.lbaf + i - c.cap.slba) {}) ∧
        j.lane = s.laneFor ∧
        (t.entry e).map (fun x => (x.step, x.left, x.wr)) = some (1, 1, c.cap.nlb * lbaSize n.lbaf) ∧
        t = { s with eng := { s.eng with cct := t.eng.cct }, store := { s.store with jobs := t.store.jobs, nextJob := s.store.nextJob + 1 }, mem := { s.mem with punnets := t.mem.punnets } })) ∧
    (s.lostIn c.slice n c.cap.slba c.cap.nlb = 1 →
      (OnNs s e 0x02 c n → exec (.read e) s = .next (s.finish e St.unrecoveredRead 0 .none)) ∧
      (OnNs s e 0x05 c n → c.dataHere n = true → exec (.compare e) s = .next (s.finish e St.unrecoveredRead 0 .none)) ∧
      (OnNs s e 0x0C c n → exec (.verify e) s = .next (s.finish e St.unrecoveredRead 0 .none))) ∧
    (s.lostIn c.slice n c.cap.slba c.cap.nlb = 0 → c.status = St.ok → s.waitsPun e = false →
      (s.directCws c.slice n c.cap.slba c.cap.nlb [] = [] ∨ ∃ k, s.directCws c.slice n c.cap.slba c.cap.nlb [] = [k] ∧ s.punMay 1 k = true ∧
        s.mem.reqs.any (·.cls == 1) = false) →
      (OnNs s e 0x02 c n → s.laneUnits c.slice n c.cap.slba c.cap.nlb false = [] → Completes (.read e) s (fun t =>
        (t.entry e).map (fun x => (x.st, x.status, x.out, x.rd)) = some (.completing, St.ok,
          .lbas ((s.content c.slice n c.cap.slba c.cap.nlb).map (wireLba n c.cap)), c.cap.nlb * lbaSize n.lbaf) ∧
        t = { s with eng := { s.eng with cct := t.eng.cct }, store := { s.store with buf := t.store.buf }, mem := { s.mem with punnets := t.mem.punnets }, upkeep := { s.upkeep with bands := t.upkeep.bands } })) ∧
      (OnNs s e 0x05 c n → c.dataHere n = true → s.laneUnits c.slice n c.cap.slba c.cap.nlb false = [] →
        Completes (.compare e) s (fun t =>
          (t.entry e).map (fun x => (x.st, x.status)) = some (.completing,
            if (s.content c.slice n c.cap.slba c.cap.nlb).map (wireLba n c.cap) =
              (List.range c.cap.nlb).map (fun i => wireLba n c.cap (hostLba n c.cap c.cap.data i)) then St.ok
            else St.compareFailure) ∧
          t = { s with eng := { s.eng with cct := t.eng.cct }, store := { s.store with buf := t.store.buf }, mem := { s.mem with punnets := t.mem.punnets }, upkeep := { s.upkeep with bands := t.upkeep.bands } })) ∧
      (OnNs s e 0x0C c n → s.laneUnits c.slice n c.cap.slba c.cap.nlb true = [] → Completes (.verify e) s (fun t =>
        (t.entry e).map (fun x => (x.st, x.status)) = some (.completing, St.ok) ∧
        t = { s with eng := { s.eng with cct := t.eng.cct }, store := { s.store with buf := t.store.buf }, mem := { s.mem with punnets := t.mem.punnets }, upkeep := { s.upkeep with bands := t.upkeep.bands } }))) ∧
    (∀ sl ns mu, s.entryAt sl ns mu = {} →
      s.unitContent sl ns mu = List.replicate (s.unitLbas (s.lbafOf sl ns)) (zeroLba (s.lbafOf sl ns))) ∧
    (OnNs s e 0x08 c n → s.journalHolds = false →
      exec (.writeZeroes e) s = .next (s.deallocRanges c n [(c.cap.slba, c.cap.nlb)])) ∧
    (OnNs s e 0x09 c n → (dsmDealloc c.cap = false → exec (.datasetManagement e) s = .next (s.finish e St.ok 0 .none)) ∧
      (dsmDealloc c.cap = true → c.dataHere n = true → State.rangesIn n c.cap = true → s.journalHolds = false →
        exec (.datasetManagement e) s = .next (s.deallocRanges c n c.cap.dsmRanges))) ∧
    (∀ (sl i : Nat) (q : Word) (a k mu : Nat), (s.deallocRun sl n i q (a, k)).entryAt sl n.nsid mu =
      if a ≤ mu ∧ mu < a + k then {} else s.entryAt sl n.nsid mu) ∧
    (OnNs s e 0x19 c n → 32 ≤ c.cap.data.length → State.sizeStatus n c.cap = St.ok → State.rangesIn n c.cap = true →
      s.lostIn c.slice n c.cap.copySrc.1 c.cap.copySrc.2 = 0 →
      s.laneUnits c.slice n c.cap.copySrc.1 c.cap.copySrc.2 false = [] → s.waitsPun e = false →
      (s.directCws c.slice n c.cap.copySrc.1 c.cap.copySrc.2 [] = [] ∨ ∃ k, s.directCws c.slice n c.cap.copySrc.1 c.cap.copySrc.2 [] = [k] ∧
        s.punMay 1 k = true ∧ s.mem.reqs.any (·.cls == 1) = false) → Completes (.copy e) s (fun t =>
        (t.entry e).map (fun x => (x.st, x.step)) = some (.dispatched, 3) ∧
        t = { s with eng := { s.eng with cct := t.eng.cct }, store := { s.store with buf := t.store.buf }, mem := { s.mem with punnets := t.mem.punnets }, upkeep := { s.upkeep with bands := t.upkeep.bands } })) ∧
    (∀ mu, OnEntry s e 0x19 true c → s.nsOf c.slice c.cap.nsid = some n → c.step = 3 → c.status = St.ok → 32 ≤ c.cap.data.length →
      n.pi = 0 → s.unitsOf n c.cap.slba c.cap.copySrc.2 = [mu] →
      (s.content c.slice n c.cap.copySrc.1 c.cap.copySrc.2).length = c.cap.copySrc.2 →
      s.punMay 3 (ceilDiv (16 + s.origLen (s.lbafOf c.slice n.nsid)) 4096) = true → s.mem.reqs.any (·.cls == 3) = false →
      (∀ j ∈ s.store.jobs, j.id ≠ s.store.nextJob) → Completes (.copy e) s (fun t =>
        ∃ j : UnitJob, t.store.jobs = s.store.jobs ++ [j] ∧ j.id = s.store.nextJob ∧ j.entry = some e ∧ j.slice = c.slice ∧
        j.nsid = n.nsid ∧ j.mu = mu ∧ j.stage = 0 ∧ j.reading = false ∧ j.wrote = s.offsIn n c.cap.slba c.cap.copySrc.2 mu ∧
        j.orig = j.wrote.map (fun i =>
          (s.content c.slice n c.cap.copySrc.1 c.cap.copySrc.2).getD (mu * s.unitLbas n.lbaf + i - c.cap.slba) {}) ∧
        j.lane = s.laneFor ∧
        (t.entry e).map (fun x => (x.step, x.left, x.wr)) = some (1, 1, c.cap.copySrc.2 * lbaSize n.lbaf) ∧
        t = { s with eng := { s.eng with cct := t.eng.cct }, store := { s.store with jobs := t.store.jobs, nextJob := s.store.nextJob + 1 }, mem := { s.mem with punnets := t.mem.punnets } }))

/-- From a reservation whose holder is registered, Register, Acquire and Release leave one whose holder is registered. An Acquire or
Release under another key than the host registered fails and changes nothing. A first registration adds the host's key; an
Acquire of a free reservation makes the host its holder with the type asked for. A reservation command of an I/O entry with its
data answers the status so found, and takes the reservation so found when it is Successful and nothing is to be notified or
aborted. Reservation Report answers the extended structure. (R118, R120, R156) -/
def Obligations.ReservationsFollowTheirHolders : Prop :=
  (∀ (c : Capsule) (h : BitVec 128) (r : Resv), (∀ x, r.holder = some x → (r.keyOf x).isSome = true) →
      (∀ x, (resvRegister c h r).2.1.holder = some x → ((resvRegister c h r).2.1.keyOf x).isSome = true) ∧
      (∀ x, (resvAcquire c h r).2.1.holder = some x → ((resvAcquire c h r).2.1.keyOf x).isSome = true) ∧
      (∀ x, (resvRelease c h r).2.1.holder = some x → ((resvRelease c h r).2.1.keyOf x).isSome = true)) ∧
    (∀ (c : Capsule) (h : BitVec 128) (r : Resv), r.keyOf h ≠ some (crkey c) →
      (resvAcquire c h r).1 ≠ St.ok ∧ (resvAcquire c h r).2.1 = r ∧ (resvRelease c h r).1 ≠ St.ok ∧ (resvRelease c h r).2.1 = r) ∧
    (∀ (c : Capsule) (h : BitVec 128) (r : Resv), r.keyOf h = none → dwBits c.dw10 2 0 = 0 → dwBits c.dw10 31 30 ≠ 1 →
      (resvRegister c h r).1 = St.ok ∧ (resvRegister c h r).2.1.keyOf h = some (nrkey c) ∧
      (resvRegister c h r).2.1.gen = r.gen + 1) ∧
    (∀ (c : Capsule) (h : BitVec 128) (r : Resv), r.keyOf h = some (crkey c) → r.rtype = 0 → dwBits c.dw10 2 0 = 0 →
      c.dw10.getLsbD 3 = false → 1 ≤ dwBits c.dw10 15 8 → dwBits c.dw10 15 8 ≤ 6 →
      resvAcquire c h r = (St.ok, { r with holder := some h, rtype := dwBits c.dw10 15 8 }, [], [])) ∧
    (∀ (s : State) (e : Nat) (c : Cct) (k : Ctrl) (n : Ns), s.ctrl c.cntl = some k → s.nsOf c.slice c.cap.nsid = some n →
      (∀ p ∈ ([(0x0D, 16, Instr.reservationRegister e, resvRegister c.cap k.hostId n.resv),
               (0x11, 16, Instr.reservationAcquire e, resvAcquire c.cap k.hostId n.resv),
               (0x15, 8, Instr.reservationRelease e, resvRelease c.cap k.hostId n.resv)] : List (Nat × Nat × Instr × ResvOut)),
        OnEntry s e p.1 true c → p.2.1 ≤ c.cap.data.length →
        (p.2.2.2.1 ≠ St.ok → exec p.2.2.1 s = .next (s.finish e p.2.2.2.1 0 .none)) ∧
        (p.2.2.2.1 = St.ok → p.2.2.2.2.2.1 = [] → p.2.2.2.2.2.2 = [] → exec p.2.2.1 s =
          .next ((if p.2.2.2.2.1 = n.resv then s else s.putResv c.slice n p.2.2.2.2.1).finish e St.ok 0 .none))) ∧
      (OnEntry s e 0x0E true c → c.step = 0 → c.cap.dw11.getLsbD 0 = true →
        exec (.reservationReport e) s =
          .next (s.finish e St.ok 0 (s.resvReport c.slice n (4 * (c.cap.dw10.toNat + 1))))))

/-- On a dispatched admin entry of a controller: Get Log Page with RAE set answers the page from its offset, the slice page as it
stood at the command's admission, an unknown page Invalid Log Page; Identify answers its structure; a feature that was set reads
back its value; an Abort of an open entry closes it aborted and answers 0, of a committed or unknown one answers 1; the ninth
event request is refused and an earlier one waits; Keep Alive restarts the controller's time, on the ring also the peer's.
(R106, R107, R108, R119, R120, R121, R122, R433, R560, R589) -/
def Obligations.AdminCommandsAnswerAndSet : Prop :=
  ∀ (s : State) (e : Nat) (c : Cct) (k : Ctrl), s.ctrl c.cntl = some k →
    (OnEntry s e 0x02 false c →
      ((logPages k).contains (lidOf c.cap) = false → exec (.getLogPage e) s = .next (s.finish e St.invalidLogPage 0 .none)) ∧
      (∀ len f, (logPages k).contains (lidOf c.cap) = true → lidOf c.cap ≠ 0xC3 → raeOf c.cap = true →
        (if lidOf c.cap = 0xC1 then c.page else s.pageFor k (lidOf c.cap) (lspOf c.cap) (lsiOf c.cap)) = some (len, f) → logOff c.cap ≤ len →
        exec (.getLogPage e) s = .next (s.finish e St.ok 0 (.page (logOff c.cap) (logBytes c.cap) f)))) ∧
    (OnEntry s e 0x06 false c → dwBits c.cap.dw11 31 24 = 0 → exec (.identify e) s = .next (match s.identify_ k c.cap with
      | none => s.finish e St.invalidField 0 .none
      | some f => s.finish e St.ok 0 (.page 0 4096 f))) ∧
    (OnEntry s e 0x08 false c → s.before c.cntl 0x08 e < 4 →
      (s.abortTarget c.cntl c.cap = none →
        exec (.abort e) s = .next ((s.bump Reg.CE_CNT_ABORT_NOT 1).finish e St.ok 1 .none)) ∧
      (∀ x, s.abortTarget c.cntl c.cap = some x → x.gate = .open → exec (.abort e) s = .next
        ((((s.modEntry x.idx (fun y => { y with abortReq := true })).post { x with abortReq := true } St.abortRequested 0).bump
          Reg.CE_CNT_ABORT_DONE 1).finish e St.ok 0 .none)) ∧
      (∀ x, s.abortTarget c.cntl c.cap = some x → x.gate ≠ .open → exec (.abort e) s = .next
        (((s.modEntry x.idx (fun y => { y with abortReq := true })).bump Reg.CE_CNT_ABORT_NOT 1).finish e St.ok 1 .none))) ∧
    (OnEntry s e 0x09 false c →
      [0x01, 0x02, 0x04, 0x07, 0x0B, 0x0C, 0x0F, 0x81, 0x82, 0x83, 0xC0].contains (dwBits c.cap.dw10 7 0) = true →
      (c.cap.dw10.getLsbD 31 = true → exec (.setFeatures e) s = .next (s.finish e St.notSaveable 0 .none).smartCheck) ∧
      (c.cap.dw10.getLsbD 31 = false → featBytes (dwBits c.cap.dw10 7 0) ≤ c.cap.data.length → exec (.setFeatures e) s =
        .next ((s.setFeature k c.cap).2.2.finish e (s.setFeature k c.cap).1 (s.setFeature k c.cap).2.1 .none).smartCheck)) ∧
    (∀ (d g : Capsule) (fid : Nat) (j : Ctrl), fid ∈ [0x01, 0x02, 0x0B, 0x0F, 0xC0] → dwBits d.dw10 7 0 = fid →
      dwBits g.dw10 7 0 = fid → k.id = c.cntl → (s.setFeature k d).1 = St.ok → (s.setFeature k d).2.2.ctrl k.id = some j →
      (s.setFeature k d).2.2.getFeature j g false = some (if fid = 0x01 then dwBits d.dw11 2 0 else if fid = 0x02 then dwBits d.dw11 4 0
        else if fid = 0x0F then (katoOf d.dw11.toNat).getD 0 else d.dw11.toNat, [])) ∧
    (OnEntry s e 0x0A false c → dwBits c.cap.dw10 10 8 = 0 → ∀ v d, s.getFeature k c.cap false = some (v, d) →
      exec (.getFeatures e) s = .next (s.finish e St.ok (BitVec.ofNat 32 v) (if d.isEmpty then .none else .bytes d))) ∧
    (OnEntry s e 0x0C false c →
      (8 ≤ k.aers.length → exec (.asynchronousEventRequest e) s = .next (s.finish e St.aerLimit 0 .none)) ∧
      (k.aers.length < 8 → k.pendingN = [] → Completes (.asynchronousEventRequest e) s (fun t =>
        (t.entry e).map (fun x => (x.st, x.waitsOwn)) = some (.heldResource, true) ∧ (t.ctrl k.id).map (·.aers) = some (k.aers ++ [e]) ∧
        t = { s with eng := { s.eng with cct := t.eng.cct, ctrls := t.eng.ctrls } }))) ∧
    (OnEntry s e 0x18 false c →
      (k.ring = none → exec (.keepAlive e) s =
        .next ((s.modCtrl c.cntl (fun k => { k with kaAt := s.seed.now })).finish e St.ok 0 .none)) ∧
      (∀ nb m, k.ring = some nb → s.nb nb = some m → Completes (.keepAlive e) s (fun t =>
        t.nb nb = some { m with heardT := s.seed.now } ∧ (t.ctrl c.cntl).map (·.kaAt) = some s.seed.now)))

/-- A create that is possible enters the namespace under the lowest free number with its size, format and protection and answers the
number; a delete takes it away with its entries in the lost list. An attachment of controllers of the slice joins them, a
detachment takes them away. Format of one namespace gives it its format and the LBAs its bytes make. A cryptographic Format or a
Sanitize draws a new key from the generator and marks the slice as erasing; the Format waits, the Sanitize answers at once. When
the pass ends, or the last band that held an extent of the slice is erased, the mark goes, with event 0x060B. (R119, R125, R127,
R153, R154, R174) -/
def Obligations.NamespacesAreMadeAttachedAndErased : Prop :=
  ∀ (s : State) (e : Nat) (c : Cct), Safe s → Shape s →
    (∀ k id, OnEntry s e 0x0D false c → s.ctrl c.cntl = some k → dwBits c.cap.dw10 3 0 = 0 → 4096 ≤ c.cap.data.length →
      dwBits c.cap.dw11 31 24 = 0 → s.nsCreateStatus k c.cap.data = (St.ok, id) → ∃ u : State,
      exec (.namespaceManagement e) s = .next (u.finish e St.ok (BitVec.ofNat 32 id) .none).smartCheck ∧
      s.nsOf k.slice id = none ∧ u.journal.gen = s.journal.gen + 1 ∧
      u.nsOf k.slice id = some { nsid := id, nsze := fieldAt c.cap.data 0 8, lbaf := fieldAt c.cap.data 26 1 % 16, pi := fieldAt c.cap.data 29 1 % 8 }) ∧
    (∀ k n, OnEntry s e 0x0D false c → s.ctrl c.cntl = some k → dwBits c.cap.dw10 3 0 = 1 → s.nsOf k.slice c.cap.nsid = some n →
      ∃ u : State, exec (.namespaceManagement e) s = .next (u.finish e St.ok 0 .none).smartCheck ∧
      u.nsOf k.slice c.cap.nsid = none ∧
      (∀ r ∈ u.store.lost, ¬ (r.slice = k.slice ∧ r.nsid = c.cap.nsid))) ∧
    (∀ n, OnEntry s e 0x15 false c → s.nsOf c.slice c.cap.nsid = some n → 4096 ≤ c.cap.data.length →
      (ctrlListOf c.cap.data).length ≤ 2047 →
      (∀ i ∈ ctrlListOf c.cap.data, ∃ k, s.ctrl i = some k ∧ k.isTenant = true ∧ k.slice = c.slice) →
      (dwBits c.cap.dw10 3 0 = 0 → (∀ i ∈ ctrlListOf c.cap.data, i ∉ n.attached) → ∃ u : State,
        exec (.namespaceAttachment e) s = .next (u.finish e St.ok 0 .none) ∧
        (u.nsOf c.slice c.cap.nsid).map (·.attached) = some (n.attached ++ (ctrlListOf c.cap.data).dedup)) ∧
      (dwBits c.cap.dw10 3 0 = 1 → (∀ i ∈ ctrlListOf c.cap.data, i ∈ n.attached) → ∃ u : State,
        exec (.namespaceAttachment e) s = .next (u.finish e St.ok 0 .none) ∧
        (u.nsOf c.slice c.cap.nsid).map (·.attached) =
          some (n.attached.filter (fun i => !(ctrlListOf c.cap.data).contains i)))) ∧
    (∀ (x : SliceS) (n : Ns), OnEntry s e 0x80 false c → s.slice c.slice = some x → c.cap.nsid ≠ 0xFFFFFFFF →
      x.nss.filter (fun n => n.nsid == c.cap.nsid) = [n] → dwBits c.cap.dw10 3 0 ≤ 1 → dwBits c.cap.dw10 7 5 = 0 →
      dwBits c.cap.dw10 11 9 = 0 → ∃ u : State, exec (.formatNvm e) s = .next (u.finish e St.ok 0 .none).smartCheck ∧
      (u.nsOf c.slice c.cap.nsid).map (fun m => (m.lbaf, m.pi, m.nsze)) =
        some (dwBits c.cap.dw10 3 0, 0, n.nsze * lbaSize n.lbaf / lbaSize (dwBits c.cap.dw10 3 0))) ∧
    (∀ x : SliceS, OnEntry s e 0x80 false c → s.slice c.slice = some x → c.cap.nsid = 0xFFFFFFFF → dwBits c.cap.dw10 3 0 ≤ 1 →
      dwBits c.cap.dw10 7 5 = 0 → dwBits c.cap.dw10 11 9 = 2 → ∃ u : State, exec (.formatNvm e) s = .next u.smartCheck ∧
      (u.slice c.slice).map (fun y => (y.key, y.erase)) =
        some ((Config.drbg (drawKey 64 (s.slices.keyGen + 1))).toNat, some { sanitize := false, block := false, waiting := some e })) ∧
    (∀ x : SliceS, OnEntry s e 0x84 false c → s.slice c.slice = some x → x.erase = none →
      (dwBits c.cap.dw10 2 0 = 2 ∨ dwBits c.cap.dw10 2 0 = 4) → ∃ u : State,
      exec (.sanitize e) s = .next (u.finish e St.ok 0 .none).smartCheck ∧
      (u.slice c.slice).map (fun y => (y.key, y.erase.map (fun j => (j.sanitize, j.block, j.waiting)), y.sanStat)) =
        some ((Config.drbg (drawKey 64 (s.slices.keyGen + 1))).toNat, some (true, dwBits c.cap.dw10 2 0 == 2, none), 2)) ∧
    (∀ (sl ms : Nat) (x : SliceS) (j : EraseJob), s.slice sl = some x → x.erase = some j →
      (j.block = false → Completes (.keyEraseCompleted sl ms) s (fun t => (t.slice sl).map (·.erase) = some none ∧
        (j.sanitize = true → (t.slice sl).map (·.sanStat) = some 1) ∧ (t.sticky 6).getLsbD 0x0B = true)) ∧
      (j.block = true → (∀ n ∈ j.bands, s.band n = none) → (∀ p ∈ s.store.placed, p.slice ≠ sl) → Completes (.sanitizeComplete sl ms) s (fun t =>
        (t.slice sl).map (fun y => (y.erase, y.sanStat)) = some (none, 1) ∧ (t.sticky 6).getLsbD 0x0B = true)))

/-- A piece that is not refused counts into the staging slot, and the last makes the bundle complete (STATE 2), with a copy on each
NOR that took every piece; a NOR that failed one holds none and event 0x08 says so, and a power loss during the write posts
nothing; a refused one sets the reason and changes no slot, but the offer of the confirmed bundle ends and its pieces go. A
commit moves STATE to 3, or to 4 for a later activation; with CA 3 and settings that are read it activates the staging slot on
probation. A confirmation makes the running slot the confirmed one, burns the anti-rollback fuses up to its value and ends
probation; a revert goes back to the confirmed slot. The end of probation confirms only with AUTO_CONFIRM and without a fault. A
forwarding starts, continues, waits or ends as the peer answers. (R517, R520, R521, R522, R523, R524, R527, R528, R530, R533,
R534) -/
def Obligations.FirmwareIsStagedActivatedAndConfirmed : Prop :=
  ∀ s : State, Safe s →
    (∀ (e : Nat) (c : Cct) (w : NorWrite), OnEntry s e 0x11 false c → 4 * (c.cap.dw10.toNat + 1) ≤ c.cap.data.length →
      (∀ r, s.pieceReason c = some r → r ≠ 11 → exec (.firmwareImageDownload e w) s =
        .next (({ s with fw := { s.fw with lastReason := r } } : State).finish e St.invalidField (BitVec.ofNat 32 r) .none)) ∧
      (s.pieceReason c = some 11 → ∃ u : State,
        exec (.firmwareImageDownload e w) s = .next (u.finish e St.invalidField 11 .none) ∧
        u.fw.act = { s.fw.act with state := 0 } ∧ u.fw.received = 0 ∧ u.fw.pieces = [] ∧ u.fw.lastReason = 11) ∧
      (s.pieceReason c = none → ∃ u : State,
        exec (.firmwareImageDownload e w) s = .next (if w = .cut then u else u.finish e St.ok 0 .none) ∧
        u.fw.received = (if c.cap.dw11 = 0 then 0 else s.fw.received) + 4 * (c.cap.dw10.toNat + 1) ∧
        (c.cap.dw11 = 0 → u.fw.act.state = if u.fw.received = bundleLen (s.piecesWith c) then 2 else 1) ∧
        (u.fw.received = bundleLen (s.piecesWith c) → u.fw.act.state = 2 ∧
          (s.nor.slots.length = 4 → c.cap.dw11 = 0 ∨ s.fw.badNor = [] →
            w = .done ∨ s.fw.act.confirmed = 1 ∨ s.fw.act.confirmed = 2 → u.slotBundle s.stagingSlot = some (readBundle (s.piecesWith c)))) ∧
        (u.fw.received ≠ bundleLen (s.piecesWith c) → u.fw.pieces = s.piecesWith c) ∧
        (∀ n a st, w = .failed n a st → (u.sticky 15).getLsbD 8 = true ∧ (u.fw.received ≠ bundleLen (s.piecesWith c) → n ∈ u.fw.badNor) ∧
          (u.fw.received = bundleLen (s.piecesWith c) → n < 2 → s.nor.slots.length = 4 →
            u.nor.slots.getD (if n = 0 then s.stagingSlot - 1 else s.stagingSlot + 1) none = none)) ∧
        u.fw.act.confirmed = s.fw.act.confirmed)) ∧
    (∀ (e : Nat) (c : Cct) (ok : Bool), OnEntry s e 0x10 false c → s.commitReason c = none →
      (commitCa c.cap ≤ 2 → s.fwSource c = 0 → ∃ u : State, exec (.firmwareCommit e ok) s = .next (u.finish e St.ok 0 .none) ∧
        u.fw.act.state = (if commitCa c.cap = 0 then 3 else 4) ∧ (u.sticky 16).getLsbD 1 = true) ∧
      (∀ b, commitCa c.cap = 3 → ok = true → s.slotBundle s.stagingSlot = some b → s.verifyFw b = none → b.abi = s.fw.running.abi →
        ∃ u : State, exec (.firmwareCommit e ok) s = .next (u.finish e St.ok 0 .none) ∧
        u.fw.activeSlot = s.stagingSlot ∧ u.fw.running = b ∧ u.fw.probEnd = some (s.opMs + s.probMs) ∧ u.fw.act.state = 5 ∧
        u.fw.act.pinnedGen = s.journal.gen)) ∧
    (∀ (e : Nat) (c : Cct), OnEntry s e 0xD2 false c → onlyDws c.cap 1 0 0 0 0 0 = true → s.fw.probEnd.isSome = true →
      (c.cap.dw10.getLsbD 0 = false → ∃ u : State, exec (.firmwareConfirm e) s = .next (u.finish e St.ok 0 .none) ∧
        u.fw.act.confirmed = s.fw.activeSlot ∧ u.fw.act.state = 0 ∧ u.fw.act.pinnedGen = 0 ∧ u.fw.probEnd = none ∧
        u.fuses.antiRollback = max s.fuses.antiRollback s.fw.running.secver) ∧
      (c.cap.dw10.getLsbD 0 = true → ∃ u : State, exec (.firmwareConfirm e) s = .next (u.finish e St.ok 0 .none) ∧
        u.fw.activeSlot = s.fw.act.confirmed ∧ u.fw.probEnd = none ∧ u.fw.act.state = 0)) ∧
    (∀ p, s.fw.probEnd = some p → p ≤ s.opMs → Completes .probationExpiry s (fun t => t.fw.probEnd = none ∧ t.fw.act.state = 0 ∧
      (s.fld Reg.FW_CFG 3 3 = 1 → s.fw.probFault = false → t.fw.act.confirmed = s.fw.activeSlot) ∧
      (s.fld Reg.FW_CFG 3 3 = 0 ∨ s.fw.probFault = true → t.fw.activeSlot = s.fw.act.confirmed))) ∧
    (∀ b, s.mayForward = some b →
      (s.fw.dnState = 0 → Completes .firmwareForward s (fun t => t.fw.dnState = 1 ∧ t.fw.fwdOffset = 0 ∧
        t.fabric.sent = s.fabric.sent ++ [.fwPiece 0 (min 1048576 b.totalLen)])) ∧
      (s.fw.dnState = 2 → max 1 (s.fld Reg.FW_RING 31 16) * 1000000 ≤ s.since s.fw.fwdRetryAt →
        Completes .forwardRetry s (fun t => t.fw.dnState = 1 ∧ t.fw.fwdOffset = 0 ∧
          t.fabric.sent = s.fabric.sent ++ [.fwPiece 0 (min 1048576 b.totalLen)]))) ∧
    (s.fw.dnState = 1 →
      exec (.forwardCompletionReceived (some 4)) s = .next { s with fw := { s.fw with dnState := 2, fwdRetryAt := s.seed.now } } ∧
      exec (.forwardCompletionReceived (some 11)) s = .next { s with fw := { s.fw with dnState := 3, fwdCommit := false } } ∧
      (∀ b, s.forwardBundle = some b →
        (s.fw.fwdCommit = false → s.fw.fwdOffset + 1048576 < b.totalLen → Completes (.forwardCompletionReceived none) s
          (fun t => t.fw.fwdOffset = s.fw.fwdOffset + 1048576 ∧ t.fw.dnState = 1)) ∧
        (s.fw.fwdCommit = false → b.totalLen ≤ s.fw.fwdOffset + 1048576 → exec (.forwardCompletionReceived none) s =
          .next (({ s with fw := { s.fw with fwdCommit := true } } : State).send .fwCommit)) ∧
        (s.fw.fwdCommit = true → Completes (.forwardCompletionReceived none) s (fun t => t.fw.dnState = 3))))

/-- On a dispatched vendor command: a create that the pools allow makes an active slice with its descriptor and a key drawn for it,
answers its number, writes a settings generation and records 0x0601, and no other slice changes; a modify within the pools takes
the new descriptor, its QoS from the next refill; Slice Quiesce of an active slice holds it and waits, and is answered when the
last entry has closed; Resume of a quiesced or frozen slice makes it active; a delete takes the slice, its key slot and its lost
entries away; a freeze without a migration freezes, with one it waits, and commits at once where the ring is up; an unused slice
is not quiesced for Freeze and not savable for Save; Save opens a migration the checks allow and waits for the neighbour;
Restore makes a restoring slice or a replica. (R142, R143, R144, R146, R147, R148, R149, R151, R160, R163, R165, R166) -/
def Obligations.SlicesFollowTheirStates : Prop :=
  ∀ (s : State) (e : Nat) (c : Cct), Safe s →
    (∀ k, OnEntry s e 0xC4 false c → badDws c.cap 0x07FF0003 0 0 0 = false → sliceOf c.cap ≤ 1024 → dwBits c.cap.dw10 1 0 = 0 →
      1024 ≤ c.cap.data.length → descReserved c.cap.data = true → (descOf c.cap.data).rangesOk = true →
      s.nqnTaken (descOf c.cap.data).subnqn = false → s.slices.list.any (·.num == sliceOf c.cap) = false → s.array.reshape = none →
      s.shortBits (descOf c.cap.data).takes = 0 → (if sliceOf c.cap = 0 then s.lowSlice else some (sliceOf c.cap)) = some k →
      ∃ u : State, exec (.sliceCreate e) s = .next (u.finish e St.ok (BitVec.ofNat 32 k) .none) ∧ s.slice k = none ∧
      (u.slice k).map (fun x => (x.state, x.desc, x.key)) = 
        some (.active, descOf c.cap.data, (Config.drbg (drawKey 64 (s.slices.keyGen + 1))).toNat) ∧
      u.journal.gen = s.journal.gen + 1 ∧ (u.sticky 6).getLsbD 1 = true ∧
      (∀ j, j ≠ k → (u.slice j).map (fun x => (x.state, x.desc, x.key)) = (s.slice j).map (fun x => (x.state, x.desc, x.key)))) ∧
    (∀ x d, OnEntry s e 0xC4 false c → badDws c.cap 0x07FF0003 0 0 0 = false → sliceOf c.cap ≤ 1024 → dwBits c.cap.dw10 1 0 = 1 →
      1024 ≤ c.cap.data.length → s.slice (sliceOf c.cap) = some x → descReserved c.cap.data = true →
      d = (descOf c.cap.data).keep x.desc → d.rangesOk = true → (x.state = .active ∨ x.state = .quiesced) →
      s.usedPairs (sliceOf c.cap) ≤ d.qpairs → s.ctrlCount (sliceOf c.cap) ≤ d.ctrls → x.usedNs ≤ d.ns →
      x.usedBytes ≤ d.capMib * 1048576 → d.replicated = x.desc.replicated → s.array.reshape = none →
      s.shortBits ((d.takes.zip x.desc.takes).map (fun y => y.1 - y.2)) = 0 → ∃ u : State,
      exec (.sliceCreate e) s = .next (u.finish e St.ok (BitVec.ofNat 32 (sliceOf c.cap)) .none) ∧
      (u.slice (sliceOf c.cap)).map (fun y => (y.state, y.desc, y.qosOld)) = some (x.state, d, some x.qosNow.qosFields) ∧
      u.journal.gen = s.journal.gen + 1 ∧ (u.sticky 6).getLsbD 1 = true) ∧
    (∀ x, OnEntry s e 0xC6 false c → s.slice (sliceOf c.cap) = some x → badDws c.cap 0x07FF0000 1 0 0 = false → x.state = .active →
      c.cap.dw11.getLsbD 0 = false → Completes (.sliceQuiesce e) s (fun t =>
        (t.slice (sliceOf c.cap)).map (fun y => (y.state, y.quiesce)) = some (.quiescing, x.quiesce ++ [e]) ∧
        (t.entry e).map (·.st) = some .heldResource ∧ t.journal.gen = s.journal.gen + 1 ∧
        t = { s with eng := { s.eng with cct := t.eng.cct }, slices := t.slices, journal := t.journal, fw := t.fw })) ∧
    (∀ n us i x, s.slice n = some x → x.state = .quiescing → s.eng.cct.any (fun c => c.slice == n && c.origin == 0) = false →
      x.quiesce = [i] → exec (.sliceQuiesced n us) s = .next
        ((((s.modSlice n (fun x => { x with state := .quiesced, quiesce := [] })).writeSettings).capture 0x0603
          [n, x.quiesceAborted, us]).answerEntry (some i) St.ok 0)) ∧
    (∀ x, OnEntry s e 0xC7 false c → s.slice (sliceOf c.cap) = some x → badDws c.cap 0x07FF0000 3 0 0 = false →
      resumeOk x.state (c.cap.dw11.getLsbD 0) (c.cap.dw11.getLsbD 1) = true → x.migState ≠ 4 → ∃ u : State,
      exec (.sliceResume e) s = .next (u.finish e St.ok 0 .none) ∧ u.journal.gen = s.journal.gen + 1 ∧
      (u.slice (sliceOf c.cap)).map (·.state) = some .active ∧
      (x.state = .replica → (u.slice (sliceOf c.cap)).map (fun y => (y.desc.replicated, y.repl)) = some (false, 0))) ∧
    (∀ x, OnEntry s e 0xC5 false c → s.slice (sliceOf c.cap) = some x → badDws c.cap 0x07FF0000 1 0 0 = false →
      (x.state = .active ∨ x.state = .quiescing → exec (.sliceDelete e) s = .next (s.finish e St.sliceNotQuiesced 0 .none)) ∧
      (x.state ≠ .active → x.state ≠ .quiescing → x.migState ≠ 1 → x.migState ≠ 4 → c.cap.dw11.getLsbD 0 = false → Completes (.sliceDelete e) s (fun t =>
        t.slice (sliceOf c.cap) = none ∧ (∀ r ∈ t.store.lost, r.slice ≠ sliceOf c.cap) ∧
        (∀ p ∈ t.slices.keySlots, p.1 ≠ sliceOf c.cap) ∧ (t.sticky 6).getLsbD 2 = true))) ∧
    (∀ x, OnEntry s e 0xC8 false c → s.slice (sliceOf c.cap) = some x → badDws c.cap 0x07FF0000 0 0 0 = false →
      x.state = .quiesced → x.erase = none →
      (x.mig = none → ∃ u : State, exec (.sliceFreeze e) s = .next (u.finish e St.ok 0 .none) ∧
        (u.slice (sliceOf c.cap)).map (·.state) = some .frozen) ∧
      (∀ m, x.mig = some m → x.migState ≠ 1 → m.committed = false →
        (∃ u : State, exec (.sliceFreeze e) s = .next ((u.waitCmd c).cutOver (sliceOf c.cap))) ∧
        Completes (.sliceFreeze e) s (fun t =>
          (t.slice (sliceOf c.cap)).map (fun y => (y.state, y.migState, y.mig.map (fun m => (m.committed, m.waiting)))) =
            some (.frozen, 4, some (s.ringUp m.nb, some e)) ∧
          (s.ringUp m.nb = true → .migrateCommit x.num ∈ t.fabric.sent)))) ∧
    (OnEntry s e 0xC8 false c → s.slice (sliceOf c.cap) = none → badDws c.cap 0x07FF0000 0 0 0 = false → 1 ≤ sliceOf c.cap →
      sliceOf c.cap ≤ 1024 → exec (.sliceFreeze e) s = .next (s.finish e St.sliceNotQuiesced 0 .none)) ∧
    (OnEntry s e 0xC9 false c → s.slice (sliceOf c.cap) = none → badDws c.cap 0x07FF0003 1 0xFFFFFFFF 0xFFFFFFFF = false →
      1 ≤ sliceOf c.cap → sliceOf c.cap ≤ 1024 → dwBits c.cap.dw10 1 0 = 0 → s.ringUp (dwBits c.cap.dw11 0 0) = true →
      exec (.sliceSave e) s = .next (s.finish e St.invalidField 5 .none)) ∧
    (∀ x, OnEntry s e 0xC9 false c → s.slice (sliceOf c.cap) = some x → badDws c.cap 0x07FF0003 1 0xFFFFFFFF 0xFFFFFFFF = false →
      dwBits c.cap.dw10 1 0 = 0 → s.saveReason x (dwBits c.cap.dw11 0 0) = 0 → Completes (.sliceSave e) s (fun t =>
        (t.slice (sliceOf c.cap)).map (fun y => (y.migState, y.mig.map (fun m => (m.id, m.nb, m.converge, m.waiting)))) =
          some (1, some (c.cap.dw12.toNat, dwBits c.cap.dw11 0 0, c.cap.dw13.toNat, some e)) ∧
        t.fabric.sent = s.fabric.sent ++ [.migrateOpen (sliceOf c.cap) (dwBits c.cap.dw11 0 0) c.cap.dw12.toNat x.desc.subnqn] ∧
        (t.entry e).map (·.st) = some .heldResource)) ∧
    (OnEntry s e 0xCA false c → badDws c.cap 0x07FF0003 1 0xFFFFFFFF 0 = false → 1 ≤ sliceOf c.cap → sliceOf c.cap ≤ 1024 →
      dwBits c.cap.dw10 1 0 ≤ 1 → 1024 ≤ c.cap.data.length → descReserved c.cap.data = true → (descOf c.cap.data).rangesOk = true →
      s.nqnTaken (descOf c.cap.data).subnqn = false → s.slices.list.any (·.num == sliceOf c.cap) = false → s.array.reshape = none →
      s.shortBits (descOf c.cap.data).takes = 0 → ∃ u : State, exec (.sliceRestore e) s = .next (u.finish e St.ok 0 .none) ∧
      (u.slice (sliceOf c.cap)).map (fun x => (x.state, x.desc, x.peer, x.peerId)) =
        some (if dwBits c.cap.dw10 1 0 = 0 then .restoring else .replica, descOf c.cap.data, dwBits c.cap.dw11 0 0,
          c.cap.dw12.toNat) ∧ u.journal.gen = s.journal.gen + 1)

/-- Pairing sends what the replica needs and starts synchronising; a replica takes a change of its own source in a free entry of the
system reserve, applies what it can at once and acknowledges it, and stages an extent; an acknowledgement ends what was
outstanding; a unit the replica lost is marked; a repaired unit is lost no longer. An accepted migration begins its pre-copy,
one that finds no Restore or no room ends with its reason, a pass that leaves little converges it, data and commit are taken
from the migration's own source, the commit makes the destination active and the source moved, a cancellation empties the
destination. A stream chunk that follows and that the lane accepts is taken into the window, another is discarded and its number
reported; the sender restarts from it. (R155, R156, R158, R159, R161, R162, R163, R164, R165, R166, R373, R374) -/
def Obligations.PeersReplicateAndMigrate : Prop :=
  ∀ s : State, Safe s →
    (∀ n x, s.slice n = some x → x.isSource = true → x.repl = 0 → s.peerUp = true → Completes (.replicationPairing n) s (fun t =>
      ((t.slice n).map (fun y => (y.repl, y.keySend)) = some (2, false) ∨ (t.slice n).map (fun y => (y.repl, y.keySend)) = some (1, false)) ∧
      .pairing n x.desc.pairId x.desc.subnqn ∈ t.fabric.sent)) ∧
    (∀ n e r x, s.slice n = some x → x.isFrom r = true → s.store.flush = none → e < 131072 → s.entry e = none →
      (s.eng.cct.filter (fun c => c.origin != 0)).length < 3072 → (s.reg Reg.CE_CNT_ADMIT).toNat < 0xFFFFFFFE →
      (x.state = .replica → x.detached = false →
        (∀ ns mu y, ∃ u : State, exec (.forwardedChangeReceived ⟨n, r⟩ ⟨e, .extent ns mu y⟩) s = .next u.smartCheck ∧
          (u.entry e).map (fun k => (k.st, k.origin, k.slice)) = some (.dispatched, 1, n) ∧
          u.store.jobs = s.store.jobs ++ [{ id := s.store.nextJob, entry := some e, slice := n, nsid := ns, mu := mu, peer := true, stage := 1, x := some y }] ∧ u.fabric.sent = s.fabric.sent) ∧
        (∀ ns nsze lbaf pi, ∃ u : State, exec (.forwardedChangeReceived ⟨n, r⟩ ⟨e, .nsCreate ns nsze lbaf pi⟩) s = .next u.smartCheck ∧
          u.nsOf n ns = some { nsid := ns, nsze := nsze, lbaf := lbaf, pi := pi } ∧ u.entry e = none ∧
          u.fabric.sent = s.fabric.sent ++ [.peerAck n])) ∧
      (x.state = .restoring →
        (∀ ns mu y, ∃ u : State, exec (.migrationDataReceived ⟨n, r⟩ ⟨e, .extent ns mu y⟩) s = .next u.smartCheck ∧
          (u.entry e).map (fun k => (k.st, k.origin, k.slice)) = some (.dispatched, 1, n) ∧
          u.store.jobs = s.store.jobs ++ [{ id := s.store.nextJob, entry := some e, slice := n, nsid := ns, mu := mu, peer := true, stage := 1, x := some y }] ∧ u.fabric.sent = s.fabric.sent) ∧
        (∀ l, ∃ u : State, exec (.migrationDataReceived ⟨n, r⟩ ⟨e, .totals l⟩) s = .next u.smartCheck ∧
          (u.slice n).map (fun y => (y.state, y.meter.totals)) = some (.restoring, l) ∧ u.entry e = none ∧
          u.fabric.sent = s.fabric.sent ++ [.peerAck n]))) ∧
    (∀ n e r c x, s.slice n = some x → x.isFrom r = false → exec (.forwardedChangeReceived ⟨n, r⟩ ⟨e, c⟩) s = .next s ∧
      exec (.migrationDataReceived ⟨n, r⟩ ⟨e, c⟩) s = .next s ∧ exec (.migrationCommitReceived ⟨n, r⟩) s = .next s ∧
      exec (.migrationCancelReceived ⟨n, r⟩) s = .next s ∧ exec (.replicaDetachReceived ⟨n, r⟩) s = .next s) ∧
    (∀ n ns mu x r, s.slice n = some x → x.outstanding.find? (fun r => r.1 == ns && r.2.1 == mu) = some r → x.queued = [] →
      Completes (.replicaAck n ns mu) s (fun t => (t.slice n).map (·.outstanding) = some (x.outstanding.filter (· != r)))) ∧
    (∀ n ns mu x, s.slice n = some x → x.isSource = true → (x.repl = 3 ∨ x.repl = 4) →
      Completes (.lostUnitReport n ns mu) s (fun t => ∃ y, t.slice n = some y ∧ (ns, mu / 4096) ∈ y.resync)) ∧
    (∀ n ns mu x off, s.canRepair n ns mu = true → s.store.flush = none → s.lowBuf (extGran x) = some off → ∃ u : State,
      exec (.peerRepairComplete n ns mu x) s = .next ((((u.settle s.rebuildSet).gatherHost.wakeHeld).meterAdd n 15 1).capture 0x0609
        [n, ns, mu % 2 ^ 32, 1]).smartCheck ∧
      (u.entryAt n ns mu).loc = .buffered off ∧ (u.entryAt n ns mu).lost = false) ∧
    (∀ n r x, s.slice n = some x → x.isFrom r = true → x.state = .replica →
      exec (.replicaDetachReceived ⟨n, r⟩) s = .next (s.modSlice n (fun x => { x with detached := true }))) ∧
    (∀ n x m, s.slice n = some x → x.mig = some m → x.migState = 1 →
      Completes (.migrationAcceptReceived n (some true)) s (fun t =>
        (t.slice n).map (fun y => (y.migState, y.mig.map (fun m => (m.marked, m.waiting)))) = some (2, some ([], none))) ∧
      exec (.migrationAcceptReceived n none) s = .next (((s.heardOn m.nb true).modSlice n
        (fun x => { x with mig := none, migState := 0 })).answerEntry m.waiting St.invalidField 2) ∧
      exec (.migrationAcceptReceived n (some false)) s = .next ((((s.heardOn m.nb true).modSlice n
        (fun x => { x with mig := none, migState := 0 })).answerEntry m.waiting St.poolExhausted 0x100).capture 0x060C [n, 0x100])) ∧
    (∀ n x m, s.slice n = some x → x.mig = some m → m.committed = false → (x.migState = 2 ∨ x.migState = 3) →
      Completes (.precopyPassComplete n) s (fun t => (t.slice n).map (fun y => (y.migState, y.mig.map (fun m => (m.passes, m.marked)))) =
        some (if s.markedBytes m ≤ (if m.converge = 0 then 256 else m.converge) * 1048576 then 3 else x.migState,
          some (m.passes + 1, [])))) ∧
    (∀ n r x, s.slice n = some x → x.isFrom r = true → x.state = .restoring →
      Completes (.migrationCommitReceived ⟨n, r⟩) s (fun t =>
        (t.slice n).map (fun y => (y.state, y.meter.migrated)) = some (.active, true) ∧ (n, x.key) ∈ t.slices.keySlots ∧
        t.journal.gen = s.journal.gen + 1 ∧ .commitAck n ∈ t.fabric.sent) ∧
      Completes (.migrationCancelReceived ⟨n, r⟩) s (fun t => (t.slice n).map (fun y => (y.state, y.nss)) = some (.restoring, []))) ∧
    (∀ n ms x m, s.slice n = some x → x.mig = some m → m.committed = true → Completes (.migrationCommitAck n ms) s (fun t =>
      (t.slice n).map (fun y => (y.state, y.mig.isSome, y.migState)) = some (.moved, false, 0) ∧ (t.sticky 6).getLsbD 4 = true)) ∧
    (∀ id (c : Chunk) j, s.comp.jobs.find? (fun j => j.id == id && !j.sender) = some j → s.streamRuns false id = true →
      (∀ o, chunkOrig c (if c.dictReset then [] else j.window) = .ok o → (c.dictReset = true ∨ j.windowEmpty = false) →
        ((j.discard = none ∧ c.seq = j.seq) ∨ (j.discard = some c.seq ∧ c.dictReset = true)) →
        exec (.streamChunkReceived id c) s = .next (s.modStream id (fun j =>
          { j with seq := (c.seq + 1) % 65536, windowEmpty := false, window := windowOf (if c.dictReset then [] else j.window) o, discard := none }))) ∧
      (∀ o, chunkOrig c (if c.dictReset then [] else j.window) = .ok o → j.discard = none → c.seq ≠ j.seq →
        exec (.streamChunkReceived id c) s = .next
          ((s.modStream id (fun j => { j with discard := some c.seq })).send (.restartRequest id c.seq none))) ∧
      (∀ f, chunkOrig c (if c.dictReset then [] else j.window) = .error f → j.discard = none →
        exec (.streamChunkReceived id c) s = .next
          ((s.modStream id (fun j => { j with discard := some c.seq })).send (.restartRequest id c.seq (some f.code)))) ∧
      (∀ d, j.discard = some d → c.seq ≠ d → exec (.streamChunkReceived id c) s = .next s)) ∧
    (∀ id seq cause j, s.comp.jobs.find? (fun j => j.id == id && j.sender) = some j → s.comp.jobs.find? (·.id == id) = some j →
      s.streamRuns true id = true → Completes (.streamRestartRequest id seq cause) s (fun t =>
        t.comp.jobs.find? (·.id == id) = some { j with seq := seq, windowEmpty := true, window := [] } ∧
        t.fabric.sent = s.fabric.sent ++ [.streamRestart id seq] ∧ (t.sticky 11).getLsbD 6 = true))

/-- For a carrier k of sixteen. A read of a present carrier's sensor becomes its temperature, clears the substitute and the I2C
error, and opens or closes the gate by the program range and its hysteresis; the other carriers stay, and nothing else changes
but the two channels and what the capture of an event touches; of an absent carrier it changes nothing. A sensor not read for 1
s takes the highest temperature of the other carriers plus 5 °C, or, where there is none, a value the spec does not state, with
event 0x0D. A stretched clock marks the I2C error. A domain that is powered but not on is on afterwards, its channels
calibrated, no current die suspended, with event 0x0F. A quiet domain in L2 or L3 is gated; in another state none is. (R268,
R269, R289, R430, R584) -/
def Obligations.CarrierReadingsAndDomainsFollowTheirSensors : Prop :=
  ∀ s : State, Safe s → Shape s → ∀ k, k < 16 →
    (∀ x : Int, (s.carrier k).present = true → Completes (.carrierTempSample k x) s (fun t =>
      (t.carrier k).temp = x ∧ (t.carrier k).subst = false ∧ (t.carrier k).i2cErr = false ∧
      ((t.carrier k).gateClosed = true ↔
        if (s.carrier k).gateClosed = true then ¬((s.tgate k).1 + (s.tgate k).2.2 ≤ x ∧ x ≤ (s.tgate k).2.1 - (s.tgate k).2.2)
        else x < (s.tgate k).1 ∨ (s.tgate k).2.1 < x) ∧
      (∀ j, j ≠ k → t.carrier j = s.carrier j) ∧
      Aside ({ s with array := { s.array with carriers := t.array.carriers, chans := t.array.chans } } : State) t)) ∧
    (∀ x : Int, (s.carrier k).present = false → exec (.carrierTempSample k x) s = .next s) ∧
    ((s.carrier k).present = true → (s.carrier k).subst = false → Completes (.carrierSensorTimeout k) s (fun t =>
      (t.carrier k).subst = true ∧ (t.sticky 9).getLsbD 13 = true ∧
      (∀ j, s.hottestOther k = some j → (t.carrier k).temp = (s.carrier j).temp + 5 ∧ t.free = s.free) ∧
      (s.hottestOther k = none → (t.carrier k).temp = (Config.freeWord s.free).toInt ∧ t.free = s.free + 1))) ∧
    exec (.i2cStretchTimeout k) s = .next (s.modCarrier k (fun c =>
      { c with i2cErr := true, sensorBadAt := some (c.sensorBadAt.getD s.seed.now) })) ∧
    (∀ us, (s.carrier k).pwrOn = true → s.power.carDom.getD k .off ≠ .on → Completes (.carrierDomainWake k us) s (fun t =>
      t.power.carDom.getD k .off = .on ∧ (t.sticky 9).getLsbD 15 = true ∧
      (∀ i, i < 2 → (t.chan (2 * k + i)).zqAt = s.seed.now) ∧
      (∀ d ∈ t.array.dies, dieCar d.idx = k → d.old = false → d.suspended = 0))) ∧
    ((s.power.state = .l2 ∨ s.power.state = .l3) → s.power.carDom.getD k .off = .on →
      (∀ d ∈ s.array.dies, dieCar d.idx = k → d.old = false → d.queue = [] ∧ d.op = 0 ∧ d.suspended = 0) →
      (∀ b ∈ s.upkeep.bands, b.st = .erasing → ∀ m ∈ b.members, dieCar m.die ≠ k) →
      exec (.carrierDomainGate k) s = .next (s.setDom k .gated)) ∧
    (s.power.state ≠ .l2 → s.power.state ≠ .l3 → exec (.carrierDomainGate k) s = .next s)

/-- On a ready device: an inserted carrier whose EEPROM is accepted is seated and its ramp started; one that is not is refused with
its cause and event 0x0E; before ready only its presence is kept. Power good for 5 ms ends the ramp, and a carrier with a die
that passes takes its class; not good after 100 ms it is failed, its slot switched off, with event 0x03. A removed carrier is
absent; a member is lost with event 0x11, leaves MEMBERS, and the epoch rises. REBUILD_DELAY_MIN after a loss the rebuild no
longer waits. A Carrier Release that R343 refuses answers its status; a planned one leaves the carrier releasing or released, an
immediate one failed and no member, CANCEL online or degraded. A Carrier Admit leaves the carrier admitting or in the array.
(R315, R335, R337, R339, R340, R341, R342, R343, R463) -/
def Obligations.CarriersComeAndGo : Prop :=
  ∀ s : State, Safe s → Shape s → ∀ k, k < 16 →
    (∀ f : CarrierFacts, (s.carrier k).present = false →
      (s.glb.state = .ready → s.eepromCause k f.eeprom = none → Completes (.carrierInsert k f) s (fun t =>
        (t.carrier k).present = true ∧ (t.carrier k).facts = some f ∧ (t.carrier k).st = 1 ∧ (t.carrier k).rampAt = some s.seed.now)) ∧
      (s.glb.state = .ready → ∀ c, s.eepromCause k f.eeprom = some c → Completes (.carrierInsert k f) s (fun t =>
        (t.carrier k).st = 10 ∧ (t.carrier k).cause = c ∧ (t.sticky 10).getLsbD 14 = true)) ∧
      (s.glb.state ≠ .ready → exec (.carrierInsert k f) s = .next ((s.seat k f).seedWake 3))) ∧
    (∀ (f : CarrierFacts) (a m : Nat), (s.carrier k).facts = some f → (s.carrier k).rampAt = some a →
      (s.slot k).maxSince = some m → (s.carrier k).st = 1 → 5000 ≤ s.since m → s.fld Reg.CAR_CFG 0 0 = 0 →
      Completes (.carrierPowerGood k) s (fun t => (t.carrier k).rampAt = none ∧
        ((t.carrier k).st = (s.carrier k).class_ ∨ (t.carrier k).st = 10) ∧
        ((∃ x ∈ carrierDies k f, dieBad k f x = false ∧ dieCar x.1 = k) → (t.carrier k).st = (s.carrier k).class_))) ∧
    (∀ a, (s.carrier k).rampAt = some a → (s.carrier k).st = 1 → 100000 ≤ s.since a →
      Completes (.carrierPowerGoodTimeout k) s (fun t => (t.carrier k).st = 9 ∧ (t.carrier k).pwrOn = false ∧
        (t.sticky 14).getLsbD 3 = true)) ∧
    ((s.carrier k).present = true → Completes (.carrierRemove k) s (fun t =>
      (t.carrier k).present = false ∧ (t.carrier k).st = 0 ∧
      ((s.carrier k).st = 5 ∨ (s.carrier k).st = 6 ∨ (s.carrier k).st = 7 →
        (t.sticky 10).getLsbD 17 = true ∧ t.array.members.testBit k = false ∧ s.array.epoch < t.array.epoch))) ∧
    (∀ a, s.upkeep.delayed.find? (·.1 == k) = some (k, a) → s.fld Reg.STR_REBUILD_CFG 31 24 * 60000000 ≤ s.since a →
      Completes (.rebuildDelayExpiry k) s (fun t => (∀ p ∈ t.upkeep.delayed, p.1 ≠ k) ∧ (t.sticky 10).getLsbD 4 = true)) ∧
    (s.upkeep.delayed.find? (·.1 == k) = none → exec (.rebuildDelayExpiry k) s = .next s) ∧
    (∀ (e : Nat) (c : Cct), OnEntry s e 0xCC false c → onlyDws c.cap 0xF 0x3 0 0 0 0 = true → dwBits c.cap.dw10 3 0 = k →
      ¬((s.carrier k).st = 7 ∧ dwBits c.cap.dw11 1 0 = 0) →
      ((s.releaseStatus k (c.cap.dw11.getLsbD 0) (c.cap.dw11.getLsbD 1)).1 ≠ St.ok → exec (.carrierRelease e) s =
        .next (s.answer c (s.releaseStatus k (c.cap.dw11.getLsbD 0) (c.cap.dw11.getLsbD 1)).1
          (s.releaseStatus k (c.cap.dw11.getLsbD 0) (c.cap.dw11.getLsbD 1)).2).smartCheck) ∧
      ((s.releaseStatus k (c.cap.dw11.getLsbD 0) (c.cap.dw11.getLsbD 1)).1 = St.ok → Completes (.carrierRelease e) s (fun t =>
        if c.cap.dw11.getLsbD 1 = true then (t.carrier k).st = 5 ∨ (t.carrier k).st = 6
        else if c.cap.dw11.getLsbD 0 = true then (t.array.members.testBit k = false ∧ s.array.epoch < t.array.epoch ∧
          ((s.carrier k).present = true → (t.carrier k).st = 9))
        else (t.carrier k).st = 7 ∨ (t.carrier k).st = 8))) ∧
    (∀ (e : Nat) (c : Cct), OnEntry s e 0xCD false c → onlyDws c.cap 0xF 0x1 0 0 0 0 = true → dwBits c.cap.dw10 3 0 = k →
      s.array.arrayId.isSome = true → ((s.carrier k).st = 2 ∧ (s.carrier k).record = none ∨
        ((s.carrier k).st = 2 ∨ (s.carrier k).st = 3) ∧ c.cap.dw11.getLsbD 0 = true) →
      s.array.reshape = none → s.moveRuns k = false → Completes (.carrierAdmit e) s (fun t =>
        (t.carrier k).st = 4 ∨ (t.carrier k).st = 5 ∨ (t.carrier k).st = 6))

/-- A Reshape without CREATE that R328 refuses answers its status; an accepted one starts at band 0 with event 0x0B; CREATE on
enough carriers sets the array's identity, geometry and map unit. A reshape step ends the reshape past the last band, with event
0x0C, and moves the boundary over a band that is absent, erased or waiting for its erase; without a reshape it does nothing. A
start that the package limit grants: an idle engine takes the next victim, which leaves FULL, or none; a rebuild step takes the
next band of the rebuild set, waits with event 0x06 when space has run out, or has none. A start that is not granted only leaves
its share, and none is made while map pages go first. (R212, R224, R307, R315, R316, R328, R329, R332, R333, R472) -/
def Obligations.ReshapeRebuildAndMovesRun : Prop :=
  ∀ s : State, Safe s → Shape s →
    (∀ (e : Nat) (c : Cct) (i : BitVec 128), OnEntry s e 0xCE false c → onlyDws c.cap 0x3FF 0 0 0 0 0 = true →
      (c.cap.dw10.getLsbD 8 = false →
        ((s.reshapeStatus (dwBits c.cap.dw10 3 0) (dwBits c.cap.dw10 7 4) (c.cap.dw10.getLsbD 9)).1 ≠ St.ok → exec (.reshape e i) s =
          .next (s.answer c (s.reshapeStatus (dwBits c.cap.dw10 3 0) (dwBits c.cap.dw10 7 4) (c.cap.dw10.getLsbD 9)).1
            (s.reshapeStatus (dwBits c.cap.dw10 3 0) (dwBits c.cap.dw10 7 4) (c.cap.dw10.getLsbD 9)).2).smartCheck) ∧
        ((s.reshapeStatus (dwBits c.cap.dw10 3 0) (dwBits c.cap.dw10 7 4) (c.cap.dw10.getLsbD 9)).1 = St.ok →
          Completes (.reshape e i) s (fun t =>
            t.array.reshape = some (dwBits c.cap.dw10 3 0, dwBits c.cap.dw10 7 4, 0, s.seed.now) ∧
            (t.sticky 10).getLsbD 11 = true))) ∧
      (c.cap.dw10.getLsbD 8 = true → dwBits c.cap.dw10 3 0 ≠ 0 → s.array.arrayId = none →
        geomOk (dwBits c.cap.dw10 3 0) (dwBits c.cap.dw10 7 4) = true →
        dwBits c.cap.dw10 3 0 + dwBits c.cap.dw10 7 4 ≤ ((List.range 16).filter (fun k => (s.carrier k).st == 2)).length →
        (∀ x ∈ s.array.carriers, x.st ≠ 1) → Completes (.reshape e i) s (fun t => t.array.arrayId = some i ∧
          t.array.d = dwBits c.cap.dw10 3 0 ∧ t.array.p = dwBits c.cap.dw10 7 4 ∧ t.array.mapUnitKib = s.arrayRec.1))) ∧
    (s.array.reshape = none → exec .reshapeBandStep s = .next s) ∧
    (∀ dn pn n a : Nat, s.array.reshape = some (dn, pn, n, a) → s.canMaintain = true → s.nextRebuild = none → s.mapFirst = false →
      (s.nextBand ≤ n → Completes .reshapeBandStep s (fun t =>
        t.array.reshape = none ∧ t.array.d = dn ∧ t.array.p = pn ∧ (t.sticky 10).getLsbD 12 = true)) ∧
      (n < s.nextBand → (s.paced .engine).1 = true → (∀ b, s.band n = some b → b.st = .erased ∨ b.st = .erasePending ∨ b.st = .erasing) →
        Completes .reshapeBandStep s (fun t => t.array.reshape = some (dn, pn, n + 1, a))) ∧
      (n < s.nextBand → (s.paced .engine).1 = false → exec .reshapeBandStep s = .next (s.paced .engine).2)) ∧
    (∀ eng, eng < 4 → s.mapFirst = true ∨ s.canMaintain = false →
      exec (.maintenanceMoveStart eng) s = .next s ∧ exec (.rebuildStart eng) s = .next s) ∧
    (∀ eng, eng < 4 → s.canMaintain = true → s.mapFirst = false → (s.paced .engine).1 = false →
      exec (.maintenanceMoveStart eng) s = .next (s.paced .engine).2 ∧ exec (.rebuildStart eng) s = .next (s.paced .engine).2) ∧
    (∀ eng, eng < 4 → s.canMaintain = true → s.mapFirst = false → (s.paced .engine).1 = true →
      (s.upkeep.bands.map (·.num)).Nodup → s.upkeep.moving.getD eng none = none →
        (∀ n kind job, s.nextVictim = some (n, kind, job) → Completes (.maintenanceMoveStart eng) s (fun t =>
          ∀ b, t.band n = some b → b.st = .victim ∨ b.st = .erasePending)) ∧
        (s.nextVictim = none → exec (.maintenanceMoveStart eng) s = .next (s.paced .engine).2) ∧
      (∀ b, s.nextRebuild = some b → s.outOfSpace = false → Completes (.rebuildStart eng) s (fun t =>
        ∀ x, t.band b.num = some x → x.st = .victim ∨ x.st = .erasePending)) ∧
      (∀ b, s.nextRebuild = some b → s.outOfSpace = true → s.upkeep.noSpace = false → Completes (.rebuildStart eng) s (fun t =>
        t.upkeep.noSpace = true ∧ (t.sticky 10).getLsbD 6 = true)) ∧
      (s.nextRebuild = none → exec (.rebuildStart eng) s = .next (s.paced .engine).2))

/-- For a unit whose lane was granted its start, of a write that the lane has finished: the extent holds the merged LBAs, compressed
with a payload within the limit that inflates to them, or raw where the limit is exceeded; it is raw, with event 0x01, where the
verify fails; a read whose extent passes every check ends, one that fails goes through recovery. A unit not granted its start is
not done. An extent within the dirty limit at free granules enters FILLING at them, and nothing else changes but its job and
command; one that does not fit holds its command. A durable unit whose LBAs still merge as formed, and those of its command that
its record takes with it, are named by the map at their buffer offsets and their jobs end; one whose unit changed goes to a lane
again; a full journal holds it. The oldest request that R384 allows is granted the punnets named, and a command whose data is
due then asks for it; another waits. A punnet with one reference returns to the pool, with more it loses one. A wait beyond
PN_WAIT_WARN_MS is recorded once. (R62, R184, R185, R186, R187, R209, R212, R363, R365, R384, R385, R386) -/
def Obligations.UnitsGoThroughLanesBufferAndPunnets : Prop :=
  ∀ s : State, Safe s → Shape s →
    (∀ (lane id : Nat) (j : UnitJob), s.job id = some j → j.stage = 0 → j.lane = lane → j.chain ≠ [] → s.store.flush = none →
      (∀ k ∈ s.eng.ctrls, ∀ i, j.entry = some i → i ∉ k.aers) →
      ((s.paced .lane).1 = false → ∀ r, exec (.laneUnitComplete lane id r) s = .next (s.paced .lane).2) ∧
      ((s.paced .lane).1 = true → j.reading = false → s.jobFault j = none →
        (∀ p ks, s.jobRaw j = false → 16 ≤ p.length → 16 + p.length ≤ 512 * s.compLimit (s.lbafOf j.slice j.nsid) →
          inflate false [] (s.origLen (s.lbafOf j.slice j.nsid)) p = .ok (origBytes (s.lbafOf j.slice j.nsid) (s.merged j), ks) →
          (∀ k ∈ ks, k = 1 ∨ k = 2) → Completes (.laneUnitComplete lane id (.compressed p)) s (fun t => ∃ (y : UnitJob) (x : Extent), t.job id = some y ∧
            y.stage = 1 ∧ y.x = some x ∧ x.orig = s.merged j ∧ x.compressed = true ∧ x.payload = p)) ∧
        ((s.reg Reg.CMP_CNT_RAW).toNat < 0xFFFFFFFE → Completes (.laneUnitComplete lane id .overLimit) s (fun t => ∃ (y : UnitJob) (x : Extent), t.job id = some y ∧
          y.stage = 1 ∧ y.x = some x ∧ x.orig = s.merged j ∧ x.compressed = false)) ∧
        (s.jobRaw j = false → s.fld Reg.CMP_CFG 4 4 = 1 → Completes (.laneUnitComplete lane id .verifyFailed) s (fun t =>
          ∃ (y : UnitJob) (x : Extent), t.job id = some y ∧ y.stage = 1 ∧ y.x = some x ∧ x.compressed = false ∧ (t.sticky 11).getLsbD 1 = true))) ∧
      ((s.paced .lane).1 = true → j.reading = true →
        (s.jobFault j = none → exec (.laneUnitComplete lane id .decompressed) s =
          .next (((s.paced .lane).2.markChain j.chain (j.x.elim 0 (·.origLen))).endRead j).smartCheck) ∧
        (∀ f, s.jobFault j = some f → exec (.laneUnitComplete lane id .decompressed) s =
          .next ((s.paced .lane).2.readFails lane j f.code (s.badStep j)).smartCheck))) ∧
    (∀ (id off : Nat) (j : UnitJob) (x : Extent), s.job id = some j → j.x = some x → j.stage = 1 → j.reading = false →
      s.store.flush = none →
      (s.dirty + extGran x ≤ s.dirtyLimit → s.bufFree off (extGran x) = true → Completes (.writeBufferAllocate id off) s (fun t =>
        (∃ b : BufExt, t.store.buf = s.store.buf ++ [b] ∧ b.off = off ∧ b.len = extGran x ∧ b.slice = j.slice ∧ b.nsid = j.nsid ∧
          b.mu = j.mu ∧ b.x = x ∧ b.st = .filling) ∧
        (t.job id).map (fun y => (y.stage, y.buf)) = some (2, off) ∧
        t = { s with eng := { s.eng with cct := t.eng.cct }, store := { s.store with buf := t.store.buf, jobs := t.store.jobs } })) ∧
      (s.dirtyLimit < s.dirty + extGran x ∨ s.bufFree off (extGran x) = false →
        exec (.writeBufferAllocate id off) s = .next (s.holdRes j.entry))) ∧
    (∀ (id : Nat) (j : UnitJob) (x : Extent), s.job id = some j → j.x = some x → j.stage = 2 → j.reading = false →
      s.store.flush = none →
      (s.journalHolds = true → exec (.stagingDurable id) s = .next (s.noteHeld.holdRes j.entry)) ∧
      (s.journalHolds = false → j.peer = false → s.merged j ≠ x.orig →
        exec (.stagingDurable id) s = .next ((s.freeFilling j.buf).giveLane id)) ∧
      (s.journalHolds = false → j.peer = true ∨ s.merged j = x.orig → Completes (.stagingDurable id) s (fun t =>
        (t.entryAt j.slice j.nsid j.mu).comp = x.compressed ∧
        ∀ z ∈ s.runFrom j 255, (t.entryAt z.slice z.nsid z.mu).loc = .buffered z.buf ∧ ∀ y ∈ t.store.jobs, y.id ≠ z.id))) ∧
    (∀ (req : Nat) (l : List Nat) (r : PunReq), s.mem.reqs.find? (·.id == req) = some r →
      (s.punTurn r = true → l.length = r.n → l.Nodup → (∀ p ∈ l, p < punnetCount ∧ ∀ x ∈ s.mem.punnets, x.num ≠ p) →
        ((∀ e c, r.entry = some e → s.entry e = some c → s.bytesDue c = 0) → Completes (.punnetGrant req l) s (fun t => t.mem.reqs = s.mem.reqs.filter (·.id != req) ∧
          t.mem.punnets.map (fun x => (x.num, x.cls)) = s.mem.punnets.map (fun x => (x.num, x.cls)) ++ l.map (fun p => (p, r.cls)) ∧
          (∀ i y, r.job = some i → s.job i = some y → (t.job i).map (·.chain) = some l))) ∧
        (∀ e c y, r.job = none → r.entry = some e → s.entry e = some c → l ≠ [] → (∀ x ∈ s.mem.reqs, x.entry = some e → x.id = req) →
          s.bytesDue c ≠ 0 → c.st = .heldResource → c.parked = false → c.step = 0 → s.connOf c = some y → y.tcp = true → c.r2t = 0 →
          Completes (.punnetGrant req l) s (fun t => t.fabric.sent = s.fabric.sent ++ [.r2t e (s.bytesDue c)] ∧
            (t.entry e).map (fun x => (x.st, x.r2t, x.chain)) = some (.dispatched, s.bytesDue c, c.chain ++ l)))) ∧
      (s.punTurn r = false → exec (.punnetGrant req l) s = .next s) ∧
      (r.warned = false → s.fld Reg.PN_CFG 31 16 ≠ 0 → s.fld Reg.PN_CFG 31 16 * 1000 < s.since r.at_ →
        Completes (.punnetWaitWarn req) s (fun t => (t.sticky 12).getLsbD 4 = true)) ∧
      (r.warned = true ∨ s.fld Reg.PN_CFG 31 16 = 0 → exec (.punnetWaitWarn req) s = .next s)) ∧
    (∀ (p : Nat) (x : Punnet), s.mem.punnets.find? (·.num == p) = some x →
      (1 < x.ref → exec (.punnetRelease p) s = .next { s with mem := { s.mem with punnets := modFirst s.mem.punnets (·.num == p) (fun y => { y with ref := y.ref - 1 }) } }) ∧
      (x.ref ≤ 1 → s.punHeld p = false → exec (.punnetRelease p) s =
        .next { s with mem := { s.mem with punnets := s.mem.punnets.filter (·.num != p) } }))

/-- A full stripe that may flush begins flushing and each member die's queue holds its program; one that may not, or whose parity
members find no punnets, stays. A stripe whose idle timer has run out is full afterwards. In L3 padding every open stripe is
padded and flushed. A member's program that passes is marked; when the last of a host stripe has passed, each extent the map
still names at its buffer offset lies in the band; a program that fails voids the stripe with events 0x02 and 0x04. A dirty map
page that can be placed waits in a map stripe. A map root takes the next generation in the other copy and names T and the pages
whose directory pages are on flash. A truncation the root covers drops the records it may drop, and any other does nothing.
(R30, R189, R190, R191, R192, R193, R198, R211, R428) -/
def Obligations.StripesFlushCommitAndTheMapPersists : Prop :=
  ∀ s : State, Safe s → Shape s →
    (∀ (stream band : Nat) (x : Stripe) (b : Band),
      s.store.stripes.find? (fun t => t.stream == stream && t.band == band && !t.flushing && s.stripeRoom t == 0) = some x →
      s.stripe x.band x.stripe = some x → s.band x.band = some b →
      (s.canFlush x b = true → (s.takePun 4 (s.parityPun x b)).isSome = true → Completes (.stripeFlush stream band) s (fun t =>
        (t.stripe x.band x.stripe).map (·.flushing) = some true ∧
        ∀ i m, i < x.d + x.p → b.memberAt x.stripe i = some m → ∃ y o, t.die m.die = some y ∧ o ∈ y.queue ∧ o.kind = 2 ∧
          o.band = x.band ∧ o.stripe = x.stripe ∧ o.mem = i)) ∧
      (s.canFlush x b = false ∨ s.takePun 4 (s.parityPun x b) = none → exec (.stripeFlush stream band) s = .next s.gatherHost)) ∧
    (∀ (stream : Nat) (x : Stripe), s.openOf stream = some x → s.stripe x.band x.stripe = some x →
      (s.padDue x = true → Completes (.stripePadIdle stream) s (fun t => t.power.state = .l0 ∧
        ∀ b y, s.band x.band = some b → t.stripe x.band x.stripe = some y → s.stripeGran b ≤ y.fill + y.pad)) ∧
      (s.padDue x = false → exec (.stripePadIdle stream) s = .next s)) ∧
    (s.l3PadDue = true → exec .l3PadFlush s = .next (((s.leaveTo .l0 7 0).padAll.gatherHost).busyNow)) ∧
    (s.l3PadDue = false → exec .l3PadFlush s = .next s) ∧
    (∀ (band stripe mem busy : Nat) (x : Stripe) (b : Band) (m : Member) (d : Die) (o : DieOp), s.stripe band stripe = some x →
      s.band band = some b → b.memberAt stripe mem = some m → s.dieGen m.die m.gen = some d →
      d.queue.find? (fun o => o.kind == 2 && o.band == band && o.stripe == stripe && o.mem == mem && o.started && d.op == 2 &&
        d.opId == o.id) = some o → busy < s.memberTmoUs →
      ((∃ i, i < x.d + x.p ∧ i ∉ x.passed ∧ i ≠ mem) → Completes (.memberProgramStatus band stripe mem .pass busy) s (fun t =>
        t.stripe band stripe = some { x with passed := x.passed ++ [mem] })) ∧
      ((∀ i, i < x.d + x.p → i ∈ x.passed ∨ i = mem) → x.stream = 0 → (x.items.map (fun i => (i.slice, i.nsid, i.mu))).Nodup →
        Completes (.memberProgramStatus band stripe mem .pass busy) s (fun t =>
          ∀ i ∈ x.items, (s.entryAt i.slice i.nsid i.mu).loc = .buffered (i.buf.getD 0) →
            (t.entryAt i.slice i.nsid i.mu).loc = .band (s.itemGran x i))) ∧
      Completes (.memberProgramStatus band stripe mem .fail busy) s (fun t =>
        (t.sticky 7).getLsbD 2 = true ∧ (t.sticky 9).getLsbD 4 = true)) ∧
    (∀ n pg, s.store.flush = none → s.nextPage = some pg → (s.place 2 0 8 (·.addPage pg)).1 = true →
      Completes (.mapPageWrite (n + 1)) s (fun t => t.pageWaits pg = true)) ∧
    (∀ n, s.store.flush.isSome = true ∨ s.nextPage = none ∨ n = 0 → exec (.mapPageWrite n) s = .next s) ∧
    (s.store.flush = none → Completes .mapRootWrite s (fun t => t.journal.rootGen = s.journal.rootGen + 1 ∧
      t.journal.rootB = !s.journal.rootB ∧ t.journal.rootT = max s.journal.rootT s.truncPoint ∧ t.store.namedPages = [] ∧
      (∀ p ∈ s.store.namedPages, p ∈ t.store.pagesAt))) ∧
    (∀ n, s.journal.t < n → n ≤ s.journal.rootT → Completes (.journalTruncate n) s (fun t => t.journal.t = n ∧
      t.journal.recs = s.journal.recs.filter (s.keepRec n))) ∧
    (∀ n, n ≤ s.journal.t ∨ s.journal.rootT < n → exec (.journalTruncate n) s = .next s)

/-- PWR_FAIL or PRSNT_N: without power or during a flush only the pin is read; in configuration hold the device powers off; in L4 it
powers off quietly; else the flush runs with that trigger, and either power is off at its end or the device stays in the flush;
with nothing buffered and no stripe open it ends without power and a stop record says how much was dirty. HUB_LOW in a flush, or
a rail out of range, cuts power, and a map root half written then leaves the copy used last in force; HUB_LOW in L4 goes to L3
or shallower. Rails, presence and VDD_SEED that return are noted. The trip latches once and runs the flush with trigger 3, or in
L4 the quiet power-down. The loss of VDD_SEED ends power and the registers, and loses the island's trip and counters, not the
time. What power-off keeps: the fuses, the event log, flash, the NOR content, durable records, with the first that is not as a
torn tail, lost ranges whose record is durable, and SLED_CFG; every other register reads its reset value. (R213, R214, R216,
R238, R439, R444, R446, R477, R501, R508, R509) -/
def Obligations.LosingPowerRunsTheFlushAndKeepsWhatHoldsWithoutIt : Prop :=
  ∀ (s : State) (f : FlushFacts), Safe s →
    (∀ p ∈ ([(Instr.pwrFailAssert f, { s with seed := { s.seed with pwrFail := true } }, 1),
             (Instr.prsntNDeassert f, { s with seed := { s.seed with prsnt := false } }, 2)] : List (Instr × State × Nat)),
      (s.glb.powered = false ∨ s.store.flush.isSome = true → exec p.1 s = .next p.2.1) ∧
      (s.glb.powered = true → s.store.flush = none →
        (s.glb.hold.isSome = true → exec p.1 s = .next p.2.1.powerOff) ∧
        (s.glb.hold = none → s.power.state = .l4 → exec p.1 s = .next (p.2.1.abandonTest.quietOff p.2.2)) ∧
        (s.glb.hold = none → s.power.state ≠ .l4 →
          Completes p.1 s (fun t => t.glb.powered = false ∨ (t.glb.state = .flush ∧ t.store.flush = some p.2.2)) ∧
          (s.store.buf = [] → s.store.stripes = [] → Completes p.1 s (fun t => t.glb.powered = false ∧
            t.seed.powerOffAt = some s.seed.now ∧ ∃ r ∈ t.journal.recs, r.body = .stop 1 s.dirtyKib))))) ∧
    (s.glb.powered = false → exec .hubLowAssert s = .next { s with seed := { s.seed with hubLow := true } }) ∧
    (s.glb.powered = true → s.store.flush.isSome = true →
      exec .hubLowAssert s = .next (({ s with seed := { s.seed with hubLow := true } } : State).cutOff)) ∧
    (s.glb.powered = true → s.store.flush = none → s.power.state = .l4 → Completes .hubLowAssert s (fun t => t.power.state.code ≤ 3)) ∧
    exec .mainRailOutOfRange s = .next (if s.glb.powered = true then
      ({ s.cutRoot with seed := { s.seed with rails := false } } : State).cutOff else { s with seed := { s.seed with rails := false } }) ∧
    (s.store.flush.isSome = true → s.cutRoot = s) ∧
    (s.glb.powered = true → s.store.flush = none →
      s.cutRoot = { s with free := s.free + 1, journal := s.cutRoot.journal } ∧
      (s.cutRoot.journal = s.journal ∨ s.cutRoot.journal = s.journal.tearRoot)) ∧
    (∀ r : MapRoot, r.torn = false → (if s.journal.rootB then s.journal.mapB else s.journal.mapA) = some r → s.journal.tearRoot.root = r) ∧
    (s.seed.vdd = true → exec .mainRailsInRange s =
      .next { s with seed := { s.seed with rails := true, pwrFail := false, hubLow := false } }) ∧
    exec .sledPresenceAssert s = .next { s with seed := { s.seed with prsnt := true, prsntAt := s.seed.now } } ∧
    (s.seed.vdd = false → exec .vddSeedReturn s =
      .next { s with seed := { s.seed with vdd := true, prsntAt := s.seed.now, crystalAt := s.seed.now } }) ∧
    Completes .vddSeedLoss s (fun t => t.glb.powered = false ∧ t.regs = [] ∧ t.seed.vdd = false ∧ t.seed.vddLost = true ∧
      t.seed.otTrip = false ∧ t.seed.now = s.seed.now) ∧
    (s.seed.otTrip = true ∨ s.seed.vdd = false → exec (.overTemperatureTrip f) s = .next s) ∧
    (s.seed.otTrip = false → s.seed.vdd = true →
      (s.glb.powered = false → exec (.overTemperatureTrip f) s = .next { s with seed := { s.seed with otTrip := true } }) ∧
      (s.glb.powered = true → s.store.flush = none → s.glb.hold = none → s.power.state ≠ .l4 →
        Completes (.overTemperatureTrip f) s (fun t => t.seed.otTrip = true ∧
          (t.glb.powered = false ∨ (t.glb.state = .flush ∧ t.store.flush = some 3)))) ∧
      (s.glb.powered = true → s.store.flush = none → s.glb.hold = none → s.power.state = .l4 →
        Completes (.overTemperatureTrip f) s (fun t => t.seed.otTrip = true ∧ t.glb.powered = false ∧ t.seed.pfQuiet = true ∧
          t.seed.quietCause = 0))) ∧
    (s.powerOff.fuses = s.fuses ∧ s.powerOff.events.log = s.events.log ∧ s.powerOff.store.placed = s.store.placed ∧
      s.powerOff.nor.slots = s.nor.slots ∧ s.powerOff.nor.copies = s.nor.copies ∧
      s.powerOff.journal.recs = tornTail s.journal.recs ∧ s.powerOff.store.lost = s.unlost ∧ s.powerOff.reg Reg.SLED_CFG = s.reg Reg.SLED_CFG ∧
      ∀ off, off ≠ Reg.SLED_CFG → s.powerOff.reg off = regReset off)

/-- Where R443 does not allow a boot nothing changes. Where it does, the boot completes with power on and the power-cycle count one
higher (from the count saved in Quince where VDD_SEED was lost), saturating; without a hold it ends ready at step 11 with an
OWNER_KEY_HASH fused; with no acceptable loader in either NOR it holds at step 2 with cause 1 and event 0x03. (R443, R444, R485,
R489, R492) -/
def Obligations.ColdBootEndsReadyOrInHold : Prop :=
  ∀ (s : State) (f : BootFacts), Safe s → Shape s →
    (s.mayBoot = false → exec (.coldBoot f) s = .next s) ∧
    (s.mayBoot = true → Completes (.coldBoot f) s (fun t => t.glb.powered = true ∧
      t.seed.pcycle = min 0xFFFFFFFF ((match s.savedCounters with | some v => v.2.2 | none => s.seed.pcycle) + 1) ∧
      (t.glb.hold = none → t.glb.state = .ready ∧ t.glb.bootStep = 11 ∧ t.fuses.ownerKeyHash.isSome = true) ∧
      ((s.takeNor f.nor).bootNor f = none → t.glb.hold = some 1 ∧ t.glb.bootStep = 2 ∧ t.glb.state = .coldBoot ∧
        (t.sticky 15).getLsbD 3 = true)))

/-- While the ROM routine does not run a call changes nothing. A read shows its call and status in the mailbox and leaves every
cell; a program of status 0 clears in each byte it names the bits that are 0 in its data and leaves every other byte; a sector
erase of status 0 sets its 64 KiB to FFH, leaves every other byte and runs on; of another status neither changes a cell. The
first loss of a Quince die opens journal area 0 with event 0x09, the second leaves one copy with event 0x0A, and the loss of a
die already lost changes nothing but what the check of the warnings finds. A full area gives way to the other; a group of
records is durable 20 µs after its first. (R325, R326, R327, R493, R494, R495) -/
def Obligations.NorCallsAndQuinceAreas : Prop :=
  ∀ s : State, Safe s → Shape s →
    (∀ c : RomCall, s.romUp = false → exec (.romRead c) s = .next s ∧ exec (.romProgram c) s = .next s ∧
      exec (.romEraseSector c) s = .next s) ∧
    (∀ c : RomCall, s.romUp = true → c.nor < 2 →
      Completes (.romRead c) s (fun t => t.nor.mbxStatus = s.romStatus 1 c ∧ t.nor.mbxAddr = c.addr ∧ t.nor.mbxLen = c.len ∧
        t.nor.cells = s.nor.cells) ∧
      (∀ rd : State → Nat → Byte, (∀ x a, rd x a = ((x.nor.cells.find? (fun y => y.1 == c.nor && y.2.1 == a)).map (·.2.2)).getD 0xFF) →
        Completes (.romProgram c) s (fun t => t.nor.mbxStatus = s.romStatus 2 c ∧
          ∀ a, rd t a = if s.romStatus 2 c = 0 ∧ c.addr ≤ a ∧ a < c.addr + c.len then rd s a &&& c.data.getD (a - c.addr) 0xFF
            else rd s a) ∧
        Completes (.romEraseSector c) s (fun t => t.nor.mbxStatus = s.romStatus 3 c ∧
          (∀ a, rd t a = if s.romStatus 3 c = 0 ∧ c.addr ≤ a ∧ a < c.addr + 65536 then 0xFF else rd s a) ∧
          (s.romStatus 3 c = 0 → t.nor.erasing.getD c.nor false = true ∧ t.nor.mbxBusy = true)))) ∧
    (∀ d, d < 2 → s.journal.dieLost.getD d true = false →
      (s.journal.single = false → Completes (.quinceDieFailure d) s (fun t => t.journal.dieLost.getD d false = true ∧
        t.journal.areaActive = true ∧ t.journal.area = 0 ∧ t.journal.areaUsed = 0 ∧ (t.sticky 10).getLsbD 9 = true)) ∧
      (s.journal.single = true → Completes (.quinceDieFailure d) s (fun t => t.journal.dieLost.getD d false = true ∧
        (t.sticky 10).getLsbD 10 = true))) ∧
    (∀ d, s.journal.dieLost.getD d true = true → exec (.quinceDieFailure d) s = .next s.smartCheck) ∧
    (s.journal.areaActive = true → 268435456 ≤ s.journal.areaUsed →
      exec .journalAreaFull s = .next { s with journal := { s.journal with area := 1 - s.journal.area, areaUsed := 0 } }) ∧
    (s.journal.areaActive = false ∨ s.journal.areaUsed < 268435456 → exec .journalAreaFull s = .next s) ∧
    (s.journal.areaActive = true → 0 < s.journal.group → 20 ≤ s.since s.journal.groupAt →
      exec .journalGroupTimeout s = .next { s with journal := s.journal.groupDone } ∧
      ∀ r ∈ s.journal.groupDone.recs, r.durable = true) ∧
    (s.journal.areaActive = false ∨ s.journal.group = 0 → exec .journalGroupTimeout s = .next s)

/-- A band that may be erased is in ERASING from now, each member die's queue holding its erase; one that may not stays. A member's
erase that passes adds its wear and clears the block's reads, and the last one ends ERASING; one that fails records event 0x05;
an admission's erase adds full wear. An erase in ERASING beyond its limit is recorded once. The prediction of every carrier in
the array takes the days and cause R244 gives. Patrol reads only the next codeword of a written stripe of the band whose turn it
is, where its start is granted, and counts it. A lap beyond PATROL_HOURS is recorded once. Each minute every band that is not
erased ages by its temperature's factor. (R232, R233, R237, R241, R244, R245, R246, R247) -/
def Obligations.ErasesPatrolAndAgeingKeepTheMedia : Prop :=
  ∀ s : State, Safe s → Shape s → (s.upkeep.bands.map (·.num)).Nodup →
    (∀ (n : Nat) (b : Band), s.band n = some b →
      (s.glb.state = .ready → s.canErase b = true → b.retire = [] → (∃ m ∈ b.members, s.memDown m = false) →
        Completes (.eraseStart n) s (fun t => (∃ y, t.band n = some y ∧ y.st = .erasing ∧ y.erasingAt = s.seed.now) ∧
          ∀ m ∈ b.members, s.memDown m = false → ∃ y o, t.die m.die = some y ∧ o ∈ y.queue ∧ o.kind = 3 ∧ o.band = n)) ∧
      (s.glb.state = .ready → s.canErase b = false → exec (.eraseStart n) s = .next s.gatherHost.smartCheck) ∧
      (s.glb.state ≠ .ready → exec (.eraseStart n) s = .next s) ∧
      (∀ (mem busy : Nat) (m : Member) (d : Die) (o : DieOp), n ≠ 0xFFFFFFFF → b.members[mem]? = some m →
        s.dieGen m.die m.gen = some d → d.queue.find? (fun o => o.kind == 3 && o.band == n && o.mem == mem && o.started &&
          d.op == 3 && d.opId == o.id) = some o → busy < s.memberTmoUs →
        Completes (.eraseStatus n mem .pass busy) s (fun t =>
          (t.block m.die m.block).wear = (s.block m.die m.block).wear + s.eraseWear b.slc ∧ (t.block m.die m.block).reads = 0 ∧
          (b.st = .erasing → s.eraseLeft b = [mem] → ∀ y, t.band n = some y → y.st = .erased ∨ y.st = .opened)) ∧
        Completes (.eraseStatus n mem .fail busy) s (fun t => (t.sticky 9).getLsbD 5 = true)) ∧
      (b.st = .erasing → b.starved = false → max 1 (s.fld Reg.MNT_RET_CFG1 31 16) * 1000 < s.since b.erasingAt →
        Completes (.eraseStarved n) s (fun t => (t.sticky 8).getLsbD 4 = true ∧ (t.band n).map (·.starved) = some true)) ∧
      (b.st ≠ .erasing ∨ b.starved = true → exec (.eraseStarved n) s = .next s)) ∧
    (∀ (mem busy : Nat) (d : Die), s.die (mem % 2048) = some d → d.st = 7 → d.admitLeft ≠ 0 →
      Completes (.eraseStatus 0xFFFFFFFF mem .pass busy) s (fun t =>
        (t.block (mem % 2048) (mem / 2048)).wear = (s.block (mem % 2048) (mem / 2048)).wear + 16)) ∧
    ((s.upkeep.eol.map (·.slot)).Nodup → Completes .eolPrediction s (fun t =>
      ∀ x ∈ s.upkeep.eol, (s.carrier x.slot).st = 5 ∨ (s.carrier x.slot).st = 6 → ∃ y ∈ t.upkeep.eol, y.slot = x.slot ∧
        (y.days, y.cause) = s.predict x ∧ y.resLeft = s.resLeftOf x.slot)) ∧
    (∀ (n st mem cw : Nat) (r : CwResult) (b : Band) (m : Member), s.band n = some b → b.memberAt st mem = some m →
      (s.patrolNext ≠ some n → exec (.patrolReadComplete n st mem cw r) s = .next s) ∧
      ((s.writtenStripes n).contains st = false → exec (.patrolReadComplete n st mem cw r) s = .next s) ∧
      (s.patrolNext = some n → s.cwIndex b st mem cw = s.upkeep.posOf n → (s.writtenStripes n).contains st = true → mem < b.d + b.p →
        cw < s.bandMem b / 8 → (s.paced .engine).1 = true → s.cwIndex b st mem cw + 1 < s.bandCw b →
        Completes (.patrolReadComplete n st mem cw r) s (fun t => t.upkeep.lapCw = s.upkeep.lapCw + 1 ∧
          t.upkeep.posOf n = s.upkeep.posOf n + 1))) ∧
    (s.upkeep.lapOver = false → max 1 (s.fld Reg.MNT_PATROL_CFG 31 16) * 3600000000 < s.since s.upkeep.lapAt →
      Completes .patrolLapOverrun s (fun t => (t.sticky 8).getLsbD 15 = true ∧ t.upkeep.lapOver = true)) ∧
    (s.upkeep.lapOver = true → exec .patrolLapOverrun s = .next s) ∧
    Completes .retentionAgeUpdate s (fun t => t.upkeep.bands.map (fun b => (b.num, b.age)) =
      s.upkeep.bands.map (fun b => (b.num, if b.st = .erased then b.age else b.age + afMillionths (s.bandTemp b))))

/-- A read of class 3 or 5 of a member that can be read directly waits at the end of its die's queue and nothing else changes; one
of class 1 starts at once on an idle online die, or waits in its queue where the package limit does not grant it. A read that
has waited RECON_WAIT_US is served by reconstruction where D other members can be read. Operations of class 2, 3 or 5 that have
waited AGE_MS, erases apart, take class 1, and nothing else changes. A die that runs nothing starts the operation R276 chooses
where the limit grants it; else only its share is left. Below a full grant each start adds the grant fraction, and one is
granted for every full share. A sense that ends hands its reads to the decoder with what it brings, the codeword as encoded. A
decode that has a unit and succeeds ends its read, marking the block for tracking at step 0 and its read option after; one that
fails queues the next step first. A reconstruction of a read whose ladder has not failed ends it, or leaves it waiting for its
die. Step V on an idle die sets the block's thresholds. ZQ calibration restarts its period. (R261, R268, R273, R274, R275, R276,
R277, R278, R281, R283, R284, R472) -/
def Obligations.DiesRunTheirQueues : Prop :=
  ∀ s : State, Safe s →
    (∀ (die op cls band st mem cw : Nat) (x : Die) (b : Band) (m : Member), s.die die = some x → s.band band = some b →
      b.memberAt st mem = some m → m.die = die → m.gen = x.gen → mem < b.d + b.p → st < b.nextStripe → x.queue.length < 32 →
      s.findOp op = none → s.direct m = true →
      (cls = 3 ∨ cls = 5 → Completes (.dieReadRequest die op cls band st mem cw) s (fun t =>
        (∃ o : DieOp, o.id = op ∧ o.cls = cls ∧ o.kind = 1 ∧ o.cw = cw ∧ o.started = false ∧
          t.die die = some { x with queue := x.queue ++ [o] }) ∧
        t = { s with array := { s.array with dies := t.array.dies, nextOp := t.array.nextOp } })) ∧
      (cls = 1 → x.op = 0 → x.st ≠ 2 → Completes (.dieReadRequest die op cls band st mem cw) s (fun t => ∃ y, t.die die = some y ∧
        ((s.paced .channel).1 = true → y.op = 1 ∧ y.opId = op ∧ ∃ o ∈ y.queue, o.id = op ∧ o.started = true) ∧
        ((s.paced .channel).1 = false → y.op = 0 ∧ ∃ o : DieOp, o.id = op ∧ o.cls = 1 ∧ o.started = false ∧ y.queue = x.queue ++ [o])))) ∧
    (∀ k : Paced, (fullGrant ≤ s.grantQ → s.paced k = (true, s)) ∧
      (s.grantQ < fullGrant → s.thermal.pace.getD k.idx 0 + s.grantQ < fullGrant → s.paced k =
        (false, { s with thermal := { s.thermal with pace := s.thermal.pace.set k.idx (s.thermal.pace.getD k.idx 0 + s.grantQ) } })) ∧
      (s.grantQ < fullGrant → fullGrant ≤ s.thermal.pace.getD k.idx 0 + s.grantQ → s.paced k =
        (true, { s with thermal := { s.thermal with pace := s.thermal.pace.set k.idx (s.thermal.pace.getD k.idx 0 + s.grantQ - fullGrant) } }))) ∧
    (∀ (die op : Nat) (x : Die) (o : DieOp) (b : Band), s.die die = some x → x.queue.find? (·.id == op) = some o →
      s.band o.band = some b → o.kind = 1 → o.started = false → o.cls = 1 ∨ o.cls = 3 → o.recon = false →
      s.canRecon b o.stripe o.mem = true → s.reconWaitUs die ≤ s.since o.at_ → Completes (.reconWaitExpiry die op) s (fun t =>
        t.array.decode = s.array.decode ++ [{ o with recon := true }])) ∧
    (∀ (die op : Nat) (x : Die), s.die die = some x → Completes (.operationAgePromotion die op) s (fun t =>
      (t.die die).map (·.queue) = some (x.queue.map (fun o =>
        if o.id = op ∧ o.started = false ∧ (o.cls = 2 ∨ o.cls = 3 ∨ o.cls = 5) ∧ o.kind ≠ 3 ∧ s.ageMs die * 1000 ≤ s.since o.at_
        then { o with cls := 1 } else o)) ∧
      t = { s with array := { s.array with dies := t.array.dies } })) ∧
    (∀ (die : Nat) (x : Die) (o : DieOp), s.die die = some x → x.op = 0 → x.st = 1 ∨ x.st = 2 → (s.chan (dieChan die)).st = 2 →
      s.nextOpOf x = some o →
      ((s.paced .channel).1 = true → Completes (.dieOperationStart die) s (fun t =>
        ∃ y, t.die die = some y ∧ y.op = o.kind ∧ y.opId = o.id ∧ y.startedAt = s.seed.now)) ∧
      ((s.paced .channel).1 = false → exec (.dieOperationStart die) s = .next (s.paced .channel).2)) ∧
    (∀ (die : Nat) (x : Die), s.die die = some x → x.op = 1 → x.suspended = 0 → Completes (.readSenseComplete die) s (fun t =>
      (t.die die).map (fun y => (y.op, y.queue)) = some (0, x.queue.filter (fun o => !(o.kind == 1 && o.started))) ∧
      t.array.decode = s.array.decode ++ (x.queue.filter (fun o => o.kind == 1 && o.started)).map
        (fun (o : DieOp) => { o with recon := false, word := s.sensed o }))) ∧
    (∀ (o : DieOp) (t : Stripe) (b : Band) (m : Member), s.stripeOnFlash o.band o.stripe = some t → s.band o.band = some b →
      b.memberAt o.stripe o.mem = some m → s.cellsAt t b m o.mem o.cw = xorBytes (s.encodedAt t b m o.mem o.cw)
        (s.sequenceAt t b m o.cw (s.encodedAt t b m o.mem o.cw).length) ∧ s.sensed o = s.encodedAt t b m o.mem o.cw) ∧
    (∀ (op : Nat) (o : DieOp) (b : Band) (m : Member), s.array.decode.find? (fun o => o.id == op && !o.recon) = some o →
      s.band o.band = some b → b.memberAt o.stripe o.mem = some m → s.flippedAt o.band o.stripe o.mem o.cw = none →
      (s.decoding o = false → ∀ r, exec (.ldpcDecodeComplete op r) s = .next s) ∧
      (s.decoding o = true → (s.paced .decode).1 = false → ∀ r, exec (.ldpcDecodeComplete op r) s = .next (s.paced .decode).2) ∧
      (s.decoding o = true → (s.paced .decode).1 = true → ∀ n, Completes (.ldpcDecodeComplete op (some n)) s (fun t => t.array.decode = s.array.decode.filter (·.id != op) ∧
        (o.step = 0 → s.tracks m.die (s.memFacts m) n = true → (t.block m.die m.block).track = true) ∧
        (0 < o.step → o.step < 100 → (t.block m.die m.block).opt = o.step ∧ (t.block m.die m.block).off = 0))) ∧
      (s.decoding o = true → (s.paced .decode).1 = true → ∀ k x, s.nextStep m.die (s.memFacts m) o.step = some k → s.die m.die = some x →
        Completes (.ldpcDecodeComplete op none) s (fun t =>
          (t.die m.die).map (·.queue) = some ({ o with step := k, started := false, recon := false } :: x.queue)))) ∧
    (∀ (op : Nat) (o : DieOp) (b : Band), s.array.decode.find? (fun o => o.id == op && o.recon) = some o → s.band o.band = some b →
      o.step ≠ 300 →
      exec (.reconstructionComplete op true) s = .next (s.dropOp op) ∧
      exec (.reconstructionComplete op false) s = .next { s with array := { s.array with decode := s.array.decode.filter (fun y => !(y.id == op && y.recon)) } }) ∧
    (∀ (die blk opt : Nat) (off : Int) (x : Die), s.die die = some x → x.op = 0 → x.suspended = 0 → x.queue = [] →
      (s.block die blk).track = true → Completes (.trackValley die blk opt off) s (fun t => (t.block die blk).opt = opt ∧
        (t.block die blk).off = off ∧ (t.block die blk).track = false ∧
        (t.block die blk).reads = (s.block die blk).reads + 6)) ∧
    (∀ ch, ch < 32 → (s.chan ch).st = 2 →
      (max 1 (s.fld (Reg.CH_SCHED + 0x1000 * ch) 7 0) * 1000 ≤ s.since (s.chan ch).zqAt →
        exec (.zqPeriod ch) s = .next (s.modChan ch (fun c => { c with zqAt := s.seed.now }))) ∧
      (s.since (s.chan ch).zqAt < max 1 (s.fld (Reg.CH_SCHED + 0x1000 * ch) 7 0) * 1000 → exec (.zqPeriod ch) s = .next s))

/-- A program or erase busy to MEMBER_TMO_MS fails an online or slow die with event 0x06, and a die not ready after its second reset
fails with event 0x07: the die runs nothing and is rebuilding, released or absent. Below the limit nothing changes. A reset that
times out on a failed or rebuilding die marks it, and the carrier is lost, with event 0x11, when none of its dies responds; on
any other die nothing changes. A slow die without a slow operation for 60 minutes is online again, with event 0x03, and
otherwise nothing changes; one that is slow for SLOW_FAIL_H hours fails with event 0x01. (R288, R309, R312, R313, R337) -/
def Obligations.DiesFailAndRecoverByTheirTimers : Prop :=
  ∀ s : State, Safe s → Shape s → ∀ (die : Nat) (x : Die), s.die die = some x →
    (x.op = 2 ∨ x.op = 3 → x.st = 1 ∨ x.st = 2 → s.memberTmoUs ≤ x.busyUs + s.since x.startedAt →
      Completes (.memberOperationTimeout die) s (fun t => (t.sticky 9).getLsbD 6 = true ∧ (t.sticky 10).getLsbD 1 = true ∧
        ∃ y, t.die die = some y ∧ y.queue = [] ∧ y.op = 0 ∧ (y.st = 4 ∨ y.st = 5 ∨ y.st = 0))) ∧
    (x.op ≠ 2 ∧ x.op ≠ 3 ∨ x.busyUs + s.since x.startedAt < s.memberTmoUs → exec (.memberOperationTimeout die) s = .next s) ∧
    (x.st = 1 ∨ x.st = 2 → Completes (.dieResetTimeout die) s (fun t => (t.sticky 9).getLsbD 7 = true ∧
      ∃ y, t.die die = some y ∧ y.queue = [] ∧ y.op = 0 ∧ (y.st = 4 ∨ y.st = 5 ∨ y.st = 0))) ∧
    (x.st = 3 ∨ x.st = 4 →
      ((s.modDie die (fun y => { y with unresp := true })).unresponsive (dieCar die) = false → exec (.dieResetTimeout die) s =
        .next (s.modDie die (fun y => { y with unresp := true })).settleRelease.smartCheck) ∧
      ((s.modDie die (fun y => { y with unresp := true })).unresponsive (dieCar die) = true →
        Completes (.dieResetTimeout die) s (fun t => (t.sticky 10).getLsbD 17 = true))) ∧
    (x.st = 0 ∨ 4 < x.st → exec (.dieResetTimeout die) s = .next s) ∧
    (x.st = 2 → 3600000000 ≤ s.since (x.slowTimes.foldl max x.slowSince) → Completes (.slowRecovery die) s (fun t =>
      t.die die = some { x with st := 1, slowTimes := [] } ∧ (t.sticky 10).getLsbD 3 = true)) ∧
    (x.st ≠ 2 ∨ s.since (x.slowTimes.foldl max x.slowSince) < 3600000000 → exec (.slowRecovery die) s = .next s) ∧
    (x.st = 2 → s.fld Reg.STR_MEMBER_CFG 7 0 ≠ 0 → s.fld Reg.STR_MEMBER_CFG 7 0 * 3600000000 ≤ s.since x.slowSince →
      Completes (.slowFail die) s (fun t => (t.sticky 10).getLsbD 1 = true ∧
        ∃ y, t.die die = some y ∧ y.queue = [] ∧ (y.st = 4 ∨ y.st = 5 ∨ y.st = 0))) ∧
    (x.st ≠ 2 ∨ s.fld Reg.STR_MEMBER_CFG 7 0 = 0 → exec (.slowFail die) s = .next s)

/-- In a DRAM rank in use with DRAM on: a corrected line is recorded and charged to its page below the threshold, and at it the
page, or its bank, is retired where the table has room; an uncorrectable one removes the rank (migrating or removed); neither
happens elsewhere. A migrated rank is removed and the spare in use, with event 0x05. Uncorrectable punnet words, table copies,
corrected scrub words and the Quince refresh record their events; the refresh starts its lap anew. Compatibility refresh
postpones up to eight; mode register 4 records a hot rank once; retraining moves to the next rank and subchannel, with event
0x0A at the third failure; a scrub counts its lines and ends its lap with event 0x08; an overlong lap is recorded once. (R394,
R395, R396, R400, R401, R403, R404, R407, R408) -/
def Obligations.MemoryErrorsRetireAndRefreshGoesOn : Prop :=
  ∀ s : State, Safe s → Shape s →
    (∀ c rank dev bank page, s.rankUsed c rank = true → s.dramOn = true → ∀ n,
      n = (s.mem.pageErrs.filter (fun x => s.opMs < x.at_ + 86400000 && x.c == c && x.rank == rank && x.bank == bank &&
        x.page == page)).length + 1 → s.mem.pageErrs.length < 1024 →
      (n < max 1 (s.fld Reg.DRAM_RETIRE_CFG 31 24) → Completes (.dramCorrectedError c rank dev bank page) s (fun t =>
        (t.sticky 13).getLsbD 1 = true ∧
        ∃ x ∈ t.mem.pageErrs, x.c = c ∧ x.rank = rank ∧ x.bank = bank ∧ x.page = page ∧ x.at_ = s.opMs)) ∧
      (max 1 (s.fld Reg.DRAM_RETIRE_CFG 31 24) ≤ n → s.mem.retiredPages.contains (c, rank, bank, page) = false →
        (s.mem.retiredPages.filter (·.1 == c)).length < 4096 → Completes (.dramCorrectedError c rank dev bank page) s (fun t =>
          (t.sticky 13).getLsbD 2 = true ∧
          (t.mem.retiredPages.contains (c, rank, bank, page) = true ∨ t.mem.retiredBanks.contains (c, rank, bank) = true)))) ∧
    (∀ c rank cause owner, s.rankUsed c rank = true → s.dramOn = true → cause = 1 ∨ cause = 2 →
      Completes (.dramUncorrectable c rank cause owner) s (fun t => t.rankSt c rank = 5 ∨ t.rankSt c rank = 6)) ∧
    (∀ c rank dev bank page cause owner, s.rankUsed c rank = false ∨ s.dramOn = false →
      exec (.dramCorrectedError c rank dev bank page) s = .next s ∧ exec (.dramUncorrectable c rank cause owner) s = .next s) ∧
    (∀ (c ms rank spare a : Nat), s.mem.migrating.find? (·.1 == c) = some (c, rank, spare, a) → rank ≠ spare →
      s.rankSt c rank ≠ 0 → s.rankSt c spare ≠ 0 → Completes (.rankMigratedToSpare c ms) s (fun t => t.rankSt c rank = 6 ∧
        t.rankSt c spare = 1 ∧ (c, rank) ∈ t.mem.removedRanks ∧ (t.sticky 13).getLsbD 5 = true)) ∧
    (∀ c ms, s.mem.migrating.find? (·.1 == c) = none → exec (.rankMigratedToSpare c ms) s = .next s) ∧
    (∀ p word owner, s.mem.punnets.any (·.num == p) = true → word < 512 →
      Completes (.punnetUncorrectable p word owner) s (fun t => (t.sticky 12).getLsbD 2 = true)) ∧
    (∀ p word owner, s.mem.punnets.any (·.num == p) = false ∨ 512 ≤ word → exec (.punnetUncorrectable p word owner) s = .next s) ∧
    (∀ table i, (1 ≤ table → table ≤ 3 → Completes (.tableCopyError table i) s (fun t => (t.sticky 12).getLsbD 3 = true)) ∧
      (table = 0 ∨ 3 < table → exec (.tableCopyError table i) s = .next s)) ∧
    (∀ l, (s.power.state = .l0 → l ≠ [] → Completes (.sramScrubPass l) s (fun t => (t.sticky 12).getLsbD 1 = true)) ∧
      (s.power.state ≠ .l0 → exec (.sramScrubPass l) s = .next s)) ∧
    (∀ l bad, (s.power.state = .l0 → max 1 (s.fld Reg.Q_REFRESH 31 16) ≤ s.seed.hours - s.mem.qAt →
        Completes (.quinceRefresh l bad) s (fun t => t.mem.qAt = s.seed.hours ∧ t.mem.qFixed = l.length ∧
          (t.sticky 12).getLsbD 6 = true)) ∧
      (s.power.state ≠ .l0 → exec (.quinceRefresh l bad) s = .next s)) ∧
    (∀ c rank q, s.rankUsed c rank = true → s.dramOn = true →
      (s.mem.compat = false → exec (.dramRefresh c rank q) s = .next s) ∧
      (s.mem.compat = true → Completes (.dramRefresh c rank q) s (fun t => ∀ x ∈ t.mem.pend, x.1 = c → x.2.1 = rank →
        q = true ∧ x.2.2 = ((s.mem.pend.find? (fun x => x.1 == c && x.2.1 == rank)).map (·.2.2)).getD 0 + 1 ∧ x.2.2 < 8)) ∧
      (s.mem.hot.contains (c, rank) = false → Completes (.dramMr4Poll c rank true) s (fun t =>
        (c, rank) ∈ t.mem.hot ∧ (t.sticky 13).getLsbD 12 = true)) ∧
      (s.mem.hot.contains (c, rank) = true → exec (.dramMr4Poll c rank true) s = .next s ∧ exec (.dramMr4Poll c rank false) s =
        .next { s with mem := { s.mem with hot := s.mem.hot.filter (· != (c, rank)) } })) ∧
    (∀ c ok ns, c < s.mem.trainPos.length → c < 4 → s.dramOn = true → s.mem.rankCount ≠ 0 →
      Completes (.dramRetrainStep c ok ns) s (fun t =>
        t.mem.trainPos.getD c 0 = (s.mem.trainPos.getD c 0 + 1) % (2 * s.mem.rankCount) ∧
        (ok = false → s.mem.trainFail.find? (fun x => x.1 == c && x.2.1 == s.mem.trainPos.getD c 0 % 2) =
          some (c, s.mem.trainPos.getD c 0 % 2, 2) → (t.sticky 13).getLsbD 10 = true))) ∧
    (∀ c lines fixed, c < 4 → s.power.state = .l0 → s.scrubTotal ≠ 0 → ∀ l, l = modNth s.mem.scrubLines c (· + lines) →
      ((∃ n ∈ l, n < s.scrubTotal) → Completes (.dramScrub c lines fixed) s (fun t => t.mem.scrubLines = l ∧
        t.mem.scrubFixed = s.mem.scrubFixed + fixed)) ∧
      ((∀ n ∈ l, s.scrubTotal ≤ n) → Completes (.dramScrub c lines fixed) s (fun t => t.mem.scrubLines = [0, 0, 0, 0] ∧
        t.mem.scrubAt = s.seed.now ∧ (t.sticky 13).getLsbD 8 = true))) ∧
    (s.mem.scrubOver = false → s.scrubTotal ≠ 0 →
      max 1 (s.fld Reg.DRAM_SCRUB_CFG 31 16) * 3600000000 < s.since s.mem.scrubAt →
      Completes .dramScrubLapWarn s (fun t => t.mem.scrubOver = true ∧ (t.sticky 13).getLsbD 9 = true)) ∧
    (s.mem.scrubOver = true → exec .dramScrubLapWarn s = .next s)

/-- On a dispatched entry: before ready it answers Invalid Field with 2; with a length or a field R502 does not allow, with 3;
without its data it waits; an image, read from the bytes, that fails a check answers Image Invalid with the reason, kept as the
last one; each is recorded as event 0x06. An image that passes is stored in the copy not in force where STORE asks and that NOR
is present, with event 0x05; where the write fails or power is lost during it, that copy fails verification. Deferred addressing
acts once 100 ms have passed and no Apply Configuration is under way, and is then no longer deferred; before that nothing
changes. (R491, R502, R503, R504) -/
def Obligations.ConfigurationIsAppliedAndStored : Prop :=
  ∀ s : State, Safe s → Shape s →
    (∀ (e : Nat) (c : Cct) (w : NorWrite) (b : ImageBundle), OnEntry s e 0xD0 false c → b = readImageBundle s.dieRev (c.cap.data.take c.cap.dw11.toNat) →
      (s.glb.state ≠ .ready → exec (.applyConfiguration e w) s = .next (s.cfgRefuse c St.invalidField 2).smartCheck) ∧
      (s.glb.state = .ready → c.cap.dw11.toNat = 0 ∨ 2097152 < c.cap.dw11.toNat ∨ onlyDws c.cap 3 0xFFFFFFFF 0 0 0 0 = false →
        exec (.applyConfiguration e w) s = .next (s.cfgRefuse c St.invalidField 3).smartCheck) ∧
      (s.glb.state = .ready → c.cap.dw11.toNat ≠ 0 → c.cap.dw11.toNat ≤ 2097152 → onlyDws c.cap 3 0xFFFFFFFF 0 0 0 0 = true →
        (c.cap.data.length < c.cap.dw11.toNat → exec (.applyConfiguration e w) s = .next s.smartCheck) ∧
        (c.cap.dw11.toNat ≤ c.cap.data.length →
          (∀ x, imageReason s.fuses.ownerKeyHash (if c.cap.dw10.getLsbD 1 then some s.cfg.image.seq else none) b = some x →
            Completes (.applyConfiguration e w) s (fun t => t.cfg.lastReason = x.1 ∧ (t.sticky 15).getLsbD 6 = true ∧
              t.nor.copies = s.nor.copies)) ∧
          (imageReason s.fuses.ownerKeyHash (if c.cap.dw10.getLsbD 1 then some s.cfg.image.seq else none) b = none →
            s.nor.copies.length = 2 → s.nor.cfgCopy < 2 → Completes (.applyConfiguration e w) s (fun t =>
              (w = .cut ∨ (t.sticky 15).getLsbD 5 = true) ∧
              (c.cap.dw10.getLsbD 1 = true → norBytes (s.nor.sizes.getD (1 - s.nor.cfgCopy) 0) ≠ 0 →
                (w = .done → t.nor.copies.getD (1 - s.nor.cfgCopy) none = some b) ∧
                (w = .cut → t.nor.copies.getD (1 - s.nor.cfgCopy) none = some { b with wellFormed := false }) ∧
                (∀ a st, w = .failed (1 - s.nor.cfgCopy) a st → (t.sticky 15).getLsbD 8 = true ∧
                  t.nor.copies.getD (1 - s.nor.cfgCopy) none = some { b with wellFormed := false })) ∧
              (c.cap.dw10.getLsbD 1 = false ∨ norBytes (s.nor.sizes.getD (1 - s.nor.cfgCopy) 0) = 0 →
                t.nor.copies.getD (1 - s.nor.cfgCopy) none = s.nor.copies.getD (1 - s.nor.cfgCopy) none)))))) ∧
    (s.cfg.deferred = [] ∨ s.since s.cfg.deferredAt < 100000 → exec .configAddressingApply s = .next s) ∧
    (s.cfg.deferred ≠ [] → 100000 ≤ s.since s.cfg.deferredAt → (∀ c ∈ s.eng.cct, c.isIo = true ∨ c.cap.opc ≠ 0xD0) →
      Completes .configAddressingApply s (fun t => t.cfg.deferred = [])) ∧
    (∀ v, (s.actAddressing (.mgmtVlan v)).fabric.mgmtVlan = v) ∧
    (∀ m a, m < 8 → (((s.actAddressing (.macAddr m a)).fabric.macs)[m]?).map (·.addr) = some a)
end

