-- ==== Sys2Proof/Laws/Lists.lean ====
section
/-! SUPPORT. What the list operations do: the changed element, the others, and the length. -/

namespace Sys2Proof.Machine

open Sys2Proof

@[simp] theorem modNth_length {α : Type} (l : List α) (i : Nat) (f : α → α) : (modNth l i f).length = l.length := by
  induction l generalizing i with
  | nil => rfl
  | cons a t ih => cases i <;> simp [modNth, ih]

theorem modNth_getElem? {α : Type} (l : List α) (i j : Nat) (f : α → α) :
    (modNth l i f)[j]? = if j = i then (l[j]?).map f else l[j]? := by
  induction l generalizing i j with
  | nil => simp [modNth]
  | cons a t ih => cases i <;> cases j <;> simp [modNth, ih]

theorem modNth_getD {α : Type} (l : List α) (i j : Nat) (f : α → α) (d : α) (h : i < l.length) :
    (modNth l i f).getD j d = if j = i then f (l.getD i d) else l.getD j d := by
  simp only [List.getD_eq_getElem?_getD, modNth_getElem?]
  split
  · next e => subst e; simp [h]
  · rfl

theorem modNth_getD_ne {α : Type} (l : List α) {i j : Nat} (f : α → α) (d : α) (h : j ≠ i) :
    (modNth l i f).getD j d = l.getD j d := by
  simp [List.getD_eq_getElem?_getD, modNth_getElem?, h]

@[simp] theorem modFirst_length {α : Type} (l : List α) (p : α → Bool) (f : α → α) : (modFirst l p f).length = l.length := by
  induction l with
  | nil => rfl
  | cons a t ih => simp only [modFirst]; split <;> simp [ih]

/-- Where nothing satisfies the predicate nothing changes. -/
theorem modFirst_none {α : Type} {l : List α} {p : α → Bool} (f : α → α) (h : ∀ a ∈ l, p a = false) : modFirst l p f = l := by
  induction l with
  | nil => rfl
  | cons a t ih =>
    simp only [modFirst, h a (List.mem_cons_self ..), ih (fun x hx => h x (List.mem_cons_of_mem _ hx))]
    simp

/-- A measure that the change keeps is kept over the list. -/
theorem modFirst_map {α β : Type} (l : List α) (p : α → Bool) (f : α → α) (g : α → β) (h : ∀ a, g (f a) = g a) :
    (modFirst l p f).map g = l.map g := by
  induction l with
  | nil => rfl
  | cons a t ih => simp only [modFirst]; split <;> simp [ih, h]

/-- The element found by a key that the change keeps is the changed one. -/
theorem modFirst_find?_self {α : Type} (l : List α) (p : α → Bool) (f : α → α) (h : ∀ a, p (f a) = p a) :
    (modFirst l p f).find? p = (l.find? p).map f := by
  induction l with
  | nil => rfl
  | cons a t ih =>
    simp only [modFirst]
    by_cases e : p a = true
    · simp [e, h a]
    · simp [e, ih]

/-- What another predicate finds stays, where the two exclude each other and the change keeps both. -/
theorem modFirst_find?_ne {α : Type} (l : List α) (p q : α → Bool) (f : α → α) (hq : ∀ a, p a = true → q (f a) = false ∧ q a = false) :
    (modFirst l p f).find? q = l.find? q := by
  induction l with
  | nil => rfl
  | cons a t ih =>
    simp only [modFirst]
    by_cases e : p a = true
    · simp [e, (hq a e).1, (hq a e).2]
    · simp only [e, Bool.false_eq_true, if_false, List.find?_cons]
      split
      · rfl
      · exact ih

theorem modFirst_mem {α : Type} {l : List α} {p : α → Bool} {f : α → α} {x : α} (h : x ∈ modFirst l p f) :
    x ∈ l ∨ ∃ a ∈ l, p a = true ∧ x = f a := by
  induction l with
  | nil => cases h
  | cons a t ih =>
    simp only [modFirst] at h
    split at h
    · next e =>
      rcases List.mem_cons.mp h with rfl | h
      · exact .inr ⟨a, List.mem_cons_self .., e, rfl⟩
      · exact .inl (List.mem_cons_of_mem _ h)
    · rcases List.mem_cons.mp h with rfl | h
      · exact .inl (List.mem_cons_self ..)
      · rcases ih h with h | ⟨b, hb, e, rfl⟩
        · exact .inl (List.mem_cons_of_mem _ h)
        · exact .inr ⟨b, List.mem_cons_of_mem _ hb, e, rfl⟩

/-- A fold keeps what each of its steps keeps. -/
theorem foldl_keeps {α β : Type} (P : β → Prop) (f : β → α → β) (l : List α) (b : β) (h0 : P b) (h : ∀ x a, a ∈ l → P x → P (f x a)) :
    P (l.foldl f b) := by
  induction l generalizing b with
  | nil => exact h0
  | cons a t ih =>
    exact ih (f b a) (h b a (List.mem_cons_self ..) h0) (fun x c hc => h x c (List.mem_cons_of_mem _ hc))

/-! ### The keyed lookups after their updates -/

theorem State.entry_modEntry (s : State) (e i : Nat) (f : Cct → Cct) (hf : ∀ c, (f c).idx = c.idx) :
    (s.modEntry e f).entry i = if i = e then (s.entry e).map f else s.entry i := by
  simp only [State.entry, State.modEntry]
  split
  · next h => subst h; exact modFirst_find?_self _ _ _ (fun a => by simp [hf])
  · next h => exact modFirst_find?_ne _ _ _ _ (fun a ha => by simp only [beq_iff_eq] at ha; simp [hf, ha, Ne.symm h])

theorem State.ctrl_modCtrl (s : State) (c i : Nat) (f : Ctrl → Ctrl) (hf : ∀ k, (f k).id = k.id) :
    (s.modCtrl c f).ctrl i = if i = c then (s.ctrl c).map f else s.ctrl i := by
  simp only [State.ctrl, State.modCtrl]
  split
  · next h => subst h; exact modFirst_find?_self _ _ _ (fun a => by simp [hf])
  · next h => exact modFirst_find?_ne _ _ _ _ (fun a ha => by simp only [beq_iff_eq] at ha; simp [hf, ha, Ne.symm h])

theorem State.queue_modQueue (s : State) (q i : Nat) (f : Queue → Queue) (hf : ∀ x, (f x).idx = x.idx) :
    (s.modQueue q f).queue i = if i = q then (s.queue q).map f else s.queue i := by
  simp only [State.queue, State.modQueue]
  split
  · next h => subst h; exact modFirst_find?_self _ _ _ (fun a => by simp [hf])
  · next h => exact modFirst_find?_ne _ _ _ _ (fun a ha => by simp only [beq_iff_eq] at ha; simp [hf, ha, Ne.symm h])

theorem State.slice_modSlice (s : State) (n i : Nat) (f : SliceS → SliceS) (hf : ∀ x, (f x).num = x.num) :
    (s.modSlice n f).slice i = if i = n then (s.slice n).map f else s.slice i := by
  simp only [State.slice, State.modSlice]
  split
  · next h => subst h; exact modFirst_find?_self _ _ _ (fun a => by simp [hf])
  · next h => exact modFirst_find?_ne _ _ _ _ (fun a ha => by simp only [beq_iff_eq] at ha; simp [hf, ha, Ne.symm h])

end Sys2Proof.Machine
end

