-- ==== Sys2Proof/Laws/Registers.lean ====
section
/-! SUPPORT. The register store: a put keeps its canonical form, reads back, and leaves every other offset. -/

namespace Sys2Proof.Machine

open Sys2Proof

theorem regWf_tail {o : Nat} {v : Word} {t : List (Nat × Word)} (h : regWf ((o, v) :: t) = true) : regWf t = true := by
  simp only [regWf, Bool.and_eq_true] at h
  exact h.2

theorem regWf_head {o : Nat} {v : Word} {t : List (Nat × Word)} (h : regWf ((o, v) :: t) = true) : v ≠ regReset o := by
  simp only [regWf, Bool.and_eq_true, decide_eq_true_eq] at h
  exact h.1.1

/-- In a canonical store every offset after the first is greater. -/
theorem regWf_lt {o : Nat} {v : Word} {t : List (Nat × Word)} (h : regWf ((o, v) :: t) = true) : ∀ p ∈ t, o < p.1 := by
  induction t generalizing o v with
  | nil => simp
  | cons a t ih =>
    obtain ⟨o2, w⟩ := a
    have h2 : o < o2 := by
      simp only [regWf, Bool.and_eq_true, decide_eq_true_eq] at h
      exact h.1.2
    intro p hp
    rcases List.mem_cons.mp hp with rfl | hp
    · exact h2
    · exact Nat.lt_trans h2 (ih (regWf_tail h) p hp)

/-- A store whose offsets all lie above `o` lists nothing at `o`. -/
theorem regLook_above {l : List (Nat × Word)} {o : Nat} (h : ∀ p ∈ l, o < p.1) : regLook l o = regReset o := by
  induction l with
  | nil => rfl
  | cons a t ih =>
    have ha : a.1 ≠ o := Nat.ne_of_gt (h a (List.mem_cons_self ..))
    simp only [regLook, if_neg ha]
    exact ih (fun p hp => h p (List.mem_cons_of_mem _ hp))

theorem regWf_cons {o : Nat} {v : Word} {t : List (Nat × Word)} (hv : v ≠ regReset o) (ht : regWf t = true) (hl : ∀ p ∈ t, o < p.1) :
    regWf ((o, v) :: t) = true := by
  cases t with
  | nil => simp [regWf, hv]
  | cons a t =>
    have := hl a (List.mem_cons_self ..)
    simp only [regWf, Bool.and_eq_true, decide_eq_true_eq] at ht ⊢
    exact ⟨⟨hv, this⟩, ht⟩

/-- A put adds no offset but its own. -/
theorem regPut_mem {l : List (Nat × Word)} {off : Nat} {v : Word} {p : Nat × Word} (h : p ∈ regPut l off v) : p.1 = off ∨ p ∈ l := by
  induction l with
  | nil =>
    simp only [regPut] at h
    split at h
    · cases h
    · exact .inl (by simp only [List.mem_singleton] at h; rw [h])
  | cons a t ih =>
    simp only [regPut] at h
    split at h
    · split at h
      · exact .inr h
      · exact (List.mem_cons.mp h).imp (fun e => by rw [e]) id
    · split at h
      · split at h
        · exact .inr (List.mem_cons_of_mem _ h)
        · exact (List.mem_cons.mp h).imp (fun e => by rw [e]) (List.mem_cons_of_mem _)
      · rcases List.mem_cons.mp h with rfl | h
        · exact .inr (List.mem_cons_self ..)
        · exact (ih h).imp id (List.mem_cons_of_mem _)

/-- A put keeps the canonical form. -/
theorem regPut_wf {l : List (Nat × Word)} (h : regWf l = true) (off : Nat) (v : Word) : regWf (regPut l off v) = true := by
  induction l with
  | nil =>
    simp only [regPut]
    split
    · rfl
    · next hv => exact regWf_cons hv rfl (by simp)
  | cons a t ih =>
    obtain ⟨o, w⟩ := a
    have hlt := regWf_lt h
    simp only [regPut]
    split
    · next ho =>
      split
      · exact h
      · next hv =>
        refine regWf_cons hv h (fun p hp => ?_)
        rcases List.mem_cons.mp hp with rfl | hp
        · exact ho
        · exact Nat.lt_trans ho (hlt p hp)
    · split
      · next he =>
        subst he
        split
        · exact regWf_tail h
        · next hv => exact regWf_cons hv (regWf_tail h) hlt
      · next h1 h2 =>
        refine regWf_cons (regWf_head h) (ih (regWf_tail h)) (fun p hp => ?_)
        rcases regPut_mem hp with e | hp
        · omega
        · exact hlt p hp

/-- A put reads back at its offset. -/
theorem regLook_put_self {l : List (Nat × Word)} (h : regWf l = true) (off : Nat) (v : Word) : regLook (regPut l off v) off = v := by
  induction l with
  | nil => by_cases hv : v = regReset off <;> simp [regPut, regLook, hv]
  | cons a t ih =>
    obtain ⟨o, w⟩ := a
    have hlt := regWf_lt h
    simp only [regPut]
    split
    · next ho =>
      split
      · next hv =>
        rw [hv]
        refine regLook_above (fun p hp => ?_)
        rcases List.mem_cons.mp hp with rfl | hp
        · exact ho
        · exact Nat.lt_trans ho (hlt p hp)
      · simp [regLook]
    · split
      · next he =>
        subst he
        split
        · next hv => rw [hv]; exact regLook_above hlt
        · simp [regLook]
      · next h1 h2 =>
        simp only [regLook, if_neg (Ne.symm h2)]
        exact ih (regWf_tail h)

/-- A put leaves what every other offset reads. -/
theorem regLook_put_ne (l : List (Nat × Word)) {off o : Nat} (v : Word) (hne : o ≠ off) : regLook (regPut l off v) o = regLook l o := by
  induction l with
  | nil => by_cases hv : v = regReset off <;> simp [regPut, regLook, hv, Ne.symm hne]
  | cons a t ih =>
    obtain ⟨p, w⟩ := a
    simp only [regPut]
    split
    · split
      · rfl
      · simp [regLook, Ne.symm hne]
    · split
      · next he =>
        subst he
        split <;> simp [regLook, Ne.symm hne]
      · simp only [regLook]
        split
        · rfl
        · exact ih

theorem State.reg_setReg_ne (s : State) {off o : Nat} (v : Word) (hne : o ≠ off) : (s.setReg off v).reg o = s.reg o :=
  regLook_put_ne s.regs v hne

theorem State.reg_setReg {s : State} (h : regWf s.regs = true) (off o : Nat) (v : Word) :
    (s.setReg off v).reg o = if o = off then v else s.reg o := by
  split
  · next e => subst e; exact regLook_put_self h o v
  · next e => exact State.reg_setReg_ne s v e

/-- Setting a sticky bit keeps the form of the store. -/
theorem State.setSticky_wf {s : State} (h : regWf s.regs = true) (g b : Nat) : regWf (s.setSticky g b).regs = true :=
  regPut_wf h _ _

/-- Setting a sticky bit leaves every register outside the sticky words (R557). -/
theorem State.setSticky_reg (s : State) {g b o : Nat} (hg : g < 36) (ho : o < Reg.STICKY ∨ Reg.STICKY + 144 ≤ o) :
    (s.setSticky g b).reg o = s.reg o :=
  State.reg_setReg_ne s _ (by omega)

/-- A sticky word after a bit of it, or of another group, was set. -/
theorem State.sticky_setSticky {s : State} (h : regWf s.regs = true) (g b k : Nat) :
    (s.setSticky g b).sticky k = if k = g then s.sticky g ||| BitVec.ofNat 32 (2 ^ b) else s.sticky k := by
  show (s.setReg (Reg.STICKY + 4 * g) _).reg (Reg.STICKY + 4 * k) = _
  rw [State.reg_setReg h]
  by_cases e : k = g
  · subst e; simp
  · rw [if_neg e, if_neg (by omega)]; rfl

end Sys2Proof.Machine
end

