-- ==== Sys2Proof/Laws/State.lean ====
section
/-! SUPPORT. Each update of the state beside each field it leaves: true by unfolding the update once. -/

namespace Sys2Proof.Machine

open Sys2Proof

/-! ### setReg -/

@[simp] theorem State.setReg_pending (s : State) (off : Nat) (v : Word) : (s.setReg off v).pending = s.pending := rfl
@[simp] theorem State.setReg_glb (s : State) (off : Nat) (v : Word) : (s.setReg off v).glb = s.glb := rfl
@[simp] theorem State.setReg_fuses (s : State) (off : Nat) (v : Word) : (s.setReg off v).fuses = s.fuses := rfl
@[simp] theorem State.setReg_nor (s : State) (off : Nat) (v : Word) : (s.setReg off v).nor = s.nor := rfl
@[simp] theorem State.setReg_cfg (s : State) (off : Nat) (v : Word) : (s.setReg off v).cfg = s.cfg := rfl
@[simp] theorem State.setReg_fw (s : State) (off : Nat) (v : Word) : (s.setReg off v).fw = s.fw := rfl
@[simp] theorem State.setReg_seed (s : State) (off : Nat) (v : Word) : (s.setReg off v).seed = s.seed := rfl
@[simp] theorem State.setReg_power (s : State) (off : Nat) (v : Word) : (s.setReg off v).power = s.power := rfl
@[simp] theorem State.setReg_fabric (s : State) (off : Nat) (v : Word) : (s.setReg off v).fabric = s.fabric := rfl
@[simp] theorem State.setReg_eng (s : State) (off : Nat) (v : Word) : (s.setReg off v).eng = s.eng := rfl
@[simp] theorem State.setReg_slices (s : State) (off : Nat) (v : Word) : (s.setReg off v).slices = s.slices := rfl
@[simp] theorem State.setReg_store (s : State) (off : Nat) (v : Word) : (s.setReg off v).store = s.store := rfl
@[simp] theorem State.setReg_journal (s : State) (off : Nat) (v : Word) : (s.setReg off v).journal = s.journal := rfl
@[simp] theorem State.setReg_upkeep (s : State) (off : Nat) (v : Word) : (s.setReg off v).upkeep = s.upkeep := rfl
@[simp] theorem State.setReg_array (s : State) (off : Nat) (v : Word) : (s.setReg off v).array = s.array := rfl
@[simp] theorem State.setReg_comp (s : State) (off : Nat) (v : Word) : (s.setReg off v).comp = s.comp := rfl
@[simp] theorem State.setReg_mem (s : State) (off : Nat) (v : Word) : (s.setReg off v).mem = s.mem := rfl
@[simp] theorem State.setReg_loops (s : State) (off : Nat) (v : Word) : (s.setReg off v).loops = s.loops := rfl
@[simp] theorem State.setReg_bank (s : State) (off : Nat) (v : Word) : (s.setReg off v).bank = s.bank := rfl
@[simp] theorem State.setReg_thermal (s : State) (off : Nat) (v : Word) : (s.setReg off v).thermal = s.thermal := rfl
@[simp] theorem State.setReg_events (s : State) (off : Nat) (v : Word) : (s.setReg off v).events = s.events := rfl
@[simp] theorem State.setReg_free (s : State) (off : Nat) (v : Word) : (s.setReg off v).free = s.free := rfl

/-! ### setSticky -/

@[simp] theorem State.setSticky_pending (s : State) (g b : Nat) : (s.setSticky g b).pending = s.pending := rfl
@[simp] theorem State.setSticky_glb (s : State) (g b : Nat) : (s.setSticky g b).glb = s.glb := rfl
@[simp] theorem State.setSticky_fuses (s : State) (g b : Nat) : (s.setSticky g b).fuses = s.fuses := rfl
@[simp] theorem State.setSticky_nor (s : State) (g b : Nat) : (s.setSticky g b).nor = s.nor := rfl
@[simp] theorem State.setSticky_cfg (s : State) (g b : Nat) : (s.setSticky g b).cfg = s.cfg := rfl
@[simp] theorem State.setSticky_fw (s : State) (g b : Nat) : (s.setSticky g b).fw = s.fw := rfl
@[simp] theorem State.setSticky_seed (s : State) (g b : Nat) : (s.setSticky g b).seed = s.seed := rfl
@[simp] theorem State.setSticky_power (s : State) (g b : Nat) : (s.setSticky g b).power = s.power := rfl
@[simp] theorem State.setSticky_fabric (s : State) (g b : Nat) : (s.setSticky g b).fabric = s.fabric := rfl
@[simp] theorem State.setSticky_eng (s : State) (g b : Nat) : (s.setSticky g b).eng = s.eng := rfl
@[simp] theorem State.setSticky_slices (s : State) (g b : Nat) : (s.setSticky g b).slices = s.slices := rfl
@[simp] theorem State.setSticky_store (s : State) (g b : Nat) : (s.setSticky g b).store = s.store := rfl
@[simp] theorem State.setSticky_journal (s : State) (g b : Nat) : (s.setSticky g b).journal = s.journal := rfl
@[simp] theorem State.setSticky_upkeep (s : State) (g b : Nat) : (s.setSticky g b).upkeep = s.upkeep := rfl
@[simp] theorem State.setSticky_array (s : State) (g b : Nat) : (s.setSticky g b).array = s.array := rfl
@[simp] theorem State.setSticky_comp (s : State) (g b : Nat) : (s.setSticky g b).comp = s.comp := rfl
@[simp] theorem State.setSticky_mem (s : State) (g b : Nat) : (s.setSticky g b).mem = s.mem := rfl
@[simp] theorem State.setSticky_loops (s : State) (g b : Nat) : (s.setSticky g b).loops = s.loops := rfl
@[simp] theorem State.setSticky_bank (s : State) (g b : Nat) : (s.setSticky g b).bank = s.bank := rfl
@[simp] theorem State.setSticky_thermal (s : State) (g b : Nat) : (s.setSticky g b).thermal = s.thermal := rfl
@[simp] theorem State.setSticky_events (s : State) (g b : Nat) : (s.setSticky g b).events = s.events := rfl
@[simp] theorem State.setSticky_free (s : State) (g b : Nat) : (s.setSticky g b).free = s.free := rfl

/-! ### modEntry -/

@[simp] theorem State.modEntry_pending (s : State) (e : Nat) (f : Cct → Cct) : (s.modEntry e f).pending = s.pending := rfl
@[simp] theorem State.modEntry_regs (s : State) (e : Nat) (f : Cct → Cct) : (s.modEntry e f).regs = s.regs := rfl
@[simp] theorem State.modEntry_glb (s : State) (e : Nat) (f : Cct → Cct) : (s.modEntry e f).glb = s.glb := rfl
@[simp] theorem State.modEntry_fuses (s : State) (e : Nat) (f : Cct → Cct) : (s.modEntry e f).fuses = s.fuses := rfl
@[simp] theorem State.modEntry_nor (s : State) (e : Nat) (f : Cct → Cct) : (s.modEntry e f).nor = s.nor := rfl
@[simp] theorem State.modEntry_cfg (s : State) (e : Nat) (f : Cct → Cct) : (s.modEntry e f).cfg = s.cfg := rfl
@[simp] theorem State.modEntry_fw (s : State) (e : Nat) (f : Cct → Cct) : (s.modEntry e f).fw = s.fw := rfl
@[simp] theorem State.modEntry_seed (s : State) (e : Nat) (f : Cct → Cct) : (s.modEntry e f).seed = s.seed := rfl
@[simp] theorem State.modEntry_power (s : State) (e : Nat) (f : Cct → Cct) : (s.modEntry e f).power = s.power := rfl
@[simp] theorem State.modEntry_fabric (s : State) (e : Nat) (f : Cct → Cct) : (s.modEntry e f).fabric = s.fabric := rfl
@[simp] theorem State.modEntry_slices (s : State) (e : Nat) (f : Cct → Cct) : (s.modEntry e f).slices = s.slices := rfl
@[simp] theorem State.modEntry_store (s : State) (e : Nat) (f : Cct → Cct) : (s.modEntry e f).store = s.store := rfl
@[simp] theorem State.modEntry_journal (s : State) (e : Nat) (f : Cct → Cct) : (s.modEntry e f).journal = s.journal := rfl
@[simp] theorem State.modEntry_upkeep (s : State) (e : Nat) (f : Cct → Cct) : (s.modEntry e f).upkeep = s.upkeep := rfl
@[simp] theorem State.modEntry_array (s : State) (e : Nat) (f : Cct → Cct) : (s.modEntry e f).array = s.array := rfl
@[simp] theorem State.modEntry_comp (s : State) (e : Nat) (f : Cct → Cct) : (s.modEntry e f).comp = s.comp := rfl
@[simp] theorem State.modEntry_mem (s : State) (e : Nat) (f : Cct → Cct) : (s.modEntry e f).mem = s.mem := rfl
@[simp] theorem State.modEntry_loops (s : State) (e : Nat) (f : Cct → Cct) : (s.modEntry e f).loops = s.loops := rfl
@[simp] theorem State.modEntry_bank (s : State) (e : Nat) (f : Cct → Cct) : (s.modEntry e f).bank = s.bank := rfl
@[simp] theorem State.modEntry_thermal (s : State) (e : Nat) (f : Cct → Cct) : (s.modEntry e f).thermal = s.thermal := rfl
@[simp] theorem State.modEntry_events (s : State) (e : Nat) (f : Cct → Cct) : (s.modEntry e f).events = s.events := rfl
@[simp] theorem State.modEntry_free (s : State) (e : Nat) (f : Cct → Cct) : (s.modEntry e f).free = s.free := rfl

/-! ### modCtrl -/

@[simp] theorem State.modCtrl_pending (s : State) (c : Nat) (f : Ctrl → Ctrl) : (s.modCtrl c f).pending = s.pending := rfl
@[simp] theorem State.modCtrl_regs (s : State) (c : Nat) (f : Ctrl → Ctrl) : (s.modCtrl c f).regs = s.regs := rfl
@[simp] theorem State.modCtrl_glb (s : State) (c : Nat) (f : Ctrl → Ctrl) : (s.modCtrl c f).glb = s.glb := rfl
@[simp] theorem State.modCtrl_fuses (s : State) (c : Nat) (f : Ctrl → Ctrl) : (s.modCtrl c f).fuses = s.fuses := rfl
@[simp] theorem State.modCtrl_nor (s : State) (c : Nat) (f : Ctrl → Ctrl) : (s.modCtrl c f).nor = s.nor := rfl
@[simp] theorem State.modCtrl_cfg (s : State) (c : Nat) (f : Ctrl → Ctrl) : (s.modCtrl c f).cfg = s.cfg := rfl
@[simp] theorem State.modCtrl_fw (s : State) (c : Nat) (f : Ctrl → Ctrl) : (s.modCtrl c f).fw = s.fw := rfl
@[simp] theorem State.modCtrl_seed (s : State) (c : Nat) (f : Ctrl → Ctrl) : (s.modCtrl c f).seed = s.seed := rfl
@[simp] theorem State.modCtrl_power (s : State) (c : Nat) (f : Ctrl → Ctrl) : (s.modCtrl c f).power = s.power := rfl
@[simp] theorem State.modCtrl_fabric (s : State) (c : Nat) (f : Ctrl → Ctrl) : (s.modCtrl c f).fabric = s.fabric := rfl
@[simp] theorem State.modCtrl_slices (s : State) (c : Nat) (f : Ctrl → Ctrl) : (s.modCtrl c f).slices = s.slices := rfl
@[simp] theorem State.modCtrl_store (s : State) (c : Nat) (f : Ctrl → Ctrl) : (s.modCtrl c f).store = s.store := rfl
@[simp] theorem State.modCtrl_journal (s : State) (c : Nat) (f : Ctrl → Ctrl) : (s.modCtrl c f).journal = s.journal := rfl
@[simp] theorem State.modCtrl_upkeep (s : State) (c : Nat) (f : Ctrl → Ctrl) : (s.modCtrl c f).upkeep = s.upkeep := rfl
@[simp] theorem State.modCtrl_array (s : State) (c : Nat) (f : Ctrl → Ctrl) : (s.modCtrl c f).array = s.array := rfl
@[simp] theorem State.modCtrl_comp (s : State) (c : Nat) (f : Ctrl → Ctrl) : (s.modCtrl c f).comp = s.comp := rfl
@[simp] theorem State.modCtrl_mem (s : State) (c : Nat) (f : Ctrl → Ctrl) : (s.modCtrl c f).mem = s.mem := rfl
@[simp] theorem State.modCtrl_loops (s : State) (c : Nat) (f : Ctrl → Ctrl) : (s.modCtrl c f).loops = s.loops := rfl
@[simp] theorem State.modCtrl_bank (s : State) (c : Nat) (f : Ctrl → Ctrl) : (s.modCtrl c f).bank = s.bank := rfl
@[simp] theorem State.modCtrl_thermal (s : State) (c : Nat) (f : Ctrl → Ctrl) : (s.modCtrl c f).thermal = s.thermal := rfl
@[simp] theorem State.modCtrl_events (s : State) (c : Nat) (f : Ctrl → Ctrl) : (s.modCtrl c f).events = s.events := rfl
@[simp] theorem State.modCtrl_free (s : State) (c : Nat) (f : Ctrl → Ctrl) : (s.modCtrl c f).free = s.free := rfl

/-! ### modQueue -/

@[simp] theorem State.modQueue_pending (s : State) (q : Nat) (f : Queue → Queue) : (s.modQueue q f).pending = s.pending := rfl
@[simp] theorem State.modQueue_regs (s : State) (q : Nat) (f : Queue → Queue) : (s.modQueue q f).regs = s.regs := rfl
@[simp] theorem State.modQueue_glb (s : State) (q : Nat) (f : Queue → Queue) : (s.modQueue q f).glb = s.glb := rfl
@[simp] theorem State.modQueue_fuses (s : State) (q : Nat) (f : Queue → Queue) : (s.modQueue q f).fuses = s.fuses := rfl
@[simp] theorem State.modQueue_nor (s : State) (q : Nat) (f : Queue → Queue) : (s.modQueue q f).nor = s.nor := rfl
@[simp] theorem State.modQueue_cfg (s : State) (q : Nat) (f : Queue → Queue) : (s.modQueue q f).cfg = s.cfg := rfl
@[simp] theorem State.modQueue_fw (s : State) (q : Nat) (f : Queue → Queue) : (s.modQueue q f).fw = s.fw := rfl
@[simp] theorem State.modQueue_seed (s : State) (q : Nat) (f : Queue → Queue) : (s.modQueue q f).seed = s.seed := rfl
@[simp] theorem State.modQueue_power (s : State) (q : Nat) (f : Queue → Queue) : (s.modQueue q f).power = s.power := rfl
@[simp] theorem State.modQueue_fabric (s : State) (q : Nat) (f : Queue → Queue) : (s.modQueue q f).fabric = s.fabric := rfl
@[simp] theorem State.modQueue_slices (s : State) (q : Nat) (f : Queue → Queue) : (s.modQueue q f).slices = s.slices := rfl
@[simp] theorem State.modQueue_store (s : State) (q : Nat) (f : Queue → Queue) : (s.modQueue q f).store = s.store := rfl
@[simp] theorem State.modQueue_journal (s : State) (q : Nat) (f : Queue → Queue) : (s.modQueue q f).journal = s.journal := rfl
@[simp] theorem State.modQueue_upkeep (s : State) (q : Nat) (f : Queue → Queue) : (s.modQueue q f).upkeep = s.upkeep := rfl
@[simp] theorem State.modQueue_array (s : State) (q : Nat) (f : Queue → Queue) : (s.modQueue q f).array = s.array := rfl
@[simp] theorem State.modQueue_comp (s : State) (q : Nat) (f : Queue → Queue) : (s.modQueue q f).comp = s.comp := rfl
@[simp] theorem State.modQueue_mem (s : State) (q : Nat) (f : Queue → Queue) : (s.modQueue q f).mem = s.mem := rfl
@[simp] theorem State.modQueue_loops (s : State) (q : Nat) (f : Queue → Queue) : (s.modQueue q f).loops = s.loops := rfl
@[simp] theorem State.modQueue_bank (s : State) (q : Nat) (f : Queue → Queue) : (s.modQueue q f).bank = s.bank := rfl
@[simp] theorem State.modQueue_thermal (s : State) (q : Nat) (f : Queue → Queue) : (s.modQueue q f).thermal = s.thermal := rfl
@[simp] theorem State.modQueue_events (s : State) (q : Nat) (f : Queue → Queue) : (s.modQueue q f).events = s.events := rfl
@[simp] theorem State.modQueue_free (s : State) (q : Nat) (f : Queue → Queue) : (s.modQueue q f).free = s.free := rfl

/-! ### finish -/

@[simp] theorem State.finish_pending (s : State) (e st : Nat) (r : Word) (o : Payload) : (s.finish e st r o).pending = s.pending := rfl
@[simp] theorem State.finish_regs (s : State) (e st : Nat) (r : Word) (o : Payload) : (s.finish e st r o).regs = s.regs := rfl
@[simp] theorem State.finish_glb (s : State) (e st : Nat) (r : Word) (o : Payload) : (s.finish e st r o).glb = s.glb := rfl
@[simp] theorem State.finish_fuses (s : State) (e st : Nat) (r : Word) (o : Payload) : (s.finish e st r o).fuses = s.fuses := rfl
@[simp] theorem State.finish_nor (s : State) (e st : Nat) (r : Word) (o : Payload) : (s.finish e st r o).nor = s.nor := rfl
@[simp] theorem State.finish_cfg (s : State) (e st : Nat) (r : Word) (o : Payload) : (s.finish e st r o).cfg = s.cfg := rfl
@[simp] theorem State.finish_fw (s : State) (e st : Nat) (r : Word) (o : Payload) : (s.finish e st r o).fw = s.fw := rfl
@[simp] theorem State.finish_seed (s : State) (e st : Nat) (r : Word) (o : Payload) : (s.finish e st r o).seed = s.seed := rfl
@[simp] theorem State.finish_power (s : State) (e st : Nat) (r : Word) (o : Payload) : (s.finish e st r o).power = s.power := rfl
@[simp] theorem State.finish_fabric (s : State) (e st : Nat) (r : Word) (o : Payload) : (s.finish e st r o).fabric = s.fabric := rfl
@[simp] theorem State.finish_slices (s : State) (e st : Nat) (r : Word) (o : Payload) : (s.finish e st r o).slices = s.slices := rfl
@[simp] theorem State.finish_store (s : State) (e st : Nat) (r : Word) (o : Payload) : (s.finish e st r o).store = s.store := rfl
@[simp] theorem State.finish_journal (s : State) (e st : Nat) (r : Word) (o : Payload) : (s.finish e st r o).journal = s.journal := rfl
@[simp] theorem State.finish_upkeep (s : State) (e st : Nat) (r : Word) (o : Payload) : (s.finish e st r o).upkeep = s.upkeep := rfl
@[simp] theorem State.finish_array (s : State) (e st : Nat) (r : Word) (o : Payload) : (s.finish e st r o).array = s.array := rfl
@[simp] theorem State.finish_comp (s : State) (e st : Nat) (r : Word) (o : Payload) : (s.finish e st r o).comp = s.comp := rfl
@[simp] theorem State.finish_mem (s : State) (e st : Nat) (r : Word) (o : Payload) : (s.finish e st r o).mem = s.mem := rfl
@[simp] theorem State.finish_loops (s : State) (e st : Nat) (r : Word) (o : Payload) : (s.finish e st r o).loops = s.loops := rfl
@[simp] theorem State.finish_bank (s : State) (e st : Nat) (r : Word) (o : Payload) : (s.finish e st r o).bank = s.bank := rfl
@[simp] theorem State.finish_thermal (s : State) (e st : Nat) (r : Word) (o : Payload) : (s.finish e st r o).thermal = s.thermal := rfl
@[simp] theorem State.finish_events (s : State) (e st : Nat) (r : Word) (o : Payload) : (s.finish e st r o).events = s.events := rfl
@[simp] theorem State.finish_free (s : State) (e st : Nat) (r : Word) (o : Payload) : (s.finish e st r o).free = s.free := rfl

/-! ### modSlice -/

@[simp] theorem State.modSlice_pending (s : State) (n : Nat) (f : SliceS → SliceS) : (s.modSlice n f).pending = s.pending := rfl
@[simp] theorem State.modSlice_regs (s : State) (n : Nat) (f : SliceS → SliceS) : (s.modSlice n f).regs = s.regs := rfl
@[simp] theorem State.modSlice_glb (s : State) (n : Nat) (f : SliceS → SliceS) : (s.modSlice n f).glb = s.glb := rfl
@[simp] theorem State.modSlice_fuses (s : State) (n : Nat) (f : SliceS → SliceS) : (s.modSlice n f).fuses = s.fuses := rfl
@[simp] theorem State.modSlice_nor (s : State) (n : Nat) (f : SliceS → SliceS) : (s.modSlice n f).nor = s.nor := rfl
@[simp] theorem State.modSlice_cfg (s : State) (n : Nat) (f : SliceS → SliceS) : (s.modSlice n f).cfg = s.cfg := rfl
@[simp] theorem State.modSlice_fw (s : State) (n : Nat) (f : SliceS → SliceS) : (s.modSlice n f).fw = s.fw := rfl
@[simp] theorem State.modSlice_seed (s : State) (n : Nat) (f : SliceS → SliceS) : (s.modSlice n f).seed = s.seed := rfl
@[simp] theorem State.modSlice_power (s : State) (n : Nat) (f : SliceS → SliceS) : (s.modSlice n f).power = s.power := rfl
@[simp] theorem State.modSlice_fabric (s : State) (n : Nat) (f : SliceS → SliceS) : (s.modSlice n f).fabric = s.fabric := rfl
@[simp] theorem State.modSlice_eng (s : State) (n : Nat) (f : SliceS → SliceS) : (s.modSlice n f).eng = s.eng := rfl
@[simp] theorem State.modSlice_store (s : State) (n : Nat) (f : SliceS → SliceS) : (s.modSlice n f).store = s.store := rfl
@[simp] theorem State.modSlice_journal (s : State) (n : Nat) (f : SliceS → SliceS) : (s.modSlice n f).journal = s.journal := rfl
@[simp] theorem State.modSlice_upkeep (s : State) (n : Nat) (f : SliceS → SliceS) : (s.modSlice n f).upkeep = s.upkeep := rfl
@[simp] theorem State.modSlice_array (s : State) (n : Nat) (f : SliceS → SliceS) : (s.modSlice n f).array = s.array := rfl
@[simp] theorem State.modSlice_comp (s : State) (n : Nat) (f : SliceS → SliceS) : (s.modSlice n f).comp = s.comp := rfl
@[simp] theorem State.modSlice_mem (s : State) (n : Nat) (f : SliceS → SliceS) : (s.modSlice n f).mem = s.mem := rfl
@[simp] theorem State.modSlice_loops (s : State) (n : Nat) (f : SliceS → SliceS) : (s.modSlice n f).loops = s.loops := rfl
@[simp] theorem State.modSlice_bank (s : State) (n : Nat) (f : SliceS → SliceS) : (s.modSlice n f).bank = s.bank := rfl
@[simp] theorem State.modSlice_thermal (s : State) (n : Nat) (f : SliceS → SliceS) : (s.modSlice n f).thermal = s.thermal := rfl
@[simp] theorem State.modSlice_events (s : State) (n : Nat) (f : SliceS → SliceS) : (s.modSlice n f).events = s.events := rfl
@[simp] theorem State.modSlice_free (s : State) (n : Nat) (f : SliceS → SliceS) : (s.modSlice n f).free = s.free := rfl

/-! ### modMac -/

@[simp] theorem State.modMac_pending (s : State) (m : Nat) (f : Mac → Mac) : (s.modMac m f).pending = s.pending := rfl
@[simp] theorem State.modMac_regs (s : State) (m : Nat) (f : Mac → Mac) : (s.modMac m f).regs = s.regs := rfl
@[simp] theorem State.modMac_glb (s : State) (m : Nat) (f : Mac → Mac) : (s.modMac m f).glb = s.glb := rfl
@[simp] theorem State.modMac_fuses (s : State) (m : Nat) (f : Mac → Mac) : (s.modMac m f).fuses = s.fuses := rfl
@[simp] theorem State.modMac_nor (s : State) (m : Nat) (f : Mac → Mac) : (s.modMac m f).nor = s.nor := rfl
@[simp] theorem State.modMac_cfg (s : State) (m : Nat) (f : Mac → Mac) : (s.modMac m f).cfg = s.cfg := rfl
@[simp] theorem State.modMac_fw (s : State) (m : Nat) (f : Mac → Mac) : (s.modMac m f).fw = s.fw := rfl
@[simp] theorem State.modMac_seed (s : State) (m : Nat) (f : Mac → Mac) : (s.modMac m f).seed = s.seed := rfl
@[simp] theorem State.modMac_power (s : State) (m : Nat) (f : Mac → Mac) : (s.modMac m f).power = s.power := rfl
@[simp] theorem State.modMac_eng (s : State) (m : Nat) (f : Mac → Mac) : (s.modMac m f).eng = s.eng := rfl
@[simp] theorem State.modMac_slices (s : State) (m : Nat) (f : Mac → Mac) : (s.modMac m f).slices = s.slices := rfl
@[simp] theorem State.modMac_store (s : State) (m : Nat) (f : Mac → Mac) : (s.modMac m f).store = s.store := rfl
@[simp] theorem State.modMac_journal (s : State) (m : Nat) (f : Mac → Mac) : (s.modMac m f).journal = s.journal := rfl
@[simp] theorem State.modMac_upkeep (s : State) (m : Nat) (f : Mac → Mac) : (s.modMac m f).upkeep = s.upkeep := rfl
@[simp] theorem State.modMac_array (s : State) (m : Nat) (f : Mac → Mac) : (s.modMac m f).array = s.array := rfl
@[simp] theorem State.modMac_comp (s : State) (m : Nat) (f : Mac → Mac) : (s.modMac m f).comp = s.comp := rfl
@[simp] theorem State.modMac_mem (s : State) (m : Nat) (f : Mac → Mac) : (s.modMac m f).mem = s.mem := rfl
@[simp] theorem State.modMac_loops (s : State) (m : Nat) (f : Mac → Mac) : (s.modMac m f).loops = s.loops := rfl
@[simp] theorem State.modMac_bank (s : State) (m : Nat) (f : Mac → Mac) : (s.modMac m f).bank = s.bank := rfl
@[simp] theorem State.modMac_thermal (s : State) (m : Nat) (f : Mac → Mac) : (s.modMac m f).thermal = s.thermal := rfl
@[simp] theorem State.modMac_events (s : State) (m : Nat) (f : Mac → Mac) : (s.modMac m f).events = s.events := rfl
@[simp] theorem State.modMac_free (s : State) (m : Nat) (f : Mac → Mac) : (s.modMac m f).free = s.free := rfl

/-! ### modFlow -/

@[simp] theorem State.modFlow_pending (s : State) (x : Nat) (f : Flow → Flow) : (s.modFlow x f).pending = s.pending := rfl
@[simp] theorem State.modFlow_regs (s : State) (x : Nat) (f : Flow → Flow) : (s.modFlow x f).regs = s.regs := rfl
@[simp] theorem State.modFlow_glb (s : State) (x : Nat) (f : Flow → Flow) : (s.modFlow x f).glb = s.glb := rfl
@[simp] theorem State.modFlow_fuses (s : State) (x : Nat) (f : Flow → Flow) : (s.modFlow x f).fuses = s.fuses := rfl
@[simp] theorem State.modFlow_nor (s : State) (x : Nat) (f : Flow → Flow) : (s.modFlow x f).nor = s.nor := rfl
@[simp] theorem State.modFlow_cfg (s : State) (x : Nat) (f : Flow → Flow) : (s.modFlow x f).cfg = s.cfg := rfl
@[simp] theorem State.modFlow_fw (s : State) (x : Nat) (f : Flow → Flow) : (s.modFlow x f).fw = s.fw := rfl
@[simp] theorem State.modFlow_seed (s : State) (x : Nat) (f : Flow → Flow) : (s.modFlow x f).seed = s.seed := rfl
@[simp] theorem State.modFlow_power (s : State) (x : Nat) (f : Flow → Flow) : (s.modFlow x f).power = s.power := rfl
@[simp] theorem State.modFlow_eng (s : State) (x : Nat) (f : Flow → Flow) : (s.modFlow x f).eng = s.eng := rfl
@[simp] theorem State.modFlow_slices (s : State) (x : Nat) (f : Flow → Flow) : (s.modFlow x f).slices = s.slices := rfl
@[simp] theorem State.modFlow_store (s : State) (x : Nat) (f : Flow → Flow) : (s.modFlow x f).store = s.store := rfl
@[simp] theorem State.modFlow_journal (s : State) (x : Nat) (f : Flow → Flow) : (s.modFlow x f).journal = s.journal := rfl
@[simp] theorem State.modFlow_upkeep (s : State) (x : Nat) (f : Flow → Flow) : (s.modFlow x f).upkeep = s.upkeep := rfl
@[simp] theorem State.modFlow_array (s : State) (x : Nat) (f : Flow → Flow) : (s.modFlow x f).array = s.array := rfl
@[simp] theorem State.modFlow_comp (s : State) (x : Nat) (f : Flow → Flow) : (s.modFlow x f).comp = s.comp := rfl
@[simp] theorem State.modFlow_mem (s : State) (x : Nat) (f : Flow → Flow) : (s.modFlow x f).mem = s.mem := rfl
@[simp] theorem State.modFlow_loops (s : State) (x : Nat) (f : Flow → Flow) : (s.modFlow x f).loops = s.loops := rfl
@[simp] theorem State.modFlow_bank (s : State) (x : Nat) (f : Flow → Flow) : (s.modFlow x f).bank = s.bank := rfl
@[simp] theorem State.modFlow_thermal (s : State) (x : Nat) (f : Flow → Flow) : (s.modFlow x f).thermal = s.thermal := rfl
@[simp] theorem State.modFlow_events (s : State) (x : Nat) (f : Flow → Flow) : (s.modFlow x f).events = s.events := rfl
@[simp] theorem State.modFlow_free (s : State) (x : Nat) (f : Flow → Flow) : (s.modFlow x f).free = s.free := rfl

/-! ### modNb -/

@[simp] theorem State.modNb_pending (s : State) (n : Nat) (f : Neighbour → Neighbour) : (s.modNb n f).pending = s.pending := rfl
@[simp] theorem State.modNb_regs (s : State) (n : Nat) (f : Neighbour → Neighbour) : (s.modNb n f).regs = s.regs := rfl
@[simp] theorem State.modNb_glb (s : State) (n : Nat) (f : Neighbour → Neighbour) : (s.modNb n f).glb = s.glb := rfl
@[simp] theorem State.modNb_fuses (s : State) (n : Nat) (f : Neighbour → Neighbour) : (s.modNb n f).fuses = s.fuses := rfl
@[simp] theorem State.modNb_nor (s : State) (n : Nat) (f : Neighbour → Neighbour) : (s.modNb n f).nor = s.nor := rfl
@[simp] theorem State.modNb_cfg (s : State) (n : Nat) (f : Neighbour → Neighbour) : (s.modNb n f).cfg = s.cfg := rfl
@[simp] theorem State.modNb_fw (s : State) (n : Nat) (f : Neighbour → Neighbour) : (s.modNb n f).fw = s.fw := rfl
@[simp] theorem State.modNb_seed (s : State) (n : Nat) (f : Neighbour → Neighbour) : (s.modNb n f).seed = s.seed := rfl
@[simp] theorem State.modNb_power (s : State) (n : Nat) (f : Neighbour → Neighbour) : (s.modNb n f).power = s.power := rfl
@[simp] theorem State.modNb_eng (s : State) (n : Nat) (f : Neighbour → Neighbour) : (s.modNb n f).eng = s.eng := rfl
@[simp] theorem State.modNb_slices (s : State) (n : Nat) (f : Neighbour → Neighbour) : (s.modNb n f).slices = s.slices := rfl
@[simp] theorem State.modNb_store (s : State) (n : Nat) (f : Neighbour → Neighbour) : (s.modNb n f).store = s.store := rfl
@[simp] theorem State.modNb_journal (s : State) (n : Nat) (f : Neighbour → Neighbour) : (s.modNb n f).journal = s.journal := rfl
@[simp] theorem State.modNb_upkeep (s : State) (n : Nat) (f : Neighbour → Neighbour) : (s.modNb n f).upkeep = s.upkeep := rfl
@[simp] theorem State.modNb_array (s : State) (n : Nat) (f : Neighbour → Neighbour) : (s.modNb n f).array = s.array := rfl
@[simp] theorem State.modNb_comp (s : State) (n : Nat) (f : Neighbour → Neighbour) : (s.modNb n f).comp = s.comp := rfl
@[simp] theorem State.modNb_mem (s : State) (n : Nat) (f : Neighbour → Neighbour) : (s.modNb n f).mem = s.mem := rfl
@[simp] theorem State.modNb_loops (s : State) (n : Nat) (f : Neighbour → Neighbour) : (s.modNb n f).loops = s.loops := rfl
@[simp] theorem State.modNb_bank (s : State) (n : Nat) (f : Neighbour → Neighbour) : (s.modNb n f).bank = s.bank := rfl
@[simp] theorem State.modNb_thermal (s : State) (n : Nat) (f : Neighbour → Neighbour) : (s.modNb n f).thermal = s.thermal := rfl
@[simp] theorem State.modNb_events (s : State) (n : Nat) (f : Neighbour → Neighbour) : (s.modNb n f).events = s.events := rfl
@[simp] theorem State.modNb_free (s : State) (n : Nat) (f : Neighbour → Neighbour) : (s.modNb n f).free = s.free := rfl

/-! ### send -/

@[simp] theorem State.send_pending (s : State) (x : Sent) : (s.send x).pending = s.pending := rfl
@[simp] theorem State.send_regs (s : State) (x : Sent) : (s.send x).regs = s.regs := rfl
@[simp] theorem State.send_glb (s : State) (x : Sent) : (s.send x).glb = s.glb := rfl
@[simp] theorem State.send_fuses (s : State) (x : Sent) : (s.send x).fuses = s.fuses := rfl
@[simp] theorem State.send_nor (s : State) (x : Sent) : (s.send x).nor = s.nor := rfl
@[simp] theorem State.send_cfg (s : State) (x : Sent) : (s.send x).cfg = s.cfg := rfl
@[simp] theorem State.send_fw (s : State) (x : Sent) : (s.send x).fw = s.fw := rfl
@[simp] theorem State.send_seed (s : State) (x : Sent) : (s.send x).seed = s.seed := rfl
@[simp] theorem State.send_power (s : State) (x : Sent) : (s.send x).power = s.power := rfl
@[simp] theorem State.send_eng (s : State) (x : Sent) : (s.send x).eng = s.eng := rfl
@[simp] theorem State.send_slices (s : State) (x : Sent) : (s.send x).slices = s.slices := rfl
@[simp] theorem State.send_store (s : State) (x : Sent) : (s.send x).store = s.store := rfl
@[simp] theorem State.send_journal (s : State) (x : Sent) : (s.send x).journal = s.journal := rfl
@[simp] theorem State.send_upkeep (s : State) (x : Sent) : (s.send x).upkeep = s.upkeep := rfl
@[simp] theorem State.send_array (s : State) (x : Sent) : (s.send x).array = s.array := rfl
@[simp] theorem State.send_comp (s : State) (x : Sent) : (s.send x).comp = s.comp := rfl
@[simp] theorem State.send_mem (s : State) (x : Sent) : (s.send x).mem = s.mem := rfl
@[simp] theorem State.send_loops (s : State) (x : Sent) : (s.send x).loops = s.loops := rfl
@[simp] theorem State.send_bank (s : State) (x : Sent) : (s.send x).bank = s.bank := rfl
@[simp] theorem State.send_thermal (s : State) (x : Sent) : (s.send x).thermal = s.thermal := rfl
@[simp] theorem State.send_events (s : State) (x : Sent) : (s.send x).events = s.events := rfl
@[simp] theorem State.send_free (s : State) (x : Sent) : (s.send x).free = s.free := rfl

/-! ### modCarrier -/

@[simp] theorem State.modCarrier_pending (s : State) (k : Nat) (f : Carrier → Carrier) : (s.modCarrier k f).pending = s.pending := rfl
@[simp] theorem State.modCarrier_regs (s : State) (k : Nat) (f : Carrier → Carrier) : (s.modCarrier k f).regs = s.regs := rfl
@[simp] theorem State.modCarrier_glb (s : State) (k : Nat) (f : Carrier → Carrier) : (s.modCarrier k f).glb = s.glb := rfl
@[simp] theorem State.modCarrier_fuses (s : State) (k : Nat) (f : Carrier → Carrier) : (s.modCarrier k f).fuses = s.fuses := rfl
@[simp] theorem State.modCarrier_nor (s : State) (k : Nat) (f : Carrier → Carrier) : (s.modCarrier k f).nor = s.nor := rfl
@[simp] theorem State.modCarrier_cfg (s : State) (k : Nat) (f : Carrier → Carrier) : (s.modCarrier k f).cfg = s.cfg := rfl
@[simp] theorem State.modCarrier_fw (s : State) (k : Nat) (f : Carrier → Carrier) : (s.modCarrier k f).fw = s.fw := rfl
@[simp] theorem State.modCarrier_seed (s : State) (k : Nat) (f : Carrier → Carrier) : (s.modCarrier k f).seed = s.seed := rfl
@[simp] theorem State.modCarrier_power (s : State) (k : Nat) (f : Carrier → Carrier) : (s.modCarrier k f).power = s.power := rfl
@[simp] theorem State.modCarrier_fabric (s : State) (k : Nat) (f : Carrier → Carrier) : (s.modCarrier k f).fabric = s.fabric := rfl
@[simp] theorem State.modCarrier_eng (s : State) (k : Nat) (f : Carrier → Carrier) : (s.modCarrier k f).eng = s.eng := rfl
@[simp] theorem State.modCarrier_slices (s : State) (k : Nat) (f : Carrier → Carrier) : (s.modCarrier k f).slices = s.slices := rfl
@[simp] theorem State.modCarrier_store (s : State) (k : Nat) (f : Carrier → Carrier) : (s.modCarrier k f).store = s.store := rfl
@[simp] theorem State.modCarrier_journal (s : State) (k : Nat) (f : Carrier → Carrier) : (s.modCarrier k f).journal = s.journal := rfl
@[simp] theorem State.modCarrier_upkeep (s : State) (k : Nat) (f : Carrier → Carrier) : (s.modCarrier k f).upkeep = s.upkeep := rfl
@[simp] theorem State.modCarrier_comp (s : State) (k : Nat) (f : Carrier → Carrier) : (s.modCarrier k f).comp = s.comp := rfl
@[simp] theorem State.modCarrier_mem (s : State) (k : Nat) (f : Carrier → Carrier) : (s.modCarrier k f).mem = s.mem := rfl
@[simp] theorem State.modCarrier_loops (s : State) (k : Nat) (f : Carrier → Carrier) : (s.modCarrier k f).loops = s.loops := rfl
@[simp] theorem State.modCarrier_bank (s : State) (k : Nat) (f : Carrier → Carrier) : (s.modCarrier k f).bank = s.bank := rfl
@[simp] theorem State.modCarrier_thermal (s : State) (k : Nat) (f : Carrier → Carrier) : (s.modCarrier k f).thermal = s.thermal := rfl
@[simp] theorem State.modCarrier_events (s : State) (k : Nat) (f : Carrier → Carrier) : (s.modCarrier k f).events = s.events := rfl
@[simp] theorem State.modCarrier_free (s : State) (k : Nat) (f : Carrier → Carrier) : (s.modCarrier k f).free = s.free := rfl

/-! ### modDie -/

@[simp] theorem State.modDie_pending (s : State) (d : Nat) (f : Die → Die) : (s.modDie d f).pending = s.pending := rfl
@[simp] theorem State.modDie_regs (s : State) (d : Nat) (f : Die → Die) : (s.modDie d f).regs = s.regs := rfl
@[simp] theorem State.modDie_glb (s : State) (d : Nat) (f : Die → Die) : (s.modDie d f).glb = s.glb := rfl
@[simp] theorem State.modDie_fuses (s : State) (d : Nat) (f : Die → Die) : (s.modDie d f).fuses = s.fuses := rfl
@[simp] theorem State.modDie_nor (s : State) (d : Nat) (f : Die → Die) : (s.modDie d f).nor = s.nor := rfl
@[simp] theorem State.modDie_cfg (s : State) (d : Nat) (f : Die → Die) : (s.modDie d f).cfg = s.cfg := rfl
@[simp] theorem State.modDie_fw (s : State) (d : Nat) (f : Die → Die) : (s.modDie d f).fw = s.fw := rfl
@[simp] theorem State.modDie_seed (s : State) (d : Nat) (f : Die → Die) : (s.modDie d f).seed = s.seed := rfl
@[simp] theorem State.modDie_power (s : State) (d : Nat) (f : Die → Die) : (s.modDie d f).power = s.power := rfl
@[simp] theorem State.modDie_fabric (s : State) (d : Nat) (f : Die → Die) : (s.modDie d f).fabric = s.fabric := rfl
@[simp] theorem State.modDie_eng (s : State) (d : Nat) (f : Die → Die) : (s.modDie d f).eng = s.eng := rfl
@[simp] theorem State.modDie_slices (s : State) (d : Nat) (f : Die → Die) : (s.modDie d f).slices = s.slices := rfl
@[simp] theorem State.modDie_store (s : State) (d : Nat) (f : Die → Die) : (s.modDie d f).store = s.store := rfl
@[simp] theorem State.modDie_journal (s : State) (d : Nat) (f : Die → Die) : (s.modDie d f).journal = s.journal := rfl
@[simp] theorem State.modDie_upkeep (s : State) (d : Nat) (f : Die → Die) : (s.modDie d f).upkeep = s.upkeep := rfl
@[simp] theorem State.modDie_comp (s : State) (d : Nat) (f : Die → Die) : (s.modDie d f).comp = s.comp := rfl
@[simp] theorem State.modDie_mem (s : State) (d : Nat) (f : Die → Die) : (s.modDie d f).mem = s.mem := rfl
@[simp] theorem State.modDie_loops (s : State) (d : Nat) (f : Die → Die) : (s.modDie d f).loops = s.loops := rfl
@[simp] theorem State.modDie_bank (s : State) (d : Nat) (f : Die → Die) : (s.modDie d f).bank = s.bank := rfl
@[simp] theorem State.modDie_thermal (s : State) (d : Nat) (f : Die → Die) : (s.modDie d f).thermal = s.thermal := rfl
@[simp] theorem State.modDie_events (s : State) (d : Nat) (f : Die → Die) : (s.modDie d f).events = s.events := rfl
@[simp] theorem State.modDie_free (s : State) (d : Nat) (f : Die → Die) : (s.modDie d f).free = s.free := rfl

/-! ### modChan -/

@[simp] theorem State.modChan_pending (s : State) (c : Nat) (f : Chan → Chan) : (s.modChan c f).pending = s.pending := rfl
@[simp] theorem State.modChan_regs (s : State) (c : Nat) (f : Chan → Chan) : (s.modChan c f).regs = s.regs := rfl
@[simp] theorem State.modChan_glb (s : State) (c : Nat) (f : Chan → Chan) : (s.modChan c f).glb = s.glb := rfl
@[simp] theorem State.modChan_fuses (s : State) (c : Nat) (f : Chan → Chan) : (s.modChan c f).fuses = s.fuses := rfl
@[simp] theorem State.modChan_nor (s : State) (c : Nat) (f : Chan → Chan) : (s.modChan c f).nor = s.nor := rfl
@[simp] theorem State.modChan_cfg (s : State) (c : Nat) (f : Chan → Chan) : (s.modChan c f).cfg = s.cfg := rfl
@[simp] theorem State.modChan_fw (s : State) (c : Nat) (f : Chan → Chan) : (s.modChan c f).fw = s.fw := rfl
@[simp] theorem State.modChan_seed (s : State) (c : Nat) (f : Chan → Chan) : (s.modChan c f).seed = s.seed := rfl
@[simp] theorem State.modChan_power (s : State) (c : Nat) (f : Chan → Chan) : (s.modChan c f).power = s.power := rfl
@[simp] theorem State.modChan_fabric (s : State) (c : Nat) (f : Chan → Chan) : (s.modChan c f).fabric = s.fabric := rfl
@[simp] theorem State.modChan_eng (s : State) (c : Nat) (f : Chan → Chan) : (s.modChan c f).eng = s.eng := rfl
@[simp] theorem State.modChan_slices (s : State) (c : Nat) (f : Chan → Chan) : (s.modChan c f).slices = s.slices := rfl
@[simp] theorem State.modChan_store (s : State) (c : Nat) (f : Chan → Chan) : (s.modChan c f).store = s.store := rfl
@[simp] theorem State.modChan_journal (s : State) (c : Nat) (f : Chan → Chan) : (s.modChan c f).journal = s.journal := rfl
@[simp] theorem State.modChan_upkeep (s : State) (c : Nat) (f : Chan → Chan) : (s.modChan c f).upkeep = s.upkeep := rfl
@[simp] theorem State.modChan_comp (s : State) (c : Nat) (f : Chan → Chan) : (s.modChan c f).comp = s.comp := rfl
@[simp] theorem State.modChan_mem (s : State) (c : Nat) (f : Chan → Chan) : (s.modChan c f).mem = s.mem := rfl
@[simp] theorem State.modChan_loops (s : State) (c : Nat) (f : Chan → Chan) : (s.modChan c f).loops = s.loops := rfl
@[simp] theorem State.modChan_bank (s : State) (c : Nat) (f : Chan → Chan) : (s.modChan c f).bank = s.bank := rfl
@[simp] theorem State.modChan_thermal (s : State) (c : Nat) (f : Chan → Chan) : (s.modChan c f).thermal = s.thermal := rfl
@[simp] theorem State.modChan_events (s : State) (c : Nat) (f : Chan → Chan) : (s.modChan c f).events = s.events := rfl
@[simp] theorem State.modChan_free (s : State) (c : Nat) (f : Chan → Chan) : (s.modChan c f).free = s.free := rfl

/-! ### modBlock -/

@[simp] theorem State.modBlock_pending (s : State) (d b : Nat) (f : Block → Block) : (s.modBlock d b f).pending = s.pending := rfl
@[simp] theorem State.modBlock_regs (s : State) (d b : Nat) (f : Block → Block) : (s.modBlock d b f).regs = s.regs := rfl
@[simp] theorem State.modBlock_glb (s : State) (d b : Nat) (f : Block → Block) : (s.modBlock d b f).glb = s.glb := rfl
@[simp] theorem State.modBlock_fuses (s : State) (d b : Nat) (f : Block → Block) : (s.modBlock d b f).fuses = s.fuses := rfl
@[simp] theorem State.modBlock_nor (s : State) (d b : Nat) (f : Block → Block) : (s.modBlock d b f).nor = s.nor := rfl
@[simp] theorem State.modBlock_cfg (s : State) (d b : Nat) (f : Block → Block) : (s.modBlock d b f).cfg = s.cfg := rfl
@[simp] theorem State.modBlock_fw (s : State) (d b : Nat) (f : Block → Block) : (s.modBlock d b f).fw = s.fw := rfl
@[simp] theorem State.modBlock_seed (s : State) (d b : Nat) (f : Block → Block) : (s.modBlock d b f).seed = s.seed := rfl
@[simp] theorem State.modBlock_power (s : State) (d b : Nat) (f : Block → Block) : (s.modBlock d b f).power = s.power := rfl
@[simp] theorem State.modBlock_fabric (s : State) (d b : Nat) (f : Block → Block) : (s.modBlock d b f).fabric = s.fabric := rfl
@[simp] theorem State.modBlock_eng (s : State) (d b : Nat) (f : Block → Block) : (s.modBlock d b f).eng = s.eng := rfl
@[simp] theorem State.modBlock_slices (s : State) (d b : Nat) (f : Block → Block) : (s.modBlock d b f).slices = s.slices := rfl
@[simp] theorem State.modBlock_store (s : State) (d b : Nat) (f : Block → Block) : (s.modBlock d b f).store = s.store := rfl
@[simp] theorem State.modBlock_journal (s : State) (d b : Nat) (f : Block → Block) : (s.modBlock d b f).journal = s.journal := rfl
@[simp] theorem State.modBlock_array (s : State) (d b : Nat) (f : Block → Block) : (s.modBlock d b f).array = s.array := rfl
@[simp] theorem State.modBlock_comp (s : State) (d b : Nat) (f : Block → Block) : (s.modBlock d b f).comp = s.comp := rfl
@[simp] theorem State.modBlock_mem (s : State) (d b : Nat) (f : Block → Block) : (s.modBlock d b f).mem = s.mem := rfl
@[simp] theorem State.modBlock_loops (s : State) (d b : Nat) (f : Block → Block) : (s.modBlock d b f).loops = s.loops := rfl
@[simp] theorem State.modBlock_bank (s : State) (d b : Nat) (f : Block → Block) : (s.modBlock d b f).bank = s.bank := rfl
@[simp] theorem State.modBlock_thermal (s : State) (d b : Nat) (f : Block → Block) : (s.modBlock d b f).thermal = s.thermal := rfl
@[simp] theorem State.modBlock_events (s : State) (d b : Nat) (f : Block → Block) : (s.modBlock d b f).events = s.events := rfl
@[simp] theorem State.modBlock_free (s : State) (d b : Nat) (f : Block → Block) : (s.modBlock d b f).free = s.free := rfl

/-! ### modBand -/

@[simp] theorem State.modBand_pending (s : State) (n : Nat) (f : Band → Band) : (s.modBand n f).pending = s.pending := rfl
@[simp] theorem State.modBand_regs (s : State) (n : Nat) (f : Band → Band) : (s.modBand n f).regs = s.regs := rfl
@[simp] theorem State.modBand_glb (s : State) (n : Nat) (f : Band → Band) : (s.modBand n f).glb = s.glb := rfl
@[simp] theorem State.modBand_fuses (s : State) (n : Nat) (f : Band → Band) : (s.modBand n f).fuses = s.fuses := rfl
@[simp] theorem State.modBand_nor (s : State) (n : Nat) (f : Band → Band) : (s.modBand n f).nor = s.nor := rfl
@[simp] theorem State.modBand_cfg (s : State) (n : Nat) (f : Band → Band) : (s.modBand n f).cfg = s.cfg := rfl
@[simp] theorem State.modBand_fw (s : State) (n : Nat) (f : Band → Band) : (s.modBand n f).fw = s.fw := rfl
@[simp] theorem State.modBand_seed (s : State) (n : Nat) (f : Band → Band) : (s.modBand n f).seed = s.seed := rfl
@[simp] theorem State.modBand_power (s : State) (n : Nat) (f : Band → Band) : (s.modBand n f).power = s.power := rfl
@[simp] theorem State.modBand_fabric (s : State) (n : Nat) (f : Band → Band) : (s.modBand n f).fabric = s.fabric := rfl
@[simp] theorem State.modBand_eng (s : State) (n : Nat) (f : Band → Band) : (s.modBand n f).eng = s.eng := rfl
@[simp] theorem State.modBand_slices (s : State) (n : Nat) (f : Band → Band) : (s.modBand n f).slices = s.slices := rfl
@[simp] theorem State.modBand_store (s : State) (n : Nat) (f : Band → Band) : (s.modBand n f).store = s.store := rfl
@[simp] theorem State.modBand_journal (s : State) (n : Nat) (f : Band → Band) : (s.modBand n f).journal = s.journal := rfl
@[simp] theorem State.modBand_array (s : State) (n : Nat) (f : Band → Band) : (s.modBand n f).array = s.array := rfl
@[simp] theorem State.modBand_comp (s : State) (n : Nat) (f : Band → Band) : (s.modBand n f).comp = s.comp := rfl
@[simp] theorem State.modBand_mem (s : State) (n : Nat) (f : Band → Band) : (s.modBand n f).mem = s.mem := rfl
@[simp] theorem State.modBand_loops (s : State) (n : Nat) (f : Band → Band) : (s.modBand n f).loops = s.loops := rfl
@[simp] theorem State.modBand_bank (s : State) (n : Nat) (f : Band → Band) : (s.modBand n f).bank = s.bank := rfl
@[simp] theorem State.modBand_thermal (s : State) (n : Nat) (f : Band → Band) : (s.modBand n f).thermal = s.thermal := rfl
@[simp] theorem State.modBand_events (s : State) (n : Nat) (f : Band → Band) : (s.modBand n f).events = s.events := rfl
@[simp] theorem State.modBand_free (s : State) (n : Nat) (f : Band → Band) : (s.modBand n f).free = s.free := rfl

/-! ### modLane -/

@[simp] theorem State.modLane_pending (s : State) (l : Nat) (f : Lane → Lane) : (s.modLane l f).pending = s.pending := rfl
@[simp] theorem State.modLane_regs (s : State) (l : Nat) (f : Lane → Lane) : (s.modLane l f).regs = s.regs := rfl
@[simp] theorem State.modLane_glb (s : State) (l : Nat) (f : Lane → Lane) : (s.modLane l f).glb = s.glb := rfl
@[simp] theorem State.modLane_fuses (s : State) (l : Nat) (f : Lane → Lane) : (s.modLane l f).fuses = s.fuses := rfl
@[simp] theorem State.modLane_nor (s : State) (l : Nat) (f : Lane → Lane) : (s.modLane l f).nor = s.nor := rfl
@[simp] theorem State.modLane_cfg (s : State) (l : Nat) (f : Lane → Lane) : (s.modLane l f).cfg = s.cfg := rfl
@[simp] theorem State.modLane_fw (s : State) (l : Nat) (f : Lane → Lane) : (s.modLane l f).fw = s.fw := rfl
@[simp] theorem State.modLane_seed (s : State) (l : Nat) (f : Lane → Lane) : (s.modLane l f).seed = s.seed := rfl
@[simp] theorem State.modLane_power (s : State) (l : Nat) (f : Lane → Lane) : (s.modLane l f).power = s.power := rfl
@[simp] theorem State.modLane_fabric (s : State) (l : Nat) (f : Lane → Lane) : (s.modLane l f).fabric = s.fabric := rfl
@[simp] theorem State.modLane_eng (s : State) (l : Nat) (f : Lane → Lane) : (s.modLane l f).eng = s.eng := rfl
@[simp] theorem State.modLane_slices (s : State) (l : Nat) (f : Lane → Lane) : (s.modLane l f).slices = s.slices := rfl
@[simp] theorem State.modLane_store (s : State) (l : Nat) (f : Lane → Lane) : (s.modLane l f).store = s.store := rfl
@[simp] theorem State.modLane_journal (s : State) (l : Nat) (f : Lane → Lane) : (s.modLane l f).journal = s.journal := rfl
@[simp] theorem State.modLane_upkeep (s : State) (l : Nat) (f : Lane → Lane) : (s.modLane l f).upkeep = s.upkeep := rfl
@[simp] theorem State.modLane_array (s : State) (l : Nat) (f : Lane → Lane) : (s.modLane l f).array = s.array := rfl
@[simp] theorem State.modLane_mem (s : State) (l : Nat) (f : Lane → Lane) : (s.modLane l f).mem = s.mem := rfl
@[simp] theorem State.modLane_loops (s : State) (l : Nat) (f : Lane → Lane) : (s.modLane l f).loops = s.loops := rfl
@[simp] theorem State.modLane_bank (s : State) (l : Nat) (f : Lane → Lane) : (s.modLane l f).bank = s.bank := rfl
@[simp] theorem State.modLane_thermal (s : State) (l : Nat) (f : Lane → Lane) : (s.modLane l f).thermal = s.thermal := rfl
@[simp] theorem State.modLane_events (s : State) (l : Nat) (f : Lane → Lane) : (s.modLane l f).events = s.events := rfl
@[simp] theorem State.modLane_free (s : State) (l : Nat) (f : Lane → Lane) : (s.modLane l f).free = s.free := rfl

/-! ### modStream -/

@[simp] theorem State.modStream_pending (s : State) (i : Nat) (f : StreamJob → StreamJob) : (s.modStream i f).pending = s.pending := rfl
@[simp] theorem State.modStream_regs (s : State) (i : Nat) (f : StreamJob → StreamJob) : (s.modStream i f).regs = s.regs := rfl
@[simp] theorem State.modStream_glb (s : State) (i : Nat) (f : StreamJob → StreamJob) : (s.modStream i f).glb = s.glb := rfl
@[simp] theorem State.modStream_fuses (s : State) (i : Nat) (f : StreamJob → StreamJob) : (s.modStream i f).fuses = s.fuses := rfl
@[simp] theorem State.modStream_nor (s : State) (i : Nat) (f : StreamJob → StreamJob) : (s.modStream i f).nor = s.nor := rfl
@[simp] theorem State.modStream_cfg (s : State) (i : Nat) (f : StreamJob → StreamJob) : (s.modStream i f).cfg = s.cfg := rfl
@[simp] theorem State.modStream_fw (s : State) (i : Nat) (f : StreamJob → StreamJob) : (s.modStream i f).fw = s.fw := rfl
@[simp] theorem State.modStream_seed (s : State) (i : Nat) (f : StreamJob → StreamJob) : (s.modStream i f).seed = s.seed := rfl
@[simp] theorem State.modStream_power (s : State) (i : Nat) (f : StreamJob → StreamJob) : (s.modStream i f).power = s.power := rfl
@[simp] theorem State.modStream_fabric (s : State) (i : Nat) (f : StreamJob → StreamJob) : (s.modStream i f).fabric = s.fabric := rfl
@[simp] theorem State.modStream_eng (s : State) (i : Nat) (f : StreamJob → StreamJob) : (s.modStream i f).eng = s.eng := rfl
@[simp] theorem State.modStream_slices (s : State) (i : Nat) (f : StreamJob → StreamJob) : (s.modStream i f).slices = s.slices := rfl
@[simp] theorem State.modStream_store (s : State) (i : Nat) (f : StreamJob → StreamJob) : (s.modStream i f).store = s.store := rfl
@[simp] theorem State.modStream_journal (s : State) (i : Nat) (f : StreamJob → StreamJob) : (s.modStream i f).journal = s.journal := rfl
@[simp] theorem State.modStream_upkeep (s : State) (i : Nat) (f : StreamJob → StreamJob) : (s.modStream i f).upkeep = s.upkeep := rfl
@[simp] theorem State.modStream_array (s : State) (i : Nat) (f : StreamJob → StreamJob) : (s.modStream i f).array = s.array := rfl
@[simp] theorem State.modStream_mem (s : State) (i : Nat) (f : StreamJob → StreamJob) : (s.modStream i f).mem = s.mem := rfl
@[simp] theorem State.modStream_loops (s : State) (i : Nat) (f : StreamJob → StreamJob) : (s.modStream i f).loops = s.loops := rfl
@[simp] theorem State.modStream_bank (s : State) (i : Nat) (f : StreamJob → StreamJob) : (s.modStream i f).bank = s.bank := rfl
@[simp] theorem State.modStream_thermal (s : State) (i : Nat) (f : StreamJob → StreamJob) : (s.modStream i f).thermal = s.thermal := rfl
@[simp] theorem State.modStream_events (s : State) (i : Nat) (f : StreamJob → StreamJob) : (s.modStream i f).events = s.events := rfl
@[simp] theorem State.modStream_free (s : State) (i : Nat) (f : StreamJob → StreamJob) : (s.modStream i f).free = s.free := rfl

/-! ### modSlot -/

@[simp] theorem State.modSlot_pending (s : State) (k : Nat) (f : Slot → Slot) : (s.modSlot k f).pending = s.pending := rfl
@[simp] theorem State.modSlot_regs (s : State) (k : Nat) (f : Slot → Slot) : (s.modSlot k f).regs = s.regs := rfl
@[simp] theorem State.modSlot_glb (s : State) (k : Nat) (f : Slot → Slot) : (s.modSlot k f).glb = s.glb := rfl
@[simp] theorem State.modSlot_fuses (s : State) (k : Nat) (f : Slot → Slot) : (s.modSlot k f).fuses = s.fuses := rfl
@[simp] theorem State.modSlot_nor (s : State) (k : Nat) (f : Slot → Slot) : (s.modSlot k f).nor = s.nor := rfl
@[simp] theorem State.modSlot_cfg (s : State) (k : Nat) (f : Slot → Slot) : (s.modSlot k f).cfg = s.cfg := rfl
@[simp] theorem State.modSlot_fw (s : State) (k : Nat) (f : Slot → Slot) : (s.modSlot k f).fw = s.fw := rfl
@[simp] theorem State.modSlot_seed (s : State) (k : Nat) (f : Slot → Slot) : (s.modSlot k f).seed = s.seed := rfl
@[simp] theorem State.modSlot_power (s : State) (k : Nat) (f : Slot → Slot) : (s.modSlot k f).power = s.power := rfl
@[simp] theorem State.modSlot_fabric (s : State) (k : Nat) (f : Slot → Slot) : (s.modSlot k f).fabric = s.fabric := rfl
@[simp] theorem State.modSlot_eng (s : State) (k : Nat) (f : Slot → Slot) : (s.modSlot k f).eng = s.eng := rfl
@[simp] theorem State.modSlot_slices (s : State) (k : Nat) (f : Slot → Slot) : (s.modSlot k f).slices = s.slices := rfl
@[simp] theorem State.modSlot_store (s : State) (k : Nat) (f : Slot → Slot) : (s.modSlot k f).store = s.store := rfl
@[simp] theorem State.modSlot_journal (s : State) (k : Nat) (f : Slot → Slot) : (s.modSlot k f).journal = s.journal := rfl
@[simp] theorem State.modSlot_upkeep (s : State) (k : Nat) (f : Slot → Slot) : (s.modSlot k f).upkeep = s.upkeep := rfl
@[simp] theorem State.modSlot_array (s : State) (k : Nat) (f : Slot → Slot) : (s.modSlot k f).array = s.array := rfl
@[simp] theorem State.modSlot_comp (s : State) (k : Nat) (f : Slot → Slot) : (s.modSlot k f).comp = s.comp := rfl
@[simp] theorem State.modSlot_mem (s : State) (k : Nat) (f : Slot → Slot) : (s.modSlot k f).mem = s.mem := rfl
@[simp] theorem State.modSlot_bank (s : State) (k : Nat) (f : Slot → Slot) : (s.modSlot k f).bank = s.bank := rfl
@[simp] theorem State.modSlot_thermal (s : State) (k : Nat) (f : Slot → Slot) : (s.modSlot k f).thermal = s.thermal := rfl
@[simp] theorem State.modSlot_events (s : State) (k : Nat) (f : Slot → Slot) : (s.modSlot k f).events = s.events := rfl
@[simp] theorem State.modSlot_free (s : State) (k : Nat) (f : Slot → Slot) : (s.modSlot k f).free = s.free := rfl

/-! ### setRank -/

@[simp] theorem State.setRank_pending (s : State) (c r st : Nat) : (s.setRank c r st).pending = s.pending := rfl
@[simp] theorem State.setRank_regs (s : State) (c r st : Nat) : (s.setRank c r st).regs = s.regs := rfl
@[simp] theorem State.setRank_glb (s : State) (c r st : Nat) : (s.setRank c r st).glb = s.glb := rfl
@[simp] theorem State.setRank_fuses (s : State) (c r st : Nat) : (s.setRank c r st).fuses = s.fuses := rfl
@[simp] theorem State.setRank_nor (s : State) (c r st : Nat) : (s.setRank c r st).nor = s.nor := rfl
@[simp] theorem State.setRank_cfg (s : State) (c r st : Nat) : (s.setRank c r st).cfg = s.cfg := rfl
@[simp] theorem State.setRank_fw (s : State) (c r st : Nat) : (s.setRank c r st).fw = s.fw := rfl
@[simp] theorem State.setRank_seed (s : State) (c r st : Nat) : (s.setRank c r st).seed = s.seed := rfl
@[simp] theorem State.setRank_power (s : State) (c r st : Nat) : (s.setRank c r st).power = s.power := rfl
@[simp] theorem State.setRank_fabric (s : State) (c r st : Nat) : (s.setRank c r st).fabric = s.fabric := rfl
@[simp] theorem State.setRank_eng (s : State) (c r st : Nat) : (s.setRank c r st).eng = s.eng := rfl
@[simp] theorem State.setRank_slices (s : State) (c r st : Nat) : (s.setRank c r st).slices = s.slices := rfl
@[simp] theorem State.setRank_store (s : State) (c r st : Nat) : (s.setRank c r st).store = s.store := rfl
@[simp] theorem State.setRank_journal (s : State) (c r st : Nat) : (s.setRank c r st).journal = s.journal := rfl
@[simp] theorem State.setRank_upkeep (s : State) (c r st : Nat) : (s.setRank c r st).upkeep = s.upkeep := rfl
@[simp] theorem State.setRank_array (s : State) (c r st : Nat) : (s.setRank c r st).array = s.array := rfl
@[simp] theorem State.setRank_comp (s : State) (c r st : Nat) : (s.setRank c r st).comp = s.comp := rfl
@[simp] theorem State.setRank_loops (s : State) (c r st : Nat) : (s.setRank c r st).loops = s.loops := rfl
@[simp] theorem State.setRank_bank (s : State) (c r st : Nat) : (s.setRank c r st).bank = s.bank := rfl
@[simp] theorem State.setRank_thermal (s : State) (c r st : Nat) : (s.setRank c r st).thermal = s.thermal := rfl
@[simp] theorem State.setRank_events (s : State) (c r st : Nat) : (s.setRank c r st).events = s.events := rfl
@[simp] theorem State.setRank_free (s : State) (c r st : Nat) : (s.setRank c r st).free = s.free := rfl

/-! ### modStripe -/

@[simp] theorem State.modStripe_pending (s : State) (b n : Nat) (f : Stripe → Stripe) : (s.modStripe b n f).pending = s.pending := rfl
@[simp] theorem State.modStripe_regs (s : State) (b n : Nat) (f : Stripe → Stripe) : (s.modStripe b n f).regs = s.regs := rfl
@[simp] theorem State.modStripe_glb (s : State) (b n : Nat) (f : Stripe → Stripe) : (s.modStripe b n f).glb = s.glb := rfl
@[simp] theorem State.modStripe_fuses (s : State) (b n : Nat) (f : Stripe → Stripe) : (s.modStripe b n f).fuses = s.fuses := rfl
@[simp] theorem State.modStripe_nor (s : State) (b n : Nat) (f : Stripe → Stripe) : (s.modStripe b n f).nor = s.nor := rfl
@[simp] theorem State.modStripe_cfg (s : State) (b n : Nat) (f : Stripe → Stripe) : (s.modStripe b n f).cfg = s.cfg := rfl
@[simp] theorem State.modStripe_fw (s : State) (b n : Nat) (f : Stripe → Stripe) : (s.modStripe b n f).fw = s.fw := rfl
@[simp] theorem State.modStripe_seed (s : State) (b n : Nat) (f : Stripe → Stripe) : (s.modStripe b n f).seed = s.seed := rfl
@[simp] theorem State.modStripe_power (s : State) (b n : Nat) (f : Stripe → Stripe) : (s.modStripe b n f).power = s.power := rfl
@[simp] theorem State.modStripe_fabric (s : State) (b n : Nat) (f : Stripe → Stripe) : (s.modStripe b n f).fabric = s.fabric := rfl
@[simp] theorem State.modStripe_eng (s : State) (b n : Nat) (f : Stripe → Stripe) : (s.modStripe b n f).eng = s.eng := rfl
@[simp] theorem State.modStripe_slices (s : State) (b n : Nat) (f : Stripe → Stripe) : (s.modStripe b n f).slices = s.slices := rfl
@[simp] theorem State.modStripe_journal (s : State) (b n : Nat) (f : Stripe → Stripe) : (s.modStripe b n f).journal = s.journal := rfl
@[simp] theorem State.modStripe_upkeep (s : State) (b n : Nat) (f : Stripe → Stripe) : (s.modStripe b n f).upkeep = s.upkeep := rfl
@[simp] theorem State.modStripe_array (s : State) (b n : Nat) (f : Stripe → Stripe) : (s.modStripe b n f).array = s.array := rfl
@[simp] theorem State.modStripe_comp (s : State) (b n : Nat) (f : Stripe → Stripe) : (s.modStripe b n f).comp = s.comp := rfl
@[simp] theorem State.modStripe_mem (s : State) (b n : Nat) (f : Stripe → Stripe) : (s.modStripe b n f).mem = s.mem := rfl
@[simp] theorem State.modStripe_loops (s : State) (b n : Nat) (f : Stripe → Stripe) : (s.modStripe b n f).loops = s.loops := rfl
@[simp] theorem State.modStripe_bank (s : State) (b n : Nat) (f : Stripe → Stripe) : (s.modStripe b n f).bank = s.bank := rfl
@[simp] theorem State.modStripe_thermal (s : State) (b n : Nat) (f : Stripe → Stripe) : (s.modStripe b n f).thermal = s.thermal := rfl
@[simp] theorem State.modStripe_events (s : State) (b n : Nat) (f : Stripe → Stripe) : (s.modStripe b n f).events = s.events := rfl
@[simp] theorem State.modStripe_free (s : State) (b n : Nat) (f : Stripe → Stripe) : (s.modStripe b n f).free = s.free := rfl

/-! ### modJob -/

@[simp] theorem State.modJob_pending (s : State) (i : Nat) (f : UnitJob → UnitJob) : (s.modJob i f).pending = s.pending := rfl
@[simp] theorem State.modJob_regs (s : State) (i : Nat) (f : UnitJob → UnitJob) : (s.modJob i f).regs = s.regs := rfl
@[simp] theorem State.modJob_glb (s : State) (i : Nat) (f : UnitJob → UnitJob) : (s.modJob i f).glb = s.glb := rfl
@[simp] theorem State.modJob_fuses (s : State) (i : Nat) (f : UnitJob → UnitJob) : (s.modJob i f).fuses = s.fuses := rfl
@[simp] theorem State.modJob_nor (s : State) (i : Nat) (f : UnitJob → UnitJob) : (s.modJob i f).nor = s.nor := rfl
@[simp] theorem State.modJob_cfg (s : State) (i : Nat) (f : UnitJob → UnitJob) : (s.modJob i f).cfg = s.cfg := rfl
@[simp] theorem State.modJob_fw (s : State) (i : Nat) (f : UnitJob → UnitJob) : (s.modJob i f).fw = s.fw := rfl
@[simp] theorem State.modJob_seed (s : State) (i : Nat) (f : UnitJob → UnitJob) : (s.modJob i f).seed = s.seed := rfl
@[simp] theorem State.modJob_power (s : State) (i : Nat) (f : UnitJob → UnitJob) : (s.modJob i f).power = s.power := rfl
@[simp] theorem State.modJob_fabric (s : State) (i : Nat) (f : UnitJob → UnitJob) : (s.modJob i f).fabric = s.fabric := rfl
@[simp] theorem State.modJob_eng (s : State) (i : Nat) (f : UnitJob → UnitJob) : (s.modJob i f).eng = s.eng := rfl
@[simp] theorem State.modJob_slices (s : State) (i : Nat) (f : UnitJob → UnitJob) : (s.modJob i f).slices = s.slices := rfl
@[simp] theorem State.modJob_journal (s : State) (i : Nat) (f : UnitJob → UnitJob) : (s.modJob i f).journal = s.journal := rfl
@[simp] theorem State.modJob_upkeep (s : State) (i : Nat) (f : UnitJob → UnitJob) : (s.modJob i f).upkeep = s.upkeep := rfl
@[simp] theorem State.modJob_array (s : State) (i : Nat) (f : UnitJob → UnitJob) : (s.modJob i f).array = s.array := rfl
@[simp] theorem State.modJob_comp (s : State) (i : Nat) (f : UnitJob → UnitJob) : (s.modJob i f).comp = s.comp := rfl
@[simp] theorem State.modJob_mem (s : State) (i : Nat) (f : UnitJob → UnitJob) : (s.modJob i f).mem = s.mem := rfl
@[simp] theorem State.modJob_loops (s : State) (i : Nat) (f : UnitJob → UnitJob) : (s.modJob i f).loops = s.loops := rfl
@[simp] theorem State.modJob_bank (s : State) (i : Nat) (f : UnitJob → UnitJob) : (s.modJob i f).bank = s.bank := rfl
@[simp] theorem State.modJob_thermal (s : State) (i : Nat) (f : UnitJob → UnitJob) : (s.modJob i f).thermal = s.thermal := rfl
@[simp] theorem State.modJob_events (s : State) (i : Nat) (f : UnitJob → UnitJob) : (s.modJob i f).events = s.events := rfl
@[simp] theorem State.modJob_free (s : State) (i : Nat) (f : UnitJob → UnitJob) : (s.modJob i f).free = s.free := rfl

/-! ### modConn -/

@[simp] theorem State.modConn_pending (s : State) (i : Nat) (f : Conn → Conn) : (s.modConn i f).pending = s.pending := rfl
@[simp] theorem State.modConn_regs (s : State) (i : Nat) (f : Conn → Conn) : (s.modConn i f).regs = s.regs := rfl
@[simp] theorem State.modConn_glb (s : State) (i : Nat) (f : Conn → Conn) : (s.modConn i f).glb = s.glb := rfl
@[simp] theorem State.modConn_fuses (s : State) (i : Nat) (f : Conn → Conn) : (s.modConn i f).fuses = s.fuses := rfl
@[simp] theorem State.modConn_nor (s : State) (i : Nat) (f : Conn → Conn) : (s.modConn i f).nor = s.nor := rfl
@[simp] theorem State.modConn_cfg (s : State) (i : Nat) (f : Conn → Conn) : (s.modConn i f).cfg = s.cfg := rfl
@[simp] theorem State.modConn_fw (s : State) (i : Nat) (f : Conn → Conn) : (s.modConn i f).fw = s.fw := rfl
@[simp] theorem State.modConn_seed (s : State) (i : Nat) (f : Conn → Conn) : (s.modConn i f).seed = s.seed := rfl
@[simp] theorem State.modConn_power (s : State) (i : Nat) (f : Conn → Conn) : (s.modConn i f).power = s.power := rfl
@[simp] theorem State.modConn_eng (s : State) (i : Nat) (f : Conn → Conn) : (s.modConn i f).eng = s.eng := rfl
@[simp] theorem State.modConn_slices (s : State) (i : Nat) (f : Conn → Conn) : (s.modConn i f).slices = s.slices := rfl
@[simp] theorem State.modConn_store (s : State) (i : Nat) (f : Conn → Conn) : (s.modConn i f).store = s.store := rfl
@[simp] theorem State.modConn_journal (s : State) (i : Nat) (f : Conn → Conn) : (s.modConn i f).journal = s.journal := rfl
@[simp] theorem State.modConn_upkeep (s : State) (i : Nat) (f : Conn → Conn) : (s.modConn i f).upkeep = s.upkeep := rfl
@[simp] theorem State.modConn_array (s : State) (i : Nat) (f : Conn → Conn) : (s.modConn i f).array = s.array := rfl
@[simp] theorem State.modConn_comp (s : State) (i : Nat) (f : Conn → Conn) : (s.modConn i f).comp = s.comp := rfl
@[simp] theorem State.modConn_mem (s : State) (i : Nat) (f : Conn → Conn) : (s.modConn i f).mem = s.mem := rfl
@[simp] theorem State.modConn_loops (s : State) (i : Nat) (f : Conn → Conn) : (s.modConn i f).loops = s.loops := rfl
@[simp] theorem State.modConn_bank (s : State) (i : Nat) (f : Conn → Conn) : (s.modConn i f).bank = s.bank := rfl
@[simp] theorem State.modConn_thermal (s : State) (i : Nat) (f : Conn → Conn) : (s.modConn i f).thermal = s.thermal := rfl
@[simp] theorem State.modConn_events (s : State) (i : Nat) (f : Conn → Conn) : (s.modConn i f).events = s.events := rfl
@[simp] theorem State.modConn_free (s : State) (i : Nat) (f : Conn → Conn) : (s.modConn i f).free = s.free := rfl

/-! ### putDoms -/

@[simp] theorem State.putDoms_pending (s : State) (l : List Nat) (c : DomCond) : (s.putDoms l c).pending = s.pending := rfl
@[simp] theorem State.putDoms_regs (s : State) (l : List Nat) (c : DomCond) : (s.putDoms l c).regs = s.regs := rfl
@[simp] theorem State.putDoms_glb (s : State) (l : List Nat) (c : DomCond) : (s.putDoms l c).glb = s.glb := rfl
@[simp] theorem State.putDoms_fuses (s : State) (l : List Nat) (c : DomCond) : (s.putDoms l c).fuses = s.fuses := rfl
@[simp] theorem State.putDoms_nor (s : State) (l : List Nat) (c : DomCond) : (s.putDoms l c).nor = s.nor := rfl
@[simp] theorem State.putDoms_cfg (s : State) (l : List Nat) (c : DomCond) : (s.putDoms l c).cfg = s.cfg := rfl
@[simp] theorem State.putDoms_fw (s : State) (l : List Nat) (c : DomCond) : (s.putDoms l c).fw = s.fw := rfl
@[simp] theorem State.putDoms_seed (s : State) (l : List Nat) (c : DomCond) : (s.putDoms l c).seed = s.seed := rfl
@[simp] theorem State.putDoms_fabric (s : State) (l : List Nat) (c : DomCond) : (s.putDoms l c).fabric = s.fabric := rfl
@[simp] theorem State.putDoms_eng (s : State) (l : List Nat) (c : DomCond) : (s.putDoms l c).eng = s.eng := rfl
@[simp] theorem State.putDoms_slices (s : State) (l : List Nat) (c : DomCond) : (s.putDoms l c).slices = s.slices := rfl
@[simp] theorem State.putDoms_store (s : State) (l : List Nat) (c : DomCond) : (s.putDoms l c).store = s.store := rfl
@[simp] theorem State.putDoms_journal (s : State) (l : List Nat) (c : DomCond) : (s.putDoms l c).journal = s.journal := rfl
@[simp] theorem State.putDoms_upkeep (s : State) (l : List Nat) (c : DomCond) : (s.putDoms l c).upkeep = s.upkeep := rfl
@[simp] theorem State.putDoms_array (s : State) (l : List Nat) (c : DomCond) : (s.putDoms l c).array = s.array := rfl
@[simp] theorem State.putDoms_comp (s : State) (l : List Nat) (c : DomCond) : (s.putDoms l c).comp = s.comp := rfl
@[simp] theorem State.putDoms_mem (s : State) (l : List Nat) (c : DomCond) : (s.putDoms l c).mem = s.mem := rfl
@[simp] theorem State.putDoms_loops (s : State) (l : List Nat) (c : DomCond) : (s.putDoms l c).loops = s.loops := rfl
@[simp] theorem State.putDoms_bank (s : State) (l : List Nat) (c : DomCond) : (s.putDoms l c).bank = s.bank := rfl
@[simp] theorem State.putDoms_thermal (s : State) (l : List Nat) (c : DomCond) : (s.putDoms l c).thermal = s.thermal := rfl
@[simp] theorem State.putDoms_events (s : State) (l : List Nat) (c : DomCond) : (s.putDoms l c).events = s.events := rfl
@[simp] theorem State.putDoms_free (s : State) (l : List Nat) (c : DomCond) : (s.putDoms l c).free = s.free := rfl
@[simp] theorem State.putDoms_carDom (s : State) (l : List Nat) (c : DomCond) : (s.putDoms l c).power.carDom = s.power.carDom := rfl

/-! ### park -/

@[simp] theorem State.park_pending (s : State) (e : Cct) (st : Nat) (r : Word) : (s.park e st r).pending = s.pending := rfl
@[simp] theorem State.park_regs (s : State) (e : Cct) (st : Nat) (r : Word) : (s.park e st r).regs = s.regs := rfl
@[simp] theorem State.park_glb (s : State) (e : Cct) (st : Nat) (r : Word) : (s.park e st r).glb = s.glb := rfl
@[simp] theorem State.park_fuses (s : State) (e : Cct) (st : Nat) (r : Word) : (s.park e st r).fuses = s.fuses := rfl
@[simp] theorem State.park_nor (s : State) (e : Cct) (st : Nat) (r : Word) : (s.park e st r).nor = s.nor := rfl
@[simp] theorem State.park_cfg (s : State) (e : Cct) (st : Nat) (r : Word) : (s.park e st r).cfg = s.cfg := rfl
@[simp] theorem State.park_fw (s : State) (e : Cct) (st : Nat) (r : Word) : (s.park e st r).fw = s.fw := rfl
@[simp] theorem State.park_seed (s : State) (e : Cct) (st : Nat) (r : Word) : (s.park e st r).seed = s.seed := rfl
@[simp] theorem State.park_power (s : State) (e : Cct) (st : Nat) (r : Word) : (s.park e st r).power = s.power := rfl
@[simp] theorem State.park_fabric (s : State) (e : Cct) (st : Nat) (r : Word) : (s.park e st r).fabric = s.fabric := rfl
@[simp] theorem State.park_slices (s : State) (e : Cct) (st : Nat) (r : Word) : (s.park e st r).slices = s.slices := rfl
@[simp] theorem State.park_store (s : State) (e : Cct) (st : Nat) (r : Word) : (s.park e st r).store = s.store := rfl
@[simp] theorem State.park_journal (s : State) (e : Cct) (st : Nat) (r : Word) : (s.park e st r).journal = s.journal := rfl
@[simp] theorem State.park_upkeep (s : State) (e : Cct) (st : Nat) (r : Word) : (s.park e st r).upkeep = s.upkeep := rfl
@[simp] theorem State.park_array (s : State) (e : Cct) (st : Nat) (r : Word) : (s.park e st r).array = s.array := rfl
@[simp] theorem State.park_comp (s : State) (e : Cct) (st : Nat) (r : Word) : (s.park e st r).comp = s.comp := rfl
@[simp] theorem State.park_mem (s : State) (e : Cct) (st : Nat) (r : Word) : (s.park e st r).mem = s.mem := rfl
@[simp] theorem State.park_loops (s : State) (e : Cct) (st : Nat) (r : Word) : (s.park e st r).loops = s.loops := rfl
@[simp] theorem State.park_bank (s : State) (e : Cct) (st : Nat) (r : Word) : (s.park e st r).bank = s.bank := rfl
@[simp] theorem State.park_thermal (s : State) (e : Cct) (st : Nat) (r : Word) : (s.park e st r).thermal = s.thermal := rfl
@[simp] theorem State.park_events (s : State) (e : Cct) (st : Nat) (r : Word) : (s.park e st r).events = s.events := rfl
@[simp] theorem State.park_free (s : State) (e : Cct) (st : Nat) (r : Word) : (s.park e st r).free = s.free := rfl
@[simp] theorem State.park_queues (s : State) (e : Cct) (st : Nat) (r : Word) : (s.park e st r).eng.queues = s.eng.queues := rfl
@[simp] theorem State.park_ctrls (s : State) (e : Cct) (st : Nat) (r : Word) : (s.park e st r).eng.ctrls = s.eng.ctrls := rfl

end Sys2Proof.Machine
end

