-- ==== Sys2Proof/Laws/Events.lean ====
section
/-! SUPPORT. What completing an entry, raising a notice, capturing an event and examining the Critical Warnings can do: nothing outside
what `Aside` names. -/

namespace Sys2Proof

open Sys2Proof.Machine

theorem Aside.refl (s : State) : Aside s s := ⟨rfl, fun _ _ => rfl⟩

theorem Aside.trans {s t u : State} (h : Aside s t) (k : Aside t u) : Aside s u := by
  refine ⟨?_, fun o ho => (k.regs o ho).trans (h.regs o ho)⟩
  have e := k.rest
  rw [h.rest] at e
  exact e

/-- A step that leaves the registers and touches only what `Aside` names. -/
theorem Aside.of_regs {s t : State} (h : t = { s with
    events := t.events, eng := t.eng, slices := t.slices
    store := { s.store with buf := t.store.buf, jobs := t.store.jobs }
    mem := { s.mem with reqs := t.mem.reqs }
    upkeep := { s.upkeep with bands := t.upkeep.bands }
    fw := { s.fw with probFault := t.fw.probFault } }) : Aside s t := by
  have e : t.regs = s.regs := by rw [h]
  refine ⟨?_, fun o _ => ?_⟩
  · rw [e]; exact h
  · simp only [State.reg, e]

end Sys2Proof

namespace Sys2Proof.Machine

open Sys2Proof

theorem aside_modCtrl (s : State) (c : Nat) (f : Ctrl → Ctrl) : Aside s (s.modCtrl c f) := Aside.of_regs rfl
theorem aside_modEntry (s : State) (e : Nat) (f : Cct → Cct) : Aside s (s.modEntry e f) := Aside.of_regs rfl
theorem aside_modQueue (s : State) (q : Nat) (f : Queue → Queue) : Aside s (s.modQueue q f) := Aside.of_regs rfl
theorem aside_modSlice (s : State) (n : Nat) (f : SliceS → SliceS) : Aside s (s.modSlice n f) := Aside.of_regs rfl
theorem aside_meterAdd (s : State) (n i v : Nat) : Aside s (s.meterAdd n i v) := aside_modSlice ..
theorem aside_finish (s : State) (e st : Nat) (r : Word) (o : Payload) : Aside s (s.finish e st r o) := aside_modEntry ..
theorem aside_freeEntry (s : State) (e : Cct) : Aside s (s.freeEntry e) := Aside.of_regs rfl

theorem aside_ite {s t u : State} (p : Prop) [Decidable p] (h : Aside s t) (k : Aside s u) : Aside s (if p then t else u) := by
  split
  · exact h
  · exact k

theorem aside_setSticky (s : State) {g : Nat} (b : Nat) (hg : g < 36) : Aside s (s.setSticky g b) :=
  ⟨rfl, fun _ ho => State.setSticky_reg s hg ho⟩

theorem aside_meterClosed (s : State) (e : Cct) (st : Nat) : Aside s (s.meterClosed e st) := by
  have m : ∀ (x : State) (i v : Nat), Aside s x → Aside s (x.meterAdd e.slice i v) := fun x i v h => h.trans (aside_meterAdd x _ i v)
  have n : ∀ (x : State) (f : SliceS → SliceS), Aside s x → Aside s (x.modSlice e.slice f) := fun x f h => h.trans (aside_modSlice x _ f)
  have d := Aside.refl s
  unfold State.meterClosed
  simp only
  repeat' with_reducible first
    | exact d
    | apply aside_ite
    | apply m
    | apply n

theorem aside_countErr (s : State) (sl : Nat) : Aside s (s.countErr sl) :=
  aside_ite _ (Aside.of_regs rfl) (aside_modSlice ..)

theorem aside_recordErr (s : State) (e : Cct) (st : Nat) : Aside s (s.recordErr e st) :=
  (aside_countErr s e.slice).trans (aside_modCtrl ..)

theorem aside_postCqe (s : State) (e : Cct) (st : Nat) (r : Word) : Aside s (s.postCqe e st r) := Aside.of_regs rfl

theorem aside_sendCqe (s : State) (e : Cct) (st : Nat) (r : Word) : Aside s (s.sendCqe e st r) :=
  aside_ite _ (aside_freeEntry s e) (aside_ite _ ((aside_freeEntry s e).trans (Aside.of_regs rfl))
    ((aside_postCqe s e st r).trans (aside_freeEntry _ e)))

/-- Closing an entry. -/
theorem aside_post (s : State) (e : Cct) (st : Nat) (r : Word) : Aside s (s.post e st r) := by
  have a := aside_ite (e.queue < 8192) (aside_meterClosed s e st)
    (aside_ite ((st != St.ok && e.slice != 0) = true) (aside_meterAdd s e.slice 12 1) (Aside.refl s))
  exact (aside_ite (statusNoEntry st) a (a.trans (aside_recordErr _ e st))).trans (aside_sendCqe _ e st r)

theorem aside_reportNotice (s : State) (c : Nat) : Aside s (s.reportNotice c) := by
  unfold State.reportNotice
  split
  · exact Aside.refl _
  · split
    · split
      · exact Aside.refl _
      · exact Aside.trans (aside_modCtrl ..) (aside_post ..)
    · exact Aside.refl _

/-- A notice that arises on a controller. -/
theorem aside_notify (s : State) (c : Nat) (n : Notice) : Aside s (s.notify c n) := by
  unfold State.notify
  exact aside_ite _ (Aside.refl _) (Aside.trans (aside_modCtrl ..) (aside_reportNotice ..))

theorem aside_notifyAll (s : State) (p : Ctrl → Bool) (n : Notice) : Aside s (s.notifyAll p n) :=
  foldl_keeps (Aside s ·) _ _ _ (Aside.refl _) (fun x k _ h => h.trans (aside_notify x k.id n))

/-- Examining the Critical Warnings. -/
theorem aside_smartCheck (s : State) : Aside s s.smartCheck := by
  have w : ∀ (y : State) (k : Ctrl) (a b c d : Nat), Aside y (y.warnBit k a b c d) := fun y k a b c d => by
    unfold State.warnBit
    exact aside_ite _ (aside_notify ..) (Aside.refl _)
  unfold State.smartCheck
  refine foldl_keeps (Aside s ·) _ _ _ (Aside.refl _) (fun x k _ h => h.trans ?_)
  exact aside_ite _ (Aside.refl _) ((((aside_modCtrl ..).trans (w ..)).trans (w ..)).trans (w ..) |>.trans (w ..))

/-! ### The recorder -/

/-- The table lists codes of the 36 groups alone (R549). -/
theorem severity_group {code sev : Nat} (h : severity code = some sev) : code / 256 < 36 := by
  have t : ∀ x ∈ evTable, x.1 / 256 < 36 := by decide +kernel
  unfold severity at h
  obtain ⟨x, hx, -⟩ := Option.map_eq_some_iff.mp h
  have := t x (List.mem_of_find?_eq_some hx)
  have e := List.find?_some hx
  simp only [beq_iff_eq] at e
  rw [← e]
  exact this

theorem aside_events (s : State) (x : Events) : Aside s { s with events := x } := Aside.of_regs rfl

theorem aside_evActs (s : State) {code : Nat} (sev : Nat) (hg : code / 256 < 36) : Aside s (s.evActs code sev) := by
  have a : Aside s (if sev = 4 && s.fw.probEnd.isSome then { s with fw := { s.fw with probFault := true } } else s) :=
    aside_ite _ (Aside.of_regs rfl) (Aside.refl _)
  have b := a.trans (aside_setSticky _ (code % 256) hg)
  unfold State.evActs
  exact aside_ite _ ((b.trans (aside_events ..)).trans (aside_notifyAll ..)) (b.trans (aside_events ..))

theorem aside_evDrop (s : State) {g : Nat} (n : Nat) (hg : g < 36) : Aside s (s.evDrop g n) := by
  have a := (aside_events s { s.events with dropped := min (s.events.dropped + n) 0xFFFFFFFF }).trans (aside_setSticky _ 0 hg)
  unfold State.evDrop
  exact aside_ite _ ((a.trans (aside_evActs _ 1 (by decide))).trans (aside_setSticky _ 0 (by decide))) a

theorem aside_evWrite (s : State) (r : EvRec) (n : Nat) (hg : r.code / 256 < 36) : Aside s (s.evWrite r n).2 := by
  unfold State.evWrite
  split
  · split
    · exact aside_events _ _
    · exact (aside_events _ _).trans (aside_evDrop _ _ hg)
  · split
    · exact aside_evDrop _ _ hg
    · split
      · exact ((aside_evDrop _ _ hg).trans (aside_evActs _ _ (by decide))).trans (aside_events _ _)
      · exact aside_events _ _

theorem aside_captureOne (s : State) (code : Nat) (ps : List Nat) : Aside s (s.captureOne code ps) := by
  unfold State.captureOne
  split
  · exact Aside.refl _
  · next sev h =>
    have hg := severity_group h
    exact aside_ite _ (((aside_evActs _ _ hg).trans (aside_evWrite _ _ _ hg)).trans (aside_events _ _))
      (((aside_evActs _ _ hg).trans (aside_setSticky _ _ hg)).trans (aside_events _ _))

/-- Capturing an event, with the saturation it may bring (R548, R550, R564). -/
theorem aside_capture (s : State) (code : Nat) (ps : List Nat) : Aside s (s.capture code ps) := by
  unfold State.capture
  simp only
  split
  · split
    · exact ((aside_captureOne ..).trans (aside_captureOne ..)).trans (aside_captureOne ..)
    · exact (aside_captureOne ..).trans (aside_captureOne ..)
  · exact aside_captureOne ..

/-! ### The form of the register store -/

theorem ite_regs {p : Prop} [Decidable p] {s t u : State} (h : t.regs = s.regs) (k : u.regs = s.regs) : (if p then t else u).regs = s.regs := by
  split
  · exact h
  · exact k

@[simp] theorem meterClosed_regs (s : State) (e : Cct) (st : Nat) : (s.meterClosed e st).regs = s.regs := by
  have m : ∀ (x : State) (i v : Nat), (x.meterAdd e.slice i v).regs = x.regs := fun _ _ _ => rfl
  have n : ∀ (x : State) (f : SliceS → SliceS), (x.modSlice e.slice f).regs = x.regs := fun _ _ => rfl
  unfold State.meterClosed
  simp only
  refine ite_regs ?_ ?_ <;> simp only [m, n] <;> exact ite_regs rfl (ite_regs rfl rfl)

@[simp] theorem recordErr_regs (s : State) (e : Cct) (st : Nat) : (s.recordErr e st).regs = s.regs := by
  unfold State.recordErr State.countErr
  exact ite_regs rfl rfl

@[simp] theorem sendCqe_regs (s : State) (e : Cct) (st : Nat) (r : Word) : (s.sendCqe e st r).regs = s.regs :=
  ite_regs rfl (ite_regs rfl rfl)

/-- Closing an entry leaves every register. -/
@[simp] theorem post_regs (s : State) (e : Cct) (st : Nat) (r : Word) : (s.post e st r).regs = s.regs := by
  have a : (if e.queue < 8192 then s.meterClosed e st
      else if st != St.ok && e.slice != 0 then s.meterAdd e.slice 12 1 else s).regs = s.regs :=
    ite_regs (meterClosed_regs ..) (ite_regs rfl rfl)
  have b := ite_regs (p := statusNoEntry st = true) a ((recordErr_regs _ e st).trans a)
  exact (sendCqe_regs _ e st r).trans b

@[simp] theorem reportNotice_regs (s : State) (c : Nat) : (s.reportNotice c).regs = s.regs := by
  unfold State.reportNotice
  split
  · rfl
  · split
    · split
      · rfl
      · exact post_regs ..
    · rfl

@[simp] theorem notify_regs (s : State) (c : Nat) (n : Notice) : (s.notify c n).regs = s.regs := by
  unfold State.notify
  exact ite_regs rfl (reportNotice_regs ..)

@[simp] theorem notifyAll_regs (s : State) (p : Ctrl → Bool) (n : Notice) : (s.notifyAll p n).regs = s.regs :=
  foldl_keeps (fun (t : State) => t.regs = s.regs) _ _ _ rfl (fun x k _ h => (notify_regs x k.id n).trans h)

/-- Examining the Critical Warnings leaves every register. -/
@[simp] theorem smartCheck_regs (s : State) : s.smartCheck.regs = s.regs := by
  have w : ∀ (y : State) (k : Ctrl) (a b c d : Nat), (y.warnBit k a b c d).regs = y.regs := fun y k a b c d => by
    unfold State.warnBit
    exact ite_regs (notify_regs ..) rfl
  unfold State.smartCheck
  refine foldl_keeps (fun (t : State) => t.regs = s.regs) _ _ _ rfl (fun x k _ h => ?_)
  exact ite_regs h (by simp only [w]; exact h)

theorem ite_wf {p : Prop} [Decidable p] {t u : State} (h : regWf t.regs = true) (k : regWf u.regs = true) :
    regWf (if p then t else u).regs = true := by
  split
  · exact h
  · exact k

theorem evActs_wf {s : State} (h : regWf s.regs = true) (code sev : Nat) : regWf (s.evActs code sev).regs = true := by
  have a : regWf (if sev = 4 && s.fw.probEnd.isSome then { s with fw := { s.fw with probFault := true } } else s : State).regs = true := ite_wf h h
  have b := State.setSticky_wf a (code / 256) (code % 256)
  unfold State.evActs
  exact ite_wf (by rw [notifyAll_regs]; exact b) b

theorem evDrop_wf {s : State} (h : regWf s.regs = true) (g n : Nat) : regWf (s.evDrop g n).regs = true := by
  have a : regWf (({ s with events := { s.events with dropped := min (s.events.dropped + n) 0xFFFFFFFF } } : State).setSticky g 0).regs = true :=
    State.setSticky_wf h g 0
  unfold State.evDrop
  exact ite_wf (State.setSticky_wf (evActs_wf a 0x001F 1) 0 0) a

theorem evWrite_wf {s : State} (h : regWf s.regs = true) (r : EvRec) (n : Nat) : regWf (s.evWrite r n).2.regs = true := by
  unfold State.evWrite
  split
  · split
    · exact h
    · exact evDrop_wf (s := { s with events := { s.events with bootOvf := true } }) h _ _
  · split
    · exact evDrop_wf h _ _
    · split
      · exact evActs_wf (evDrop_wf h _ _) _ _
      · exact h

theorem captureOne_wf {s : State} (h : regWf s.regs = true) (code : Nat) (ps : List Nat) : regWf (s.captureOne code ps).regs = true := by
  unfold State.captureOne
  split
  · exact h
  · exact ite_wf (evWrite_wf (evActs_wf h _ _) _ _) (State.setSticky_wf (evActs_wf h _ _) _ _)

/-- Capturing an event keeps the canonical form of the register store. -/
theorem capture_wf {s : State} (h : regWf s.regs = true) (code : Nat) (ps : List Nat) : regWf (s.capture code ps).regs = true := by
  unfold State.capture
  simp only
  split
  · split
    · exact captureOne_wf (captureOne_wf (captureOne_wf h _ _) _ _) _ _
    · exact captureOne_wf (captureOne_wf h _ _) _ _
  · exact captureOne_wf h _ _

/-- A counter that rises keeps the canonical form. -/
theorem bump_wf {s : State} (h : regWf s.regs = true) (off n : Nat) : regWf (s.bump off n).regs = true := by
  unfold State.bump
  simp only
  split
  · exact capture_wf (s := s.setReg _ _) (regPut_wf h _ _) _ _
  · exact regPut_wf h _ _

end Sys2Proof.Machine
end

