-- ==== Sys2Proof/Laws/Records.lean ====
section
/-! SUPPORT. The bytes of a journal record: their number is its LEN, and a record as written passes its CRC check (R207). -/

namespace Sys2Proof.Machine

open Sys2Proof

@[simp] theorem natBytes_length (n v : Nat) : (natBytes n v).length = n := by simp [natBytes]

theorem flatMap_length_const {α : Type} (l : List α) (f : α → List Byte) (k : Nat) (h : ∀ a ∈ l, (f a).length = k) :
    (l.flatMap f).length = k * l.length := by
  induction l with
  | nil => rfl
  | cons a t ih =>
    simp only [List.flatMap_cons, List.length_append, List.length_cons, h a (by simp), ih (fun b hb => h b (by simp [hb]))]
    rw [Nat.mul_succ, Nat.add_comm]

@[simp] theorem Item.commitRow_length (i : Item) : i.commitRow.length = 16 := by simp [Item.commitRow]

@[simp] theorem Item.copyRow_length (i : Item) : i.copyRow.length = 24 := by simp [Item.copyRow]

theorem eraseBytes_length (b : Nat) (slc : Bool) (ms : List (Nat × Nat)) : (eraseBytes b slc ms).length = 8 + 8 * ms.length := by
  simp [eraseBytes, flatMap_length_const _ _ 8]; omega

/-- A record with a TYPE takes the bytes its layout gives, header and rest (R207, R209, R210, R227, R234, R237, R251, R344). -/
theorem RecBody.bytes_length (b : RecBody) (h : b.type.isSome) : 16 + b.bytes.length = b.size := by
  cases b <;>
    simp_all [RecBody.type, RecBody.bytes, RecBody.size, placeHead, eraseBytes_length, flatMap_length_const _ _ 8,
      flatMap_length_const _ _ 16, flatMap_length_const _ _ 24] <;> omega

theorem recordWith_take (t n j c : Nat) (b : List Byte) :
    (recordWith t n j c b).take 12 = natBytes 2 t ++ natBytes 2 n ++ natBytes 8 j := by
  simp [recordWith, List.take_append, List.take_of_length_le]

theorem recordWith_drop (t n j c : Nat) (b : List Byte) : (recordWith t n j c b).drop 16 = b := by
  simp [recordWith, List.drop_append, List.drop_eq_nil_of_le]

theorem recordWith_crc (t n j c : Nat) (b : List Byte) : ((recordWith t n j c b).drop 12).take 4 = natBytes 4 c := by
  simp [recordWith, List.drop_append, List.drop_eq_nil_of_le]

/-- A record as it is written passes its own check (R207). -/
theorem JRec.bytes_ok (r : JRec) (l : List Byte) (h : r.bytes = some l) : recordOk l = true := by
  simp only [JRec.bytes, Option.map_eq_some_iff] at h
  obtain ⟨t, -, rfl⟩ := h
  simp only [recordOk, recordWith_take, recordWith_drop, recordWith_crc, beq_iff_eq]
  simp [recordWith]

end Sys2Proof.Machine
end

