-- ==== Sys2Proof/Machine/Pins.lean ====
section
/-! DEFINITION. The output pins as the state drives them (R447, R469, R477, R487, R492, R563, R572, R577, R581). CAR_ATTN_N is
`State.carAttn`. Nothing steps on them: they are what a board sees. -/

namespace Sys2Proof.Machine

open Sys2Proof

/-- Level of a digital output: at high impedance where the device does not drive it. -/
inductive Level where
  | low | high | highZ
  deriving DecidableEq, Repr

/-- An open-drain output: low while asserted. -/
def openDrain (asserted : Bool) : Level := if asserted then .low else .highZ

/-- ALERT_N (R563). -/
def State.pinAlertN (s : State) : Level := openDrain s.alertLow

/-- THERMTRIP_N: low while the trip is latched (R477). -/
def State.pinThermtripN (s : State) : Level := openDrain s.seed.otTrip

/-- REFCLK_REQ_N: low while the device needs the main reference (R447). -/
def State.pinRefclkReqN (s : State) : Level := openDrain s.seed.refReq

/-- HU_LOAD_EN: the load of the capacitance test is on during the discharge (R469). -/
def State.pinHuLoadEn (s : State) : Level := if s.bank.step = 0 || s.bank.step = 6 then .low else .high

/-- NOR_WP_N of both NORs: low while the loader runs, at high impedance in configuration hold (R487, R492). -/
def State.pinNorWpN (s : State) : Level := if s.nor.hiZ then .highZ else if s.nor.writeProtect then .low else .high

/-- NORx_RESET_N: low until the main rails are in range (R577). -/
def State.pinNorResetN (s : State) : Level := if !s.seed.rails then .low else if s.nor.hiZ then .highZ else .high

/-- What an analog output of a loop slot drives, as a fraction of 1.200 V in Q1.31: u from 0 to 1.0, and nothing for a negative u
(R581). -/
def pinDrive (u : Int) : Int := max 0 u

/-- CAR_GATEk: in L4 the Seed island holds the switch of a present carrier fully on (R430, R581); 0 V without the rails (R577). -/
def State.pinCarGate (s : State) (k : Nat) : Int :=
  if !s.seed.rails || !s.glb.powered then 0
  else if s.power.state == .l4 then (if (s.carrier k).present then 2147483648 else 0)
  else pinDrive (s.slot k).u

/-- HU_ICTL: 0 V in L4 and without the rails (R577, R581). -/
def State.pinHuIctl (s : State) : Int :=
  if !s.seed.rails || !s.glb.powered || s.power.state == .l4 then 0 else pinDrive (s.slot 16).u

/-- GPO0 and GPO1 (R457, R581). -/
def State.pinGpo (s : State) (i : Nat) : Int := if s.seed.rails then pinDrive (s.slot (18 + i)).u else 0

end Sys2Proof.Machine
end

