-- ==== Sys2Proof/WellFormed.lean ====
section
/-! DEFINITION. Well-formed commands: every operand lies in the range that the spec gives its field, so that something outside the
model can send the command. Machine/Dispatch.lean gives every command a meaning, the ill-formed ones too: each names nothing
the state holds, or is turned away by the check of its own rule. -/

namespace Sys2Proof

/-! ### Numbers -/

/-- An entry of the command context table (R90). -/
def entryNo (n : Nat) : Bool := n < 131072
/-- A queue index (R86). -/
def queueNo (n : Nat) : Bool := n < 10308
/-- An offset of the control space: below 0x0010_0000, aligned to 4 bytes (R14, R16). -/
def regOffset (n : Nat) : Bool := n < 0x100000 && n % 4 == 0
/-- A fabric port (R47). -/
def portNo (n : Nat) : Bool := n < 2
/-- A logical MAC (R48). -/
def macNo (n : Nat) : Bool := n < 8
/-- A priority (R56). -/
def prioNo (n : Nat) : Bool := n < 8
/-- A cause of a link fault (R71, R85). -/
def linkCause (n : Nat) : Bool := 1 ≤ n && n ≤ 3
/-- A PHY type of a mode: KR 0, CR 1, the chip-to-module interface 2 (R47). -/
def phyCode (n : Nat) : Bool := n < 3
/-- FECs that a link partner advertises: the BASE-R code at bit 0, RS(528,514) at bit 1 (R49). -/
def fecBits (n : Nat) : Bool := n < 4
/-- A VLAN identifier of 12 bits, where a frame has a tag (R52). -/
def vlanTag (t : Option Nat) : Bool := t.all (· < 4096)
/-- A network interface (R52). -/
def ifaceNo (n : Nat) : Bool := n < 64
/-- A frame: an interface and a tag. -/
def frameOk (f : IpFrame) : Bool := ifaceNo f.iface && vlanTag f.tag
/-- How a command's writes to NOR end: a NOR of the pair and a status of the ROM routine other than success (R493). -/
def norWriteOk (w : NorWrite) : Bool :=
  match w with
  | .failed n _ st => n < 2 && 1 ≤ st && st ≤ 7
  | _ => true
/-- A TCP port number. -/
def tcpPort (n : Nat) : Bool := n < 65536
/-- HPDA of an ICReq, five bits (R62). -/
def hpdaOk (n : Nat) : Bool := n < 32
/-- A ring neighbour: upstream 0, downstream 1 (R74). -/
def nbNo (n : Nat) : Bool := n < 2
/-- A control core (R44). -/
def coreNo (n : Nat) : Bool := n < 18
/-- A controller identifier (R66). -/
def cntlNo (n : Nat) : Bool := 1 ≤ n && n ≤ 0x800
/-- A controller, or 0 for a writer that is none (R567). -/
def cntlOrZero (n : Nat) : Bool := n ≤ 0x800
/-- A tenant slice (R136). -/
def sliceNo (n : Nat) : Bool := 1 ≤ n && n ≤ 1024
/-- A message about a slice from a neighbour (R155, R161). -/
def noteOk (p : PeerNote) : Bool := sliceNo p.slice && nbNo p.src.nb
/-- A namespace identifier (R140). -/
def nsidOk (n : Nat) : Bool := 1 ≤ n && n ≤ 4096
/-- SEQ of a chunk, 16 bits (R373). -/
def seqOk (n : Nat) : Bool := n < 65536
/-- A write-buffer granule: 8 GiB of 512 bytes in each copy (R175, R184). -/
def bufOffset (n : Nat) : Bool := n < 16777216
/-- A stream of stripes (R189). -/
def streamNo (n : Nat) : Bool := n < 4
/-- A maintenance engine (R256). -/
def engineNo (n : Nat) : Bool := n < 4
/-- A compression lane (R358). -/
def laneNo (n : Nat) : Bool := n < 8
/-- A punnet (R381). -/
def punnetNo (n : Nat) : Bool := n < 16384
/-- A member of a stripe: D + P is at most 16 (R302). -/
def memberNo (n : Nat) : Bool := n < 16
/-- A flash channel (R258). -/
def chanNo (n : Nat) : Bool := n < 32
/-- A die: channel × 64 + CE × 8 + LUN (R297). -/
def dieNo (n : Nat) : Bool := n < 2048
/-- A class of a die's queue (R275). -/
def classNo (n : Nat) : Bool := n < 6
/-- A carrier slot (R337). -/
def carrierNo (n : Nat) : Bool := n < 16
/-- A loop slot (R456). -/
def slotNo (n : Nat) : Bool := n < 20
/-- An offset within a slot's registers (R479). -/
def slotOffset (n : Nat) : Bool := n < 0x40 && n % 4 == 0
/-- A DRAM channel and a rank (R389). -/
def memChannel (n : Nat) : Bool := n < 4
def rankNo (n : Nat) : Bool := n < 4
/-- A Quince die (R206). -/
def quinceNo (n : Nat) : Bool := n < 2
/-- A PD5 table (R423). -/
def tableNo (n : Nat) : Bool := 1 ≤ n && n ≤ 3
/-- A PLL (R448). -/
def pllNo (n : Nat) : Bool := n < 10
/-- A sticky status word (R557). -/
def groupNo (n : Nat) : Bool := n < 36
/-- An event code and a parameter (R546). -/
def eventWord (n : Nat) : Bool := n < 65536
def param (n : Nat) : Bool := n < 4294967296
/-- A conversion of a 12-bit input (R456). -/
def convOk (x : Nat × Int) : Bool := x.1 < 24 && decide (-2048 ≤ x.2 ∧ x.2 ≤ 2047)
/-- A conversion of the die diode, in 1/16 °C (R473), as 16 bits hold it. -/
def diodeOk (t : Int) : Bool := decide (-32768 ≤ t ∧ t ≤ 32767)

/-! ### Operands with parts -/

/-- Fields of a submission queue entry: opcode, FUSE, CID, lengths. -/
def Capsule.shape (c : Capsule) : Bool :=
  c.opc < 256 && c.cid < 65536 && c.nsid < 4294967296 && c.fuse < 4 && c.sglLen < 4294967296 && c.fabrics < 256

/-- Fields of a Connect. -/
def ConnectReq.shape (c : ConnectReq) : Bool :=
  c.cid < 65536 && c.qid < 65536 && c.sqsize ≤ 65536 && c.kato < 4294967296 && cntlNo c.newCntlid && queueNo c.newQueue

/-- Header fields of a bundle that a programmer put on the NOR pair (R515). -/
def Bundle.shape (b : Bundle) : Bool := b.content < 256 && b.secver < 256 && b.totalLen < 4294967296

/-- Header fields of an image that a programmer put on the NOR pair (R496). -/
def Image.shape (i : Image) : Bool := i.seq < 4294967296 && i.length < 4294967296

/-- A chunk: SEQ of 16 bits, an original length of 32 (R373, R374). -/
def Chunk.shape (c : Chunk) : Bool := seqOk c.seq && c.format < 65536 && c.origLen < 4294967296

/-- A change names a namespace, or carries its fields. -/
def PeerChange.shape (c : PeerChange) : Bool :=
  match c with
  | .extent nsid _ _ => nsidOk nsid
  | .dealloc nsid _ _ => nsidOk nsid
  | .nsCreate nsid _ lbaf pi => nsidOk nsid && lbaf ≤ 2 && pi ≤ 3
  | .nsDelete nsid => nsidOk nsid
  | .format nsid _ lbaf pi => nsidOk nsid && lbaf ≤ 2 && pi ≤ 3
  | .cryptoErase => true
  | .reservation nsid _ _ _ _ _ => nsidOk nsid
  | .keys k _ => k.length == 72
  | .qos l => l.length == 6
  | .totals l => l.length == 16

/-- A NOR pair of two NORs, two copies, four slot copies, two loaders (R490). -/
def NorImage.shape (n : NorImage) : Bool :=
  n.sizes.length == 2 && n.copies.length == 2 && n.slots.length == 4 && n.loaders.length == 2 &&
  n.copies.all (fun c => c.all (·.image.shape)) && n.slots.all (fun b => b.all (·.shape))

/-- What a boot finds names cores and ranks that exist. -/
def BootFacts.shape (f : BootFacts) : Bool :=
  f.coreFail.all coreNo && f.rankFail.all (fun r => memChannel r.1 && rankNo r.2) && f.slotOk.length == 4 &&
  f.quinceOk.length == 2 && f.nor.all (·.shape)

/-- A ROM call's 32-bit registers (R512). -/
def RomCall.shape (c : RomCall) : Bool := c.addr < 4294967296 && c.len < 4294967296 && c.ret < 4294967296

/-- Ordinals of the dies of a carrier, and its two channels (R258, R266). -/
def CarrierFacts.shape (f : CarrierFacts) : Bool :=
  f.badDies.all (fun d => d.1 < 128) && f.calFail.all (fun c => c.1 < 2)

/-! ### Commands -/

/-- The operands of a command lie in their ranges. -/
def Instr.wf (i : Instr) : Bool :=
  match i with
  | .controlRead e => entryNo e
  | .controlWrite e => entryNo e
  | .registerWrite off _ => regOffset off
  | .seedHoursRead => true
  | .seedRtcLoWrite _ => true
  | .seedRtcHiWrite _ => true
  | .clrRc _ => true
  | .lapNow _ => true
  | .eolNow _ => true
  | .ceCctSelWrite _ => true
  | .chDieSelWrite ch _ => chanNo ch
  | .ldpcFlipArm _ => true
  | .pnFlipArm _ => true
  | .pnFlipRun _ => true
  | .qFlipArm _ => true
  | .dramFlipArm _ => true
  | .dramFlipRun _ => true
  | .clearRanks _ => true
  | .clearPages _ => true
  | .portCntClr p _ => portNo p
  | .ceCntClr _ => true
  | .chCntClr ch _ => chanNo ch
  | .ldpcCntClr _ => true
  | .strCntClr _ => true
  | .cmpCntClr _ => true
  | .pnCntClr _ => true
  | .dramCntClr _ => true
  | .psCntClr _ => true
  | .norCntClr _ => true
  | .fwCntClr _ => true
  | .stickyClear g _ _ => groupNo g
  | .mgAuthCommit _ writer => cntlOrZero writer
  | .loopFlagClear slot _ _ => slotNo slot
  | .loopCoeffWrite slot off _ => slotNo slot && slotOffset off
  | .loopTargetWrite slot off _ => slotNo slot && slotOffset off
  | .thOffsetWrite _ => true
  | .pkgLimitWrite _ => true
  | .plimFloorWrite _ => true
  | .laneEnWrite _ => true
  | .linkFault mac f => macNo mac && linkCause f.cause
  | .macDown mac => macNo mac
  | .linkUp mac p => macNo mac && phyCode p.phy && fecBits p.fecs
  | .macUp mac => macNo mac
  | .pauseFrameReceived mac prio _ => macNo mac && prioNo prio
  | .pauseLong mac prio => macNo mac && prioNo prio
  | .arpRequest f _ => frameOk f
  | .neighborSolicitation f _ => frameOk f
  | .echoRequest f _ => frameOk f
  | .ecnCeReceived _ => true
  | .cnpReceived _ => true
  | .tcpEceAck _ => true
  | .rateIncrease _ => true
  | .tcpConnectRequest _ f q _ => frameOk f && tcpPort q.port
  | .rdmaConnectRequest _ r _ => frameOk r.frame && tcpPort r.udp
  | .tlsHandshake _ _ => true
  | .icreq _ _ _ hpda => hpdaOk hpda
  | .capsuleReceived q c => queueNo q && c.shape
  | .capsuleIntakeResume _ => true
  | .h2cDataReceived e _ _ => entryNo e
  | .rdmaReadCompletion e _ _ => entryNo e
  | .ringAssociationUp nb _ port => nbNo nb && portNo port
  | .ringRetry nb _ => nbNo nb
  | .ringPeerUnreachable nb => nbNo nb
  | .ringKeepAliveExpiry nb _ => nbNo nb
  | .admitCapsule q e => queueNo q && entryNo e
  | .tokenRefill => true
  | .releasePass core => coreNo core
  | .orderingPoint e => entryNo e
  | .commandComplete e => entryNo e
  | .holdWarn e => entryNo e
  | .shadowCheckerFault core _ => coreNo core
  | .ccEnClear e => entryNo e
  | .ccEnSet e => entryNo e
  | .ccShnTenant e => entryNo e
  | .shutdownAbortTimeout cntl => cntlNo cntl
  | .ccShnDevice e => entryNo e
  | .shutdownStopRecord => true
  | .shutdownResume e => entryNo e
  | .keepAliveExpiry cntl => cntlNo cntl
  | .propertyGet e => entryNo e
  | .propertySet e => entryNo e
  | .connect c => c.shape
  | .authenticationSend e x => entryNo e && x.hash < 256 && x.dh < 256
  | .authenticationReceive e => entryNo e
  | .flush e => entryNo e
  | .write e => entryNo e
  | .read e => entryNo e
  | .compare e => entryNo e
  | .writeZeroes e => entryNo e
  | .datasetManagement e => entryNo e
  | .verify e => entryNo e
  | .reservationRegister e => entryNo e
  | .reservationReport e => entryNo e
  | .reservationAcquire e => entryNo e
  | .reservationRelease e => entryNo e
  | .copy e => entryNo e
  | .getLogPage e => entryNo e
  | .identify e => entryNo e
  | .abort e => entryNo e
  | .setFeatures e => entryNo e
  | .getFeatures e => entryNo e
  | .asynchronousEventRequest e => entryNo e
  | .namespaceManagement e => entryNo e
  | .namespaceAttachment e => entryNo e
  | .keepAlive e => entryNo e
  | .formatNvm e => entryNo e
  | .sanitize e => entryNo e
  | .sanitizeComplete slice _ => sliceNo slice
  | .firmwareImageDownload e w => entryNo e && norWriteOk w
  | .firmwareCommit e _ => entryNo e
  | .firmwareConfirm e => entryNo e
  | .probationExpiry => true
  | .firmwareForward => true
  | .forwardRetry => true
  | .sliceCreate e => entryNo e
  | .sliceDelete e => entryNo e
  | .sliceQuiesce e => entryNo e
  | .sliceQuiesced slice _ => sliceNo slice
  | .sliceResume e => entryNo e
  | .sliceFreeze e => entryNo e
  | .sliceSave e => entryNo e
  | .sliceRestore e => entryNo e
  | .replicationPairing slice => sliceNo slice
  | .forwardedChangeReceived p x => noteOk p && entryNo x.e && x.change.shape
  | .replicaAck slice nsid _ => sliceNo slice && nsidOk nsid
  | .lostUnitReport slice nsid _ => sliceNo slice && nsidOk nsid
  | .peerRepairComplete slice nsid _ _ => sliceNo slice && nsidOk nsid
  | .replicaDetachReceived p => noteOk p
  | .precopyPassComplete slice => sliceNo slice
  | .migrationDataReceived p x => noteOk p && entryNo x.e && x.change.shape
  | .migrationCommitReceived p => noteOk p
  | .migrationCommitAck slice _ => sliceNo slice
  | .streamChunkReceived _ c => c.shape
  | .streamRestartRequest _ seq _ => seqOk seq
  | .apstTransition cntl => cntlNo cntl
  | .carrierRelease e => entryNo e
  | .carrierAdmit e => entryNo e
  | .reshape e _ => entryNo e
  | .reshapeBandStep => true
  | .applyConfiguration e w => entryNo e && norWriteOk w
  | .configAddressingApply => true
  | .eventLogClear e => entryNo e
  | .holdUpTest e => entryNo e
  | .holdupTestAuto => true
  | .writeBufferAllocate _ off => bufOffset off
  | .laneUnitComplete lane _ _ => laneNo lane
  | .stagingDurable _ => true
  | .punnetGrant _ punnets => punnets.all punnetNo && 1 ≤ punnets.length && punnets.length ≤ 32
  | .punnetRelease p => punnetNo p
  | .punnetWaitWarn _ => true
  | .stripeFlush stream _ => streamNo stream
  | .stripePadIdle stream => streamNo stream
  | .l3PadFlush => true
  | .memberProgramStatus _ _ mem _ _ => memberNo mem
  | .mapPageWrite _ => true
  | .mapRootWrite => true
  | .journalTruncate _ => true
  | .pwrFailAssert _ => true
  | .prsntNDeassert _ => true
  | .hubLowAssert => true
  | .mainRailOutOfRange => true
  | .mainRailsInRange => true
  | .sledPresenceAssert => true
  | .coldBoot f => f.shape
  | .romRead c => c.shape
  | .romProgram c => c.shape
  | .romEraseSector c => c.shape
  | .maintenanceMoveStart eng => engineNo eng
  | .eraseStart _ => true
  | .eraseStatus band mem _ _ => band == 0xFFFFFFFF || memberNo mem
  | .eraseStarved _ => true
  | .eolPrediction => true
  | .patrolReadComplete _ _ mem _ _ => memberNo mem
  | .patrolLapOverrun => true
  | .retentionAgeUpdate => true
  | .dieReadRequest die _ cls _ _ mem _ => dieNo die && classNo cls && memberNo mem
  | .reconWaitExpiry die _ => dieNo die
  | .operationAgePromotion die _ => dieNo die
  | .dieOperationStart die => dieNo die
  | .readSenseComplete die => dieNo die
  | .ldpcDecodeComplete _ _ => true
  | .reconstructionComplete _ _ => true
  | .trackValley die _ _ _ => dieNo die
  | .memberOperationTimeout die => dieNo die
  | .dieResetTimeout die => dieNo die
  | .zqPeriod ch => chanNo ch
  | .carrierTempSample k _ => carrierNo k
  | .carrierSensorTimeout k => carrierNo k
  | .i2cStretchTimeout k => carrierNo k
  | .carrierDomainWake k _ => carrierNo k
  | .carrierDomainGate k => carrierNo k
  | .carrierInsert k f => carrierNo k && f.shape
  | .carrierPowerGood k => carrierNo k
  | .carrierPowerGoodTimeout k => carrierNo k
  | .carrierRemove k => carrierNo k
  | .rebuildDelayExpiry k => carrierNo k
  | .rebuildStart eng => engineNo eng
  | .slowRecovery die => dieNo die
  | .slowFail die => dieNo die
  | .quinceDieFailure d => quinceNo d
  | .journalAreaFull => true
  | .dramCorrectedError c rank _ _ _ => memChannel c && rankNo rank
  | .dramUncorrectable c rank _ _ => memChannel c && rankNo rank
  | .punnetUncorrectable p _ _ => punnetNo p
  | .tableCopyError table _ => tableNo table
  | .dramRefresh c rank _ => memChannel c && rankNo rank
  | .dramMr4Poll c rank _ => memChannel c && rankNo rank
  | .dramRetrainStep c _ _ => memChannel c
  | .dramScrub c _ _ => memChannel c
  | .dramScrubLapWarn => true
  | .sramScrubPass _ => true
  | .quinceRefresh _ bad => bad.all quinceNo
  | .powerStateEntry => true
  | .toleranceEvaluation => true
  | .wakeEvent _ _ => true
  | .maintenanceWake => true
  | .minuteTick => true
  | .seedHourRollover => true
  | .crystalStop => true
  | .crystalRestore => true
  | .pllLockTimeout pll => pllNo pll
  | .loopSample slot convs => slotNo slot && convs.all convOk
  | .followingErrorTimeout slot => slotNo slot
  | .dirtyLimitUpdate => true
  | .thermalSample tj => diodeOk tj
  | .thermalLimitStep => true
  | .rorStep => true
  | .thermalLimitRise => true
  | .overTemperatureTrip _ => true
  | .eventCapture code p0 p1 p2 p3 => eventWord code && [p0, p1, p2, p3].all param
  | .journalGroupTimeout => true
  | .holdupDischargeEnd _ _ _ => true
  | .holdupRechargeTimeout => true
  | .rankMigratedToSpare c _ => memChannel c
  | .keyEraseCompleted slice _ => sliceNo slice
  | .migrationAcceptReceived slice _ => sliceNo slice
  | .migrationCancelReceived p => noteOk p
  | .forwardCompletionReceived _ => true
  | .meteringMsSum => true
  | .vddSeedLoss => true
  | .vddSeedReturn => true
  | .transportConnectionClosed _ => true

end Sys2Proof
end

