-- ==== Sys2Proof/Tests/Slice0.lean ====
section
/-! SUPPORT. Tests: an ill-formed command for each check of WellFormed, and for each statement states and operands that meet its
hypotheses together. Expected results are read off the rules that the statements cite. -/

namespace Sys2Proof.Tests

open Sys2Proof Sys2Proof.Machine

set_option Elab.async false

/-! ### WellFormed refuses -/

theorem test_wf_numbers : ([.flush 131072, .capsuleReceived 10308 { opc := 0, cid := 0 }, .registerWrite 0x100000 0, .registerWrite 2 0,
    .portCntClr 2 0, .macDown 8, .pauseFrameReceived 0 8 true, .linkFault 0 ⟨0, 0⟩, .linkFault 0 ⟨4, 0⟩, .linkUp 0 ⟨3, 0⟩, .linkUp 0 ⟨0, 4⟩,
    .arpRequest ⟨64, none⟩ 0, .arpRequest ⟨0, some 4096⟩ 0, .echoRequest ⟨0, some 4096⟩ ⟨0, false⟩, .tcpConnectRequest 0 ⟨0, none⟩ ⟨65536, false⟩ 0,
    .rdmaConnectRequest 0 { frame := ⟨0, some 4096⟩ } 0, .icreq 0 false false 32, .ringPeerUnreachable 2, .releasePass 18, .keepAliveExpiry 0,
    .keepAliveExpiry 0x801, .mgAuthCommit 0 0x801, .replicationPairing 0, .replicationPairing 1025, .replicaAck 1 0 0,
    .replicaAck 1 4097 0, .streamRestartRequest 0 65536 0, .writeBufferAllocate 0 16777216, .stripeFlush 4 0,
    .maintenanceMoveStart 4, .laneUnitComplete 8 0 .overLimit, .punnetRelease 16384, .memberProgramStatus 0 0 16 .pass 0,
    .chDieSelWrite 32 0, .readSenseComplete 2048, .dieReadRequest 0 0 6 0 0 0 0] : List Instr).all (fun i => !i.wf) = true := by decide

theorem test_wf_numbers2 : ([.carrierRemove 16, .loopFlagClear 20 0 0, .loopCoeffWrite 0 0x40 0, .loopCoeffWrite 0 2 0, .dramScrub 4 0 0,
    .dramRefresh 0 4 true, .quinceDieFailure 2, .tableCopyError 0 0, .tableCopyError 4 0, .pllLockTimeout 10, .stickyClear 36 0 0,
    .eventCapture 65536 0 0 0 0, .eventCapture 0 4294967296 0 0 0, .loopSample 0 [(24, 0)], .loopSample 0 [(0, 2048)],
    .loopSample 0 [(0, -2049)], .thermalSample 32768, .thermalSample (-32769), .punnetGrant 0 [], .punnetGrant 0 (List.replicate 33 0),
    .eraseStatus 0 16 .pass 0, .quinceRefresh [] (some 2)] : List Instr).all (fun i => !i.wf) = true := by decide

theorem test_wf_shapes : ([.capsuleReceived 0 { opc := 256, cid := 0 }, .capsuleReceived 0 { opc := 0, cid := 65536 },
    .capsuleReceived 0 { opc := 0, cid := 0, nsid := 4294967296 }, .capsuleReceived 0 { opc := 0, cid := 0, fuse := 4 },
    .capsuleReceived 0 { opc := 0, cid := 0, sglLen := 4294967296 }, .capsuleReceived 0 { opc := 0, cid := 0, fabrics := 256 },
    .connect { conn := 0, cid := 65536, subnqn := .device }, .connect { conn := 0, cid := 0, subnqn := .device, qid := 65536 },
    .connect { conn := 0, cid := 0, subnqn := .device, sqsize := 65537 },
    .connect { conn := 0, cid := 0, subnqn := .device, kato := 4294967296 },
    .connect { conn := 0, cid := 0, subnqn := .device, newCntlid := 0 },
    .connect { conn := 0, cid := 0, subnqn := .device, newQueue := 10308 },
    .firmwareImageDownload 131072 .done, .firmwareImageDownload 0 (.failed 2 0 4), .applyConfiguration 131072 .done,
    .applyConfiguration 0 (.failed 0 0 0), .forwardedChangeReceived ⟨1, 2, 0, []⟩ ⟨0, .nsDelete 1⟩,
    .forwardedChangeReceived ⟨1, 0, 0, []⟩ ⟨0, .nsDelete 0⟩, .forwardedChangeReceived ⟨1, 0, 0, []⟩ ⟨131072, .nsDelete 1⟩,
    .forwardedChangeReceived ⟨1, 0, 0, []⟩ ⟨0, .keys [] []⟩, .migrationDataReceived ⟨1, 0, 0, []⟩ ⟨0, .qos []⟩,
    .migrationDataReceived ⟨1, 0, 0, []⟩ ⟨0, .totals []⟩, .migrationCommitReceived ⟨0, 0, 0, []⟩, .streamChunkReceived 0 ⟨65536, true, true, 0, true, 0, 0, []⟩,
    .streamChunkReceived 0 ⟨1, true, true, 65536, true, 0, 0, []⟩, .streamChunkReceived 0 ⟨1, true, true, 0, true, 4294967296, 0, []⟩,
    .authenticationSend 0 ⟨256, 2, .ok⟩, .authenticationSend 0 ⟨2, 256, .ok⟩,
    .coldBoot { coreFail := [18] }, .coldBoot { rankFail := [(4, 0)] }, .coldBoot { slotOk := [] }, .coldBoot { quinceOk := [] },
    .coldBoot { nor := some { sizes := [], copies := [none, none], slots := [none, none, none, none], loaders := [(0, 0), (0, 0)] } },
    .coldBoot { nor := some { sizes := [5, 5], copies := [none, none], slots := [some { content := 256 }, none, none, none], loaders := [(0, 0), (0, 0)] } },
    .coldBoot { nor := some { sizes := [5, 5], copies := [some { image := { seq := 4294967296 } }, none], slots := [none, none, none, none], loaders := [(0, 0), (0, 0)] } },
    .romRead { nor := 0, addr := 4294967296, len := 1, ret := 0 }, .romRead { nor := 0, addr := 0, len := 4294967296, ret := 0 },
    .romRead { nor := 0, addr := 0, len := 1, ret := 4294967296 }, .carrierInsert 0 { eeprom := {}, badDies := [(128, {})] },
    .carrierInsert 0 { eeprom := {}, calFail := [(2, 0)] }] : List Instr).all (fun i => !i.wf) = true := by decide

theorem test_wf_accepts : ([.flush 131071, .registerWrite 0xFFFFC 0, .releasePass 17, .replicationPairing 1024, .laneUnitComplete 7 0 .overLimit,
    .loopSample 19 [(23, -2048), (0, 2047)], .thermalSample 32767, .punnetGrant 0 [16383], .eraseStatus 0xFFFFFFFF 4096 .pass 0,
    .journalAreaFull, .coldBoot {}, .connect { conn := 0, cid := 0, subnqn := .device }] : List Instr).all (·.wf) = true := by decide

/-! ### Small states -/

/-- The state after reset. -/
def s0 : State := State.reset

theorem test_reset_safe : Safe s0 := by unfold Safe; decide
theorem test_reset_shape : Shape s0 := by unfold Shape; decide

/-- A controller of slice 1, one of the management slice, their queues and their connection. -/
def tenant : Ctrl := { id := 1, slice := 1, mac := 0, iface := 0, en := true, rdy := true }
def mgmt : Ctrl := { id := 2, slice := 0, mac := 0, iface := 0, en := true, rdy := true }
def qIo : Queue := { idx := 0, cntl := 1, qid := 1, conn := 1, size := 4 }
def qAdmin : Queue := { idx := 8192, cntl := 1, qid := 0, conn := 1, size := 32 }
def link : Conn := { id := 1, iface := 0, mac := 0, tcp := true, icDone := true }
def ns1 : Ns := { nsid := 1, nsze := 64, attached := [1] }
def sl1 : SliceS := { num := 1, nss := [ns1], desc := { qpairs := 4, ctrls := 4, ns := 4, cct := 16 } }

/-- Three dies on carriers 0 to 2, and a full band over them. -/
def die (i : Nat) : Die := { idx := 128 * i, gen := 1 }
def band0 : Band := { num := 0, st := .full, d := 2, p := 1, nextStripe := 2,
                      members := [{ die := 0, gen := 1, block := 0 }, { die := 128, gen := 1, block := 0 }, { die := 256, gen := 1, block := 0 }] }

/-- A ready device with that controller, slice and band. -/
def dev : State :=
  { s0 with
    glb := { s0.glb with state := .ready, powered := true, bootStep := 11 }
    seed := { s0.seed with now := 100000000000, prsnt := true, rails := true }
    eng := { s0.eng with ctrls := [tenant, mgmt], queues := [qIo, qAdmin] }
    fabric := { s0.fabric with
      macs := modNth s0.fabric.macs 0 (fun m => { m with present := true, up := true, link := true })
      ifaces := [{ num := 0, mac := 0, vlan := none, mtu := 9000, ip4 := 5, ip6 := [7] }]
      conns := [link], flows := [{ id := 1, mac := 0, tcp := true, rc := 1000 }] }
    slices := { s0.slices with list := [sl1], keyGen := 1 }
    array := { s0.array with arrayId := some 1, epoch := 1, dies := [die 0, die 1, die 2]
                             carriers := modNth s0.array.carriers 0 (fun c => { c with st := 5, present := true, pwrOn := true }) }
    upkeep := { s0.upkeep with bands := [band0] } }

theorem test_dev_safe : Safe dev := by unfold Safe; decide
theorem test_dev_shape : Shape dev := by unfold Shape; decide

/-- A dispatched command on entry 0, on the I/O queue or the admin queue. -/
def cctOf (cap : Capsule) (io : Bool) : Cct :=
  { idx := 0, st := .dispatched, slice := 1, queue := if io then 0 else 8192, cntl := 1, cap := cap }
def cmd (cap : Capsule) (io : Bool) : State := { dev with eng := { dev.eng with cct := [cctOf cap io] } }

theorem test_onEntry (cap : Capsule) (io : Bool) : OnEntry (cmd cap io) 0 cap.opc io (cctOf cap io) := by
  refine ⟨rfl, rfl, rfl, ?_⟩
  cases io <;> rfl

theorem test_onNs (cap : Capsule) (h : cap.nsid = 1) : OnNs (cmd cap true) 0 cap.opc (cctOf cap true) ns1 := by
  refine ⟨test_onEntry cap true, ?_, rfl⟩
  simp only [cctOf, h]; rfl

/-! ### Hypotheses of the statements on the queue, the registers and the events -/

theorem test_w_EmptyQueueLetsOneMicrosecondPass : s0.pending = [] := rfl

theorem test_w_EveryStepKeepsTheRegisterStoreCanonical : Safe s0 ∧ Shape s0 ∧ step s0 = .next (idleTick s0) :=
  ⟨test_reset_safe, test_reset_shape, rfl⟩

theorem test_w_EveryCommandLeavesTheQueueAndTheClock : ∃ t, exec .sledPresenceAssert s0 = .next t ∧ s0.fuses.ownerKeyHash.isSome = false :=
  ⟨_, rfl, by decide⟩

theorem test_w_FusesAreNeverUndone : ∃ t, exec .sledPresenceAssert { s0 with fuses := { s0.fuses with ownerKeyHash := some 1 } } = .next t :=
  ⟨_, rfl⟩

theorem test_w_RegisterFieldsActByTheirType : 31 < 32 ∧ 0x80000000 < 2 ^ 32 ∧ 0x80000000 &&& 0x00000001 = 0 ∧ 0x80000000 &&& 0x00000100 = 0 ∧
    0x00000001 &&& 0x00000100 = 0 := by decide

theorem test_w_UnimplementedOffsets : (regRow 0xFFFFC).isNone = true ∧ 0xFFFFC % 4 = 0 ∧ (regRow 0x102).isNone = true ∧
    (regRow 0x100000).isNone = true := by decide

theorem test_w_RegisterWriteStoresThePlainRegisters : ([0x10030, 0x40200, 0x40240, 0xC2004, 0xF0010] : List Nat).all
    (fun o => (regRow o).isSome) = true := by decide

theorem test_w_EventCapture : (severity 0x0101).isSome = true ∧ (severity 0x0100).isNone = true ∧ (severity 0x23FF).isNone = true := by decide

/-! ### Hypotheses of the statements on time and power -/

theorem test_w_SeedClock : (1 : Word).getLsbD 0 = true ∧ s0.seed.onRc = false ∧ s0.seed.vdd = true ∧ 9 < s0.seed.pllFails.length := by decide

theorem test_w_SeedClockOnRc : ({ s0.seed with onRc := true } : Seed).onRc = true ∧ (0 : Word).getLsbD 0 = false := by decide

theorem test_w_MinuteAndHourTicks : dev.glb.powered = true ∧ dev.power.state ≠ .l4 ∧ s0.glb.powered = false ∧
    3599999999 ≤ ({ s0.seed with us := 3599999999 } : Seed).us ∧ (dev.slices.list.map (·.num)).Nodup := by decide

/-- A device idle for an hour whose controllers tolerate everything. -/
def idle : State :=
  { dev with power := { dev.power with idleAt := some 0, idle3At := some 0 }
             eng := { dev.eng with ctrls := [] } }

theorem test_w_PowerStateEntry : idle.trackIdle.evalTolerance.mustStay = false ∧
    idle.trackIdle.evalTolerance.power.state.code < idle.trackIdle.evalTolerance.deepest := by decide

/-- The same in L2. -/
def inL2 : State := { idle with power := { idle.power with state := .l2, belowAt := some 0 } }

theorem test_w_ToleranceEvaluation : inL2.power.state ≠ .l0 ∧ inL2.trackIdle.evalTolerance.mustStay = false ∧
    max 1 (inL2.fld Reg.PS_CFG 31 16) * 60000000 ≤ inL2.since 0 := by decide

theorem test_w_ToleranceEvaluationStay : ({ inL2 with power := { inL2.power with maintDue := true } } : State).trackIdle.evalTolerance.mustStay =
    true := by decide

/-- A tolerance below the exit latency of L2. -/
def tight : State :=
  { inL2 with eng := { inL2.eng with ctrls := [{ mgmt with lt := 10 }] } }

theorem test_w_ToleranceEvaluationLeaves : tight.trackIdle.evalTolerance.mustStay = false ∧
    tight.trackIdle.evalTolerance.power.lt.toNat < tight.power.state.exitUs := by decide

theorem test_w_WakeFromL4 : ({ inL2 with power := { inL2.power with state := .l4 } } : State).wakeLogic = false ∨
    ({ inL2 with power := { inL2.power with state := .l4 } } : State).wakeLogic = true := by decide

/-- A controller with an APST table that is due. -/
def apst : State :=
  { dev with eng := { dev.eng with ctrls := [{ tenant with apste := true, apst := List.replicate 5 (1, 1000) }] } }

theorem test_w_ApstTransition : (apst.ctrl 1).map (fun k => (k.apste, k.apst.getD k.ps (0, 0))) = some (true, (1, 1000)) ∧
    1000 * 1000 ≤ apst.since 0 ∧ apst.eng.cct = [] := by decide

theorem test_w_FlipControls : bits (0x100 : Word) 9 9 = 0 ∧ bits (0x200 : Word) 9 9 = 1 ∧ bits (0x200 : Word) 8 8 = 0 ∧
    s0.fld Reg.PN_FLIP_CTL 8 8 = 0 ∧ bits (0x1 : Word) 0 0 = 1 ∧ s0.fld Reg.DRAM_FLIP_CTL 8 8 = 0 ∧
    bits (0xD5A70002 : Word) 31 16 = 0xD5A7 ∧ bits (0xD5A70001 : Word) 0 0 = 1 ∧ bits (0xD5A60001 : Word) 31 16 ≠ 0xD5A7 := by decide

theorem test_w_SelectionWrites : (cmd { opc := 0, cid := 0 } true).entry (bits (0 : Word) 16 0) ≠ none ∧ s0.entry (bits (0 : Word) 16 0) = none ∧
    31 < s0.array.chans.length ∧ bits (1 : Word) 0 0 = 1 ∧ bits (2 : Word) 1 1 = 1 ∧ bits (2 : Word) 0 0 = 0 := by decide

/-! ### Hypotheses of the statements on the control space, loops, heat and the bank -/

theorem test_w_WarningsAreCheckedAside : ∀ c ∈ s0.eng.ctrls, s0.critWarn c = c.warn := by decide

theorem test_w_ControlReads :
    (cmd { opc := 0xC0, cid := 0, dw10 := 0x100, dw11 := 2 } false).ctlWaits 0 = false ∧
    ctlBad { opc := 0xC0, cid := 0, dw10 := 0x100, dw11 := 2 } = false ∧
    (∀ o ∈ ctlOffs { opc := 0xC0, cid := 0, dw10 := 0x100, dw11 := 2 }, o ≠ Reg.SEED_HOURS ∧ o ≠ Reg.SEED_MS) ∧
    ctlBad { opc := 0xC1, cid := 0, dw10 := 0x102, dw11 := 2 } = true ∧
    4 * dwBits (2 : Word) 10 0 ≤ (List.replicate 8 (0 : Byte)).length := by decide

theorem test_w_Credentials : (0x101 : Word).getLsbD 8 = true ∧ bits (0x101 : Word) 1 0 = 1 ∧
    s0.credRefused 1 (bits (0x00FF0101 : Word) 23 16) = true ∧ s0.credRefused 1 0 = false ∧
    s0.logClearReason { opc := 0xD4, cid := 0 } ≠ none := by decide

/-- A log of one record. -/
def logged : State :=
  { dev with events := { dev.events with log := [{ code := 0x101, sev := 1, flags := 0, hours := 0, ms := 0, pcycle := 0, params := [0, 0, 0, 0] }] } }

theorem test_w_EventLogClear : logged.logClearReason { opc := 0xD4, cid := 0, dw10 := 1 } = none := by decide

theorem test_w_LoopRegisterWrites : s0.loopEn 18 = false ∧ s0.loopEn 19 = false ∧ (0x80000000 : Word).getLsbD 31 = true := by decide

theorem test_w_PackageLimitWrite : clampNat 10 40 (bits (0x340A0000 : Word) 23 16) ≤ clampNat 20 52 (bits (0x340A0000 : Word) 31 24) ∧
    clampNat 10 40 (bits (0x340A0000 : Word) 23 16) ≤ s0.thermal.limit := by decide

theorem test_w_ThermalStepsDue : dev.power.state ≠ .l4 ∧ ({ dev.thermal with state := 2 } : Thermal).state = 2 ∧ 500000 ≤ dev.since 0 ∧
    dev.plimFloor < dev.thermal.limit ∧ max 1 (dev.fld Reg.TH_CFG 7 0) * 10000 ≤ dev.since 0 ∧
    ({ dev.thermal with limit := dev.plimFloor } : Thermal).limit ≤ dev.plimFloor ∧
    ({ dev.thermal with limit := 30 } : Thermal).limit < dev.pkgLimit := by decide

/-- Slot 18 enabled, its error counting since time zero. -/
def following : State :=
  { dev with regs := regPut dev.regs (Reg.LOOP_CTL + 0x40 * 18) 0x80000000
             loops := modNth dev.loops 18 (fun x => { x with feSince := some 0 }) }

theorem test_w_LoopFaults : (following.slot 18).feSince = some 0 ∧ following.loopEn 18 = true ∧
    max 1 (following.loopCtl 18 24 16) * 1000 ≤ following.since 0 ∧ (following.slot 18).flags.getLsbD 4 = false ∧
    following.loopQ Reg.LOOP_OUT_MIN 18 ≤ following.loopQ Reg.LOOP_OUT_MAX 18 := by decide

theorem test_w_LoopSamples : (following.takeConvs []).satMarks 18 = 0 := by decide

theorem test_w_LoopSampleArmed : ({ following.slot 18 with arm := true } : Slot).arm = true := by decide

/-- The charger enabled below the temperatures at which charging is allowed. -/
def cold : State :=
  { dev with regs := regPut dev.regs (Reg.LOOP_CTL + 0x40 * 16) 0x80000000, bank := { dev.bank with tempC := -60, forbidden := true } }

theorem test_w_ChargerForbidden : cold.loopEn 16 = true ∧ (cold.takeConvs []).chargeRange.bank.forbidden = true := by decide

theorem test_w_DirtyLimit : dev.energyLimit = 0 ∧ dev.bank.limit = 0 ∧ ({ dev.bank with limit := 1 } : Bank).limit ≠ 0 ∧ dev.store.flush = none := by
  decide

/-- A bank at 12 V. -/
def bank : State := { dev with bank := { dev.bank with cUf := some 1000, vMv := 12000, lastTestH := 0 } }

theorem test_w_HoldUpTest : onlyDws { opc := 0xD6, cid := 0 } 0 0 0 0 0 0 = true ∧ (dev.slot 16).faulted = false := by decide

theorem test_w_HoldUpEnds : max 1 (bank.fld Reg.HU_CFG1 7 0) * 100 ≤ ({ bank.bank with v0 := 40000 } : Bank).v0 - 12000 ∧
    600000000 ≤ bank.since 0 := by decide

/-! ### Hypotheses of the statements on links, connections and entries -/

/-- MAC 0 of the device in a given condition; MAC 0 alone. -/
def mac0 (m : Mac) : State := { dev with fabric := { dev.fabric with macs := m :: List.replicate 7 {} } }
def macUp : Mac := { present := true, up := true, link := true, addr := 1 }

theorem test_w_Links :
    (mac0 { macUp with fault := true }).downHold 0 ≤ (mac0 { macUp with fault := true }).since 0 ∧
    (mac0 { macUp with up := false }).upHold 0 * 1000 ≤ (mac0 { macUp with up := false }).since 0 ∧
    ({ macUp with paused := List.replicate 8 (some 0) } : Mac).paused[7]? = some (some 0) ∧ 100000 ≤ dev.since 0 ∧
    macUp.pauseWarned.getD 7 true = false ∧ (mac0 macUp).mac 0 = some macUp ∧ macUp.fault = false ∧
    phyOf (dev.fabric.modes.getD (macPort 0) 0) 2 = true ∧ phyOf 5 0 = true ∧ phyOf 5 1 = false := by decide

theorem test_w_LinkDownUp : (mac0 { macUp with link := false }).mac 0 = some { macUp with link := false } ∧
    (mac0 { macUp with fault := true }).mac 0 = some { macUp with fault := true } := by decide

theorem test_w_AddressesAndRates : (dev.liveIface 0).map (fun x => (x.ip4, x.ip6)) = some (5, [7]) ∧
    (dev.flow 1).map (·.tcp) = some true ∧ dev.portFld 0 Reg.RC_CFG0 31 24 ≠ 0 ∧ dev.gapOk none (dev.portFld 0 Reg.RC_CFG0 15 8) = true ∧
    dev.gapOk (some dev.seed.now) (dev.portFld 0 Reg.RC_CFG1 15 8) = false ∧ dev.gapOk (some 0) (dev.incPeriod 0) = true ∧
    dev.gapOk none (dev.incPeriod 0) = true ∧ dev.incPeriod 0 ≤ dev.since 0 ∧ dev.power.state ≠ .l4 ∧
    (dev.liveIface 0).map (fun x => (tagOk x none, tagOk x (some 0), tagOk x (some 7))) = some (true, true, false) := by decide

/-- In L4 with the wake logic, and with the connection and its flow on RoCEv2 or with ECN. -/
def inL4 : State := { dev with power := { dev.power with state := .l4 }, fabric := { dev.fabric with l4link := [0, 0] } }
def onRdma : State :=
  { dev with fabric := { dev.fabric with conns := [{ link with tcp := false, ecn := true }], flows := [{ id := 1, mac := 0, tcp := false, rc := 1000 }] } }
def onEcn : State := { dev with fabric := { dev.fabric with conns := [{ link with ecn := true }] } }

theorem test_w_L4Frames : (inL4.liveIface 0).isSome = true ∧ (inL4.ifaceIn 0 none).isSome = true ∧ inL4.power.state = .l4 ∧
    inL4.fabric.conns.any (·.id == 2) = false := by decide

theorem test_w_Flows : (onRdma.flow 1).map (·.tcp) = some false ∧ (onEcn.flow 1).map (·.tcp) = some true ∧
    (onEcn.fabric.conns.find? (·.id == 1)).map (·.ecn) = some true ∧ link.ecn = false ∧ dev.fabric.conns.find? (·.id == 1) = some link := by decide

theorem test_w_Connections : dev.services = true ∧ dev.fabric.conns.any (·.id == 2) = false ∧
    dev.fabric.conns.find? (·.id == 1) = some link ∧ link.tcp = true ∧ ({ link with icDone := false } : Conn).icDone = false ∧
    link.tls = false ∧ link.ring = none ∧ (dev.ifaceIn 0 none).isSome = true ∧ ({ frame := ⟨0, none⟩ } : RdmaReq).udp = 4791 ∧ ({ frame := ⟨0, none⟩ } : RdmaReq).icrcOk = true ∧
    ({ frame := ⟨0, none⟩ } : RdmaReq).rc = true ∧ dev.power.state ≠ .l4 := by decide

theorem test_w_TlsHello : ({ dev with slices := { dev.slices with mgPsk := [1] } } : State).tlsFits { psk := some 0 } = true ∧
    dev.tlsFits { psk := some 0 } = false ∧ link.port ≠ 8009 ∧ ({ link with icDone := false } : Conn).tls = false := by decide

/-- A Connect to the tenant slice, whose NQN is empty here, on an interface that is not the management one. -/
def join : ConnectReq := { conn := 1, cid := 3, subnqn := .slice [], sqsize := 16, kato := 1000, newCntlid := 5, newQueue := 8195 }
def joinIo : ConnectReq := { join with qid := 2, cntlid := 1, newQueue := 7 }
def tagged : State := { dev with fabric := { dev.fabric with mgmtVlan := 9 } }

theorem test_w_ConnectTargets : dev.target link join.subnqn = some (.slice 1) ∧ dev.target link .device = some (.slice 0) ∧
    dev.mayConnect link (.slice 0) ≠ dev.mayConnect link (.slice 1) := by decide

theorem test_w_ConnectAdmin : tagged.mayConnect link (.slice 1) = true ∧ tagged.authCause link (.slice 1) join.auth false = none ∧
    katoOf join.kato = some 1000 ∧ sizeOk (.slice 1) false join.sqsize = true ∧ tagged.ctrlRoom (.slice 1) = true ∧ tagged.ctrl 5 = none ∧
    tagged.queueFree (.slice 1) false 8195 = true ∧ tagged.store.flush = none ∧ tagged.glb.state = .ready ∧
    tagged.connPaused link = false ∧ (tagged.reg Reg.CE_CNT_ADMIT).toNat < 0xFFFFFFFE ∧ authRun false 2 2 .ok ≠ .failed ∧
    authRun false 2 6 .ok = .failed ∧ (tagged.ioCtrl joinIo).isSome = true ∧ tagged.ioCtrl join = none := by decide

theorem test_w_ConnectIo : (tagged.joins (.slice 1) joinIo).map (·.id) = some 1 ∧ (tagged.slice 1).isSome = true ∧
    tagged.eng.queues.any (fun q => q.cntl == 1 && q.qid == joinIo.qid) = false ∧ sizeOk (.slice 1) true joinIo.sqsize = true ∧
    tagged.usedPairs 1 < sl1.desc.qpairs ∧ tagged.queueFree (.slice 1) true joinIo.newQueue = true := by decide

theorem test_w_ConnectUnauthenticated :
    ({ tagged with slices := { tagged.slices with list := [{ sl1 with desc := { sl1.desc with authReq := true } }] } } : State).authCause link
      (.slice 1) .failed false = some 1 := by decide

theorem test_w_CapsulesTaken : dev.poolRoom { opc := 2, cid := 1 } = true ∧ qIo.ring.length < qIo.size ∧ tenant.stopped = false ∧
    dev.queue 0 = some qIo ∧ qIo.dead = false ∧ qIo.qid ≠ 0 ∧ link.lost = false ∧ link.held = false ∧ dev.ctrl 1 = some tenant ∧
    ({ dev with eng := { dev.eng with poolUsed := 536870912 } } : State).poolRoom { opc := 1, cid := 1, inCapsule := 512 } = false ∧
    qIo.size ≤ ({ qIo with ring := List.replicate 4 { opc := 2, cid := 1 } } : Queue).ring.length := by decide

/-- A read of namespace 1 at the front of the I/O queue. -/
def readCap : Capsule := { opc := 2, cid := 1, nsid := 1, sgl := .transportBlock, sglLen := 512 }
def ringed : State := { dev with eng := { dev.eng with queues := [{ qIo with ring := [readCap] }, qAdmin] } }

/-- The connection held, with one capsule waiting. -/
def stuck : State := { dev with fabric := { dev.fabric with conns := [{ link with held := true, waiting := [(0, readCap)] }] } }

theorem test_w_IntakeResumes : (stuck.fabric.conns.find? (·.id == 1)).map (fun y => (y.held, y.waiting)) = some (true, [(0, readCap)]) ∧
    stuck.queue 0 = some qIo ∧ stuck.poolRoom readCap = true ∧ ({ link with held := true } : Conn).waiting = [] ∧ stuck.store.flush = none ∧
    ({ stuck with eng := { stuck.eng with poolUsed := 536870912 } } : State).poolRoom { readCap with inCapsule := 1 } = false := by decide

theorem test_w_AdmissionTurn : ringed.turnOk tenant { qIo with ring := [readCap] } = true ∧ ringed.power.state = .l0 ∧
    (ringed.fabric.conns.find? (·.id == qIo.conn)).elim false ringed.connPaused = false ∧ (ringed.reg Reg.PN_CNT_WAIT).toNat < 0xFFFFFFFE ∧
    ringed.eng.cct.any (fun y => y.queue == 0 && y.cap.cid == readCap.cid) = false ∧ tenant.holdList = [] ∧
    ringed.validate tenant { qIo with ring := [readCap] } readCap = St.ok := by decide

theorem test_w_Admission : ringed.adminFirst tenant qIo = false ∧ ((ringed.slice 1).map (·.holds)).getD false = false ∧
    ringed.stops tenant readCap = false ∧ ringed.entry 131071 = none ∧ ringed.cctRoom tenant = true ∧
    (ringed.reg Reg.CE_CNT_ADMIT).toNat < 0xFFFFFFFE ∧ (ringed.reg Reg.CE_CNT_OVL_HOLD).toNat < 0xFFFFFFFE ∧
    ringed.validate tenant qIo { readCap with nsid := 9 } ≠ St.ok ∧ ringed.older tenant qIo readCap = [] := by decide

theorem test_w_AdmissionOverlap : (cmd { opc := 1, cid := 9, nsid := 1 } true).older tenant qIo readCap = [0] := by decide

/-- A write of one LBA whose data is on its way. -/
def awaited (c : Cct) (y : Conn) : State := { dev with eng := { dev.eng with cct := [c] }, fabric := { dev.fabric with conns := [y] } }
def dataless : Capsule := { opc := 1, cid := 1, nsid := 1, sgl := .transportBlock, sglLen := 512 }

theorem test_w_CommandData :
    let c : Cct := { cctOf dataless true with r2t := 512 }
    let d : Cct := { cctOf dataless true with fetching := true }
    (awaited c link).connOf c = some link ∧ c.mayFetch = true ∧ c.r2t ≠ 0 ∧ (awaited c link).entry 0 = some c ∧
    ((awaited d { link with tcp := false }).connOf d).map (·.tcp) = some false ∧ d.mayFetch = true ∧
    512 ≤ (awaited d { link with tcp := false }).bytesDue d ∧ (∀ k ∈ dev.eng.ctrls, 0 ∉ k.aers) := by decide +kernel

/-- A neighbour lost since time zero, whose next try is port 1, in a device with a ring secret. -/
def lostNb : Neighbour := { configured := true, tryPort := 1, lastPortI := some 0, lostAt := some 0 }
def lostRing : State := { dev with fabric := { dev.fabric with nbs := [{}, lostNb], ringSecret := [1] } }

theorem test_w_RingUp : lostRing.nb 1 = some lostNb ∧ lostRing.services = true ∧ lostRing.fabric.ringSecret ≠ [] ∧
    lostNb.assocInit = false ∧ lostNb.assocTarget = false ∧ lostNb.tryPort = 1 ∧ lostNb.lastPortI = some 0 ∧ lostNb.state ≠ 4 ∧
    max 1 (lostRing.fld Reg.RING_TIMERS 31 16) * 1000 ≤ lostRing.since 0 ∧ lostRing.retryUs lostNb ≤ lostRing.since lostNb.retryAt := by decide

/-- A neighbour, and the ring with it downstream. -/
def near : Neighbour := { configured := true, assocInit := true, state := 1, lastPortI := some 1 }
def ring (n : Neighbour) : State := { dev with fabric := { dev.fabric with nbs := [{}, n] } }

theorem test_w_Ring : (ring near).nb 1 = some near ∧ near.configured = true ∧ near.assocTarget = false ∧
    100000 ≤ (ring near).since near.heardI ∧ near.state ≠ 4 ∧ (ring near).services = true ∧
    (ring near).retryUs near ≤ (ring near).since near.retryAt ∧
    max 1 ((ring near).fld Reg.RING_TIMERS 31 16) * 1000 ≤ (ring near).since 0 := by decide

theorem test_w_Release : dev.glb.coreActive.getLsbD 0 = true ∧ (dev.reg Reg.CE_CNT_QOS_HOLD).toNat < 0xFFFFFFFE ∧
    ((cmd readCap true).eng.cct.map (·.idx)).Nodup ∧ ({ sl1 with desc := { sl1.desc with iopsCeil := 1 } }.refill true).mayRelease = false ∧
    dev.glb.coreFailed.getLsbD 3 = false ∧ dev.glb.coreActive.getLsbD 16 = false := by decide

/-- A held entry, in a device that warns of holds beyond 1 ms. -/
def heldCct : Cct := { cctOf readCap true with st := .heldQos }
def held : State := { cmd readCap true with regs := regPut dev.regs Reg.CE_CFG 0x00010000, eng := { dev.eng with cct := [heldCct] } }

/-- The device with every priority of MAC 0 paused. -/
def halted : State := { cmd readCap true with fabric := { dev.fabric with macs := { macUp with paused := List.replicate 8 (some 0) } :: List.replicate 7 {} } }

theorem test_w_PausedCompletions : halted.sendPaused (cctOf readCap true) = true ∧ halted.entry 0 = some (cctOf readCap true) ∧
    halted.store.flush = none ∧ (cctOf readCap true).discard = false ∧ ({ cctOf readCap true with st := .completing } : Cct).parked = false ∧
    (cctOf readCap true).orderDone = false ∧ ({ cctOf readCap true with step := 1 } : Cct).step = 1 ∧ (cctOf readCap true).isIo = true ∧
    (∀ k ∈ halted.eng.ctrls, k.aers = []) := by decide

theorem test_w_Holds : held.fld Reg.CE_CFG 31 16 ≠ 0 ∧ held.fld Reg.CE_CFG 31 16 * 1000 < held.since heldCct.heldAt ∧ Safe held ∧
    held.sendPaused heldCct = false := by unfold Safe; decide

/-- A Property Set of CC. -/
def ccSet (v : Word) (k : Ctrl) : State :=
  { dev with eng := { dev.eng with ctrls := [k], cct := [cctOf { opc := 0x7F, cid := 1, dw11 := 0x14, dw12 := v } false] } }

theorem test_w_Controllers : (ccSet 1 { tenant with en := false }).ccKind { tenant with en := false } 1 = 2 ∧
    (ccSet 0 tenant).ccKind tenant 0 = 1 ∧ (ccSet 0x4001 tenant).ccKind tenant 0x4001 = 3 ∧ (ccSet 0x4001 mgmt).ccKind mgmt 0x4001 = 4 ∧
    (ccSet 1 tenant).ccKind tenant 1 = 0 ∧ tenant.kato * 1000 ≤ dev.since tenant.kaAt ∧ dev.eng.shutdown = none ∧
    ({ dev with eng := { dev.eng with shutdown := some (2, 0, 0) } } : State).ccKind mgmt 1 = 5 := by decide

theorem test_w_ShutdownEnds : dev.dirty = 0 ∧ 9000 ≤ dev.since 0 ∧
    dev.eng.cct.any (fun x => !isProperty x.cap && x.st != .heldResource && !x.peerWait) = false ∧ dev.eng.shutDone = false ∧
    tenant.dis = none ∧ tenant.dying = false ∧ tenant.ring = none ∧ mgmt.dis = none := by decide

/-! ### Hypotheses of the statements on commands, namespaces and firmware -/

/-- A write of one LBA with its data. -/
def writeCap : Capsule := { opc := 1, cid := 1, nsid := 1, data := List.replicate 512 5 }

theorem test_w_Write : (cctOf writeCap true).dataHere ns1 = true ∧ ns1.lbaf ≠ 2 ∧ dev.unitsOf ns1 writeCap.slba writeCap.nlb = [0] ∧
    dev.punMay 3 (ceilDiv (16 + dev.origLen (dev.lbafOf 1 1)) 4096) = true ∧ dev.mem.reqs.any (·.cls == 3) = false ∧
    dev.store.jobs = [] ∧ dev.journalHolds = false := by decide +kernel

/-- A namespace of format 2 with protection, and a write whose reference tag does not hold. -/
def ns2 : Ns := { ns1 with lbaf := 2, pi := 1 }
def badPi : Capsule := { opc := 1, cid := 1, nsid := 1, dw12 := 0x04000000, data := List.replicate 4104 1 }

theorem test_w_WriteProtected : ns2.lbaf = 2 ∧ lbaWire ns2 badPi ≠ lbaSize ns2.lbaf := by decide +kernel
theorem test_w_WriteProtectedData : (cctOf badPi true).dataHere ns2 = true := by decide +kernel
theorem test_w_WriteProtectedStatus : piStatus ns2 badPi (hostLbas ns2 badPi) ≠ St.ok := by decide +kernel

theorem test_w_ReadsLost :
    ({ dev with store := { dev.store with lost := [{ slice := 1, nsid := 1, slba := 0, nlb := 8, cause := 1 }] } } : State).lostIn 1 ns1 7 1 = 1 ∧
    ({ dev with store := { dev.store with lost := [{ slice := 1, nsid := 1, slba := 0, nlb := 8, cause := 1 }] } } : State).lostIn 1 ns1 8 1 = 0 ∧
    dev.laneUnits 1 ns1 0 64 false = [] ∧ dev.laneUnits 1 ns1 0 64 true = [] ∧ dev.entryAt 1 1 0 = {} ∧
    dev.directCws 1 ns1 0 64 [] = [] ∧ dev.lostIn 1 ns1 0 64 = 0 := by decide +kernel

/-- Raw data of unit 0 on flash. -/
def raw0 : Extent := { compressed := false, pi := false, payloadLen := 16384, origLen := 16384, crc := 0, key := 0, nsid := 1, mu := 0,
                       orig := List.replicate 32 {} }
def stored : State :=
  { dev with store := { dev.store with
      map := [{ slice := 1, nsid := 1, mu := 0, e := { loc := .band 0 } }]
      placed := [{ gran := 0, len := 33, slice := 1, nsid := 1, mu := 0, x := raw0, band := 0, stripe := 0, off := 0 }] } }

theorem test_w_DirectReads : stored.directCws 1 ns1 0 1 [] = [1] ∧ stored.punMay 1 1 = true ∧ stored.mem.reqs.any (·.cls == 1) = false ∧
    stored.laneUnits 1 ns1 0 1 false = [] ∧ stored.lostIn 1 ns1 0 1 = 0 ∧ (cctOf readCap true).status = St.ok ∧
    stored.waitsPun 0 = false ∧ ∀ j ∈ stored.store.jobs, j.id ≠ stored.store.nextJob := by decide +kernel

theorem test_w_DeallocateAndCopy : dsmDealloc { opc := 9, cid := 1, dw11 := 4 } = true ∧ dsmDealloc { opc := 9, cid := 1 } = false ∧
    State.rangesIn ns1 { opc := 9, cid := 1, dw11 := 4, data := List.replicate 16 0 } = true ∧
    State.sizeStatus ns1 { opc := 0x19, cid := 1, data := List.replicate 32 0 } = St.ok ∧
    State.rangesIn ns1 { opc := 0x19, cid := 1, data := List.replicate 32 0 } = true ∧
    dev.laneUnits 1 ns1 0 1 false = [] := by decide +kernel

/-- A Copy of one LBA whose source has been read. -/
def copied : Cct := { cctOf { opc := 0x19, cid := 1, nsid := 1, data := List.replicate 32 0 } true with step := 3 }

theorem test_w_CopyWrites : copied.cap.copySrc = (0, 1) ∧ ns1.pi = 0 ∧ dev.unitsOf ns1 copied.cap.slba 1 = [0] ∧
    (dev.content 1 ns1 0 1).length = 1 ∧ copied.status = St.ok ∧ 32 ≤ copied.cap.data.length ∧ copied.isIo = true := by decide +kernel

/-- A registered holder with key 0. -/
def resv : Resv := { regs := [(4, 0)], holder := some 4, rtype := 1, gen := 1 }
def key0 (dw : Word) : Capsule := { opc := 0x0D, cid := 1, nsid := 1, dw10 := dw, data := List.replicate 16 0 }

theorem test_w_Reservations : (resv.keyOf 4).isSome = true ∧ resv.keyOf 4 = some (crkey (key0 0)) ∧ resv.keyOf 5 ≠ some (crkey (key0 0)) ∧
    resv.keyOf 5 = none ∧ dwBits (key0 0x100).dw10 2 0 = 0 ∧ dwBits (key0 0x100).dw10 31 30 ≠ 1 ∧ (key0 0x100).dw10.getLsbD 3 = false ∧
    dwBits (key0 0x100).dw10 15 8 = 1 ∧ dwBits (key0 0x600).dw10 15 8 = 6 ∧ (resvRegister (key0 0) 5 resv).1 = St.ok ∧
    (resvRegister (key0 0) 5 resv).2.2.1 = [] ∧ (resvRegister (key0 0) 5 resv).2.2.2 = [] ∧
    (resvAcquire (key0 0x100) 5 resv).1 ≠ St.ok := by decide +kernel

theorem test_w_AdminPages : (logPages tenant).contains (lidOf { opc := 2, cid := 1, dw10 := 0xC0 }) = false ∧
    (logPages tenant).contains (lidOf { opc := 2, cid := 1, dw10 := 0x8001 }) = true ∧ raeOf { opc := 2, cid := 1, dw10 := 0x8001 } = true ∧
    (dev.pageFor tenant 1 0 0).isSome = true ∧ (logPages mgmt).contains (lidOf { opc := 2, cid := 1, dw10 := 0x80C1 }) = true ∧
    ({ cctOf readCap false with page := some (8, []) } : Cct).page = some (8, []) ∧ logOff { opc := 2, cid := 1, dw10 := 0x8001 } = 0 := by decide +kernel

/-- An Abort of the first command of the I/O queue. -/
def abortCap : Capsule := { opc := 8, cid := 7, dw10 := 0x00010001 }
def aborting (g : Gate) : State := { dev with eng := { dev.eng with cct := [{ cctOf readCap true with idx := 3, gate := g }, cctOf abortCap false] } }

theorem test_w_Abort : ((aborting .open).abortTarget 1 abortCap).map (·.gate) = some .open ∧
    ((aborting .committed).abortTarget 1 abortCap).map (·.gate) = some .committed ∧
    (aborting .open).abortTarget 1 { abortCap with dw10 := 0x00020001 } = none ∧ (aborting .open).before 1 8 0 < 4 := by decide +kernel

theorem test_w_Features : (tenant.aers.length < 8 ∧ tenant.pendingN = []) ∧ 8 ≤ ({ tenant with aers := List.replicate 8 0 } : Ctrl).aers.length ∧
    (dev.setFeature tenant { opc := 9, cid := 1, dw10 := 0x0B, dw11 := 0x100 }).1 = St.ok ∧
    ((dev.setFeature tenant { opc := 9, cid := 1, dw10 := 0x0B, dw11 := 0x100 }).2.2.ctrl 1).isSome = true ∧
    (dev.getFeature tenant { opc := 10, cid := 1, dw10 := 0x01 } false).isSome = true ∧ featBytes 0x0B = 0 := by decide +kernel

/-- 4,096 bytes with a size and capacity of 8 LBAs, and a list of one controller. -/
def nsData : List Byte := 8 :: List.replicate 7 0 ++ 8 :: List.replicate 4087 0
def oneCtrl : List Byte := 1 :: 0 :: 1 :: List.replicate 4093 0

theorem test_w_NamespaceCreate : dev.nsCreateStatus tenant nsData = (St.nsInsufficient, 0) ∧
    ({ dev with slices := { dev.slices with list := [{ sl1 with desc := { sl1.desc with capMib := 1024 } }] } } : State).nsCreateStatus tenant
      nsData = (St.ok, 2) ∧ nsData.length = 4096 := by decide +kernel

theorem test_w_NamespaceAttach : ctrlListOf oneCtrl = [1] ∧ (dev.ctrl 1).map (fun k => (k.isTenant, k.slice)) = some (true, 1) ∧
    1 ∈ ns1.attached ∧ 1 ∉ ({ ns1 with attached := [] } : Ns).attached ∧ oneCtrl.length = 4096 := by decide +kernel

theorem test_w_FormatAndSanitize : sl1.nss.filter (fun n => n.nsid == 1) = [ns1] ∧ sl1.erase = none ∧ dwBits (0x400 : Word) 11 9 = 2 ∧
    dwBits (0x1 : Word) 3 0 ≤ 1 ∧ dwBits (0x1 : Word) 7 5 = 0 ∧ dwBits (0x4 : Word) 2 0 = 4 ∧ dev.store.placed = [] := by decide

/-- A bundle of one piece, and the device with it whole in the staging slot. -/
def fwBundle : Bundle := { totalLen := 4096, version := 2 }
def piece : Capsule := { opc := 0x11, cid := 1, dw10 := 1023, data := List.replicate 9 0 ++ 0x10 :: List.replicate 4086 0 }
def staged (st : Nat) : State :=
  { dev with nor := { dev.nor with sizes := [5, 5], slots := [none, some fwBundle, none, none] }
             fw := { dev.fw with recA := some { seq := 1, confirmed := 1, state := st }, activeSlot := 1 } }
def commitOf (ca : Nat) : Cct := cctOf { opc := 0x10, cid := 1, dw10 := BitVec.ofNat 32 (2 + 8 * ca) } false

theorem test_w_FirmwareDownload : bundleLen ((staged 0).piecesWith (cctOf piece false)) = 4096 ∧
    (staged 0).pieceReason (cctOf piece false) = none ∧
    (staged 0).pieceReason (cctOf { piece with dw11 := 1 } false) = some 2 ∧
    (staged 0).fw.received + 4 * (piece.dw10.toNat + 1) = 4096 := by decide +kernel

/-- The confirmed bundle offered on the ring once more: all zeros but its length. -/
def offered : State :=
  { staged 0 with
    regs := regPut dev.regs Reg.FW_CFG 1
    nor := { (staged 0).nor with slots := [some (readBundle piece.data), none, none, none] }
    eng := { dev.eng with ctrls := [{ tenant with ring := some 0 }], cct := [cctOf piece false] } }

theorem test_w_OfferRefused : offered.pieceReason (cctOf piece false) = some 11 := by decide +kernel

theorem test_w_FirmwareCommit : (staged 2).commitReason (commitOf 0) = none ∧ (staged 2).commitReason (commitOf 3) = none ∧
    (staged 3).commitReason (commitOf 2) = none ∧ (staged 2).fwSource (commitOf 0) = 0 ∧ (staged 2).slotBundle (staged 2).stagingSlot = some fwBundle ∧
    (staged 2).verifyFw fwBundle = none ∧ fwBundle.abi = (staged 2).fw.running.abi ∧ commitCa (commitOf 3).cap = 3 := by decide +kernel

theorem test_w_Forwarding :
    let s : State := { staged 0 with
      regs := regPut dev.regs Reg.FW_CFG 0x4
      nor := { dev.nor with slots := [some { fwBundle with forwardOk := true }, none, none, none] }
      fabric := { dev.fabric with nbs := [{}, { near with state := 3 }] } }
    s.mayForward = some { fwBundle with forwardOk := true } ∧ max 1 (s.fld Reg.FW_RING 31 16) * 1000000 ≤ s.since 0 ∧
    (0 : Nat) + 1048576 < ({ fwBundle with totalLen := 2097152 } : Bundle).totalLen ∧ fwBundle.totalLen ≤ 0 + 1048576 := by decide +kernel

/-! ### Hypotheses of the statements on slices and peers -/

/-- A descriptor of 1 GiB with one of each, and a device whose pool has room for it. -/
def descData : List Byte := (List.range 1024).map (fun i =>
  if i = 0 then 97 else if i = 257 then 4 else if i = 264 then 16 else if i = 268 || i = 270 || i = 272 then 1 else 0)
def roomy : State := { dev with array := { dev.array with poolGib := 100 } }

theorem test_nqn_free : roomy.nqnTaken (descOf descData).subnqn = false := by
  have h : (descOf descData).subnqn = [97] := by decide +kernel
  rw [h]
  decide +kernel

theorem test_w_SliceCreate : descReserved descData = true ∧ (descOf descData).rangesOk = true ∧ descData.length = 1024 ∧
    roomy.slices.list.any (·.num == 2) = false ∧ roomy.array.reshape = none ∧
    roomy.shortBits (descOf descData).takes = 0 ∧ roomy.lowSlice = some 2 ∧
    badDws { opc := 0xC4, cid := 1, dw10 := 0x00020000 } 0x07FF0003 0 0 0 = false ∧ sliceOf { opc := 0xC4, cid := 1, dw10 := 0x00020000 } = 2 := by
  decide +kernel

theorem test_w_SliceModify :
    let d := (descOf descData).keep sl1.desc
    roomy.usedPairs 1 ≤ d.qpairs ∧ sl1.usedNs ≤ d.ns ∧ d.replicated = sl1.desc.replicated ∧ sl1.usedBytes ≤ d.capMib * 1048576 ∧
    roomy.shortBits ((d.takes.zip sl1.desc.takes).map (fun y => y.1 - y.2)) = 0 ∧ roomy.slice 2 = none ∧
    badDws { opc := 0xC4, cid := 1, dw10 := 0x00010001 } 0x07FF0003 0 0 0 = false ∧ d.rangesOk = true ∧
    ({ roomy with eng := { roomy.eng with ctrls := [tenant] } } : State).ctrlCount 1 ≤ d.ctrls := by decide +kernel

theorem test_w_SliceStates : resumeOk .quiesced false false = true ∧ resumeOk .replica true false = true ∧ resumeOk .inDoubt false true = true ∧
    sl1.state = .active ∧ badDws { opc := 0xC6, cid := 1, dw10 := 0x00010000 } 0x07FF0000 1 0 0 = false ∧
    dev.eng.cct.any (fun c => c.slice == 1 && c.origin == 0) = false ∧ (ring { near with state := 3 }).ringUp 1 = true ∧
    (ring { near with state := 3 }).saveReason sl1 1 = 0 := by decide

/-- A replicated slice, and a migration. -/
def repl : SliceS := { sl1 with desc := { sl1.desc with replicated := true }, repl := 3 }
def peered (x : SliceS) : State := { ring near with slices := { dev.slices with list := [x] } }
def mig1 : Mig := { id := 1, nb := 1, converge := 0 }

theorem test_w_CutOver :
    let x : SliceS := { sl1 with state := .quiesced, mig := some mig1, migState := 3 }
    x.erase = none ∧ mig1.committed = false ∧ ({ ring { near with assocTarget := true, state := 3 } with slices := { dev.slices with list := [x] } } : State).ringUp 1 = true ∧
    badDws { opc := 0xC8, cid := 1, dw10 := 0x00010000 } 0x07FF0000 0 0 0 = false ∧
    badDws { opc := 0xC9, cid := 1, dw10 := 0x00020000, dw11 := 1 } 0x07FF0003 1 0xFFFFFFFF 0xFFFFFFFF = false := by decide

/-- What the peer sends for the slice, whose SUBNQN is empty here. -/
def fromPeer : PeerRef := { nb := 0, id := 0, nqn := [] }

theorem test_w_PeerMessages : ({ sl1 with state := .replica } : SliceS).isFrom fromPeer = true ∧
    sl1.isFrom { fromPeer with id := 1 } = false ∧ ({ sl1 with state := .replica } : SliceS).detached = false ∧
    (dev.eng.cct.filter (fun c => c.origin != 0)).length < 3072 ∧ dev.entry 131071 = none := by decide

theorem test_w_Peers : repl.isSource = true ∧ (peered repl).peerUp = true ∧
    (peered { repl with outstanding := [(1, 0, 1, none)] }).slices.list.map (fun x => x.outstanding.find? (fun r => r.1 == 1 && r.2.1 == 0)) =
      [some (1, 0, 1, none)] ∧
    (peered { repl with repl := 2 }).canRepair 1 1 0 = true ∧ ((peered repl).lowBuf 16) = some 0 ∧
    ({ sl1 with mig := some mig1, migState := 2 } : SliceS).migState = 2 ∧ dev.markedBytes mig1 ≤ 256 * 1048576 := by decide +kernel

theorem test_w_Streams :
    let l : List StreamJob := [{ id := 1, sender := false, nb := 0, seq := 4 }, { id := 2, sender := true, nb := 1, seq := 9 }]
    l.find? (fun j => j.id == 1 && !j.sender) = l.find? (·.id == 1) ∧ l.find? (fun j => j.id == 2 && j.sender) = l.find? (·.id == 2) ∧
    (l.find? (·.id == 1)).isSome = true ∧ ({ dev with comp := { dev.comp with jobs := l } } : State).streamRuns false 1 = true ∧
    ({ dev with comp := { dev.comp with jobs := l } } : State).streamRuns true 2 = true := by decide +kernel

/-- One stored byte 0x61 as a chunk, whole, and with a wrong CRC. -/
def chunk1 (crc : Word) : Chunk := { compressed := false, seq := 4, dictReset := true, origLen := 1, crc := crc, payload := [0x61] }

theorem test_w_Chunks : chunkOrig (chunk1 (crc32c [0x61])) [] = .ok [0x61] ∧ chunkOrig (chunk1 0) [] = .error .crc := by decide +kernel

/-! ### Hypotheses of the statements on carriers, moves, lanes and stripes -/

/-- Carrier 0 of the device in a given condition. -/
def car0 (c : Carrier) : State := { dev with array := { dev.array with carriers := c :: List.replicate 15 {} } }
def cfacts : CarrierFacts := { eeprom := {} }

theorem test_w_CarrierReadings : ((car0 { st := 5, present := true }).carrier 0).present = true ∧ (car0 {}).hottestOther 3 = none ∧
    (car0 { st := 5, present := true }).hottestOther 3 = some 0 ∧ ((car0 { pwrOn := true }).carrier 0).pwrOn = true ∧
    dev.power.carDom.getD 0 .on ≠ .on ∧ (car0 { st := 5, present := true }).hottestOther 0 = none ∧
    (∀ d ∈ dev.array.dies, dieCar d.idx = 0 → d.old = false → d.queue = [] ∧ d.op = 0 ∧ d.suspended = 0) ∧
    (∀ b ∈ dev.upkeep.bands, b.st = .erasing → ∀ m ∈ b.members, dieCar m.die ≠ 0) := by decide +kernel

theorem test_w_CarrierComes : dev.eepromCause 3 { readable := false } = some 1 ∧ ((car0 {}).carrier 0).present = false ∧ dev.fld Reg.CAR_CFG 0 0 = 0 ∧
    (∃ x ∈ carrierDies 0 cfacts, dieBad 0 cfacts x = false ∧ dieCar x.1 = 0) ∧ 100000 ≤ dev.since 0 := by decide +kernel

theorem test_w_CarrierAccepted :
    ({ dev with cfg := { dev.cfg with image := { dev.cfg.image with records := [.carrierSlot 3 0 0 0 0] } } } : State).eepromCause 3 {} = none := by
  decide +kernel

theorem test_w_CarrierGoes : ({ dev with upkeep := { dev.upkeep with delayed := [(0, 0)] } } : State).upkeep.delayed.find? (·.1 == 0) = some (0, 0) ∧
    dev.fld Reg.STR_REBUILD_CFG 31 24 * 60000000 ≤ ({ dev with seed := { dev.seed with now := 16000000000 } } : State).since 0 ∧
    (dev.releaseStatus 3 false false).1 ≠ St.ok ∧ ((car0 { st := 7, present := true }).releaseStatus 0 false true).1 = St.ok ∧
    ({ st := 2 } : Carrier).record = none ∧ dev.array.arrayId.isSome = true ∧ dev.array.reshape = none ∧ (car0 { st := 2 }).moveRuns 0 = false := by
  decide +kernel

/-- Sixteen carriers in the array. -/
def full16 : State :=
  { dev with array := { dev.array with carriers := List.replicate 16 { st := 5, present := true, pwrOn := true } }, slices := { dev.slices with list := [] } }

theorem test_w_Reshape : (full16.reshapeStatus 12 2 false).1 = St.ok ∧ (full16.reshapeStatus 14 2 false).1 ≠ St.ok ∧ geomOk 12 2 = true ∧
    full16.canMaintain = true ∧ full16.nextRebuild = none ∧ full16.nextBand ≤ 1 ∧ 0 < full16.nextBand ∧
    full16.upkeep.moving.getD 3 none = none ∧ (full16.upkeep.bands.map (·.num)).Nodup ∧
    full16.mapFirst = false ∧ (full16.paced .engine).1 = true := by decide +kernel

/-- Slot 17 drives half a grant, and half a share is there already. -/
def half (n : Nat) : State :=
  { full16 with
    loops := modNth full16.loops 17 (fun x => { x with driven := true, u := 0x40000000 })
    thermal := { full16.thermal with pace := List.replicate 4 n } }

theorem test_w_Paced : (half 0).grantQ < fullGrant ∧ ((half 0).paced .engine).1 = false ∧ ((half 0x40000000).paced .engine).1 = true ∧
    fullGrant ≤ full16.grantQ ∧ ((half 0).paced .channel).1 = false ∧ ((half 0).paced .decode).1 = false ∧ ((half 0).paced .lane).1 = false ∧
    (half 0).canMaintain = true ∧ (half 0).mapFirst = false := by decide +kernel

theorem test_w_MaintenanceWaits : s0.canMaintain = false := by decide

/-- An extent; band 0 asked for maintenance, and band 0 with a member to rebuild. -/
def ext0 : Extent := { compressed := false, pi := false, payloadLen := 0, origLen := 16384, crc := 0, key := 0, nsid := 1, mu := 0, orig := [] }
def asked : State := { full16 with upkeep := { full16.upkeep with bands := [{ band0 with reqs := [(1, 0, 1)] }] } }
def broken : State :=
  { full16 with
    array := { full16.array with dies := [{ die 0 with st := 4 }, die 1, die 2] }
    store := { full16.store with
      map := [{ slice := 1, nsid := 1, mu := 0, e := { loc := .band 0, len := 4 } }]
      placed := [{ gran := 0, len := 4, slice := 1, nsid := 1, mu := 0, x := ext0, band := 0, stripe := 0, off := 0 }] } }

theorem test_w_Victims : asked.nextVictim = some (0, 1, 4) ∧ full16.nextVictim = none := by decide +kernel
theorem test_w_Rebuild : (broken.nextRebuild).map (·.num) = some 0 ∧ broken.outOfSpace = true ∧ broken.upkeep.noSpace = false := by decide +kernel

/-- A write's unit in lane 0, formed, and in the buffer. -/
def unit (st : Nat) : UnitJob := { id := 0, entry := none, slice := 1, nsid := 1, mu := 0, stage := st, chain := [1], x := some ext0 }
def inLane (st : Nat) : State := { dev with store := { dev.store with jobs := [unit st] } }

theorem test_w_Lanes : (inLane 0).job 0 = some (unit 0) ∧ dev.storeRaw = false ∧ (unit 0).lane = 0 ∧
    (dev.reg Reg.CMP_CNT_RAW).toNat < 0xFFFFFFFE ∧ (∀ k ∈ dev.eng.ctrls, ∀ i, (unit 0).entry = some i → i ∉ k.aers) := by
  refine ⟨by decide +kernel, by decide +kernel, by decide +kernel, by decide +kernel, ?_⟩
  intro k _ i h
  exact absurd h (by simp [unit])

/-- Map units of 2 KiB, to keep the lists short; the fixed-Huffman payload of 2,048 zero bytes (a literal and matches at distance 1, R356). -/
def small (j : UnitJob) (kib : Nat := 2) : State := { dev with array := { dev.array with mapUnitKib := kib }, store := { dev.store with jobs := [j] } }
def zeros2k : List Byte := [99, 96, 24, 5, 163, 96, 20, 140, 130, 81, 48, 10, 70, 193, 72, 3, 0]

theorem test_w_LaneInflates :
    (inflate false [] ((small (unit 0)).origLen ((small (unit 0)).lbafOf 1 1)) zeros2k).toOption =
      some (origBytes ((small (unit 0)).lbafOf 1 1) ((small (unit 0)).merged (unit 0)), [1]) := by decide +kernel

theorem test_w_LaneGranted : ((small (unit 0)).paced .lane).1 = true ∧ (small (unit 0)).jobFault (unit 0) = none ∧
    (small (unit 0)).jobRaw (unit 0) = false ∧ 16 + zeros2k.length ≤ 512 * (small (unit 0)).compLimit ((small (unit 0)).lbafOf 1 1) := by
  decide +kernel

/-- A read's unit, raw, with map units of no bytes, whose CRC is that of the empty list. -/
def readUnit (crc : Word) : UnitJob :=
  { unit 0 with reading := true, x := some { raw0 with payloadLen := 0, origLen := 0, crc := crc, orig := [] } }

theorem test_w_LaneReads : (small (readUnit 0) 0).jobFault (readUnit 0) = none ∧ (small (readUnit 1) 0).jobFault (readUnit 1) = some .crc ∧
    (small (readUnit 0) 1).jobFault (readUnit 0) = some .header := by decide +kernel

theorem test_w_LaneVerify : ({ dev with regs := regPut dev.regs Reg.CMP_CFG (dev.reg Reg.CMP_CFG ||| 0x10) } : State).fld Reg.CMP_CFG 4 4 = 1 ∧
    ({ dev with regs := regPut dev.regs Reg.CMP_CFG (dev.reg Reg.CMP_CFG ||| 0x10) } : State).storeRaw = false := by decide +kernel

/-- A bank that carries a dirty limit, with landing space. -/
def carries : State :=
  { inLane 1 with bank := { dev.bank with limit := 4294967296 }
                  upkeep := { dev.upkeep with bands := [{ band0 with kind := .landing, st := .erased, nextStripe := 0 }] } }

theorem test_w_Buffer : carries.dirty + extGran ext0 ≤ carries.dirtyLimit ∧ carries.bufFree (16777216 - extGran ext0) (extGran ext0) = true ∧
    carries.bufFree 16777216 (extGran ext0) = false ∧ (inLane 2).journalHolds = false ∧ (inLane 2).merged (unit 2) ≠ ext0.orig := by
  decide +kernel

/-- A request of the write class for one punnet. -/
def req1 : PunReq := { id := 4, cls := 3, n := 1, at_ := 0, entry := none }
def waits1 : State := { dev with mem := { dev.mem with reqs := [req1], punnets := [{ num := 0, cls := 3, ref := 2 }, { num := 1, cls := 3, ref := 1 }] } }

theorem test_w_Punnets : waits1.punTurn req1 = true ∧ waits1.punTurn { req1 with n := 20000 } = false ∧ waits1.punHeld 1 = false ∧
    waits1.fld Reg.PN_CFG 31 16 ≠ 0 ∧ waits1.fld Reg.PN_CFG 31 16 * 1000 < waits1.since req1.at_ ∧ req1.warned = false ∧
    (∀ p ∈ [16383], p < punnetCount ∧ ∀ x ∈ waits1.mem.punnets, x.num ≠ p) := by decide +kernel

/-- A write that waits for the punnet of its data. -/
def asks : State :=
  { awaited { cctOf dataless true with st := .heldResource } link with mem := { dev.mem with reqs := [{ req1 with entry := some 0 }] } }

theorem test_w_PunnetFetches : asks.punTurn { req1 with entry := some 0 } = true ∧ (asks.entry 0).map (fun c => (c.st, c.parked, c.step, c.r2t)) =
    some (.heldResource, false, 0, 0) ∧ asks.bytesDue { cctOf dataless true with st := .heldResource } ≠ 0 ∧
    (asks.connOf { cctOf dataless true with st := .heldResource }).map (·.tcp) = some true := by decide +kernel

/-- A full stripe of band 0, open, and one whose idle timer has run out. -/
def stripe2 (fill : Nat) (fl : Bool) : Stripe := { stream := 0, band := 0, stripe := 2, d := 2, p := 1, fill := fill, flushing := fl }
def striped (x : Stripe) (q : List DieOp) : State :=
  { dev with store := { dev.store with stripes := [x] }
             array := { dev.array with
               carriers := List.replicate 16 { st := 5, present := true, pwrOn := true }
               dies := [{ die 0 with queue := q, op := if q = [] then 0 else 2, opId := 1 }, die 1, die 2] }
             upkeep := { dev.upkeep with bands := [{ band0 with st := .opened, nextStripe := 3 }] } }
def open2 : Band := { band0 with st := .opened, nextStripe := 3 }
def fullFill : Nat := (striped (stripe2 0 false) []).stripeGran open2

theorem test_w_StripeFlush : (striped (stripe2 fullFill false) []).stripeRoom (stripe2 fullFill false) = 0 ∧
    (striped (stripe2 fullFill false) []).canFlush (stripe2 fullFill false) open2 = true ∧
    ((striped (stripe2 fullFill false) []).takePun 4 ((striped (stripe2 fullFill false) []).parityPun (stripe2 fullFill false) open2)).isSome = true ∧
    (dev.takePun 4 20000).isNone = true := by decide +kernel

theorem test_w_StripePad : (striped (stripe2 4 false) []).openOf 0 = some (stripe2 4 false) ∧ (striped (stripe2 4 false) []).padDue (stripe2 4 false) = true ∧
    (striped (stripe2 0 false) []).padDue (stripe2 0 false) = false ∧ dev.l3PadDue = false := by decide +kernel

theorem test_w_L3Pad : ({ dev with power := { dev.power with allowed := .l3, idleAt := some 0 }, store := { dev.store with buf := [] } } : State).l3PadDue =
    true := by decide +kernel

/-- The program of member 1 of that stripe, running on die 0. -/
def prog : DieOp := { id := 1, cls := 4, kind := 2, band := 0, stripe := 2, mem := 1, at_ := 0, started := true }

theorem test_w_StripeStatus : open2.memberAt 2 1 = some { die := 0, gen := 1, block := 0 } ∧
    ((striped (stripe2 fullFill true) [prog]).dieGen 0 1).map (fun d => d.queue.find? (fun o => o.kind == 2 && o.band == 0 && o.stripe == 2 && o.mem == 1 &&
      o.started && d.op == 2 && d.opId == o.id)) = some (some prog) ∧ 0 < dev.memberTmoUs ∧
    (∀ i, i < 2 + 1 → i ∈ ({ stripe2 4 true with passed := [0, 2] } : Stripe).passed ∨ i = 1) := by decide +kernel

/-- A dirty map page, a root that names record 4, and an erased map band. -/
def mapDirty : State :=
  { striped (stripe2 4 false) [] with
    store := { dev.store with dirtyPages := [(1, 1, 0, 3)], stripes := [{ stripe2 4 false with stream := 2, kind := 0 }] }
    journal := { dev.journal with mapA := some { gen := 1, t := 4 }, nextSeq := 9 } }

theorem test_w_MapPages : mapDirty.nextPage = some (1, 1, 0) ∧ (mapDirty.place 2 0 8 (·.addPage (1, 1, 0))).1 = true ∧ dev.nextPage = none ∧
    mapDirty.journal.t < 4 ∧ 4 ≤ mapDirty.journal.rootT := by decide +kernel

/-! ### Hypotheses of the statements on power, boot, memory and dies -/

theorem test_w_TornRoot : ({ dev.journal with mapA := some { gen := 1 }, mapB := some { gen := 2 }, rootB := true } : Journal).mapB =
    some { gen := 2 } ∧ ({ gen := 2 } : MapRoot).torn = false := by decide

theorem test_w_LosingPower : dev.glb.powered = true ∧ dev.store.flush = none ∧ dev.glb.hold = none ∧ dev.power.state ≠ .l4 ∧ dev.store.buf = [] ∧
    dev.store.stripes = [] ∧ dev.seed.vdd = true ∧ dev.seed.otTrip = false ∧ Safe dev := by unfold Safe; decide

/-- Off, seated, in range, the crystal running. -/
def off : State := { s0 with seed := { s0.seed with now := 1000000000, prsnt := true, rails := true } }

theorem test_w_ColdBoot : off.mayBoot = true ∧ s0.mayBoot = false ∧ (off.takeNor none).bootNor {} = none := by decide +kernel

/-- The ROM routine running. -/
def call : RomCall := { nor := 1, addr := 65536, len := 0, ret := 0 }

theorem test_w_RomCalls : (∀ s : State, s.romUp = false → s.romUp ≠ true) ∧ call.nor < 2 ∧ s0.romUp = false ∧
    ({ dev with glb := { dev.glb with bootStep := 7 } } : State).romUp = true := by
  refine ⟨fun s h => by simp [h], by decide, by decide +kernel, by decide +kernel⟩

theorem test_w_QuinceAreas : dev.journal.dieLost.getD 1 true = false ∧ dev.journal.single = false ∧
    ({ dev.journal with dieLost := [true, false] } : Journal).single = true ∧ dev.journal.areaActive = false ∧
    20 ≤ dev.since ({ dev.journal with areaActive := true, group := 3 } : Journal).groupAt := by decide

/-- Band 0 waiting for its erase. -/
def erasable : State := { striped (stripe2 0 false) [] with
  upkeep := { dev.upkeep with bands := [{ band0 with st := .erasePending }] }, store := { dev.store with stripes := [] } }

theorem test_w_Erases : erasable.canErase { band0 with st := .erasePending } = true ∧ band0.retire = [] ∧
    (∃ m ∈ band0.members, erasable.memDown m = false) ∧ dev.canErase band0 = false ∧
    max 1 (dev.fld Reg.MNT_RET_CFG1 31 16) * 1000 < dev.since 0 ∧ (dev.upkeep.eol.map (·.slot)).Nodup ∧
    dev.eraseLeft { band0 with erased := [0, 2] } = [1] := by decide +kernel

/-- Stripe 0 of band 0 written. -/
def written : State := { dev with store := { dev.store with flash := [{ stripe2 4 true with stripe := 0, committed := true }] } }

theorem test_w_Patrol : written.patrolNext = some 0 ∧ written.cwIndex band0 0 0 0 = written.upkeep.posOf 0 ∧
    (written.writtenStripes 0).contains 0 = true ∧ (written.writtenStripes 0).contains 1 = false ∧ dev.patrolNext ≠ some 0 ∧
    0 < written.bandMem band0 / 8 ∧ written.cwIndex band0 0 0 0 + 1 < written.bandCw band0 ∧ (written.paced .engine).1 = true ∧
    max 1 (dev.fld Reg.MNT_PATROL_CFG 31 16) * 3600000000 < ({ dev with seed := { dev.seed with now := 4000000000000 } } : State).since 0 := by
  decide +kernel

/-- A read waiting on die 0, and the same read at the decoder. -/
def rd : DieOp := { id := 1, cls := 3, kind := 1, band := 0, stripe := 0, mem := 0, at_ := 0 }
def reading (x : Die) (l : List DieOp) : State :=
  { striped (stripe2 4 true) [] with
    array := { dev.array with
      carriers := List.replicate 16 { st := 5, present := true, pwrOn := true }
      chans := List.replicate 32 { st := 2 }
      dies := [x, die 1, die 2], decode := l } }

theorem test_w_DieRequests : band0.memberAt 0 0 = some { die := 0, gen := 1, block := 0 } ∧ (reading (die 0) []).findOp 1 = none ∧
    (reading (die 0) []).direct { die := 0, gen := 1, block := 0 } = true ∧ (die 0).queue.length < 32 := by decide +kernel

theorem test_w_DieQueue : (reading { die 0 with queue := [rd] } []).canRecon open2 0 0 = true ∧
    (reading { die 0 with queue := [rd] } []).reconWaitUs 0 ≤ (reading { die 0 with queue := [rd] } []).since 0 ∧
    (reading { die 0 with queue := [rd] } []).nextOpOf { die 0 with queue := [rd] } = some rd ∧
    ((reading (die 0) []).chan (dieChan 0)).st = 2 ∧ ((reading (die 0) []).paced .channel).1 = true := by decide +kernel

theorem test_w_Codewords : (written.stripeOnFlash 0 0).isSome = true ∧ (written.band 0).isSome = true ∧
    band0.memberAt 0 0 = some { die := 0, gen := 1, block := 0 } := by decide +kernel

theorem test_w_Decoder : ((reading (die 0) [rd]).array.decode.find? (fun o => o.id == 1 && !o.recon)) = some rd ∧
    (reading (die 0) [rd]).flippedAt 0 0 0 0 = none ∧ (reading (die 0) [rd]).decoding rd = true ∧
    (reading (die 0) (List.replicate 48 { rd with id := 2 } ++ [rd])).decoding rd = false ∧ ((reading (die 0) [rd]).paced .decode).1 = true ∧
    rd.step ≠ 300 ∧
    ((reading (die 0) [rd]).nextStep 0 ((reading (die 0) [rd]).memFacts { die := 0, gen := 1, block := 0 }) 0).isSome = true ∧
    ((reading (die 0) [{ rd with recon := true }]).array.decode.find? (fun o => o.id == 1 && o.recon)).isSome = true := by decide +kernel

theorem test_w_DieTimers : dev.memberTmoUs ≤ ({ die 0 with op := 2, busyUs := 0 } : Die).busyUs + dev.since 0 ∧
    3600000000 ≤ dev.since (({ die 0 with st := 2, slowTimes := [5] } : Die).slowTimes.foldl max 0) ∧ dev.fld Reg.STR_MEMBER_CFG 7 0 = 0 ∧
    max 1 (dev.fld (Reg.CH_SCHED + 0x1000 * 31) 7 0) * 1000 ≤ dev.since (dev.chan 31).zqAt := by decide +kernel

theorem test_w_SlowFail :
    let s : State := { dev with regs := regPut dev.regs Reg.STR_MEMBER_CFG (dev.reg Reg.STR_MEMBER_CFG ||| 1) }
    s.fld Reg.STR_MEMBER_CFG 7 0 ≠ 0 ∧ s.fld Reg.STR_MEMBER_CFG 7 0 * 3600000000 ≤ s.since 0 := by decide +kernel

/-- One rank in use on each controller. -/
def dram : State := { dev with glb := { dev.glb with dramGib := 64 }, mem := { dev.mem with ranks := [[1], [1], [1], [1]], topo := [0, 0, 1] } }

theorem test_w_Memory : dram.rankUsed 0 0 = true ∧ dram.dramOn = true ∧ 1 < max 1 (dram.fld Reg.DRAM_RETIRE_CFG 31 24) ∧
    dram.rankUsed 3 9 = false ∧ dram.mem.migrating = [] ∧ dram.scrubTotal ≠ 0 ∧ dram.mem.rankCount ≠ 0 := by decide +kernel

theorem test_w_Configuration : onlyDws { opc := 0xD0, cid := 1, dw10 := 3, dw11 := 2097152 } 3 0xFFFFFFFF 0 0 0 0 = true ∧
    imageReason none none { wellFormed := false } ≠ none ∧ (∀ c ∈ dev.eng.cct, c.isIo = true ∨ c.cap.opc ≠ 0xD0) ∧
    ({ dev.cfg with deferred := [.mgmtVlan 5] } : Cfg).deferred ≠ [] ∧ 100000 ≤ dev.since 0 ∧ dev.nor.copies.length = 2 ∧ dev.nor.cfgCopy < 2 := by
  decide +kernel

theorem test_w_HoldUpRefused : dev.testRefused ≠ none ∧ ({ dev with bank := { dev.bank with vMv := dev.vset + 500, cUf := none } } : State).testRefused = none ∧
    ({ dev with bank := { dev.bank with vMv := dev.vset + 501, cUf := none } } : State).testRefused = some 2 ∧
    ({ dev with bank := { dev.bank with vMv := dev.vset + 500, cUf := none } } : State).testDue = true := by decide +kernel

/-! ### One step each; the results are read off the rules named -/

/-- A field of the next state of a command. -/
def after {α : Type} (c : Instr) (s : State) (f : State → α) : Option α :=
  match exec c s with
  | .next t => some (f t)
  | _ => none

/-- R15: an offset without a register reads zero and keeps nothing. -/
theorem test_unimplemented : after (.registerWrite 0xFFFFC 5) dev (fun t => (t.readReg 0xFFFFC, t.regs == dev.regs)) = some (0, true) := by
  decide +kernel

/-- R13: a bit raised in the cycle that clears it ends set; another written as 1 clears. -/
theorem test_sticky_race : after (.stickyClear 1 0x3 0x2) { dev with regs := regPut dev.regs (Reg.STICKY + 4) 0x7 } (fun t => t.sticky 1) = some 0x6 := by
  decide +kernel

/-- R548: the event's code is its group and bit. -/
theorem test_event_sticky : after (.eventCapture 0x0305 0 0 0 0) dev (fun t => (t.sticky 3, t.sticky 4)) = some (0x20, 0) := by decide +kernel

/-- R492, R486: no loader in either NOR holds configuration at step 2. -/
theorem test_boot_holds : after (.coldBoot {}) off (fun t => (t.glb.hold, t.glb.bootStep, t.seed.pcycle)) = some (some 1, 2, 1) := by decide +kernel

/-- R54: an ARP request for the interface's address is answered, one for another is not. -/
theorem test_arp : after (.arpRequest ⟨0, none⟩ 5) dev (fun t => t.fabric.sent) = some [.arpReply 0 5] ∧
    after (.arpRequest ⟨0, none⟩ 6) dev (fun t => t.fabric.sent) = some [] ∧
    after (.arpRequest ⟨0, some 3⟩ 5) dev (fun t => t.fabric.sent) = some [] := by decide +kernel

/-- R168: the minute tick switches the banks and counts one snapshot. -/
theorem test_minute : after .minuteTick dev (fun t => (t.seed.ticks, t.slices.list.map (fun x => (x.meter.sel, x.meter.seq)))) = some (1, [(true, 1)]) := by
  decide +kernel

/-- R181: a namespace on which nothing was written reads as zeros. -/
theorem test_read_zeros : after (.read 0) (cmd { readCap with dw12 := 1 } true) (fun t => (t.entry 0).map (fun c => (c.st, c.status, c.out))) =
    some (some (.completing, 0, .lbas [zeroLba 0, zeroLba 0])) := by decide +kernel

/-- R120: the host that acquires a free reservation is its holder, with the type it asked for. -/
theorem test_acquire : (resvAcquire (key0 0x300) 4 { resv with holder := none, rtype := 0 }).2.1 = { resv with rtype := 3 } := by decide +kernel

/-- R386: a punnet with two references loses one, with one it returns to the pool. -/
theorem test_punnet : after (.punnetRelease 0) waits1 (fun t => t.mem.punnets.map (fun x => (x.num, x.ref))) = some [(0, 1), (1, 1)] ∧
    after (.punnetRelease 1) waits1 (fun t => t.mem.punnets.map (·.num)) = some [0] := by decide +kernel

/-- R442: reading SEED_HOURS captures SEED_MS. -/
theorem test_seed_capture : after .seedHoursRead { dev with seed := { dev.seed with us := 7654321 } } (fun t => t.readReg Reg.SEED_MS) = some 7654 := by
  decide +kernel

/-- R328: a step past the last band ends the reshape in the new geometry. -/
theorem test_reshape_ends : after .reshapeBandStep { full16 with array := { full16.array with reshape := some (12, 2, 1, 0) } }
    (fun t => (t.array.reshape, t.array.d, t.array.p)) = some (none, 12, 2) := by decide +kernel

/-- AF of R247 at 25, 40 and 80 °C, in millionths: its table has 0.129, 1.00 and 101. -/
theorem test_af_table :
    [25, 40, 80].map (fun t : Int => expFix (1276600 * (100 * t - 4000)) (31315 * (100 * t + 27315).toNat) / 10 ^ 24) =
      [128610, 1000000, 101236632] := by decide +kernel

/-- The worked example of R468: 40,000 µF at 35 V, 32 channels at 3.6 GB/s with code 1, 14+2: 4.038 GB; at 34 V 3.666 GB, rounded. -/
def charged (mv : Nat) : State :=
  { full16 with
    array := { full16.array with carriers := List.replicate 16 { st := 5, present := true, pwrOn := true, facts := some cfacts } }
    bank := { full16.bank with vMv := mv, cUf := some 40000 } }

theorem test_dirty_limit_example :
    (charged 35000).energyLimit / 1000000 = 4038 ∧ (charged 34000).energyLimit / 1000000 = 3665 := by decide +kernel

end Sys2Proof.Tests
end

section
/-! PROOFS. The canonical form of the register store along every command (O5, O23): the rules that its proof composes.

Each state operation `State.f` that a command uses has one rule `Safe.f`, so that the chain `h.f.g` follows the model's `s.f.g`;
each meaning `execF` has one, `Answers.f`. -/

namespace Sys2Proof

open Sys2Proof.Machine

/-- What a command's meaning answers from `s`: a next state, in canonical form where `s` is. -/
def Answers (s : State) (o : Out) : Prop := ∃ t, o = .next t ∧ (Safe s → Safe t)

variable {s t : State}

/-! ### The canonical form -/

/-- Entries may be dropped from a canonical store. -/
theorem regWf_filter {l : List (Nat × Word)} (h : regWf l = true) (p : Nat × Word → Bool) : regWf (l.filter p) = true := by
  induction l with
  | nil => rfl
  | cons a l ih =>
    simp only [List.filter_cons]
    split
    · exact regWf_cons (regWf_head h) (ih (regWf_tail h)) fun q hq => regWf_lt h q (List.mem_of_mem_filter hq)
    · exact ih (regWf_tail h)

theorem Safe.of_regs (h : Safe s) (e : t.regs = s.regs) : Safe t := by
  unfold Safe
  rw [e]
  exact h

/-- An update of any other field. -/
theorem Safe.upd (h : Safe s) {pending glb fuses nor cfg fw seed power fabric eng slices store journal upkeep array comp mem loops bank
    thermal events free} :
    Safe ⟨pending, s.regs, glb, fuses, nor, cfg, fw, seed, power, fabric, eng, slices, store, journal, upkeep, array, comp, mem, loops,
      bank, thermal, events, free⟩ := h

theorem Safe.ite {p : Prop} {_ : Decidable p} (ht : Safe t) (hs : Safe s) : Safe (if p then t else s) := by
  split
  · exact ht
  · exact hs

theorem Safe.foldl (h : Safe s) {α : Type} {f : State → α → State} {l : List α} (hf : ∀ x a, Safe x → Safe (f x a)) :
    Safe (l.foldl f s) :=
  foldl_keeps Safe f l s h fun x a _ => hf x a

theorem Safe.optElim (h : Safe s) {α : Type} {o : Option α} {f : α → State} (hf : ∀ a, Safe (f a)) : Safe (o.elim s f) := by
  cases o
  · exact h
  · exact hf _

/-! ### The answer of a meaning -/

theorem Answers.next (h : Safe s → Safe t) : Answers s (.next t) := ⟨t, rfl, h⟩

/-- The check of the Critical Warnings that ends most meanings leaves every register. -/
theorem Answers.done (h : Safe s → Safe t) : Answers s t.done := .next fun k => (h k).of_regs (smartCheck_regs t)

theorem Answers.ite {p : Prop} {_ : Decidable p} {o o' : Out} (h : Answers s o) (h' : Answers s o') :
    Answers s (if p then o else o') := by
  split
  · exact h
  · exact h'

/-- A meaning that runs on a changed state. -/
theorem Answers.after {o : Out} (h : Safe s → Safe t) (ho : Answers t o) : Answers s o := by
  obtain ⟨u, e, k⟩ := ho
  exact ⟨u, e, k ∘ h⟩

end Sys2Proof
end

section
/-! PROOFS. The rules of the state operations and of the meanings, in the model's order, a heading for each of its files. -/

namespace Sys2Proof

open Sys2Proof.Machine

variable {s : State}

/-! ### Machine/Regs.lean -/

theorem Safe.setReg (h : Safe s) {off v} : Safe (s.setReg off v) := regPut_wf h _ _

/-! ### Machine/Ops.lean -/

theorem Safe.drawFree (h : Safe s) : Safe s.drawFree.2 := h.upd

theorem Safe.modEntry (h : Safe s) {e f} : Safe (s.modEntry e f) := h.upd

theorem Safe.modCtrl (h : Safe s) {c f} : Safe (s.modCtrl c f) := h.upd

theorem Safe.modQueue (h : Safe s) {q f} : Safe (s.modQueue q f) := h.upd

theorem Safe.modSlice (h : Safe s) {n f} : Safe (s.modSlice n f) := h.upd

theorem Safe.meterAdd (h : Safe s) {n i v} : Safe (s.meterAdd n i v) := h.modSlice

theorem Safe.freeEntry (h : Safe s) {e} : Safe (s.freeEntry e) := h.upd

theorem Safe.peerFree (h : Safe s) {e} : Safe (s.peerFree e) := by
  unfold State.peerFree
  split
  · exact h
  · exact h.freeEntry

theorem Safe.endPeer (h : Safe s) {sl} : Safe (s.endPeer sl) := .foldl h fun _ _ k => k.peerFree

theorem Safe.heardOn (h : Safe s) {nb initiator} : Safe (s.heardOn nb initiator) := h.upd

theorem Safe.recordErr (h : Safe s) {e status} : Safe (s.recordErr e status) := h.of_regs (recordErr_regs ..)

theorem Safe.holdRes (h : Safe s) {e} : Safe (s.holdRes e) := by
  unfold State.holdRes
  split
  · exact h
  · exact h.modEntry

theorem Safe.unholdRes (h : Safe s) {e} : Safe (s.unholdRes e) := by
  unfold State.unholdRes
  split
  · exact h
  · exact h.modEntry

theorem Safe.wakeHeld (h : Safe s) : Safe s.wakeHeld := h.upd

theorem Safe.sendCqe (h : Safe s) {e status result} : Safe (s.sendCqe e status result) := h.of_regs (sendCqe_regs ..)

theorem Safe.post (h : Safe s) {e status result} : Safe (s.post e status result) := h.of_regs (post_regs ..)

theorem Safe.postAborted (h : Safe s) {e status} : Safe (s.postAborted e status) := h.post

theorem Safe.finish (h : Safe s) {e status result out} : Safe (s.finish e status result out) := h.modEntry

theorem Safe.reportNotice (h : Safe s) {c} : Safe (s.reportNotice c) := h.of_regs (reportNotice_regs ..)

theorem Safe.notify (h : Safe s) {c n} : Safe (s.notify c n) := h.of_regs (notify_regs ..)

theorem Safe.notifyAll (h : Safe s) {p n} : Safe (s.notifyAll p n) := h.of_regs (notifyAll_regs ..)

theorem Safe.evWrite (h : Safe s) {r n} : Safe (s.evWrite r n).2 := evWrite_wf h _ _

theorem Safe.capture (h : Safe s) {code ps} : Safe (s.capture code ps) := capture_wf h _ _

theorem Safe.evSummaries (h : Safe s) : Safe s.evSummaries := .foldl h fun _ _ k => k.evWrite.upd

theorem Safe.satEvent (h : Safe s) {g p0 p1} : Safe (s.satEvent g p0 p1) := .ite h h.upd.capture

theorem Safe.bump (h : Safe s) {off n} : Safe (s.bump off n) := bump_wf h _ _

theorem Safe.clearCounters (h : Safe s) {off n v} : Safe (s.clearCounters off n v) := .ite (.foldl h fun _ _ k => k.setReg) h

theorem Safe.jwrite (h : Safe s) {b} : Safe (s.jwrite b) := .ite (.ite h.upd.setReg.setReg h.upd.setReg.setReg.bump.capture) h.upd

theorem Safe.writeSettings (h : Safe s) : Safe s.writeSettings := .ite h.upd.upd h.upd

/-! ### Machine/PunPool.lean -/

theorem Safe.enterChain (h : Safe s) {cls l} : Safe (s.enterChain cls l) := h.upd

/-- A grant of punnets leaves the registers. -/
theorem Safe.takePun (h : Safe s) {cls n} {r : List Nat × State} (e : s.takePun cls n = some r) : Safe r.2 := by
  unfold State.takePun at e
  split at e
  · cases e; exact h
  · split at e
    · cases e; exact .foldl h fun _ _ k => k.enterChain
    · cases e

theorem Safe.freeChain (h : Safe s) {l} : Safe (s.freeChain l) := h.upd

/-! ### Machine/Geometry.lean -/

theorem Safe.modCarrier (h : Safe s) {k f} : Safe (s.modCarrier k f) := h.upd

theorem Safe.modDie (h : Safe s) {d f} : Safe (s.modDie d f) := h.upd

theorem Safe.modChan (h : Safe s) {c f} : Safe (s.modChan c f) := h.upd

theorem Safe.modBlock (h : Safe s) {d b f} : Safe (s.modBlock d b f) := h.upd

theorem Safe.modBand (h : Safe s) {n f} : Safe (s.modBand n f) := h.upd

theorem Safe.setPool (h : Safe s) : Safe s.setPool := h.upd

/-! ### Machine/MapOps.lean -/

theorem Safe.setEntry (h : Safe s) {sl ns mu e} : Safe (s.setEntry sl ns mu e) := h.upd

theorem Safe.lostSpill (h : Safe s) : Safe s.lostSpill := .ite (.ite h h.upd.capture) h.upd

theorem Safe.addLost (h : Safe s) {r} : Safe (s.addLost r) := .ite h h.upd.lostSpill

theorem Safe.removeLost (h : Safe s) {sl ns a n} : Safe (s.removeLost sl ns a n) := .ite h h.upd.lostSpill

theorem Safe.send (h : Safe s) {x} : Safe (s.send x) := h.upd

theorem Safe.afterLoss (h : Safe s) {sl ns mu} : Safe (s.afterLoss sl ns mu) := by
  unfold State.afterLoss
  split
  · exact h
  · exact .ite h.send (.ite h (.ite h.send h.capture))

theorem Safe.recordLoss (h : Safe s) {sl ns mu slba nlb cause whole band old} :
    Safe (s.recordLoss sl ns mu slba nlb cause whole band old) :=
  .ite h.addLost.modSlice h.addLost.modSlice.afterLoss

theorem Safe.loseUnits (h : Safe s) {sl ns mu k cause band} : Safe (s.loseUnits sl ns mu k cause band) :=
  .foldl h.jwrite fun _ _ k => k.setEntry.recordLoss

theorem Safe.loseUnit (h : Safe s) {sl ns mu cause band} : Safe (s.loseUnit sl ns mu cause band) := h.loseUnits

theorem Safe.losePart (h : Safe s) {sl ns mu slba nlb cause band} : Safe (s.losePart sl ns mu slba nlb cause band) :=
  h.jwrite.setEntry.recordLoss

theorem Safe.supersede (h : Safe s) {old} : Safe (s.supersede old) := by
  unfold State.supersede
  split
  · exact h.upd
  · exact h

theorem Safe.stageEntry (h : Safe s) {sl ns mu e} : Safe (s.stageEntry sl ns mu e) := h.supersede.setEntry

theorem Safe.deallocUnit (h : Safe s) {sl ns mu} : Safe (s.deallocUnit sl ns mu) := .stageEntry (.ite h.removeLost h)

/-! ### Machine/Metering.lean -/

theorem Safe.meterMs (h : Safe s) {ms} : Safe (s.meterMs ms) := .foldl h fun _ _ k => k.meterAdd.meterAdd.meterAdd

theorem Safe.meterTick (h : Safe s) {part ago} : Safe (s.meterTick part ago) := h.upd.jwrite.upd

/-! ### Machine/BandOps.lean -/

theorem Safe.health (h : Safe s) {i n} : Safe (s.health i n) := h.upd

theorem Safe.setRegime (h : Safe s) : Safe s.setRegime := by
  unfold State.setRegime
  refine .ite h ?_
  extract_lets
  split <;> exact .capture (.upd (.ite h.health (.ite h.health h)))

theorem Safe.trimPslc (h : Safe s) : Safe s.trimPslc := .foldl h fun _ _ k => .ite k.modBand k

theorem Safe.setPslc (h : Safe s) : Safe s.setPslc := .ite h h.upd.trimPslc.capture

theorem Safe.formBands (h : Safe s) {fuel} : Safe (s.formBands fuel) := by
  induction fuel generalizing s with
  | zero => exact h
  | succ n ih =>
    unfold State.formBands
    split
    · exact h
    · exact ih h.upd

theorem Safe.reform (h : Safe s) {num} : Safe (s.reform num) := by
  unfold State.reform
  split
  · exact h
  · refine .ite h.modBand ?_
    split
    split <;> exact h.modBand

theorem Safe.reformNew (h : Safe s) {num} : Safe (s.reformNew num) := by
  unfold State.reformNew
  split
  · exact h
  · extract_lets
    split
    · exact h.modBand
    · exact h

theorem Safe.reformLanding (h : Safe s) : Safe s.reformLanding := .foldl h fun _ _ k => .ite k.reformNew k

theorem Safe.fillLanding (h : Safe s) : Safe s.fillLanding := .ite h (.foldl h fun _ _ k => .ite k.modBand.reformNew k)

theorem Safe.reformErased (h : Safe s) : Safe s.reformErased := .fillLanding (.reformLanding (.foldl h fun _ _ k => k.reform))

theorem Safe.settleBand (h : Safe s) {b} : Safe (s.settleBand b) := .ite (.ite h.modBand.upd.health h.modBand.upd) h

theorem Safe.settleBands (h : Safe s) : Safe s.settleBands := .foldl h fun _ _ k => k.settleBand

theorem Safe.beginPeriod (h : Safe s) : Safe s.beginPeriod := by
  unfold State.beginPeriod
  split
  · exact h
  · exact h.upd

theorem Safe.settleDies (h : Safe s) : Safe s.settleDies := by
  unfold State.settleDies
  extract_lets
  split
  · exact .ite h.upd.upd.capture h.upd
  · exact h.upd

theorem Safe.settleCarrier (h : Safe s) {k} : Safe (s.settleCarrier k) := h.modCarrier

theorem Safe.memberRec (h : Safe s) {slot cause die st direct} : Safe (s.memberRec slot cause die st direct) := h.jwrite

theorem Safe.movedBytes (h : Safe s) {n} : Safe (s.movedBytes n) := .ite h.upd h.upd.bump

theorem Safe.loseExtents (h : Safe s) {band cause l} : Safe (s.loseExtents band cause l).2 :=
  .foldl (.foldl h fun _ _ k => k.loseUnits) fun _ _ k => .foldl k.upd fun _ _ m => m.losePart

theorem Safe.loseBand (h : Safe s) {b} : Safe (s.loseBand b) := .ite h (.foldl h fun _ _ k => .ite k k.loseExtents.upd.capture)

theorem Safe.loseBeyond (h : Safe s) : Safe s.loseBeyond := .foldl h fun _ _ k => k.loseBand

/-! ### Machine/StripeOps.lean -/

theorem Safe.jsync (h : Safe s) {b} : Safe (s.jsync b) := .ite h.jwrite.upd h.jwrite

theorem Safe.modStripe (h : Safe s) {b n f} : Safe (s.modStripe b n f) := h.upd

theorem Safe.dropStripe (h : Safe s) {b n} : Safe (s.dropStripe b n) := .upd (.ite h h.freeChain)

theorem Safe.onFlash (h : Safe s) {t committed} : Safe (s.onFlash t committed) := .ite h h.upd

theorem Safe.openStripe (h : Safe s) {stream kind} : Safe (s.openStripe stream kind) := by
  unfold State.openStripe
  extract_lets pick
  clear_value pick
  split
  · exact h
  · exact .ite h h.modBand.upd

theorem Safe.place (h : Safe s) {stream kind len add} : Safe (s.place stream kind len add).2 := by
  unfold State.place
  extract_lets s1
  have k : Safe s1 := .ite h.openStripe h
  clear_value s1
  split
  · exact k
  · extract_lets
    split
    · exact k.modStripe
    · split
      · exact k
      · exact k.modStripe

theorem Safe.countReads (h : Safe s) {m n} : Safe (s.countReads m n) := h.modBlock

theorem Safe.request (h : Safe s) {num cls kind} : Safe (s.request num cls kind) := h.modBand

theorem Safe.readsRose (h : Safe s) {b m old} : Safe (s.readsRose b m old) :=
  .ite (.capture (.health (.request (.ite h.upd h)))) (.ite h.upd h)

theorem Safe.readBlock (h : Safe s) {b m n} : Safe (s.readBlock b m n) := h.countReads.readsRose

theorem Safe.readExtent (h : Safe s) {p} : Safe (s.readExtent p) := by
  unfold State.readExtent
  split
  · exact h
  · refine .bump (.foldl h fun _ _ k => ?_)
    split
    · exact k
    · exact .ite k.readBlock (.foldl k fun _ _ m => m.readBlock)

theorem Safe.moveOne (h : Safe s) {kind p} : Safe (s.moveOne kind p).2 := by
  unfold State.moveOne
  split
  · exact h
  · next e =>
    have k := h.takePun e
    dsimp only
    split
    · exact k.place.upd.health.readExtent
    · exact k.place.freeChain

theorem Safe.moveList (h : Safe s) {kind l} : Safe (s.moveList kind l) := by
  induction l generalizing s with
  | nil => exact h
  | cons p t ih => exact .ite (ih h.moveOne) h.moveOne

theorem Safe.replaceList (h : Safe s) {l} : Safe (s.replaceList l) := by
  induction l generalizing s with
  | nil => exact h.upd
  | cons x t ih =>
    unfold State.replaceList
    split
    · exact ih h
    · exact .ite (ih h) (.ite (ih h.moveOne) h.moveOne.upd)

theorem Safe.replaceAll (h : Safe s) : Safe s.replaceAll := .ite h h.replaceList

theorem Safe.againOf (h : Safe s) {t} : Safe (s.againOf t) := h.upd.replaceAll

theorem Safe.gatherOne (h : Safe s) {b} : Safe (s.gatherOne b) := .ite h (.ite h.place.upd.health h.place)

theorem Safe.gatherList (h : Safe s) {l} : Safe (s.gatherList l) := by
  induction l generalizing s with
  | nil => exact h
  | cons b t ih => exact .ite h.gatherOne (ih h.gatherOne)

theorem Safe.gatherHost (h : Safe s) : Safe s.gatherHost := h.gatherList.replaceAll.setRegime

theorem Safe.padStream (h : Safe s) {stream} : Safe (s.padStream stream) := by
  unfold State.padStream
  split
  · exact h
  · exact .ite h h.modStripe.capture

theorem Safe.enqueueOp (h : Safe s) {d cls kind band stripe mem} : Safe (s.enqueueOp d cls kind band stripe mem) := h.modDie.upd

theorem Safe.endOp (h : Safe s) {d id busy} : Safe (s.endOp d id busy) := h.modDie

theorem Safe.dropProgs (h : Safe s) {band stripe} : Safe (s.dropProgs band stripe) := h.upd

theorem Safe.bumpCh (h : Safe s) {off d n} : Safe (s.bumpCh off d n) := h.bump

theorem Safe.takeFlip (h : Safe s) {t b} : Safe (s.takeFlip t b) := by
  unfold State.takeFlip
  refine .ite h ?_
  split
  · exact h
  · exact .ite h.setReg.setReg h.setReg.setReg.upd

theorem Safe.startProgs (h : Safe s) {t b l} : Safe (s.startProgs t b l) := by
  refine .takeFlip (.bump (.foldl h.jsync.modStripe.upd fun _ _ k => ?_))
  split
  · exact k
  · exact k.enqueueOp

theorem Safe.flushStripe (h : Safe s) {t} : Safe (s.flushStripe t) := by
  unfold State.flushStripe
  split
  · exact h
  · refine .ite h ?_
    split
    · exact h
    · next e => exact (h.takePun e).startProgs

theorem Safe.commitBuf (h : Safe s) {t landing i} : Safe (s.commitBuf t landing i) := .ite h.setEntry.upd h

theorem Safe.commitCopy (h : Safe s) {t i} : Safe (s.commitCopy t i) := .ite h.setEntry.upd h

theorem Safe.freeBufs (h : Safe s) {offs} : Safe (s.freeBufs offs) := h.upd

theorem Safe.commitPage (h : Safe s) {t pg} : Safe (s.commitPage t pg) := .ite h.upd (.ite h.upd h.upd)

theorem Safe.fillBand (h : Safe s) {num} : Safe (s.fillBand num) := by
  unfold State.fillBand
  split
  · exact h
  · exact .ite h.modBand h

theorem Safe.countMoved (h : Safe s) {t} : Safe (s.countMoved t) := by
  unfold State.countMoved
  refine .ite ?_ h
  refine .movedBytes (.foldl h.upd fun _ _ k => ?_)
  split
  · exact k
  · split
    · exact k
    · split
      · exact k
      · exact .foldl k fun _ _ m => m.modCarrier

theorem Safe.newH (h : Safe s) : Safe s.newH := h.upd

theorem Safe.endFlushJob (h : Safe s) : Safe s.endFlushJob := .ite h h.upd

theorem Safe.commitStripe (h : Safe s) {t} : Safe (s.commitStripe t) := by
  refine .endFlushJob (.fillBand (.dropStripe (.onFlash ?_)))
  split
  · exact .freeBufs (.foldl h.jsync fun _ _ k => k.commitBuf)
  · exact .newH (.upd (.foldl h.jsync.countMoved fun _ _ k => k.commitCopy))
  · exact .foldl h.jsync fun _ _ k => k.commitPage
  · exact h

theorem Safe.restage (h : Safe s) {offs} : Safe (s.restage offs) := h.upd

theorem Safe.closeBand (h : Safe s) {num} : Safe (s.closeBand num) := h.modBand.fillBand

theorem Safe.voidStripe (h : Safe s) {t cause die} : Safe (s.voidStripe t cause die) := by
  unfold State.voidStripe
  extract_lets
  split
  · exact h.jsync.onFlash.dropProgs.dropStripe.endFlushJob.closeBand.capture.restage
  · exact h.jsync.onFlash.dropProgs.dropStripe.endFlushJob.closeBand.capture.againOf.request.capture
  · exact h.jsync.onFlash.dropProgs.dropStripe.endFlushJob.closeBand.capture

theorem Safe.dropGathering (h : Safe s) {t} : Safe (s.dropGathering t) := by
  unfold State.dropGathering
  extract_lets
  split
  · exact h.dropStripe.closeBand.restage
  · exact h.dropStripe.closeBand.againOf
  · exact h.dropStripe.closeBand

theorem Safe.endStripesOf (h : Safe s) {d g cause} : Safe (s.endStripesOf d g cause) :=
  .foldl (.foldl h fun _ _ k => .ite k.voidStripe k.dropGathering) fun _ _ k => k.closeBand

theorem Safe.progress (h : Safe s) {before} : Safe (s.progress before) := .foldl h fun _ _ k => k.upd.jwrite

theorem Safe.settle (h : Safe s) {before} : Safe (s.settle before) :=
  .setRegime (.setPslc (.ite (.upd (.foldl h.progress.settleBands.settleDies fun _ _ k => k.settleCarrier)) (.foldl
      h.progress.settleBands.settleDies fun _ _ k => k.settleCarrier)))

theorem Safe.failDie (h : Safe s) {d cause voidCause} : Safe (s.failDie d cause voidCause) := by
  unfold State.failDie
  split
  · exact h
  · exact .ite h
      h.beginPeriod.memberRec.memberRec.modDie.capture.bump.endStripesOf.loseBeyond.reformErased.settleCarrier.capture.settle.gatherHost

theorem Safe.slowOp (h : Safe s) {d kind busy} : Safe (s.slowOp d kind busy) := by
  unfold State.slowOp
  split
  · exact h
  · exact .ite h (.ite h.bumpCh.capture.modDie.modDie.memberRec.capture h.bumpCh.capture.modDie)

theorem Safe.modEol (h : Safe s) {k f} : Safe (s.modEol k f) := h.upd

theorem Safe.endOfLife (h : Safe s) {k} : Safe (s.endOfLife k) := by
  unfold State.endOfLife
  split
  · exact h
  · exact .ite h.modEol.capture h

theorem Safe.retireBlock (h : Safe s) {band pos cause} : Safe (s.retireBlock band pos cause) := by
  unfold State.retireBlock
  split
  · exact h
  · split
    · exact h
    · extract_lets new s1 s2 s3 s4
      have k : Safe s4 := h.jsync.modBlock.health.modEol.capture.endOfLife
      clear_value s4 s3 s2 s1 new
      split
      · exact k.modBand
      · exact k.capture.failDie

/-! ### Machine/PowerOps.lean -/

theorem Safe.putDoms (h : Safe s) {l c} : Safe (s.putDoms l c) := h.upd

theorem Safe.seqDoms (h : Safe s) {st} : Safe (s.seqDoms st) := .foldl h fun _ _ k => k.putDoms

theorem Safe.trackIdle (h : Safe s) : Safe s.trackIdle := h.upd

theorem Safe.busyNow (h : Safe s) : Safe s.busyNow := h.upd

theorem Safe.evalTolerance (h : Safe s) : Safe s.evalTolerance := h.upd

theorem Safe.countState (h : Safe s) : Safe s.countState := .ite h h.bump

theorem Safe.l4Minutes (h : Safe s) {secs fin} : Safe (s.l4Minutes secs fin) :=
  .ite h.meterMs (.meterMs (.foldl h.meterMs.meterTick fun _ _ k => k.meterMs.meterTick))

theorem Safe.captureLatched (h : Safe s) {l} : Safe (s.captureLatched l) := .foldl h fun _ _ k => k.capture

theorem Safe.exitL4 (h : Safe s) {lateUs} : Safe (s.exitL4 lateUs) :=
  .capture (.ite h.upd.l4Minutes.upd.captureLatched h.upd.l4Minutes.upd.captureLatched.capture)

theorem Safe.retrainAll (h : Safe s) : Safe s.retrainAll := h.bump

theorem Safe.leaveTo (h : Safe s) {target bit lateUs} : Safe (s.leaveTo target bit lateUs) :=
  .ite h (.busyNow (.seqDoms (.upd (.ite (.exitL4 (.ite h.countState.upd.retrainAll h.countState.upd)) (.ite
      h.countState.upd.retrainAll h.countState.upd)))))

theorem Safe.enterL4 (h : Safe s) : Safe s.enterL4 := h.upd.jwrite.capture

theorem Safe.enterState (h : Safe s) {n} : Safe (s.enterState n) := .bump (.seqDoms (.upd (.ite h.countState.enterL4 h.countState)))

theorem Safe.wakeXoff (h : Safe s) {port} : Safe (s.wakeXoff port) := .ite h (.bump (.foldl h.drawFree fun _ _ k => k.send))

theorem Safe.wakePort (h : Safe s) : Safe s.wakePort.2 := by
  unfold State.wakePort
  split
  · exact h
  · split
    · exact h
    · exact h.drawFree

theorem Safe.seedWake (h : Safe s) {bit} : Safe (s.seedWake bit) := h.leaveTo

/-! ### Machine/Clock.lean -/

theorem Safe.idleTick (h : Safe s) : Safe (idleTick s) := h.upd.trackIdle

/-! ### Machine/LoopOps.lean -/

theorem Safe.modSlot (h : Safe s) {k f} : Safe (s.modSlot k f) := h.upd

theorem Safe.setEn (h : Safe s) {k b} : Safe (s.setEn k b) := h.setReg

theorem Safe.setTarget (h : Safe s) {k v} : Safe (s.setTarget k v) := h.setReg.modSlot

theorem Safe.startSlot (h : Safe s) {k v} : Safe (s.startSlot k v) := h.setEn.setTarget.modSlot

theorem Safe.openSwitch (h : Safe s) {k} : Safe (s.openSwitch k) := h.setEn.modSlot.modCarrier

theorem Safe.paced (h : Safe s) {k} : Safe (s.paced k).2 := by
  unfold State.paced
  split
  · exact h
  · exact h.upd

theorem Answers.granted {k} {f : State → Out} (hf : ∀ t, Answers t (f t)) : Answers s (s.granted k f) :=
  .ite (.after (fun h => h.paced) (hf _)) (.next fun h => h.paced)

/-! ### Machine/EngineOps.lean -/

theorem Safe.withCmd (h : Safe s) {e opc io} {f : Cct → State → State} (hf : ∀ c t, Safe t → Safe (f c t)) :
    Safe (s.withCmd e opc io f) := by
  unfold State.withCmd
  split
  · exact h
  · exact .ite (hf _ _ h) h

theorem Safe.answer (h : Safe s) {c status result} : Safe (s.answer c status result) := h.finish

theorem Safe.reply (h : Safe s) {c status} : Safe (s.reply c status) := h.answer

theorem Safe.answerEntry (h : Safe s) {e status result} : Safe (s.answerEntry e status result) := by
  unfold State.answerEntry
  split
  · exact h
  · split
    · exact h
    · exact h.answer

/-! ### Machine/CarrierOps.lean -/

theorem Safe.writeRec (h : Safe s) {k st} : Safe (s.writeRec k st) := .ite h (.ite h.capture h.modCarrier)

theorem Safe.newMembers (h : Safe s) {members slot cause st bump} : Safe (s.newMembers members slot cause st bump) :=
  .writeSettings (.foldl h.upd.jsync fun _ _ k => k.writeRec)

theorem Safe.setRate (h : Safe s) {ch} : Safe (s.setRate ch) := .ite h.modChan h.modChan.capture

theorem Safe.calibrate (h : Safe s) {k f} : Safe (s.calibrate k f) := by
  refine .foldl ?_ fun _ _ k => ?_
  · refine .foldl h fun _ _ k => ?_
    split
    · exact k.capture
    · exact k
  · extract_lets
    split
    · exact k.modChan.capture
    · exact k.modChan.setRate

theorem Safe.identify (h : Safe s) {k st gen} : Safe (s.identify k st gen) := by
  unfold State.identify
  split
  · exact h
  · exact h.upd.calibrate

theorem Safe.refuseCarrier (h : Safe s) {k cause} : Safe (s.refuseCarrier k cause) := h.modCarrier.capture

theorem Safe.diesAbsent (h : Safe s) {k} : Safe (s.diesAbsent k) := h.upd

theorem Safe.setDom (h : Safe s) {k d} : Safe (s.setDom k d) := .foldl h.upd fun _ _ k => k.modChan

theorem Safe.satField (h : Safe s) {off old new} : Safe (s.satField off old new) := .ite h.satEvent h

theorem Safe.dropEol (h : Safe s) {k} : Safe (s.dropEol k) := h.upd

theorem Safe.startAdmit (h : Safe s) {k} : Safe (s.startAdmit k) := h.jsync.writeRec.upd.modCarrier

theorem Safe.startRebuild (h : Safe s) {k delay} : Safe (s.startRebuild k delay) :=
  .settle (.capture (.upd (.foldl h fun _ _ k => k.memberRec)))

theorem Safe.finishAdmit (h : Safe s) : Safe s.finishAdmit :=
  .ite h (.gatherHost (.setRegime (.setPslc (.setPool (.formBands (.reformLanding (.foldl (.foldl h.newMembers.upd fun _ _ k =>
      k.modCarrier.upd.capture.settleCarrier) fun _ _ k => k.startRebuild)))))))

theorem Safe.admitErase (h : Safe s) {d block ok} : Safe (s.admitErase d block ok) := by
  unfold State.admitErase
  split
  · exact h
  · exact .ite h (.finishAdmit (.ite h.modDie.modBlock.health (.ite
      h.modDie.modBlock.modDie.modCarrier.jsync.health.health.capture.modDie
      h.modDie.modBlock.modDie.modCarrier.jsync.health.health.capture)))

theorem Safe.settleRelease (h : Safe s) : Safe s.settleRelease :=
  .foldl h fun _ _ k => .ite k k.newMembers.writeRec.upd.setTarget.modCarrier.dropEol.setDom.setPool.capture.settleDies

theorem Safe.landingDone (h : Safe s) : Safe s.landingDone := by
  unfold State.landingDone
  split
  · exact h
  · exact .ite h h.upd.capture

theorem Safe.sanBand (h : Safe s) {num} : Safe (s.sanBand num) := h.upd

theorem Safe.finishErase (h : Safe s) {num} : Safe (s.finishErase num) := by
  unfold State.finishErase
  split
  · exact h
  · refine .ite h (.settleRelease (.setRegime (.setPslc (.landingDone (.sanBand ?_)))))
    split
    · exact .ite (.reformNew (.ite h.jsync.upd.satField.modBand.upd.reform h.jsync.upd.satField.modBand.upd)) (.ite
        h.jsync.upd.satField.modBand.upd.reform h.jsync.upd.satField.modBand.upd)
    · exact .ite h.jsync.upd.satField.modBand.upd.reform h.jsync.upd.satField.modBand.upd

theorem Safe.loseMember (h : Safe s) {k cause rec} : Safe (s.loseMember k cause rec) := by
  unfold State.loseMember
  extract_lets before s1 bands hit s2 dies _ s3 s4 s5 s6 members c s7 s8 s9 s10 u _ s11
  have h4 : Safe s4 := .bump (.upd (.ite h.openSwitch h.openSwitch.beginPeriod))
  have h6 : Safe s6 := .foldl (.loseBeyond (.foldl h4 fun _ _ k => k.endStripesOf)) fun _ _ k => k.finishErase
  have h11 : Safe s11 := h6.modCarrier.dropEol.newMembers.setDom.capture.bump.upd
  clear_value s11
  split
  extract_lets s12 s13 s14
  have h13 : Safe s13 := .setPool (.reformErased (.ite h11.capture h11))
  have h14 : Safe s14 := .ite h13 h13.diesAbsent
  exact h14.settle.gatherHost

theorem Safe.loseCarrier (h : Safe s) {k cause} : Safe (s.loseCarrier k cause) := h.loseMember

theorem Safe.gateOn (h : Safe s) {k} : Safe (s.gateOn k) :=
  .foldl (.ite h.modCarrier.capture (.ite h.modCarrier.capture h)) fun _ _ k => k.modChan

/-! ### Machine/UpkeepOps.lean -/

theorem Safe.dirtyPagesOf (h : Safe s) {num} : Safe (s.dirtyPagesOf num) := h.upd

theorem Safe.moveBand (h : Safe s) {num kind} : Safe (s.moveBand num kind) := by
  unfold State.moveBand
  split
  · exact h
  · exact h.loseBand.modBand.dirtyPagesOf.moveList.settle

theorem Safe.startErase (h : Safe s) {num} : Safe (s.startErase num) := by
  unfold State.startErase
  split
  · exact h
  · refine .ite h ?_
    extract_lets
    split
    · exact .modBand (.foldl h fun _ _ k => k.retireBlock)
    · refine .finishErase (.foldl (.modBand (.jsync (.modBand (.foldl h fun _ _ k => k.retireBlock)))) fun _ _ k => ?_)
      split
      · exact k
      · exact k.enqueueOp

theorem Safe.levelWear (h : Safe s) {k} : Safe (s.levelWear k) := by
  unfold State.levelWear
  refine .ite h ?_
  extract_lets
  split
  · exact h
  · exact h.request.capture

theorem Safe.predictAll (h : Safe s) : Safe s.predictAll := .foldl h fun _ _ k => .ite k (.endOfLife (.ite k.modEol.capture
    k.modEol))

theorem Safe.newLap (h : Safe s) : Safe s.newLap := h.upd

/-! ### Machine/ReadOps.lean -/

theorem Safe.repairCw (h : Safe s) {b st mem cw} : Safe (s.repairCw b st mem cw) := h.moveList.request.capture

theorem Safe.loseCw (h : Safe s) {b st mem cw cause} : Safe (s.loseCw b st mem cw cause).2 :=
  .foldl h.loseExtents fun _ _ k => k.capture

theorem Safe.grownDefect (h : Safe s) {b st mem} : Safe (s.grownDefect b st mem) := by
  unfold State.grownDefect
  split
  · exact h
  · exact .ite h.modBand.capture h

theorem Safe.startRecon (h : Safe s) {o b} : Safe (s.startRecon o b) :=
  .upd (.foldl (.bumpCh (.foldl h fun _ _ k => k.readBlock.bump)) fun _ _ k => k.meterAdd)

theorem Safe.dropOp (h : Safe s) {id} : Safe (s.dropOp id) := h.upd

theorem Safe.startOp (h : Safe s) {d o} : Safe (s.startOp d o) := .ite h.modDie.bumpCh (.ite h.modDie.bumpCh h.modDie)

theorem Safe.suspendOp (h : Safe s) {d} : Safe (s.suspendOp d) := by
  unfold State.suspendOp
  split
  · exact h
  · exact .ite h.modDie.bumpCh h.modDie.bumpCh.upd.satField.health

theorem Safe.resumeOp (h : Safe s) {d} : Safe (s.resumeOp d) := h.modDie

theorem Safe.resumeDue (h : Safe s) {d} : Safe (s.resumeDue d) := by
  unfold State.resumeDue
  split
  · exact h
  · exact .ite h.resumeOp h

theorem Safe.queueRead (h : Safe s) {d o} : Safe (s.queueRead d o) := h.modDie

theorem Safe.readArrives (h : Safe s) {x b o} : Safe (s.readArrives x b o) :=
  .ite (.ite h.startRecon h) (.ite h.startRecon (.ite (.ite h.paced.queueRead.startOp h.paced.queueRead) (.ite (.ite h.startRecon
      (.ite h.paced.suspendOp.queueRead.startOp h.paced.queueRead)) (.ite h.startRecon h.queueRead))))

theorem Safe.decoded (h : Safe s) {o m f n} : Safe (s.decoded o m f n) :=
  .ite (.ite h.modBlock h) (.ite h.modBlock h.drawFree.modBlock)

theorem Safe.ladderFails (h : Safe s) {o b die} : Safe (s.ladderFails o b die) := by
  unfold State.ladderFails
  extract_lets s1 s2 running
  have h2 : Safe s2 := .ite h.bumpCh.grownDefect h.bumpCh.grownDefect.health
  exact .ite h2.upd (.ite (.ite h2.repairCw (.ite h2.loseCw h2.loseCw.health)) h2.startRecon)

/-! ### Machine/Health.lean -/

theorem Safe.smartCheck (h : Safe s) : Safe s.smartCheck := h.of_regs (smartCheck_regs ..)

/-! ### Machine/Carriers.lean -/

theorem Answers.carrierTempSample {k t} : Answers s (execCarrierTempSample k t s) :=
  .ite (.next id) (.next fun h => h.modCarrier.gateOn)

theorem Answers.carrierSensorTimeout {k} : Answers s (execCarrierSensorTimeout k s) := by
  unfold execCarrierSensorTimeout
  refine .ite (.next id) (.next fun h => .gateOn (.capture (.modCarrier ?_)))
  split
  · exact h
  · exact h.drawFree

theorem Answers.i2cStretchTimeout {k} : Answers s (execI2cStretchTimeout k s) := .ite (.next id) (.next fun h => h.modCarrier)

theorem Answers.carrierDomainWake {k us} : Answers s (execCarrierDomainWake k us s) :=
  .ite (.next id) (.next fun h => .capture (.upd (.foldl h.setDom fun _ _ k => k.modChan)))

theorem Answers.carrierDomainGate {k} : Answers s (execCarrierDomainGate k s) := .ite (.next fun h => h.setDom) (.next id)

theorem Safe.seat (h : Safe s) {k f} : Safe (s.seat k f) := h.modCarrier

theorem Answers.carrierInsert {k f} : Answers s (execCarrierInsert k f s) := by
  unfold execCarrierInsert
  refine .ite (.next id) (.ite (.next fun h => h.seat.seedWake) ?_)
  extract_lets
  split
  · exact .next fun h => h.seat.seedWake.bump.modCarrier.refuseCarrier
  · exact .next fun h => h.seat.seedWake.bump.modCarrier.startSlot.modCarrier

theorem Safe.powerGood (h : Safe s) {k f} : Safe (s.powerGood k f) :=
  have h1 := h.setTarget.modCarrier.setDom.upd.identify
  .ite h1.openSwitch.setDom.refuseCarrier (.ite h1.modCarrier.capture.startAdmit.finishAdmit h1.modCarrier.capture)

theorem Answers.carrierPowerGood {k} : Answers s (execCarrierPowerGood k s) := by
  unfold execCarrierPowerGood
  extract_lets
  split
  · exact .ite (.done fun h => h.powerGood) (.next id)
  · exact .next id

theorem Answers.carrierPowerGoodTimeout {k} : Answers s (execCarrierPowerGoodTimeout k s) := by
  unfold execCarrierPowerGoodTimeout
  extract_lets
  split
  · exact .ite (.next fun h => h.openSwitch.modCarrier.capture) (.next id)
  · exact .next id

theorem Answers.carrierRemove {k} : Answers s (execCarrierRemove k s) :=
  .ite (.next id) (.done fun h => .modSlot (.ite h.modCarrier.seedWake.loseCarrier.settleRelease
      h.modCarrier.seedWake.openSwitch.setDom.modCarrier.diesAbsent.settleDies.finishAdmit))

theorem Answers.rebuildDelayExpiry {k} : Answers s (execRebuildDelayExpiry k s) := by
  unfold execRebuildDelayExpiry
  extract_lets
  split
  · exact .ite (.done fun h => h.startRebuild.settleRelease) (.next id)
  · exact .next id

theorem Safe.startRelease (h : Safe s) {k} : Safe (s.startRelease k) :=
  .gatherHost (.settleRelease (.settle (.setPool (.writeSettings (.foldl (.reformErased (.foldl (.modCarrier (.upd (.foldl
      h.beginPeriod fun _ _ k => k.memberRec))) fun _ _ k => k.endStripesOf)) fun _ _ k => k.finishErase)))))

theorem Safe.cancelRelease (h : Safe s) {k} : Safe (s.cancelRelease k) :=
  .gatherHost (.settleDies (.setPool (.writeSettings (.reformLanding (.settleCarrier (.modCarrier (.upd (.foldl h fun _ _ k =>
      k.memberRec))))))))

theorem Answers.carrierRelease {e} : Answers s (execCarrierRelease e s) :=
  .done fun h => .withCmd h fun _ _ k => .ite k.reply (.ite k.reply (.ite k.answer (.reply (.ite k.cancelRelease (.ite
      k.loseCarrier.settleRelease k.startRelease)))))

theorem Answers.carrierAdmit {e} : Answers s (execCarrierAdmit e s) :=
  .done fun h => .withCmd h fun _ _ k => .ite k.reply (.ite k.reply (.ite k.reply k.startAdmit.finishAdmit.reply))

theorem Safe.startReshape (h : Safe s) {dn pn} : Safe (s.startReshape dn pn) := h.upd.jsync.setPool.capture

theorem Safe.createArray (h : Safe s) {d p unit cars arrayId} : Safe (s.createArray d p unit cars arrayId) :=
  .finishAdmit (.capture (.writeSettings (.foldl h.upd fun _ _ k => k.startAdmit)))

theorem Answers.reshape {e arrayId} : Answers s (execReshape e arrayId s) :=
  .done fun h => .withCmd h fun _ _ k => .ite k.reply (.ite (.ite k.reply (.ite k.reply k.createArray.reply)) (.ite k.answer
      k.startReshape.reply))

theorem Safe.quinceFail (h : Safe s) {d} : Safe (s.quinceFail d) := .ite h (.ite h.upd.capture h.upd.capture)

theorem Answers.quinceDieFailure {d} : Answers s (execQuinceDieFailure d s) := .done fun h => h.quinceFail

theorem Answers.journalAreaFull : Answers s (execJournalAreaFull s) := .ite (.next fun h => h.upd) (.next id)

theorem Answers.journalGroupTimeout : Answers s (execJournalGroupTimeout s) := .ite (.next fun h => h.upd) (.next id)

/-! ### Machine/SliceOps.lean -/

theorem Safe.markMig (h : Safe s) {sl ns mu} : Safe (s.markMig sl ns mu) := h.modSlice

theorem Safe.setResync (h : Safe s) {sl l} : Safe (s.setResync sl l) := h.upd.modSlice

theorem Safe.markRun (h : Safe s) {sl ns mu n} : Safe (s.markRun sl ns mu n) := by
  unfold State.markRun
  split
  · exact h
  · exact h.setResync

theorem Safe.sendRun (h : Safe s) {sl r} : Safe (s.sendRun sl r) := by
  refine .modSlice ?_
  split
  · exact h.send.modEntry
  · exact h.send.meterAdd

theorem Safe.queueRun (h : Safe s) {sl r} : Safe (s.queueRun sl r) := h.modSlice

theorem Safe.sendOrQueue (h : Safe s) {sl r} : Safe (s.sendOrQueue sl r) := by
  unfold State.sendOrQueue
  split
  · exact h
  · exact .ite h.queueRun h.sendRun

theorem Safe.waitPeer (h : Safe s) {e} : Safe (s.waitPeer e) := by
  unfold State.waitPeer
  split
  · exact h
  · exact h.modEntry

theorem Safe.forward (h : Safe s) {sl r} : Safe (s.forward sl r) := by
  unfold State.forward
  split
  · exact h
  · refine .ite h ?_
    split
    · exact h.sendOrQueue.waitPeer
    · exact h.sendOrQueue.waitPeer
    · exact h.markRun
    · exact h.queueRun.waitPeer
    · exact h

theorem Safe.forwardChange (h : Safe s) {sl c} : Safe (s.forwardChange sl c) := by
  unfold State.forwardChange
  split
  · exact h
  · refine .ite h (.ite h.send (.ite ?_ h))
    split <;> exact h.modSlice

theorem Safe.sendAll (h : Safe s) {sl l} : Safe (s.sendAll sl l) := .foldl h fun _ _ k => k.send

theorem Safe.writeDone (h : Safe s) {e} : Safe (s.writeDone e) := by
  unfold State.writeDone
  split
  · exact h
  · exact .ite h.finish h

theorem Safe.peerDone (h : Safe s) {sl e} : Safe (s.peerDone sl e) := by
  unfold State.peerDone
  split
  · exact h
  · exact .ite h h.modEntry.writeDone

theorem Safe.pumpQueued (h : Safe s) {sl} : Safe (s.pumpQueued sl) := by
  unfold State.pumpQueued
  split
  · exact h
  · exact .foldl h.modSlice fun _ _ k => k.sendOrQueue

theorem Safe.syncDone (h : Safe s) {sl} : Safe (s.syncDone sl) := by
  unfold State.syncDone
  split
  · exact h
  · exact .ite h.modSlice.capture h

theorem Safe.syncRegion (h : Safe s) {sl ns reg} : Safe (s.syncRegion sl ns reg) := by
  unfold State.syncRegion
  split
  · exact h
  · exact .ite h h.setResync.modSlice.syncDone

theorem Safe.copyRegion (h : Safe s) {sl ns reg} : Safe (s.copyRegion sl ns reg) := by
  unfold State.copyRegion
  split
  · exact h.syncRegion
  · exact .syncRegion (.foldl h fun _ _ k => k.sendOrQueue)

theorem Safe.startSync (h : Safe s) {sl} : Safe (s.startSync sl) := by
  unfold State.startSync
  split
  · exact h
  · exact .syncDone (.pumpQueued (.foldl (.modSlice (.ite h.sendAll.send.sendAll.sendAll h.sendAll)) fun _ _ k => k.copyRegion))

theorem Safe.dropRepairs (h : Safe s) {sl cause p} : Safe (s.dropRepairs sl cause p) :=
  .ite h (.wakeHeld (.foldl h.upd fun _ _ k => k.capture))

theorem Safe.markLost (h : Safe s) {sl ns mu n} : Safe (s.markLost sl ns mu n) := h.markRun.dropRepairs

theorem Safe.peerLost (h : Safe s) {sl} : Safe (s.peerLost sl) := by
  unfold State.peerLost
  split
  · exact h
  · exact .ite h (.ite h.dropRepairs.modSlice.capture (.foldl (.capture (.foldl h.dropRepairs.modSlice fun _ _ k => k.markRun)) fun
      _ _ k => k.peerDone))

theorem Safe.peerBack (h : Safe s) {sl} : Safe (s.peerBack sl) := by
  unfold State.peerBack
  split
  · exact h
  · exact .ite h.startSync h

/-! ### Machine/WritePath.lean -/

theorem Safe.modJob (h : Safe s) {id f} : Safe (s.modJob id f) := h.upd

theorem Safe.dropJob (h : Safe s) {id} : Safe (s.dropJob id) := h.upd

theorem Safe.addJob (h : Safe s) {j} : Safe (s.addJob j) := h.upd

theorem Answers.writeBufferAllocate {i off} : Answers s (execWriteBufferAllocate i off s) := by
  unfold execWriteBufferAllocate
  split
  · exact .next id
  · split
    · exact .next id
    · exact .ite (.next id) (.ite (.next fun h => h.holdRes) (.next fun h => h.modJob.upd.unholdRes))

theorem Safe.noteHeld (h : Safe s) : Safe s.noteHeld := .ite h h.upd.capture

theorem Safe.fillToStaged (h : Safe s) {off} : Safe (s.fillToStaged off) := h.upd

theorem Safe.freeFilling (h : Safe s) {off} : Safe (s.freeFilling off) := h.upd

theorem Safe.stageRun (h : Safe s) {sl ns first l entry} : Safe (s.stageRun sl ns first l entry) :=
  .foldl (.jsync (.foldl h fun _ _ k => .ite (.foldl k fun _ _ m => m.removeLost) k)) fun _ _ k => k.stageEntry.fillToStaged

theorem Safe.stageExtent (h : Safe s) {sl ns mu off x wrote entry} : Safe (s.stageExtent sl ns mu off x wrote entry) := h.stageRun

theorem Safe.countStored (h : Safe s) {sl entry n} : Safe (s.countStored sl entry n) := by
  unfold State.countStored
  split
  · exact h.modEntry
  · exact h.meterAdd

theorem Answers.stripeFlush {stream band} : Answers s (execStripeFlush stream band s) := by
  unfold execStripeFlush
  split
  · exact .next id
  · exact .next fun h => h.flushStripe.gatherHost

theorem Safe.padFlush (h : Safe s) {stream} : Safe (s.padFlush stream) := by
  unfold State.padFlush
  split
  · exact h
  · extract_lets
    split
    · exact h.padStream
    · exact h.padStream.flushStripe

theorem Answers.stripePadIdle {stream} : Answers s (execStripePadIdle stream s) := by
  unfold execStripePadIdle
  split
  · exact .next id
  · exact .ite (.next id) (.next fun h => h.leaveTo.padFlush.gatherHost.busyNow)

theorem Safe.padAll (h : Safe s) : Safe s.padAll := h.padFlush.padFlush.padFlush.padFlush

theorem Answers.l3PadFlush : Answers s (execL3PadFlush s) := .ite (.next fun h => h.leaveTo.padAll.gatherHost.busyNow) (.next id)

theorem Safe.writePages (h : Safe s) {n} : Safe (s.writePages n) := by
  induction n generalizing s with
  | zero => exact h
  | succ n ih =>
    unfold State.writePages
    split
    · exact h
    · exact .ite (ih h.place.health) h.place

theorem Safe.writeMeta (h : Safe s) : Safe s.writeMeta := .ite h (.ite h.place.health h.place)

theorem Answers.mapPageWrite {n} : Answers s (execMapPageWrite n s) := .ite (.next id) (.next fun h => h.writePages.writeMeta)

theorem Answers.mapRootWrite : Answers s (execMapRootWrite s) := .ite (.next id) (.next fun h => h.upd.settle)

theorem Answers.journalTruncate {t} : Answers s (execJournalTruncate t s) :=
  .ite (.next id) (.ite (.next fun h => h.upd) (.next fun h => h.upd.upd.wakeHeld))

/-! ### Machine/PunnetOps.lean -/

theorem Safe.markChain (h : Safe s) {l n} : Safe (s.markChain l n) := h.upd

theorem Safe.giveChain (h : Safe s) {job entry l} : Safe (s.giveChain job entry l) := by
  unfold State.giveChain
  split
  · exact h.modJob
  · split
    · exact h.modEntry
    · exact h

theorem Safe.requestPun (h : Safe s) {cls n job entry} : Safe (s.requestPun cls n job entry) :=
  .ite h (.ite h.enterChain.giveChain h.upd.bump.holdRes)

theorem Safe.shareChain (h : Safe s) {cls l} : Safe (s.shareChain cls l) := h.upd.requestPun

theorem Answers.punnetRelease {p} : Answers s (execPunnetRelease p s) := by
  unfold execPunnetRelease
  split
  · exact .next id
  · exact .ite (.next fun h => h.upd) (.ite (.next id) (.next fun h => h.upd))

theorem Answers.punnetWaitWarn {req} : Answers s (execPunnetWaitWarn req s) := by
  unfold execPunnetWaitWarn
  split
  · exact .next id
  · exact .ite (.next id) (.next fun h => h.upd.capture)

/-! ### Machine/Lanes.lean -/

theorem Safe.modLane (h : Safe s) {l f} : Safe (s.modLane l f) := h.upd

theorem Safe.moveQueued (h : Safe s) {l keep} : Safe (s.moveQueued l keep) := .foldl h fun _ _ k => k.modJob

theorem Safe.giveLane (h : Safe s) {id} : Safe (s.giveLane id) := by
  unfold State.giveLane
  extract_lets
  split
  · exact h.modJob
  · exact h.modJob.requestPun

theorem Safe.startJob (h : Safe s) {j} : Safe (s.startJob j) := h.addJob.giveLane

theorem Safe.laneFail (h : Safe s) {l} : Safe (s.laneFail l) := .ite h.modLane h.modLane.modLane.moveQueued.capture

theorem Safe.laneBytes (h : Safe s) {orig stored gran} : Safe (s.laneBytes orig stored gran) := h.upd.bump.bump

theorem Safe.formExtent (h : Safe s) {j payload} : Safe (s.formExtent j payload) := h.modJob.markChain.laneBytes

theorem Safe.verifyFails (h : Safe s) {lane j} : Safe (s.verifyFails lane j) := h.bump.bump.capture.formExtent.laneFail

theorem Safe.readDone (h : Safe s) {e} : Safe (s.readDone e) := by
  unfold State.readDone
  split
  · exact h
  · exact .ite h (.ite h.modEntry h.finish)

theorem Safe.endRead (h : Safe s) {j} : Safe (s.endRead j) := by
  unfold State.endRead
  extract_lets
  split
  · exact h.dropJob
  · exact h.dropJob.modEntry.readDone

theorem Safe.writeBack (h : Safe s) {e} : Safe (s.writeBack e) := by
  unfold State.writeBack
  split
  · exact h.upd
  · split
    · exact h.moveOne
    · exact h
  · split
    · exact h.moveOne
    · exact h
  · exact h
  · exact h

theorem Safe.decodeFail (h : Safe s) {lane j cause step} : Safe (s.decodeFail lane j cause step) :=
  .ite (.capture (.ite h.bump.laneFail (.ite h.bump.send h.bump.writeBack))) h.bump.bump.loseUnit.capture

theorem Safe.readFails (h : Safe s) {lane j cause step} : Safe (s.readFails lane j cause step) := by
  unfold State.readFails
  refine .ite h.decodeFail.holdRes (.ite h.decodeFail.endRead (.endRead ?_))
  split
  · exact h.decodeFail
  · exact h.decodeFail.modEntry

theorem Safe.laneCompressed (h : Safe s) {lane j p} : Safe (s.laneCompressed lane j p) := .ite h (.ite h.formExtent h.verifyFails)

theorem Answers.laneUnitComplete {lane job r} : Answers s (execLaneUnitComplete lane job r s) := by
  unfold execLaneUnitComplete
  split
  · exact .next id
  · refine .ite (.next id) (.granted fun _ => .ite ?_ ?_)
    · split
      · split
        · exact .done fun h => h.markChain.endRead
        · exact .done fun h => h.readFails
      · exact .done fun h => h.readFails
      · exact .next id
      · exact .next id
      · exact .next id
    · split
      · exact .ite (.done fun h => h.decodeFail) (.next id)
      · exact .done fun h => h.decodeFail
      · exact .next fun h => .ite h.formExtent h.laneCompressed
      · exact .next fun h => .formExtent (.ite h h.bump)
      · exact .next fun h => .ite h h.verifyFails
      · exact .next id

theorem Safe.unitStaged (h : Safe s) {j} : Safe (s.unitStaged j) :=
  .ite (.peerFree (.send (.forward (.markMig (.dropJob (.countStored (.ite h.shareChain h))))))) (.forward (.markMig (.dropJob
      (.countStored (.ite h.shareChain h)))))

theorem Answers.stagingDurable {i} : Answers s (execStagingDurable i s) := by
  unfold execStagingDurable
  split
  · exact .next id
  · next j _ =>
    split
    · exact .next id
    · refine .ite (.next id) (.ite (.next fun h => h.noteHeld.holdRes) (.ite (.next fun h => h.freeFilling.giveLane) ?_))
      extract_lets l s1 before all s2 s3 s4
      have k (h : Safe s) : Safe s4 := by
        have h1 : Safe s1 := by
          unfold s1
          split
          · exact h
          · exact h.unholdRes.modEntry
        have h3 : Safe s3 := .foldl h1.stageRun fun _ _ k => k.unitStaged
        exact h3.settle.gatherHost
      split
      · exact .done k
      · exact .done fun h => (k h).writeDone

theorem Safe.keepModes (h : Safe s) : Safe s.keepModes := by
  refine .foldl h fun _ _ k => ?_
  split
  · exact k
  · exact .ite k k.modJob

theorem Safe.laneCfg (h : Safe s) {v} : Safe (s.laneCfg v) := .foldl h.keepModes.setReg fun _ _ k => k.moveQueued

theorem Answers.laneEnWrite {v} : Answers s (execLaneEnWrite v s) := .next fun h => h.laneCfg

theorem Safe.modStream (h : Safe s) {id f} : Safe (s.modStream id f) := h.upd

theorem Answers.streamChunkReceived {job c} : Answers s (execStreamChunkReceived job c s) := by
  unfold execStreamChunkReceived
  split
  · exact .next id
  · refine .ite (.next id) ?_
    extract_lets
    split
    · exact .next fun h => h.modStream
    · split
      · exact .next fun h => .ite h.send h
      · exact .next fun h => h.modStream.send

theorem Answers.streamRestartRequest {job seq cause} : Answers s (execStreamRestartRequest job seq cause s) := by
  unfold execStreamRestartRequest
  split
  · exact .next id
  · exact .ite (.next id) (.next fun h => h.modStream.send.bump.capture)

/-! ### Machine/EngineAdmit.lean -/

theorem Safe.enter (h : Safe s) {x ws} : Safe (s.enter x ws) := .ite h.upd h.upd.bump

theorem Safe.modConn (h : Safe s) {i f} : Safe (s.modConn i f) := h.upd

theorem Safe.recvChain (h : Safe s) {c} : Safe (s.recvChain c) := .ite h (.foldl h fun _ _ k => k.requestPun)

theorem Safe.fetchData (h : Safe s) {e} : Safe (s.fetchData e) := by
  unfold State.fetchData
  split
  · exact h
  · refine .ite h (.ite h.recvChain ?_)
    split
    · exact h.recvChain
    · exact .ite (.ite h.recvChain h.recvChain.modEntry.send) (.ite h.recvChain h.recvChain.modEntry.modConn.send)

theorem Safe.knowList (h : Safe s) {e} : Safe (s.knowList e) := by
  unfold State.knowList
  split
  · exact h
  · split
    · exact h
    · exact h.modEntry.upd

theorem Safe.enterEntry (h : Safe s) {e k q c} : Safe (s.enterEntry e k q c) := by
  unfold State.enterEntry
  extract_lets x s1 s2 io s3
  have h3 : Safe s3 := .ite h.modQueue.bump.busyNow.modCtrl h.modQueue.bump.busyNow
  exact .ite h3.bump.capture.post (.ite h3.post (.ite h3.enter.fetchData h3.enter))

theorem Safe.freePool (h : Safe s) {n} : Safe (s.freePool n) := h.upd

theorem Safe.clearRing (h : Safe s) {q} : Safe (s.clearRing q) := h.modQueue.freePool

theorem Safe.endConn (h : Safe s) {conn} : Safe (s.endConn conn) := .send (.upd (.upd (.foldl h fun _ _ k => k.clearRing)))

theorem Safe.abortList (h : Safe s) {l status discard} : Safe (s.abortList l status discard) := by
  refine .foldl h fun _ _ k => ?_
  split
  · exact k
  · exact .ite k.postAborted k

theorem Safe.freeCtrl (h : Safe s) {c} : Safe (s.freeCtrl c) := .upd (.foldl h fun _ _ k => k.endConn)

theorem Safe.endIoQueues (h : Safe s) {c} : Safe (s.endIoQueues c) := .foldl h fun _ _ k => k.endConn

theorem Safe.settleDisable (h : Safe s) {c} : Safe (s.settleDisable c) := by
  unfold State.settleDisable
  split
  · exact h
  · split
    · exact h
    · exact .ite h (.ite (.freeCtrl (.ite h.upd.endIoQueues.modCtrl.capture h.upd.endIoQueues.modCtrl)) (.ite
        h.upd.endIoQueues.modCtrl.capture h.upd.endIoQueues.modCtrl))

theorem Safe.startDisable (h : Safe s) {c discard dying} : Safe (s.startDisable c discard dying) :=
  .settleDisable (.upd (.abortList (.modCtrl (.foldl h fun _ _ k => k.clearRing))))

theorem Safe.settleShutdown (h : Safe s) {c} : Safe (s.settleShutdown c) := by
  unfold State.settleShutdown
  split
  · exact h
  · exact .ite h.modCtrl h

theorem Safe.dispatch (h : Safe s) {e core} : Safe (s.dispatch e core) := h.modEntry.fetchData

theorem Safe.releaseOne (h : Safe s) {x c core} : Safe (s.releaseOne x c core) :=
  .dispatch (.upd (.ite h.modSlice h.modSlice.modSlice))

theorem Safe.releaseLoop (h : Safe s) {core fuel} : Safe (s.releaseLoop core fuel) := by
  induction fuel generalizing s with
  | zero => exact h
  | succ n ih =>
    unfold State.releaseLoop
    extract_lets
    split
    · exact h
    · split
      · exact h
      · exact ih h.releaseOne

/-! ### Machine/Engine.lean -/

theorem Answers.punnetGrant {req punnets} : Answers s (execPunnetGrant req punnets s) := by
  unfold execPunnetGrant
  split
  · exact .next id
  · refine .ite (.next id) (.next fun h => ?_)
    split
    · exact h.upd.enterChain.giveChain
    · exact .ite h.upd.enterChain.giveChain h.upd.enterChain.giveChain.unholdRes.fetchData.readDone

theorem Safe.loseHost (h : Safe s) {cntl} : Safe (s.loseHost cntl) := h.startDisable

theorem Safe.dropStaging (h : Safe s) : Safe s.dropStaging := h.upd

theorem Safe.fwAssocLost (h : Safe s) {nb initiator} : Safe (s.fwAssocLost nb initiator) :=
  .ite h.dropStaging.upd.capture (.ite h.upd h)

theorem Safe.assocLost (h : Safe s) {nb initiator} : Safe (s.assocLost nb initiator) := by
  unfold State.assocLost
  split
  · exact h
  · exact .ite h (.evalTolerance (.ite h.upd.fwAssocLost (.foldl h.upd.fwAssocLost fun _ _ k => k.loseHost)))

theorem Safe.rxPressure (h : Safe s) {y} : Safe (s.rxPressure y) := .ite h (.ite h.drawFree h.drawFree.send.bump)

theorem Safe.keepCapsule (h : Safe s) {q c} : Safe (s.keepCapsule q c) := h.modQueue.upd

theorem Safe.takeCapsule (h : Safe s) {q c} : Safe (s.takeCapsule q c) := by
  unfold State.takeCapsule
  split
  · exact h
  · exact .ite h (.ite (.ite h.endConn h.loseHost) h.keepCapsule)

theorem Answers.capsuleReceived {q c} : Answers s (execCapsuleReceived q c s) := by
  unfold execCapsuleReceived
  split
  · exact .next id
  · refine .ite (.next id) (.ite (.next ?_) (.ite (.next ?_) (.done ?_))) <;> intro h
    · exact .optElim h fun _ => h.rxPressure
    · exact .ite (.upd (.optElim h fun _ => h.rxPressure)) (.send (.upd (.optElim h fun _ => h.rxPressure)))
    · exact .takeCapsule (.optElim h fun _ => h.rxPressure)

theorem Safe.intake (h : Safe s) {conn fuel} : Safe (s.intake conn fuel) := by
  induction fuel generalizing s with
  | zero => exact h
  | succ n ih =>
    unfold State.intake
    split
    · exact h
    · split
      · exact h.upd
      · refine .ite h ?_
        extract_lets _ _ s1
        have k : Safe s1 := h.upd
        clear_value s1
        split
        · exact ih k
        · exact ih k.takeCapsule

theorem Answers.capsuleIntakeResume {conn} : Answers s (execCapsuleIntakeResume conn s) := by
  unfold execCapsuleIntakeResume
  split
  · exact .next id
  · exact .ite (.done fun h => h.intake) (.next id)

theorem Safe.takeData (h : Safe s) {c bytes} : Safe (s.takeData c bytes) := .ite h.modEntry.markChain.knowList h.modEntry.markChain

theorem Answers.h2cDataReceived {e bytes digestOk} : Answers s (execH2cDataReceived e bytes digestOk s) := by
  unfold execH2cDataReceived
  split
  · exact .next id
  · split
    · exact .next id
    · exact .ite (.next id) (.ite (.next fun h => h.rxPressure.endConn) (.ite (.next fun h => h.rxPressure.reply) (.next fun h =>
        h.rxPressure.modEntry.takeData)))

theorem Answers.rdmaReadCompletion {e bytes ok} : Answers s (execRdmaReadCompletion e bytes ok s) := by
  unfold execRdmaReadCompletion
  split
  · exact .next id
  · split
    · exact .next id
    · refine .ite (.next id) ?_
      extract_lets s1 s2 s3 next
      refine .next fun h => ?_
      have h2 : Safe s2 := h.rxPressure.modConn.modEntry
      have h3 : Safe s3 := .ite h2.takeData h2.reply
      exact .optElim h3 fun _ => h3.fetchData

theorem Answers.transportConnectionClosed {conn} : Answers s (execTransportConnectionClosed conn s) := by
  unfold execTransportConnectionClosed
  split
  · exact .next id
  · extract_lets
    split
    · exact .done fun h => h.endConn
    · exact .done fun h => h.endConn.assocLost

theorem Safe.takeTurn (h : Safe s) {k q} : Safe (s.takeTurn k q) := .ite h h.modCtrl

theorem Answers.admitCapsule {qi e} : Answers s (execAdmitCapsule qi e s) := by
  unfold execAdmitCapsule
  split
  · exact .next id
  · split
    · exact .next id
    · refine .ite (.next id) ?_
      split
      · exact .ite (.next id) (.done fun h => h.modCtrl.enterEntry)
      · exact .next id
      · refine .ite (.next id) (.ite (.next id) (.ite (.ite (.next fun h => h.modCtrl.modQueue.freePool) (.next id)) ?_))
        refine .ite (.next id) ?_
        extract_lets
        split
        · exact .next fun h => h.takeTurn.modQueue.freePool
        · exact .done fun h => h.takeTurn.modQueue.freePool.enterEntry

theorem Answers.tokenRefill : Answers s (execTokenRefill s) := .next fun h => h.upd

theorem Answers.releasePass {core} : Answers s (execReleasePass core s) :=
  .ite (.next id) (.next fun h => .ite (.bump (.releaseLoop (.foldl h.upd fun _ _ k => k.dispatch))) (.releaseLoop (.foldl h.upd
      fun _ _ k => k.dispatch)))

theorem Answers.orderingPoint {e} : Answers s (execOrderingPoint e s) := by
  unfold execOrderingPoint
  split
  · exact .next id
  · exact .ite (.next id) (.next fun h => h.modEntry.upd)

theorem Answers.holdWarn {e} : Answers s (execHoldWarn e s) := by
  unfold execHoldWarn
  split
  · exact .next id
  · refine .ite (.next id) ?_
    extract_lets
    split
    · exact .done fun h => h.modEntry.capture
    · exact .done fun h => h.modEntry.capture
    · exact .next id

theorem Answers.commandComplete {e} : Answers s (execCommandComplete e s) := by
  unfold execCommandComplete
  split
  · exact .next id
  · exact .ite (.next id) (.done fun h => .settleShutdown (.settleDisable (.ite (.upd (.ite h.sendCqe h.post)) (.ite h.sendCqe
      h.post))))

theorem Answers.shadowCheckerFault {core us} : Answers s (execShadowCheckerFault core us s) := by
  unfold execShadowCheckerFault
  refine .ite (.next id) (.ite (.done fun h => h.upd.capture) ?_)
  extract_lets
  split
  · exact .done fun h => h.upd.bump.upd.upd.capture
  · exact .done fun h => h.upd.bump.upd.capture

theorem Answers.ccWrite {e kind} {f : Cct → Ctrl → Word → State → State} (hf : ∀ c k v t, Safe t → Safe (f c k v t)) :
    Answers s (s.ccWrite e kind f) := by
  unfold State.ccWrite
  split
  · exact .next id
  · split
    · exact .next id
    · exact .ite (.done (hf _ _ _ _)) (.next id)

theorem Safe.setCc (h : Safe s) {c v} : Safe (s.setCc c v) := h.modCtrl

theorem Answers.ccEnClear {e} : Answers s (execCcEnClear e s) := .ccWrite fun _ _ _ _ k => k.setCc.reply.startDisable

theorem Answers.ccEnSet {e} : Answers s (execCcEnSet e s) := .ccWrite fun _ _ _ _ k => .ite k k.setCc.reply.modCtrl

theorem Answers.ccShnTenant {e} : Answers s (execCcShnTenant e s) :=
  .ccWrite fun _ _ _ _ k => .settleShutdown (.modCtrl (.foldl k.setCc.reply fun _ _ m => m.clearRing))

theorem Answers.ccShnDevice {e} : Answers s (execCcShnDevice e s) :=
  .ccWrite fun _ _ _ _ k => .ite k.reply k.setCc.reply.modCtrl.upd.padAll.gatherHost

theorem Answers.shutdownResume {e} : Answers s (execShutdownResume e s) := .ccWrite fun _ _ _ _ k => k.setCc.reply.modCtrl.upd

theorem Answers.shutdownAbortTimeout {cntl} : Answers s (execShutdownAbortTimeout cntl s) := by
  unfold execShutdownAbortTimeout
  split
  · exact .ite (.next id) (.done fun h => h.abortList)
  · split
    · exact .next id
    · exact .ite (.next id) (.done fun h => h.abortList.settleShutdown)

theorem Answers.shutdownStopRecord : Answers s (execShutdownStopRecord s) := by
  unfold execShutdownStopRecord
  split
  · exact .next id
  · exact .ite (.next id) (.done fun h => h.meterTick.jsync.modCtrl.upd.capture)

theorem Answers.keepAliveExpiry {cntl} : Answers s (execKeepAliveExpiry cntl s) := by
  unfold execKeepAliveExpiry
  split
  · exact .next id
  · exact .ite (.next id) (.done fun h => h.loseHost)

theorem Answers.propertyGet {e} : Answers s (execPropertyGet e s) := by
  unfold execPropertyGet
  split
  · exact .next id
  · refine .ite (.next id) ?_
    split
    · exact .next fun h => h.reply
    · exact .next fun h => h.finish

theorem Answers.propertySet {e} : Answers s (execPropertySet e s) := by
  unfold execPropertySet
  split
  · exact .next id
  · split
    · exact .next id
    · exact .ite (.next id) (.ite (.next fun h => h.reply) (.ite (.ite (.next fun h => h.setCc.reply) (.next id)) (.next fun h =>
        h.reply)))

theorem Answers.ceCctSelWrite {v} : Answers s (execCeCctSelWrite v s) := .next fun h => h.setReg.upd

/-! ### Machine/IoOps.lean -/

theorem Safe.beginRead (h : Safe s) {c n a len whole step} : Safe (s.beginRead c n a len whole step) :=
  .readDone (.foldl (.foldl h.upd.modEntry fun _ _ k => k.requestPun) fun _ _ k => k.startJob)

theorem Safe.writeJob (h : Safe s) {c n mu offs l} : Safe (s.writeJob c n mu offs l) := h.startJob

theorem Safe.writeRange (h : Safe s) {c n a l} : Safe (s.writeRange c n a l) := .foldl h fun _ _ k => k.writeJob

theorem Safe.deallocRun (h : Safe s) {sl n cct seq r} : Safe (s.deallocRun sl n cct seq r) :=
  .ite h (.foldl h.jsync fun _ _ k => k.deallocUnit)

theorem Safe.markMigRun (h : Safe s) {sl ns first count} : Safe (s.markMigRun sl ns first count) :=
  .ite h (.foldl h fun _ _ k => k.markMig)

theorem Safe.deallocRanges (h : Safe s) {c n ranges} : Safe (s.deallocRanges c n ranges) :=
  .writeDone (.gatherHost (.settle (.foldl (.foldl h.modEntry fun _ _ k => k.deallocRun.markMigRun.forward) fun _ _ k =>
      k.writeJob)))

theorem Safe.modNs (h : Safe s) {sl ns f} : Safe (s.modNs sl ns f) := h.modSlice

theorem Safe.resvNotify (h : Safe s) {sl ns kind hosts} : Safe (s.resvNotify sl ns kind hosts) :=
  .foldl h fun _ _ k => .ite k k.modCtrl.notify

theorem Safe.putResv (h : Safe s) {sl n r} : Safe (s.putResv sl n r) := .forwardChange (.ite h.modNs.writeSettings h.modNs)

theorem Answers.resvCmd {e opc bytes f} : Answers s (s.resvCmd e opc bytes f) := by
  refine .next fun h => .withCmd h fun _ _ k => ?_
  split
  · exact .ite k (.ite k.reply (.reply (.abortList (.foldl (.ite k k.putResv) fun _ _ m => m.resvNotify))))
  · exact k

/-! ### Machine/IoCommands.lean -/

theorem Answers.flush {e} : Answers s (execFlush e s) := .next fun h => .withCmd h fun _ _ k => k.reply

theorem Safe.withNs (h : Safe s) {e opc} {f : Cct → Ns → State → State} (hf : ∀ c n t, Safe t → Safe (f c n t)) :
    Safe (s.withNs e opc f) := by
  refine .withCmd h fun _ _ k => ?_
  split
  · exact k
  · exact .ite (hf _ _ _ k) k

theorem Answers.write {e} : Answers s (execWrite e s) :=
  .next fun h => .withNs h fun _ _ _ k => .ite k (.ite k.reply k.modEntry.writeRange)

theorem Answers.read {e} : Answers s (execRead e s) := by
  refine .next fun h => .withNs h fun _ _ _ k => ?_
  extract_lets
  split
  · exact k.holdRes
  · exact k.reply
  · exact k.modEntry.beginRead

theorem Answers.compare {e} : Answers s (execCompare e s) := by
  refine .next fun h => .withNs h fun _ _ _ k => .ite k ?_
  split
  · exact k.holdRes
  · exact k.reply
  · exact k.modEntry.beginRead

theorem Answers.verify {e} : Answers s (execVerify e s) := by
  refine .next fun h => .withNs h fun _ _ _ k => ?_
  extract_lets
  split
  · exact k.holdRes
  · exact k.reply
  · exact k.beginRead

theorem Answers.writeZeroes {e} : Answers s (execWriteZeroes e s) :=
  .next fun h => .withNs h fun _ _ _ k => .ite k.noteHeld.holdRes k.deallocRanges

theorem Answers.datasetManagement {e} : Answers s (execDatasetManagement e s) :=
  .next fun h => .withNs h fun _ _ _ k => .ite k.reply (.ite k (.ite k.reply (.ite k.noteHeld.holdRes k.deallocRanges)))

theorem Answers.copy {e} : Answers s (execCopy e s) := by
  refine .next fun h => .withCmd h fun _ _ k => ?_
  split
  · exact k
  · refine .ite k (.ite ?_ (.ite k (.ite k.reply (.ite k.reply k.modEntry.writeRange))))
    refine .ite k.reply (.ite k.reply ?_)
    split
    · exact k.holdRes
    · exact k.reply
    · exact k.beginRead

theorem Answers.reservationRegister {e} : Answers s (execReservationRegister e s) := .resvCmd

theorem Answers.reservationAcquire {e} : Answers s (execReservationAcquire e s) := .resvCmd

theorem Answers.reservationRelease {e} : Answers s (execReservationRelease e s) := .resvCmd

theorem Answers.reservationReport {e} : Answers s (execReservationReport e s) :=
  .next fun h => .withNs h fun _ _ _ k => .ite k.reply k.finish

/-! ### Machine/SliceCtl.lean -/

theorem Safe.anaChange (h : Safe s) {p} : Safe (s.anaChange p) := h.upd.notifyAll

theorem Safe.nsChanged (h : Safe s) {sl ns} : Safe (s.nsChanged sl ns) := .foldl h fun _ _ k => .ite k.modCtrl.notify k.modCtrl

theorem Safe.newKey (h : Safe s) {n} : Safe (s.newKey n) := h.upd.modSlice

theorem Safe.eraseOldKey (h : Safe s) {n} : Safe (s.eraseOldKey n) := h.writeSettings.upd

theorem Safe.wipeNs (h : Safe s) {sl n} : Safe (s.wipeNs sl n) := h.deallocRun.upd

theorem Safe.wipeSlice (h : Safe s) {sl} : Safe (s.wipeSlice sl) := by
  unfold State.wipeSlice
  split
  · exact h
  · exact .gatherHost (.settle (.foldl h fun _ _ k => k.wipeNs))

theorem Safe.openStream (h : Safe s) {sender nb migId} : Safe (s.openStream sender nb migId) := h.upd

theorem Safe.endStream (h : Safe s) {sender nb migId} : Safe (s.endStream sender nb migId) := h.upd

theorem Safe.discardCopy (h : Safe s) {x} : Safe (s.discardCopy x) := h.endPeer.wipeSlice.upd.modSlice.endStream.openStream

theorem Safe.cancelMig (h : Safe s) {sl cause} : Safe (s.cancelMig sl cause) := by
  unfold State.cancelMig
  split
  · exact h
  · split
    · exact h
    · exact .ite h h.modSlice.endStream.answerEntry.send.capture

theorem Safe.endCtrls (h : Safe s) {sl} : Safe (s.endCtrls sl) := .foldl h.abortList fun _ _ k => k.freeCtrl

theorem Safe.peerExtent (h : Safe s) {sl ns mu e x} : Safe (s.peerExtent sl ns mu e x) := h.addJob

theorem Safe.takeKeys (h : Safe s) {sl w secrets} : Safe (s.takeKeys sl w secrets) := h.upd.modSlice.writeSettings

theorem Safe.putNs (h : Safe s) {sl n} : Safe (s.putNs sl n) := h.modSlice

/-- The entry a peer's change takes is counted; nothing else of the register store changes. -/
theorem Safe.peerEntry (h : Safe s) {sl e nb c t} (he : s.peerEntry sl e nb c = some t) : Safe t := by
  unfold State.peerEntry at he
  split at he
  · cases he
  · cases he; exact h.upd.bump

theorem Safe.applyPeer (h : Safe s) {sl e c} : Safe (s.applyPeer sl e c).2 := by
  unfold State.applyPeer
  split
  · exact h.peerExtent
  · exact h.deallocRun.settle.gatherHost
  · exact h.putNs.writeSettings
  · split
    · exact h
    · exact h.wipeNs.modSlice.writeSettings
  · split
    · exact h
    · exact h.wipeNs.modNs.writeSettings
  · exact h.wipeSlice
  · exact h.modNs
  · exact h.takeKeys
  · exact h.modSlice.writeSettings
  · exact h.modSlice

/-! ### Machine/SliceCmds.lean -/

theorem Safe.waitCmd (h : Safe s) {c} : Safe (s.waitCmd c) := h.modEntry

theorem Safe.addSlice (h : Safe s) {x} : Safe (s.addSlice x) := h.upd

theorem Safe.refusePools (h : Safe s) {c n bits} : Safe (s.refusePools c n bits) := h.answer.capture

theorem Safe.sliceMake (h : Safe s) {c} : Safe (s.sliceMake c) := by
  unfold State.sliceMake
  refine .ite h.reply (.ite h.reply ?_)
  extract_lets num bits
  clear_value bits num
  split
  · exact h.refusePools
  · exact .ite h.refusePools h.addSlice.newKey.writeSettings.capture.answer

theorem Safe.endRepl (h : Safe s) {n} : Safe (s.endRepl n) := .foldl h.setResync.modSlice fun _ _ k => k.peerDone

theorem Safe.sliceModify (h : Safe s) {c} : Safe (s.sliceModify c) := by
  unfold State.sliceModify
  extract_lets
  split
  · exact h.reply
  · exact .ite h.reply (.ite h.reply (.ite h.refusePools (.answer (.capture (.writeSettings (.ite h.modSlice.endRepl
      h.modSlice))))))

theorem Answers.sliceCreate {e} : Answers s (execSliceCreate e s) :=
  .next fun h => .withCmd h fun _ _ k => .ite k.reply (.ite k (.ite k.sliceMake k.sliceModify))

theorem Safe.forceClose (h : Safe s) {n} : Safe (s.forceClose n) := h.abortList.modSlice

theorem Answers.sliceQuiesce {e} : Answers s (execSliceQuiesce e s) := by
  refine .next fun h => .withCmd h fun _ _ k => ?_
  extract_lets
  split
  · exact k.reply
  · exact .ite k.reply (.ite (.ite (.forceClose (.waitCmd (.modSlice (.ite k.modSlice.writeSettings k)))) (.waitCmd (.modSlice
      (.ite k.modSlice.writeSettings k)))) k.reply)

theorem Answers.sliceQuiesced {slice us} : Answers s (execSliceQuiesced slice us s) := by
  unfold execSliceQuiesced
  split
  · exact .next id
  · exact .ite (.next id) (.next fun h => .foldl h.modSlice.writeSettings.capture fun _ _ k => k.answerEntry)

theorem Answers.sliceResume {e} : Answers s (execSliceResume e s) := by
  refine .next fun h => .withCmd h fun _ _ k => ?_
  extract_lets
  split
  · exact k.reply
  · exact .ite k.reply (.ite k (.reply (.ite (.writeSettings (.ite k.modSlice.upd.modSlice.capture k.modSlice)) (.anaChange
      (.writeSettings (.ite k.modSlice.upd.modSlice.capture k.modSlice))))))

theorem Safe.resetSlice (h : Safe s) {n} : Safe (s.resetSlice n) := .foldl h.endCtrls fun _ _ k => k.modNs.forwardChange

theorem Safe.deleteSlice (h : Safe s) {x} : Safe (s.deleteSlice x) :=
  .writeSettings (.upd (.wipeSlice (.eraseOldKey (.upd (.modSlice (.setResync (.endPeer (.endCtrls (.endStream (.cancelMig (.ite
      h.send h)))))))))))

theorem Answers.sliceDelete {e} : Answers s (execSliceDelete e s) := by
  refine .next fun h => .withCmd h fun _ _ k => ?_
  extract_lets
  split
  · exact k.reply
  · exact .ite k.reply (.ite k.reply (.ite k.reply (.ite k (.capture (.reply (.ite k.resetSlice.writeSettings k.deleteSlice))))))

theorem Safe.copyMarked (h : Safe s) {sl} : Safe (s.copyMarked sl) := by
  unfold State.copyMarked
  split
  · exact h
  · refine .foldl h.modSlice fun _ _ k => ?_
    split
    · exact k
    · exact .foldl k fun _ _ m => m.send.meterAdd

theorem Safe.sendCommit (h : Safe s) {x} : Safe (s.sendCommit x) := h.sendAll.sendAll.send

theorem Safe.cutOver (h : Safe s) {n} : Safe (s.cutOver n) := by
  unfold State.cutOver
  split
  · exact h
  · split
    · exact h
    · exact .ite h h.copyMarked.modSlice.sendCommit

theorem Answers.sliceFreeze {e} : Answers s (execSliceFreeze e s) := by
  refine .next fun h => .withCmd h fun _ _ k => ?_
  extract_lets
  split
  · exact k.reply
  · refine .ite k.reply (.ite k.reply ?_)
    split
    · exact k.modSlice.writeSettings.anaChange.reply
    · exact .ite k k.modSlice.writeSettings.anaChange.waitCmd.cutOver

theorem Answers.sliceSave {e} : Answers s (execSliceSave e s) := by
  refine .next fun h => .withCmd h fun _ _ k => ?_
  extract_lets
  split
  · exact k.answer
  · refine .ite k.reply ?_
    extract_lets
    split
    · exact .ite k.answer k.modSlice.send.waitCmd
    · split
      · exact k.reply
      · exact .ite k.reply k.cancelMig.reply
    · exact k.reply

theorem Answers.sliceRestore {e} : Answers s (execSliceRestore e s) := by
  refine .next fun h => .withCmd h fun _ _ k => .ite k.reply ?_
  refine .ite ?_ (.ite k (.ite k.reply (.ite k.reply (.ite k.refusePools (.reply (.writeSettings (.addSlice (.ite k.openStream
      k))))))))
  split
  · exact k.reply
  · exact .ite k.reply k.deleteSlice.upd.reply

/-! ### Machine/Replication.lean -/

theorem Answers.replicationPairing {slice} : Answers s (execReplicationPairing slice s) := by
  unfold execReplicationPairing
  split
  · exact .next id
  · exact .ite (.next id) (.next fun h => h.setResync.modSlice.startSync)

theorem Answers.runPeer {slice e nb c} : Answers s (s.runPeer slice e nb c) := by
  unfold State.runPeer
  split
  · exact .next id
  · next he =>
    refine .done fun h => ?_
    have k := h.peerEntry he
    exact .ite k.heardOn.applyPeer.peerFree.send k.heardOn.applyPeer

theorem Answers.forwardedChangeReceived {p x} : Answers s (execForwardedChangeReceived p x s) := by
  unfold execForwardedChangeReceived
  split
  · exact .next id
  · exact .ite (.next id) .runPeer

theorem Answers.replicaAck {slice nsid mu} : Answers s (execReplicaAck slice nsid mu s) := by
  unfold execReplicaAck
  split
  · exact .next id
  · split
    · exact .next id
    · extract_lets
      split
      · exact .next fun h => h.modSlice.heardOn.pumpQueued.peerDone
      · exact .next fun h => h.modSlice.heardOn.pumpQueued.syncRegion

theorem Answers.lostUnitReport {slice nsid mu} : Answers s (execLostUnitReport slice nsid mu s) := by
  unfold execLostUnitReport
  split
  · exact .next id
  · exact .ite (.next id) (.ite (.next fun h => h.markLost.startSync) (.ite (.next fun h => h.markLost.copyRegion) (.next fun h =>
      h.markLost)))

theorem Answers.peerRepairComplete {slice nsid mu x} : Answers s (execPeerRepairComplete slice nsid mu x s) := by
  unfold execPeerRepairComplete
  refine .ite (.next id) ?_
  split
  · exact .next id
  · exact .done fun h => .capture (.meterAdd (.wakeHeld (.gatherHost (.settle (.foldl h.upd.stageExtent fun _ _ k =>
      k.modJob.unholdRes)))))

theorem Answers.replicaDetachReceived {p} : Answers s (execReplicaDetachReceived p s) := by
  unfold execReplicaDetachReceived
  split
  · exact .next id
  · exact .next fun h => .ite h.modSlice h

theorem Answers.migrationAcceptReceived {slice fits} : Answers s (execMigrationAcceptReceived slice fits s) := by
  unfold execMigrationAcceptReceived
  split
  · exact .next id
  · split
    · exact .next id
    · refine .ite (.next id) ?_
      extract_lets
      split
      · exact .next fun h => h.heardOn.modSlice.answerEntry
      · exact .next fun h => h.heardOn.modSlice.answerEntry.capture
      · exact .next fun h => h.heardOn.modSlice.openStream.answerEntry.copyMarked

theorem Answers.precopyPassComplete {slice} : Answers s (execPrecopyPassComplete slice s) := by
  unfold execPrecopyPassComplete
  split
  · exact .next id
  · split
    · exact .next id
    · exact .ite (.next id) (.next fun h => .copyMarked (.ite h.modSlice.modSlice.capture h.modSlice))

theorem Answers.migrationDataReceived {p x} : Answers s (execMigrationDataReceived p x s) := by
  unfold execMigrationDataReceived
  split
  · exact .next id
  · exact .ite (.next id) .runPeer

theorem Answers.migrationCommitReceived {p} : Answers s (execMigrationCommitReceived p s) := by
  unfold execMigrationCommitReceived
  extract_lets
  split
  · exact .next id
  · exact .ite (.next id) (.next fun h => h.endStream.modSlice.upd.writeSettings.anaChange.send)

theorem Answers.migrationCommitAck {slice ms} : Answers s (execMigrationCommitAck slice ms s) := by
  unfold execMigrationCommitAck
  split
  · exact .next id
  · split
    · exact .next id
    · exact .ite (.next id) (.next fun h => h.heardOn.modSlice.endStream.writeSettings.anaChange.answerEntry.capture)

theorem Answers.migrationCancelReceived {p} : Answers s (execMigrationCancelReceived p s) := by
  unfold execMigrationCancelReceived
  split
  · exact .next id
  · exact .ite (.next id) (.done fun h => h.discardCopy)

theorem Safe.migPeerLost (h : Safe s) {nb} : Safe (s.migPeerLost nb) := by
  refine .foldl h fun _ _ k => ?_
  split
  · exact .ite k.discardCopy.capture k
  · exact .ite k (.ite k.endStream.modSlice.writeSettings.anaChange.answerEntry.capture (.ite
      k.endStream.modSlice.writeSettings.answerEntry.send.capture k.cancelMig))

/-! ### Machine/LogPages.lean -/

theorem Safe.clearReported (h : Safe s) : Safe s.clearReported := .foldl h fun _ _ k => k.setReg

/-! ### Machine/AdminPages.lean -/

theorem Safe.reportAll (h : Safe s) {c fuel} : Safe (s.reportAll c fuel) := by
  induction fuel generalizing s with
  | zero => exact h
  | succ n ih => exact ih h.reportNotice

theorem Safe.readPage (h : Safe s) {c lid} : Safe (s.readPage c lid) := h.modCtrl.reportAll

theorem Answers.getLogPage {e} : Answers s (execGetLogPage e s) := by
  refine .next fun h => .withCmd h fun _ _ k => ?_
  split
  · exact k
  · refine .ite k.reply (.ite k.reply ?_)
    split
    · exact k.reply
    · exact .ite k.reply (.ite (.ite k.finish.clearReported k.finish) (.readPage (.ite k.finish.clearReported k.finish)))

theorem Answers.identify {e} : Answers s (execIdentify e s) := by
  refine .next fun h => .withCmd h fun _ _ k => ?_
  split
  · exact k
  · split
    · exact k.reply
    · exact k.finish

/-! ### Machine/AdminCmds.lean -/

theorem Answers.abort {e} : Answers s (execAbort e s) := by
  refine .next fun h => .withCmd h fun _ _ k => .ite k.reply ?_
  split
  · exact k.bump.answer
  · exact .ite k.modEntry.postAborted.bump.answer k.modEntry.bump.answer

theorem Answers.asynchronousEventRequest {e} : Answers s (execAsynchronousEventRequest e s) := by
  refine .next fun h => .withCmd h fun _ _ k => ?_
  split
  · exact k
  · exact .ite k.reply k.modEntry.modCtrl.reportNotice

theorem Safe.setFeature (h : Safe s) {c x} : Safe (s.setFeature c x).2.2 := by
  unfold State.setFeature
  extract_lets
  split
  · exact h.modCtrl
  · split
    · exact h
    · exact h.modCtrl.evalTolerance
  · split
    · exact h
    · split
      · exact h.modCtrl
      · split
        · exact h.modCtrl
        · exact h
  · exact h
  · exact h.modCtrl
  · split
    · exact h
    · exact h.modCtrl
  · split
    · exact h
    · exact h.modCtrl
  · split
    · exact h.modCtrl
    · exact h
  · exact h.modCtrl
  · refine .writeSettings (.foldl h fun _ _ k => ?_)
    split
    · exact k
    · exact k.putResv
  · exact h.modCtrl.evalTolerance
  · exact h

theorem Answers.setFeatures {e} : Answers s (execSetFeatures e s) := by
  refine .done fun h => .withCmd h fun _ _ k => ?_
  split
  · exact k
  · exact .ite k.reply (.ite k k.setFeature.answer)

theorem Answers.getFeatures {e} : Answers s (execGetFeatures e s) := by
  refine .next fun h => .withCmd h fun _ _ k => ?_
  split
  · exact k
  · extract_lets
    split
    · exact k.reply
    · exact .ite k.answer k.finish

theorem Answers.keepAlive {e} : Answers s (execKeepAlive e s) := by
  refine .next fun h => .withCmd h fun _ _ k => .reply (.modCtrl ?_)
  split
  · exact k
  · exact k.heardOn

theorem Safe.deleteNs (h : Safe s) {sl n} : Safe (s.deleteNs sl n) := by
  refine .nsChanged (.writeSettings (.forwardChange (.modSlice (.upd (.gatherHost (.settle (.wipeNs ?_)))))))
  refine .foldl h fun _ _ k => ?_
  split
  · exact k
  · exact k.post

theorem Answers.namespaceManagement {e} : Answers s (execNamespaceManagement e s) := by
  refine .done fun h => .withCmd h fun _ _ k => ?_
  split
  · exact k
  · split
    · exact .ite k (.ite k.reply (.ite k.reply k.putNs.forwardChange.writeSettings.nsChanged.answer))
    · split
      · exact k.reply
      · exact k.deleteNs.reply
    · exact k.reply

theorem Answers.namespaceAttachment {e} : Answers s (execNamespaceAttachment e s) := by
  refine .next fun h => .withCmd h fun _ _ k => ?_
  split
  · exact k.reply
  · exact .ite k (.ite k.reply (.ite k.reply (.ite k.reply k.modNs.nsChanged.reply)))

theorem Safe.eraseJobs (h : Safe s) {sl} : Safe (s.eraseJobs sl) :=
  .foldl (.foldl h fun _ _ k => k.endRead) fun _ _ k => k.modJob.giveLane

theorem Safe.keyErase (h : Safe s) {sl} : Safe (s.keyErase sl) := by
  refine .eraseJobs (.wipeSlice ?_)
  split
  · split
    · exact h.cancelMig.newKey.eraseOldKey.forwardChange
    · exact h.cancelMig.newKey.eraseOldKey.forwardChange.forwardChange
  · refine .ite ?_ ?_
    · refine .modSlice (.setResync ?_)
      split
      · exact h.cancelMig.newKey.eraseOldKey.forwardChange
      · exact h.cancelMig.newKey.eraseOldKey.forwardChange.forwardChange
    · split
      · exact h.cancelMig.newKey.eraseOldKey.forwardChange
      · exact h.cancelMig.newKey.eraseOldKey.forwardChange.forwardChange

theorem Safe.formatNs (h : Safe s) {sl n lbaf pi} : Safe (s.formatNs sl n lbaf pi) :=
  h.wipeNs.settle.gatherHost.modNs.forwardChange.upd.writeSettings.nsChanged

theorem Answers.formatNvm {e} : Answers s (execFormatNvm e s) := by
  refine .done fun h => .withCmd h fun _ _ k => ?_
  extract_lets
  split
  · exact k.reply
  · refine .ite k.reply (.ite k.reply ?_)
    split
    · exact .reply (.foldl k.cancelMig fun _ _ m => m.formatNs)
    · exact .ite k.reply (.waitCmd (.modSlice (.foldl k.keyErase fun _ _ m => m.formatNs)))
    · exact k.reply

theorem Safe.moveOutOf (h : Safe s) {sl} : Safe (s.moveOutOf sl) := .foldl h.modSlice fun _ _ k => k.closeBand.request

theorem Answers.sanitize {e} : Answers s (execSanitize e s) := by
  refine .done fun h => .withCmd h fun _ _ k => ?_
  extract_lets
  split
  · exact k.reply
  · split
    · exact k.reply
    · exact .ite k.reply (.reply (.ite k.keyErase.modSlice.moveOutOf k.keyErase.modSlice))

theorem Safe.sanitized (h : Safe s) {sl} : Safe (s.sanitized sl) := h.modSlice.notifyAll

theorem Answers.keyEraseCompleted {slice ms} : Answers s (execKeyEraseCompleted slice ms s) := by
  unfold execKeyEraseCompleted
  split
  · exact .next id
  · split
    · exact .next id
    · exact .ite (.next id) (.done fun h => .ite h.modSlice.capture.answerEntry.sanitized h.modSlice.capture.answerEntry)

theorem Answers.sanitizeComplete {slice ms} : Answers s (execSanitizeComplete slice ms s) := by
  unfold execSanitizeComplete
  split
  · exact .next id
  · split
    · exact .next id
    · exact .ite (.next id) (.done fun h => h.modSlice.capture.sanitized)

/-! ### Machine/FlashChannels.lean -/

theorem Answers.chDieSelWrite {ch v} : Answers s (execChDieSelWrite ch v s) := .ite (.next id) (.next fun h => h.setReg.modChan)

theorem Answers.dieReadRequest {die op cls band stripe mem cw} : Answers s (execDieReadRequest die op cls band stripe mem cw s) :=
    by
  unfold execDieReadRequest
  split
  · exact .ite (.next id) (.ite (.next fun h => h.upd.readArrives) (.ite (.next fun h => .ite h.upd.startRecon h.upd) (.next fun h
      => h.upd.queueRead)))
  · exact .next id

theorem Answers.reconWaitExpiry {die op} : Answers s (execReconWaitExpiry die op s) := by
  unfold execReconWaitExpiry
  split
  · exact .next id
  · split
    · exact .next id
    · exact .ite (.next fun h => h.modDie.startRecon) (.next id)

theorem Answers.operationAgePromotion {die op} : Answers s (execOperationAgePromotion die op s) := .next fun h => h.modDie

theorem Answers.dieOperationStart {die} : Answers s (execDieOperationStart die s) := by
  unfold execDieOperationStart
  split
  · exact .next id
  · refine .ite (.next id) ?_
    split
    · exact .next fun h => h.resumeDue
    · exact .granted fun _ => .next fun h => h.startOp

theorem Answers.readSenseComplete {die} : Answers s (execReadSenseComplete die s) := by
  unfold execReadSenseComplete
  split
  · exact .next id
  · refine .ite (.next id) (.next fun h => .resumeDue (.bumpCh ?_))
    split
    · exact h.modDie.upd
    · split
      · exact h.modDie.upd
      · split
        · exact h.modDie.upd
        · exact h.modDie.upd.readBlock

theorem Answers.ldpcDecodeComplete {op corrected} : Answers s (execLdpcDecodeComplete op corrected s) := by
  unfold execLdpcDecodeComplete
  split
  · exact .next id
  · split
    · exact .next id
    · split
      · exact .next id
      · refine .ite (.next id) (.granted fun u => ?_)
        extract_lets f s1 found a s2 s3
        have k1 (h : Safe u) : Safe s1 := h.bump
        have k3 (h : Safe u) : Safe s3 := .ite (k1 h).upd.bumpCh (k1 h).upd
        clear_value found
        split
        · exact .next fun h => (k1 h).dropOp.decoded
        · split
          · exact .done fun h => (k1 h).upd.ladderFails
          · extract_lets s4 o s5
            have k5 (h : Safe u) : Safe s5 := .modDie (.ite (k3 h).bumpCh (k3 h))
            exact .ite (.next fun h => (k5 h).startRecon) (.next k5)

theorem Answers.reconstructionComplete {op ok} : Answers s (execReconstructionComplete op ok s) := by
  unfold execReconstructionComplete
  split
  · exact .next id
  · split
    · exact .next fun h => h.dropOp
    · refine .ite ?_ (.ite (.next fun h => h.upd) (.done fun h => .ite h.upd.loseCw h.upd.loseCw.health))
      refine .ite (.next fun h => h.dropOp) ?_
      extract_lets
      split
      · exact .next fun h => h.dropOp.repairCw
      · exact .ite (.next fun h => h.dropOp.repairCw.capture) (.next fun h => h.dropOp.repairCw.health)

theorem Answers.trackValley {die blk opt off} : Answers s (execTrackValley die blk opt off s) := by
  unfold execTrackValley
  split
  · exact .next id
  · refine .ite (.next id) (.next fun h => .bumpCh ?_)
    split
    · exact h.modBlock.readBlock
    · exact h.modBlock.countReads

theorem Answers.memberProgramStatus {band stripe mem st busyUs} : Answers s (execMemberProgramStatus band stripe mem st busyUs s)
    := by
  unfold execMemberProgramStatus
  split
  · split
    · exact .next id
    · split
      · exact .next id
      · refine .ite (.next id) ?_
        extract_lets
        split
        · exact .ite (.done fun h => h.endOp.slowOp.modStripe.commitStripe.settle.settleRelease.gatherHost) (.next fun h =>
            h.endOp.slowOp.modStripe)
        · exact .done fun h => h.endOp.slowOp.capture.health.modBand.voidStripe.settle.settleRelease.gatherHost
  · exact .next id

theorem Answers.memberOperationTimeout {die} : Answers s (execMemberOperationTimeout die s) := by
  unfold execMemberOperationTimeout
  split
  · exact .next id
  · exact .ite (.done fun h => h.modDie.capture.failDie.settleRelease) (.next id)

theorem Answers.dieResetTimeout {die} : Answers s (execDieResetTimeout die s) := by
  unfold execDieResetTimeout
  split
  · exact .next id
  · exact .ite (.next id) (.done fun h => .settleRelease (.ite (.loseCarrier (.ite h.modDie.capture.failDie h.modDie)) (.ite
      h.modDie.capture.failDie h.modDie)))

theorem Answers.zqPeriod {ch} : Answers s (execZqPeriod ch s) := .ite (.next fun h => h.modChan) (.next id)

theorem Answers.slowRecovery {die} : Answers s (execSlowRecovery die s) := by
  unfold execSlowRecovery
  split
  · exact .next id
  · exact .ite (.next fun h => h.modDie.memberRec.capture) (.next id)

theorem Answers.slowFail {die} : Answers s (execSlowFail die s) := by
  unfold execSlowFail
  split
  · exact .next id
  · exact .ite (.done fun h => h.failDie.settleRelease) (.next id)

/-! ### Machine/ConnectCmds.lean -/

theorem Safe.authEvent (h : Safe s) {y t cause} : Safe (s.authEvent y t cause) := by
  unfold State.authEvent
  split
  · exact h.capture
  · exact h
  · exact h.capture

theorem Safe.postConnect (h : Safe s) {c status result} : Safe (s.postConnect c status result) := h.upd

theorem Safe.connectErr (h : Safe s) {c k status} : Safe (s.connectErr c k status) := h.recordErr

theorem Safe.refuseIo (h : Safe s) {c k status result} : Safe (s.refuseIo c k status result) := h.postConnect.connectErr

theorem Safe.connectAdmin (h : Safe s) {c y t} : Safe (s.connectAdmin c y t) := by
  unfold State.connectAdmin
  split
  · exact h.postConnect
  · refine .ite h.postConnect (.ite h.postConnect (.ite h (.evalTolerance (.postConnect ?_))))
    split
    · exact h.upd.upd
    · exact h.upd

theorem Safe.connectIo (h : Safe s) {c t} : Safe (s.connectIo c t) := by
  unfold State.connectIo
  split
  · exact h.postConnect
  · refine .ite h.refuseIo ?_
    split
    · exact .ite h.refuseIo.capture (.ite h h.upd.postConnect)
    · exact .ite h h.upd.postConnect

theorem Answers.connect {c} : Answers s (execConnect c s) := by
  unfold execConnect
  split
  · exact .next id
  · refine .ite (.next id) ?_
    extract_lets s1 refuse
    have k (h : Safe s) : Safe s1 := h.bump
    have r (h : Safe s) (st : Nat) : Safe (refuse st) := by
      unfold refuse
      split
      · exact (k h).postConnect
      · exact (k h).refuseIo
    clear_value refuse s1
    split
    · exact .next fun h => r h _
    · refine .ite (.next fun h => r h _) ?_
      split
      · exact .next fun h => (r h _).authEvent
      · exact .next fun h => .ite (k h).connectAdmin (k h).connectIo

theorem Safe.authCmd (h : Safe s) {e typ} {f : Cct → Ctrl → State → State} (hf : ∀ c k t, Safe t → Safe (f c k t)) :
    Safe (s.authCmd e typ f) := by
  unfold State.authCmd
  split
  · exact h
  · split
    · exact h
    · exact .ite (hf _ _ _ h) h

theorem Answers.authenticationSend {e x} : Answers s (execAuthenticationSend e x s) := by
  refine .done fun h => .authCmd h fun c _ u k => ?_
  extract_lets s1 conn
  have k1 : Safe s1 := k.reply
  clear_value conn s1
  split
  · exact k1
  · exact .ite k1.authEvent.loseHost k1

theorem Answers.authenticationReceive {e} : Answers s (execAuthenticationReceive e s) :=
  .next fun h => .authCmd h fun _ _ _ k => k.finish

/-! ### Machine/Fabric.lean -/

theorem Safe.modMac (h : Safe s) {m f} : Safe (s.modMac m f) := h.upd

theorem Answers.linkFault {mac f} : Answers s (execLinkFault mac f s) := by
  unfold execLinkFault
  split
  · exact .next id
  · exact .ite (.next fun h => .ite h.bump h) (.next fun h => .modMac (.ite h.bump h))

theorem Safe.anaMac (h : Safe s) {mac s0} : Safe (State.anaMac mac s0 s) := h.anaChange.capture

theorem Answers.macDown {mac} : Answers s (execMacDown mac s) := by
  unfold execMacDown
  split
  · exact .next id
  · refine .ite (.next id) ?_
    extract_lets none8 s1 fb conns qs cct l _ s2
    have h2 (h : Safe s) : Safe s2 := h.modMac.capture.upd
    exact .done fun h => (h2 h).anaMac

theorem Answers.linkUp {mac p} : Answers s (execLinkUp mac p s) := by
  unfold execLinkUp
  split
  · exact .next id
  · exact .ite (.next id) (.next fun h => h.modMac)

theorem Answers.macUp {mac} : Answers s (execMacUp mac s) := by
  unfold execMacUp
  split
  · exact .next id
  · refine .ite (.next id) ?_
    extract_lets s1
    have h1 (h : Safe s) : Safe s1 := h.modMac.capture
    exact .done fun h => (h1 h).anaMac

theorem Answers.pauseFrameReceived {mac prio on} : Answers s (execPauseFrameReceived mac prio on s) := by
  unfold execPauseFrameReceived
  split
  · exact .next id
  · exact .ite (.next id) (.next fun h => h.bump.modMac)

theorem Answers.pauseLong {mac prio} : Answers s (execPauseLong mac prio s) := by
  unfold execPauseLong
  split
  · exact .next id
  · split
    · exact .next id
    · exact .ite (.next id) (.done fun h => h.modMac.capture)

theorem Answers.arpRequest {f ip} : Answers s (execArpRequest f ip s) := by
  unfold execArpRequest
  split
  · exact .next id
  · exact .next fun h => .ite h.send h

theorem Answers.neighborSolicitation {f ip} : Answers s (execNeighborSolicitation f ip s) := by
  unfold execNeighborSolicitation
  split
  · exact .next id
  · exact .next fun h => .ite h.send h

theorem Safe.frameIn (h : Safe s) {x} : Safe (s.frameIn x) := .ite h.leaveTo.wakeXoff.smartCheck h

theorem Answers.echoRequest {f q} : Answers s (execEchoRequest f q s) := by
  unfold execEchoRequest
  split
  · exact .next id
  · exact .ite (.next id) (.done fun h => h.frameIn.send)

theorem Safe.modFlow (h : Safe s) {f g} : Safe (s.modFlow f g) := h.upd

theorem Answers.ecnCeReceived {flow} : Answers s (execEcnCeReceived flow s) := by
  unfold execEcnCeReceived
  split
  · exact .next id
  · exact .ite (.next id) (.done fun h => h.modFlow.send.bump)

theorem Safe.decrease (h : Safe s) {f} : Safe (s.decrease f) := .ite h h.modFlow

theorem Answers.cnpReceived {flow} : Answers s (execCnpReceived flow s) := by
  unfold execCnpReceived
  split
  · exact .next id
  · exact .ite (.next id) (.done fun h => h.bump.decrease)

theorem Safe.cutWindow (h : Safe s) {f} : Safe (s.cutWindow f) := h.drawFree.modFlow

theorem Answers.tcpEceAck {flow} : Answers s (execTcpEceAck flow s) := by
  unfold execTcpEceAck
  split
  · exact .next id
  · exact .ite (.next id) (.next fun h => h.decrease.cutWindow)

theorem Answers.rateIncrease {flow} : Answers s (execRateIncrease flow s) := by
  unfold execRateIncrease
  split
  · exact .next id
  · exact .ite (.next id) (.next fun h => h.modFlow)

theorem Safe.addConn (h : Safe s) {y} : Safe (s.addConn y) := h.upd

theorem Answers.tcpConnectRequest {conn f q remote} : Answers s (execTcpConnectRequest conn f q remote s) := by
  unfold execTcpConnectRequest
  extract_lets
  split
  · exact .next id
  · exact .ite (.next fun h => h.frameIn) (.ite (.next fun h => h.frameIn.send) (.next fun h => h.frameIn.addConn.send))

theorem Answers.rdmaConnectRequest {conn r remote} : Answers s (execRdmaConnectRequest conn r remote s) := by
  unfold execRdmaConnectRequest
  split
  · exact .next id
  · exact .ite (.next fun h => h.frameIn) (.ite (.next fun h => h.frameIn.send) (.next fun h => h.frameIn.addConn.send))

theorem Answers.tlsHandshake {conn x} : Answers s (execTlsHandshake conn x s) := by
  unfold execTlsHandshake
  split
  · exact .next id
  · refine .ite (.next id) ?_
    extract_lets s0
    have k (h : Safe s) {p : Prop} {_ : Decidable p} {a b : Option Nat} : Safe (if p then (a, s0.drawFree.2) else (b, s0)).2 := by
      split
      · exact h.drawFree
      · exact h
    split
    next s1 e =>
    have k1 (h : Safe s) : Safe s1 := (congrArg (Safe ·.2) e).mp (k h)
    split
    · exact .next fun h => (k1 h).upd
    · exact .done fun h => (k1 h).endConn.capture

theorem Answers.icreq {conn hdgst ddgst hpda} : Answers s (execIcreq conn hdgst ddgst hpda s) := by
  unfold execIcreq
  split
  · exact .next id
  · exact .ite (.next id) (.next fun h => h.upd.send)

theorem Safe.modNb (h : Safe s) {n f} : Safe (s.modNb n f) := h.upd

theorem Safe.openInit (h : Safe s) {nb mac} : Safe (s.openInit nb mac) := h.upd

theorem Answers.ringAssociationUp {nb initiator port} : Answers s (execRingAssociationUp nb initiator port s) := by
  unfold execRingAssociationUp
  split
  · exact .next id
  · refine .ite (.next id) ?_
    extract_lets both last s1 s2 s3 s4 s5 s6
    refine .done fun h => ?_
    have h3 : Safe s3 := .capture (.ite h.modNb.openInit h.modNb)
    have h4 : Safe s4 := .ite h3.capture h3
    have h5 : Safe s5 := .ite (.foldl h4 fun _ _ k => k.peerBack) h4
    have h6 : Safe s6 := .foldl h5 fun _ _ k => k.cutOver
    exact h6.evalTolerance

theorem Answers.ringRetry {nb authFailed} : Answers s (execRingRetry nb authFailed s) := by
  unfold execRingRetry
  split
  · exact .next id
  · exact .ite (.next id) (.ite (.done fun h => h.modNb.capture) (.next fun h => h.modNb))

theorem Answers.ringPeerUnreachable {nb} : Answers s (execRingPeerUnreachable nb s) := by
  unfold execRingPeerUnreachable
  split
  · exact .next id
  · split
    · exact .next id
    · exact .ite (.next id) (.done fun h => .migPeerLost (.ite (.foldl h.modNb.capture fun _ _ k => k.peerLost) h.modNb.capture))

theorem Answers.ringKeepAliveExpiry {nb initiator} : Answers s (execRingKeepAliveExpiry nb initiator s) := by
  unfold execRingKeepAliveExpiry
  split
  · exact .next id
  · exact .ite (.next id) (.done fun h => h.assocLost)

/-! ### Machine/Memory.lean -/

theorem Safe.setRank (h : Safe s) {c r st} : Safe (s.setRank c r st) := h.upd

theorem Safe.fitPages (h : Safe s) : Safe s.fitPages := h.upd

theorem Safe.retireBank (h : Safe s) {c rank bank} : Safe (s.retireBank c rank bank) :=
  .capture (.writeSettings (.fitPages (.ite h.upd.setRank h.upd)))

theorem Safe.dropRank (h : Safe s) {c rank} : Safe (s.dropRank c rank) := h.upd.setRank.fitPages.writeSettings.capture

theorem Safe.removeRank (h : Safe s) {c rank cause} : Safe (s.removeRank c rank cause) := by
  unfold State.removeRank
  extract_lets spare s1
  have k : Safe s1 := h.capture
  clear_value s1 spare
  split
  · exact k.upd.setRank.dropRank
  · split
    · exact k.dropRank
    · exact k.upd.setRank.setRank

theorem Safe.retirePage (h : Safe s) {c rank bank page} : Safe (s.retirePage c rank bank page) :=
  .ite h.upd.capture (.ite h.upd.fitPages.writeSettings.capture (.ite h.upd.fitPages.writeSettings.capture.removeRank
      h.upd.fitPages.writeSettings.capture.retireBank))

theorem Safe.checkDevice (h : Safe s) {c rank dev} : Safe (s.checkDevice c rank dev) :=
  .ite h (.ite h.upd.capture.removeRank h.upd.capture)

theorem Safe.corrected (h : Safe s) {c rank dev bank page} : Safe (s.corrected c rank dev bank page) :=
  .ite h.bump.capture.upd.checkDevice.retirePage h.bump.capture.upd.checkDevice

theorem Answers.dramCorrectedError {c rank dev bank page} : Answers s (execDramCorrectedError c rank dev bank page s) :=
  .ite (.next id) (.done fun h => h.corrected)

theorem Safe.connError (h : Safe s) {conn} : Safe (s.connError conn) := .foldl h.endConn fun _ _ k => k.loseHost

theorem Safe.recoverLine (h : Safe s) {o} : Safe (s.recoverLine o) := by
  unfold State.recoverLine
  extract_lets unit
  have k {u : State} (h : Safe u) {off : Nat} : Safe (unit off u) := by
    unfold unit
    split
    · exact h
    · exact .ite h.loseUnit h
  clear_value unit
  split
  · split
    · exact h
    · exact .ite h (k h)
  · exact k h
  · exact h
  · exact h
  · exact h
  · exact .foldl h fun _ _ k => k.connError

theorem Answers.dramUncorrectable {c rank cause owner} : Answers s (execDramUncorrectable c rank cause owner s) :=
  .ite (.next id) (.done fun h => .ite (.recoverLine (.ite h.bump.upd h.bump.upd.removeRank)) (.ite h.bump.upd
      h.bump.upd.removeRank))

theorem Answers.rankMigratedToSpare {c ms} : Answers s (execRankMigratedToSpare c ms s) := by
  unfold execRankMigratedToSpare
  split
  · exact .next id
  · exact .done fun h => h.upd.setRank.setRank.writeSettings.capture

theorem Safe.punRecover (h : Safe s) {p o} : Safe (s.punRecover p o) := by
  unfold State.punRecover
  split
  · split
    · exact h
    · exact h.modEntry
  · exact h.connError
  · split
    · exact h
    · exact h.modStream.send
  · split
    · exact h
    · exact h.giveLane
  · split
    · exact h
    · exact .giveLane (.ite h.freeFilling h)
  · exact h
  · exact h

theorem Answers.punnetUncorrectable {p word owner} : Answers s (execPunnetUncorrectable p word owner s) := by
  unfold execPunnetUncorrectable
  split
  · exact .next id
  · exact .ite (.next id) (.done fun h => h.bump.capture.punRecover)

theorem Answers.tableCopyError {table idx} : Answers s (execTableCopyError table idx s) :=
  .ite (.next id) (.done fun h => h.bump.capture)

theorem Answers.sramScrubPass {fixed} : Answers s (execSramScrubPass fixed s) :=
  .ite (.next id) (.done fun h => .foldl h fun _ _ k => k.bump.capture)

theorem Answers.quinceRefresh {fixed bad} : Answers s (execQuinceRefresh fixed bad s) := by
  unfold execQuinceRefresh
  refine .ite (.next id) (.done fun h => .capture (.upd ?_))
  split
  · exact .foldl h fun _ _ k => k.bump.capture
  · exact .quinceFail (.foldl h fun _ _ k => k.bump.capture)

theorem Answers.dramRefresh {c rank queued} : Answers s (execDramRefresh c rank queued s) :=
  .ite (.next id) (.ite (.done fun h => h.upd.bump) (.next fun h => h.upd))

theorem Answers.dramMr4Poll {c rank hot} : Answers s (execDramMr4Poll c rank hot s) :=
  .ite (.next id) (.ite (.done fun h => h.upd.capture) (.ite (.next fun h => h.upd) (.next id)))

theorem Answers.dramRetrainStep {c ok ns} : Answers s (execDramRetrainStep c ok ns s) :=
  .ite (.next id) (.ite (.done fun h => h.bump.upd.capture) (.next fun h => h.bump.upd))

theorem Answers.dramScrub {c lines fixed} : Answers s (execDramScrub c lines fixed s) :=
  .ite (.next id) (.ite (.done fun h => h.bump.upd.upd.capture) (.done fun h => h.bump.upd))

theorem Answers.dramScrubLapWarn : Answers s (execDramScrubLapWarn s) := .ite (.next id) (.done fun h => h.upd.capture)

theorem Safe.testResult (h : Safe s) {n} : Safe (s.testResult n).2 := by
  unfold State.testResult
  split
  · exact h
  · split
    · exact h
    · split
      · exact h
      · exact h.drawFree

theorem Safe.pnFlipWrite (h : Safe s) {v} : Safe (s.pnFlipWrite v) :=
  .ite h.setReg (.ite h.setReg.upd (.upd (.ite (.capture (.bump (.testResult (.ite h.setReg.setReg.setReg h.setReg)))) (.testResult
      (.ite h.setReg.setReg.setReg h.setReg)))))

theorem Answers.pnFlipArm {v} : Answers s (execPnFlipArm v s) := .done fun h => h.pnFlipWrite

theorem Answers.pnFlipRun {v} : Answers s (execPnFlipRun v s) := .done fun h => h.pnFlipWrite

theorem Answers.qFlipArm {v} : Answers s (execQFlipArm v s) := .next fun h => h.setReg

theorem Safe.dramFlipWrite (h : Safe s) {v} : Safe (s.dramFlipWrite v) :=
  .ite h.setReg (.ite (.upd (.testResult (.ite h.setReg.setReg.setReg h.setReg))) (.corrected (.drawFree (.upd (.testResult (.ite
      h.setReg.setReg.setReg h.setReg))))))

theorem Answers.dramFlipArm {v} : Answers s (execDramFlipArm v s) := .done fun h => h.dramFlipWrite

theorem Answers.dramFlipRun {v} : Answers s (execDramFlipRun v s) := .done fun h => h.dramFlipWrite

theorem Safe.retireCtl (h : Safe s) {v} : Safe (s.retireCtl v) := .ite h h.upd

theorem Answers.clearRanks {v} : Answers s (execClearRanks v s) := .next fun h => h.retireCtl

theorem Answers.clearPages {v} : Answers s (execClearPages v s) := .next fun h => h.retireCtl

/-! ### Machine/MediaUpkeep.lean -/

theorem Safe.mntCmd (h : Safe s) {v} : Safe (s.mntCmd v) := .ite (.predictAll (.ite h.newLap h)) (.ite h.newLap h)

theorem Answers.lapNow {v} : Answers s (execLapNow v s) := .done fun h => h.mntCmd

theorem Answers.eolNow {v} : Answers s (execEolNow v s) := .done fun h => h.mntCmd

theorem Safe.engage (h : Safe s) {eng job num} : Safe (s.engage eng job num) := h.upd

theorem Answers.maintenanceMoveStart {eng} : Answers s (execMaintenanceMoveStart eng s) := by
  unfold execMaintenanceMoveStart
  refine .ite (.next id) (.granted fun _ => ?_)
  split
  · exact .done fun h => h.moveBand.settleRelease
  · split
    · exact .next id
    · exact .done fun h => h.engage.moveBand.settleRelease

theorem Safe.waitSpace (h : Safe s) : Safe s.waitSpace := .ite h h.upd.capture

theorem Answers.rebuildStart {eng} : Answers s (execRebuildStart eng s) := by
  unfold execRebuildStart
  refine .ite (.next id) (.granted fun _ => ?_)
  split
  · exact .ite (.next fun h => h.waitSpace) (.done fun h => h.moveBand.settleRelease)
  · split
    · exact .next id
    · exact .ite (.next fun h => h.waitSpace) (.done fun h => h.engage.moveBand.settleRelease)

theorem Safe.setBoundary (h : Safe s) {b} : Safe (s.setBoundary b) := by
  unfold State.setBoundary
  split
  · exact h
  · exact h.jsync.upd

theorem Safe.endReshape (h : Safe s) : Safe s.endReshape := by
  unfold State.endReshape
  split
  · exact h
  · exact h.jsync.upd.writeSettings.setPool.capture

theorem Answers.reshapeBandStep : Answers s (execReshapeBandStep s) := by
  unfold execReshapeBandStep
  split
  · exact .next id
  · refine .ite (.next id) (.ite (.next fun h => h.endReshape) (.granted fun _ => ?_))
    split
    · exact .next fun h => h.setBoundary
    · split
      · exact .next fun h => h.setBoundary.reformNew
      · refine .next fun h => .closeBand ?_
        split
        · exact .ite h.padStream h
        · exact h
      · exact .ite (.next id) (.next fun h => h.moveBand.settleRelease)
      · exact .ite (.next id) (.next fun h => h.moveBand.settleRelease)
      · exact .next fun h => h.setBoundary
      · exact .next fun h => h.setBoundary

theorem Answers.eraseStart {band} : Answers s (execEraseStart band s) := .ite (.done fun h => h.startErase.gatherHost) (.next id)

theorem Safe.eraseFailed (h : Safe s) {b pos m} : Safe (s.eraseFailed b pos m) := by
  unfold State.eraseFailed
  extract_lets
  split
  · exact h.capture.capture.health.retireBlock
  · exact .ite h.capture.capture.health.retireBlock h.capture.capture.health.retireBlock.jsync.modBand.enqueueOp

theorem Answers.eraseStatus {band mem st busyUs} : Answers s (execEraseStatus band mem st busyUs s) := by
  unfold execEraseStatus
  refine .ite (.done fun h => h.slowOp.admitErase) ?_
  split
  · exact .next id
  · split
    · exact .next id
    · split
      · exact .next id
      · refine .ite (.next id) ?_
        extract_lets
        split
        · exact .done fun h => .gatherHost (.levelWear (.finishErase (.endOfLife (.ite
            h.endOp.slowOp.modBlock.health.modBand.health h.endOp.slowOp.modBlock.health.modBand))))
        · exact .done fun h => h.endOp.slowOp.eraseFailed.finishErase.gatherHost

theorem Answers.eraseStarved {band} : Answers s (execEraseStarved band s) := by
  unfold execEraseStarved
  split
  · exact .next id
  · exact .ite (.next fun h => h.modBand.capture) (.next id)

theorem Answers.eolPrediction : Answers s (execEolPrediction s) := .done fun h => h.predictAll

theorem Safe.flagRefresh (h : Safe s) {b} : Safe (s.flagRefresh b) := .ite h h.request.health.upd

theorem Safe.judge (h : Safe s) {b m st mem cw r} : Safe (s.judge b m st mem cw r) := by
  unfold State.judge
  extract_lets f lim pct found
  clear_value found
  split
  · have k {p : Prop} {_ : Decidable p} : Safe (if p then s.modBlock m.die m.block (fun x => { x with track := true }) else s) :=
      .ite h.modBlock h
    exact .ite k.flagRefresh k
  · exact h.bumpCh.flagRefresh
  · exact .ite h.bumpCh.grownDefect.health.upd.repairCw.health (.ite h.bumpCh.grownDefect.health.upd.repairCw.health
      h.bumpCh.grownDefect.health.upd.loseCw.health)

theorem Safe.lapBand (h : Safe s) {n} : Safe (s.lapBand n) := .ite h.upd h.upd.capture.health.upd.satField.newLap

theorem Answers.patrolReadComplete {band stripe mem cw r} : Answers s (execPatrolReadComplete band stripe mem cw r s) := by
  unfold execPatrolReadComplete
  split
  · exact .next id
  · split
    · exact .next id
    · exact .ite (.next id) (.granted fun _ => .done fun h => .ite (.lapBand (.judge (.upd (.health (.bump (.ite h.readBlock.bumpCh
        h)))))) (.judge (.upd (.health (.bump (.ite h.readBlock.bumpCh h))))))

theorem Answers.patrolLapOverrun : Answers s (execPatrolLapOverrun s) := .ite (.next fun h => h.upd.capture) (.next id)

theorem Safe.retentionDue (h : Safe s) {b} : Safe (s.retentionDue b) := .ite h.request.health.capture h

theorem Answers.retentionAgeUpdate : Answers s (execRetentionAgeUpdate s) := .next fun h => .foldl h.upd fun _ _ k => k.retentionDue

/-! ### Machine/Loops.lean -/

theorem Safe.takeConvs (h : Safe s) {convs} : Safe (s.takeConvs convs) := .ite (.upd (.ite h.upd.upd h.upd)) (.ite h.upd.upd h.upd)

theorem Safe.chargeRange (h : Safe s) : Safe s.chargeRange := .ite h.upd.capture (.ite h.upd.modSlot.capture h)

theorem Safe.holdMin (h : Safe s) {k i} : Safe (s.holdMin k i) := h.modSlot

theorem Safe.startDischarge (h : Safe s) : Safe s.startDischarge := h.holdMin.upd

theorem Safe.startTest (h : Safe s) {waiting auto} : Safe (s.startTest waiting auto) :=
  .ite h.upd.modSlot.startSlot.upd h.upd.startDischarge

theorem Safe.testFailed (h : Safe s) {cause} : Safe (s.testFailed cause) := h.upd.capture.answerEntry

theorem Safe.fault16 (h : Safe s) : Safe s.fault16 := .ite h.setEn.holdMin.modSlot.upd.testFailed h.setEn.holdMin.modSlot.upd

theorem Safe.faultCarrier (h : Safe s) {k} : Safe (s.faultCarrier k) :=
  .ite h.modSlot.loseCarrier.settleRelease (.ite h.modSlot.openSwitch.setDom.modCarrier.diesAbsent.settleDies.finishAdmit
      h.modSlot.openSwitch.setDom)

theorem Safe.faultSlot (h : Safe s) {k} : Safe (s.faultSlot k) :=
  .ite h.capture.faultCarrier (.ite h.capture.fault16 (.ite h.capture.modSlot h.capture.setEn.holdMin))

theorem Safe.rampedDown (h : Safe s) {k} : Safe (s.rampedDown k) := .ite h.openSwitch h

theorem Safe.runSlot (h : Safe s) {k} : Safe (s.runSlot k) :=
  .ite h.modSlot.faultSlot (.ite h.modSlot.rampedDown h.modSlot.capture.rampedDown)

theorem Safe.runCharger (h : Safe s) : Safe s.runCharger :=
  .ite h.chargeRange.setReg.holdMin (.ite (.ite h.chargeRange.setReg.runSlot.startDischarge h.chargeRange.setReg.runSlot)
      h.chargeRange.setReg)

theorem Answers.loopSample {slot convs} : Answers s (execLoopSample slot convs s) :=
  .ite (.next id) (.ite (.done fun h => .ite h.takeConvs.runCharger h.takeConvs.chargeRange) (.ite (.next fun h => h.takeConvs)
      (.ite (.next fun h => h.takeConvs) (.done fun h => h.takeConvs.runSlot))))

theorem Answers.followingErrorTimeout {slot} : Answers s (execFollowingErrorTimeout slot s) := by
  unfold execFollowingErrorTimeout
  split
  · exact .next id
  · exact .ite (.done fun h => h.modSlot.faultSlot) (.next id)

theorem Safe.loopFlags (h : Safe s) {k v raised} : Safe (s.loopFlags k v raised) := .ite h.modSlot.modSlot h.modSlot

theorem Answers.loopFlagClear {slot v raised} : Answers s (execLoopFlagClear slot v raised s) := .next fun h => h.loopFlags

theorem Safe.loopCtlWrite (h : Safe s) {k v} : Safe (s.loopCtlWrite k v) := .ite h.setReg.modSlot h.setReg

theorem Safe.loopWrite (h : Safe s) {k off v raised} : Safe (s.loopWrite k off v raised) := by
  unfold State.loopWrite
  refine .ite h ?_
  extract_lets
  split
  · exact h.loopCtlWrite
  · exact h.loopFlags
  · exact h.setReg
  · exact h.setReg
  · exact h.setReg
  · exact h.setReg
  · exact h.setReg
  · exact .ite h h.setReg.modSlot
  · exact .ite h h.setReg
  · exact .ite h h.setReg
  · exact h

theorem Answers.loopCoeffWrite {slot off v} : Answers s (execLoopCoeffWrite slot off v s) :=
  .ite (.next fun h => h.loopWrite) (.next id)

theorem Answers.loopTargetWrite {slot off v} : Answers s (execLoopTargetWrite slot off v s) :=
  .ite (.next fun h => h.loopWrite) (.next id)

theorem Answers.dirtyLimitUpdate : Answers s (execDirtyLimitUpdate s) :=
  .ite (.next id) (.ite (.next fun h => h.upd.capture) (.next fun h => h.upd))

theorem Answers.holdUpTest {e} : Answers s (execHoldUpTest e s) := by
  refine .next fun h => .withCmd h fun _ _ k => .ite k.reply ?_
  split
  · exact k.answer
  · exact k.waitCmd.startTest

theorem Answers.holdupTestAuto : Answers s (execHoldupTestAuto s) := .ite (.next fun h => h.startTest) (.next id)

theorem Safe.finishTest (h : Safe s) {c esr} : Safe (s.finishTest c esr) :=
  .answerEntry (.ite h.upd.startSlot.writeSettings.capture h.upd.startSlot.writeSettings.capture)

theorem Answers.holdupDischargeEnd {v1 charge esr} : Answers s (execHoldupDischargeEnd v1 charge esr s) :=
  .ite (.next id) (.ite (.ite (.done fun h => h.finishTest) (.done fun h => h.drawFree.finishTest)) (.ite (.done fun h =>
      h.startSlot.testFailed) (.next id)))

theorem Answers.holdupRechargeTimeout : Answers s (execHoldupRechargeTimeout s) := .ite (.done fun h => h.fault16) (.next id)

theorem Safe.hotter (h : Safe s) : Safe s.hotter := .ite (.capture (.upd (.ite h.upd.capture h))) (.ite h.upd.capture h)

theorem Safe.cooler (h : Safe s) : Safe s.cooler := .ite (.capture (.upd (.ite h.upd.capture h))) (.ite h.upd.capture h)

theorem Safe.minuteSample (h : Safe s) : Safe s.minuteSample := h.upd

theorem Answers.thermalSample {tj} : Answers s (execThermalSample tj s) :=
  .ite (.next id) (.done fun h => h.upd.hotter.cooler.upd.minuteSample)

theorem Safe.setLimitFrom (h : Safe s) {old n} : Safe (s.setLimitFrom old n) := .ite h.upd.upd h.upd.upd.setTarget

theorem Safe.setLimit (h : Safe s) {n} : Safe (s.setLimit n) := h.setLimitFrom

theorem Safe.stepDown (h : Safe s) {cause} : Safe (s.stepDown cause) := .ite h h.setLimit.upd.capture

theorem Answers.thermalLimitStep : Answers s (execThermalLimitStep s) :=
  .ite (.next id) (.ite (.next fun h => h.upd.stepDown) (.next id))

theorem Answers.rorStep : Answers s (execRorStep s) := by
  unfold execRorStep
  extract_lets
  split
  · exact .next id
  · exact .ite (.next fun h => h.upd.stepDown) (.next id)

theorem Answers.thermalLimitRise : Answers s (execThermalLimitRise s) := by
  unfold execThermalLimitRise
  extract_lets
  split
  · exact .next id
  · exact .ite (.ite (.next fun h => h.upd.setLimit.capture) (.next fun h => h.upd.setLimit)) (.next id)

theorem Safe.plimWrite (h : Safe s) {v} : Safe (s.plimWrite v) := h.setReg.setLimitFrom

theorem Answers.pkgLimitWrite {v} : Answers s (execPkgLimitWrite v s) := .next fun h => h.plimWrite

theorem Answers.plimFloorWrite {v} : Answers s (execPlimFloorWrite v s) := .next fun h => h.plimWrite

theorem Safe.offsetWrite (h : Safe s) {v} : Safe (s.offsetWrite v) := h.setReg.capture

theorem Answers.thOffsetWrite {v} : Answers s (execThOffsetWrite v s) := .next fun h => h.offsetWrite

theorem Safe.tempMinute (h : Safe s) : Safe s.tempMinute := .ite (.satEvent (.ite h.upd.satEvent h.upd)) (.ite h.upd.satEvent h.upd)

/-! ### Machine/PowerCmds.lean -/

theorem Answers.powerStateEntry : Answers s (execPowerStateEntry s) :=
  .ite (.next fun h => h.trackIdle.evalTolerance.enterState) (.next fun h => h.trackIdle.evalTolerance)

theorem Answers.toleranceEvaluation : Answers s (execToleranceEvaluation s) := by
  unfold execToleranceEvaluation
  extract_lets p s1 s2
  have h2 (h : Safe s) : Safe s2 := .evalTolerance (.trackIdle (.ite h.upd h))
  exact .ite (.next fun h => (h2 h).leaveTo) (.ite (.next fun h => (h2 h).leaveTo) (.next h2))

theorem Safe.framed (h : Safe s) : Safe s.framed := h.wakePort.wakeXoff

theorem Answers.wakeEvent {src lateUs} : Answers s (execWakeEvent src lateUs s) := by
  unfold execWakeEvent
  extract_lets
  split
  · exact .ite (.next fun h => h.leaveTo) (.ite (.next fun h => h.leaveTo.framed) (.next id))
  · exact .ite (.next fun h => h.leaveTo.framed) (.next id)
  · exact .next fun h => h.evalTolerance.leaveTo
  · exact .next fun h => h.leaveTo
  · exact .ite (.next fun h => h.leaveTo) (.next id)
  · exact .next fun h => .ite h h.upd.leaveTo
  · exact .ite (.next fun h => h.leaveTo) (.next id)
  · exact .next id
  · exact .next id

theorem Answers.maintenanceWake : Answers s (execMaintenanceWake s) := by
  unfold execMaintenanceWake
  split
  · exact .next id
  · exact .ite (.next fun h => h.leaveTo.upd.capture) (.next id)

theorem Answers.apstTransition {cntl} : Answers s (execApstTransition cntl s) := by
  unfold execApstTransition
  split
  · exact .next id
  · exact .ite (.next fun h => h.modCtrl.evalTolerance) (.next id)

theorem Answers.seedHoursRead : Answers s (execSeedHoursRead s) := .next fun h => h.upd

theorem Safe.rtcLo (h : Safe s) {v} : Safe (s.rtcLo v) := h.upd

theorem Answers.seedRtcLoWrite {v} : Answers s (execSeedRtcLoWrite v s) := .next fun h => h.rtcLo

theorem Safe.cmpMinute (h : Safe s) : Safe s.cmpMinute := h.upd

theorem Safe.minuteTick (h : Safe s) : Safe s.minuteTick := .ite h.upd h.upd.tempMinute.meterTick.cmpMinute.evSummaries

theorem Safe.rtcHi (h : Safe s) {v} : Safe (s.rtcHi v) := .capture (.ite h.upd.minuteTick h.upd)

theorem Answers.seedRtcHiWrite {v} : Answers s (execSeedRtcHiWrite v s) := .next fun h => h.rtcHi

theorem Answers.minuteTick : Answers s (execMinuteTick s) := .done fun h => h.minuteTick

theorem Answers.meteringMsSum : Answers s (execMeteringMsSum s) := .ite (.next id) (.next fun h => h.meterMs.upd)

theorem Answers.seedHourRollover : Answers s (execSeedHourRollover s) :=
  .ite (.next id) (.next fun h => .writeSettings (.ite h.upd.capture h.upd))

theorem Answers.crystalStop : Answers s (execCrystalStop s) :=
  .ite (.next id) (.ite (.next fun h => h.upd.capture) (.next fun h => h.upd.upd))

theorem Answers.crystalRestore : Answers s (execCrystalRestore s) := .ite (.next fun h => h.upd) (.next id)

theorem Safe.clrRc (h : Safe s) {v} : Safe (s.clrRc v) := .ite h.upd h

theorem Answers.clrRc {v} : Answers s (execClrRc v s) := .next fun h => h.clrRc

theorem Answers.pllLockTimeout {pll} : Answers s (execPllLockTimeout pll s) :=
  .ite (.next id) (.ite (.next fun h => h.upd.capture) (.next fun h => h.upd))

/-! ### Machine/Firmware.lean -/

theorem Safe.putSlot (h : Safe s) {k b bad} : Safe (s.putSlot k b bad) := h.upd

theorem Safe.norFailed (h : Safe s) {w} : Safe (s.norFailed w) := by
  unfold State.norFailed
  split
  · exact h.capture
  · exact h

theorem Safe.norWrite (h : Safe s) {o n} : Safe (s.norWrite o n) := h.bump.bump

theorem Safe.fwRefuse (h : Safe s) {c r} : Safe (s.fwRefuse c r) := h.upd.answer

theorem Safe.takePiece (h : Safe s) {c w} : Safe (s.takePiece c w) :=
  .ite (.upd (.putSlot (.upd (.norWrite (.norWrite (.ite h.dropStaging.upd h)))))) (.upd (.norWrite (.norWrite (.ite
      h.dropStaging.upd h))))

theorem Safe.endOffer (h : Safe s) {r} : Safe (s.endOffer r) := .ite h.dropStaging.upd h

theorem Answers.firmwareImageDownload {e w} : Answers s (execFirmwareImageDownload e w s) := by
  refine .next fun h => .withCmd h fun _ _ k => .ite k ?_
  split
  · exact k.endOffer.fwRefuse
  · exact .ite k.takePiece.norFailed k.takePiece.norFailed.reply

theorem Safe.loadSettings (h : Safe s) {x} : Safe (s.loadSettings x) := .upd (.foldl h fun _ _ k => k.endCtrls)

theorem Safe.unpin (h : Safe s) {g} : Safe (s.unpin g) := by
  unfold State.unpin
  split
  · exact h
  · exact h.upd.loadSettings

theorem Safe.noticeActivation (h : Safe s) : Safe s.noticeActivation := h.notifyAll

theorem Safe.redispatch (h : Safe s) : Safe s.redispatch := h.upd

theorem Safe.startProbation (h : Safe s) {slot b} : Safe (s.startProbation slot b) := h.upd

theorem Safe.activate (h : Safe s) {settingsOk} : Safe (s.activate settingsOk).2 := by
  unfold State.activate
  extract_lets k s1 pin s2 s3 s4 s5
  have h1 : Safe s1 := h.noticeActivation
  have h3 : Safe s3 := h1.upd.bump
  have h5 : Safe s5 := h3.dropStaging.upd
  clear_value s5 s4 s3 s2 pin s1
  split
  · exact h1
  · split
    · exact h1.capture
    · split
      · exact h5.redispatch.bump.capture
      · exact h3.redispatch.startProbation.capture

theorem Safe.revert (h : Safe s) {cause} : Safe (s.revert cause) := by
  unfold State.revert
  extract_lets s1 a k gens s2 s3 f old s4 s5
  have h2 : Safe s2 := h.noticeActivation.upd
  have h3 : Safe s3 := .ite h2 h2.unpin
  have h5 : Safe s5 := h3.upd.redispatch
  exact h5.bump.bump.capture

theorem Safe.burnFuse (h : Safe s) : Safe s.burnFuse := .ite h.upd.capture h

theorem Safe.writeLoader (h : Safe s) {n l} : Safe (s.writeLoader n l) := h.upd.norWrite.capture

theorem Safe.updateLoader (h : Safe s) : Safe s.updateLoader := by
  unfold State.updateLoader
  split
  · exact h
  · exact .ite h h.upd.writeLoader.upd

theorem Safe.confirm (h : Safe s) {how} : Safe (s.confirm how) := h.upd.capture.burnFuse.updateLoader

theorem Safe.commitFw (h : Safe s) {c settingsOk} : Safe (s.commitFw c settingsOk) := by
  unfold State.commitFw
  extract_lets ca src k sv st s1 s2
  have h2 : Safe s2 := h.upd.capture
  clear_value s2
  refine .ite ?_ (.ite h2.reply.activate h2.reply)
  have h3 := h2.activate (settingsOk := settingsOk)
  split
  · next e => rw [e] at h3; exact h3.reply
  · next e => rw [e] at h3; exact h3.fwRefuse

theorem Answers.firmwareCommit {e settingsOk} : Answers s (execFirmwareCommit e settingsOk s) := by
  refine .next fun h => .withCmd h fun _ _ k => ?_
  split
  · exact k.fwRefuse
  · exact k.commitFw

theorem Answers.firmwareConfirm {e} : Answers s (execFirmwareConfirm e s) :=
  .next fun h => .withCmd h fun _ _ k => .ite k.reply (.ite k.fwRefuse (.ite k.revert.reply k.confirm.reply))

theorem Answers.probationExpiry : Answers s (execProbationExpiry s) := by
  unfold execProbationExpiry
  split
  · exact .next id
  · exact .ite (.next id) (.ite (.next fun h => h.revert) (.ite (.next fun h => h.revert) (.next fun h => h.confirm)))

theorem Safe.sendPiece (h : Safe s) {o b} : Safe (s.sendPiece o b) := h.upd.send

theorem Answers.firmwareForward : Answers s (execFirmwareForward s) := by
  unfold execFirmwareForward
  refine .ite (.next id) ?_
  split
  · exact .next id
  · exact .next fun h => h.upd.sendPiece

theorem Safe.fwdDone (h : Safe s) : Safe s.fwdDone := h.upd

theorem Answers.forwardCompletionReceived {reason} : Answers s (execForwardCompletionReceived reason s) := by
  unfold execForwardCompletionReceived
  refine .ite (.next id) ?_
  split
  · exact .next fun h => h.upd
  · exact .next fun h => h.fwdDone
  · exact .next fun h => h.upd.capture
  · split
    · exact .next id
    · exact .ite (.next fun h => h.fwdDone.bump.capture) (.ite (.next fun h => h.sendPiece) (.next fun h => h.upd.send))

theorem Answers.forwardRetry : Answers s (execForwardRetry s) := by
  unfold execForwardRetry
  refine .ite (.next id) ?_
  split
  · exact .next id
  · exact .next fun h => h.sendPiece

/-! ### Machine/PowerFail.lean -/

theorem Safe.unwear (h : Safe s) : Safe s.unwear := .foldl h fun _ _ k => .foldl k fun _ _ m => m.modBlock

/-- Power-off keeps one stored word of the control space at most (R30, R213). -/
theorem Safe.powerOff (h : Safe s) : Safe s.powerOff := regWf_filter h.unwear _

theorem Safe.abandonTest (h : Safe s) : Safe s.abandonTest := .ite h h.upd

theorem Safe.beginFlush (h : Safe s) {trigger} : Safe (s.beginFlush trigger) :=
  .upd (.foldl h.abandonTest.upd.jwrite fun _ _ k => k.post)

theorem Safe.resetProgs (h : Safe s) {t} : Safe (s.resetProgs t) := h.upd

theorem Safe.flushVoid (h : Safe s) {t} : Safe (s.flushVoid t) := h.jsync.onFlash.resetProgs.dropStripe.closeBand.capture.restage

theorem Safe.flushStripes (h : Safe s) {passed} : Safe (s.flushStripes passed) :=
  .foldl h fun _ _ k => .ite k.dropStripe.restage (.ite k.resetProgs.commitStripe k.flushVoid)

theorem Safe.voidLanding (h : Safe s) {t mem late} : Safe (s.voidLanding t mem late) := h.jsync.dropStripe.closeBand.capture

theorem Safe.landStripe (h : Safe s) {t items last} : Safe (s.landStripe t items last) :=
  .ite (.capture (.fillBand (.dropStripe (.onFlash (.foldl h.jsync fun _ _ k => k.commitBuf))))) (.fillBand (.dropStripe (.onFlash
      (.foldl h.jsync fun _ _ k => k.commitBuf))))

theorem Safe.landingRange (h : Safe s) : Safe s.landingRange := .foldl h fun _ _ k => .ite k.capture k

theorem Safe.landAll (h : Safe s) {fails n done_ l fuel} : Safe (s.landAll fails n done_ l fuel).2.2 := by
  induction fuel generalizing s n done_ l with
  | zero => exact h
  | succ m ih =>
    unfold State.landAll
    extract_lets
    split
    · exact h
    · extract_lets
      split
      · exact h
      · split
        · exact ih h.openStripe.voidLanding
        · exact ih h.openStripe.landStripe

theorem Safe.endFlush (h : Safe s) {trigger stop dirty ms stripes} : Safe (s.endFlush trigger stop dirty ms stripes) :=
  h.meterTick.writeSettings.jwrite.upd.capture.powerOff

theorem Safe.emergencyFlush (h : Safe s) {trigger stop f} : Safe (s.emergencyFlush trigger stop f) :=
  .ite (.endFlush (.landAll (.ite h.beginFlush.flushStripes h.beginFlush.flushStripes.landingRange))) (.landAll (.ite
      h.beginFlush.flushStripes h.beginFlush.flushStripes.landingRange))

theorem Safe.quietOff (h : Safe s) {cause} : Safe (s.quietOff cause) := h.powerOff.upd

theorem Safe.powerTrigger (h : Safe s) {trigger f} : Safe (s.powerTrigger trigger f) :=
  .ite h (.ite h.powerOff (.ite h.abandonTest.quietOff h.emergencyFlush))

theorem Answers.pwrFailAssert {f} : Answers s (execPwrFailAssert f s) := .next fun h => h.upd.powerTrigger

theorem Answers.prsntNDeassert {f} : Answers s (execPrsntNDeassert f s) := .next fun h => h.upd.powerTrigger

theorem Safe.cutOff (h : Safe s) : Safe s.cutOff := .powerOff (.ite h.upd h)

theorem Answers.hubLowAssert : Answers s (execHubLowAssert s) :=
  .ite (.next fun h => h.upd) (.ite (.next fun h => h.upd.cutOff) (.ite (.next fun h => h.upd.leaveTo) (.next fun h => h.upd)))

theorem Safe.cutRoot (h : Safe s) : Safe s.cutRoot := .ite h.drawFree.upd h

theorem Answers.mainRailOutOfRange : Answers s (execMainRailOutOfRange s) :=
  .ite (.next fun h => h.cutRoot.upd.cutOff) (.next fun h => h.cutRoot.upd)

theorem Answers.mainRailsInRange : Answers s (execMainRailsInRange s) := .ite (.next fun h => h.upd) (.next id)

theorem Answers.sledPresenceAssert : Answers s (execSledPresenceAssert s) := .next fun h => h.upd

theorem Answers.overTemperatureTrip {f} : Answers s (execOverTemperatureTrip f s) := by
  unfold execOverTemperatureTrip
  extract_lets x s1 t s2 s3 s4
  have h4 (h : Safe s) : Safe s4 := .capture (.ite h.upd.upd.satEvent h.upd.upd)
  exact .ite (.next id) (.ite (.next fun h => h.upd) (.ite (.next h4) (.ite (.next fun h => (h4 h).powerOff)
    (.ite (.next fun h => (h4 h).abandonTest.writeSettings.quietOff) (.next fun h => (h4 h).emergencyFlush)))))

theorem Answers.vddSeedLoss : Answers s (execVddSeedLoss s) := .next fun _ => rfl

theorem Answers.vddSeedReturn : Answers s (execVddSeedReturn s) := .ite (.next id) (.next fun h => h.upd)

/-! ### Machine/ControlSpace.lean -/

theorem Safe.afterRead (h : Safe s) {off} : Safe (s.afterRead off) := .ite h.upd (.ite h.upd h)

theorem Safe.mgAuthWrite (h : Safe s) {v writer} : Safe (s.mgAuthWrite v writer) :=
  .ite h.setReg (.ite h.setReg.upd h.setReg.upd.writeSettings.capture)

theorem Safe.plainWrite (h : Safe s) {off v} : Safe (s.plainWrite off v) := by
  unfold State.plainWrite
  split
  · exact h
  · exact h.setReg

theorem Safe.nextOr (h : Safe s) {o} (ho : Answers s o) : Safe (nextOr s o) := by
  obtain ⟨t, rfl, k⟩ := ho
  exact k h

theorem Safe.checkedWrite (h : Safe s) {off v ok} : Safe (s.checkedWrite off v ok) := .ite h.plainWrite h

theorem Safe.ldpcFlipWrite (h : Safe s) {v} : Safe (s.ldpcFlipWrite v) := h.setReg

theorem Safe.huCfg0Write (h : Safe s) {v} : Safe (s.huCfg0Write v) := .ite h.plainWrite h.plainWrite.setTarget

theorem Safe.chanWrite (h : Safe s) {off v} : Safe (s.chanWrite off v) := by
  unfold State.chanWrite
  extract_lets
  split
  · exact h.checkedWrite
  · exact .nextOr h .chDieSelWrite
  · exact h.clearCounters
  · exact .ite h.clearCounters h
  · exact .ite h.ldpcFlipWrite h
  · exact h.plainWrite

theorem Safe.writeReg (h : Safe s) {off v writer} : Safe (s.writeReg off v writer) := by
  unfold State.writeReg
  refine .ite h (.ite h.loopWrite (.ite h.setReg (.ite h.upd (.ite h.checkedWrite (.ite h.chanWrite ?_)))))
  split
  · exact h.rtcLo
  · exact h.rtcHi
  · exact h.clrRc
  · exact h.clearCounters
  · exact h.checkedWrite
  · exact h.plimWrite
  · exact h.offsetWrite
  · exact h.huCfg0Write
  · exact h.checkedWrite
  · exact h.mgAuthWrite
  · exact h.pnFlipWrite
  · exact .nextOr h .qFlipArm
  · exact h.clearCounters
  · exact h.retireCtl
  · exact h.dramFlipWrite
  · exact h.clearCounters
  · exact h.clearCounters
  · exact h.checkedWrite
  · exact h.mntCmd
  · exact h.laneCfg
  · exact h.clearCounters
  · exact h.clearCounters
  · exact h.clearCounters
  · exact .nextOr h .ceCctSelWrite
  · exact h.clearCounters
  · exact h.clearCounters
  · exact h.clearCounters
  · exact h.plainWrite

theorem Answers.registerWrite {off v} : Answers s (execRegisterWrite off v s) := .ite (.done fun h => h.writeReg) (.next id)

theorem Answers.ldpcFlipArm {v} : Answers s (execLdpcFlipArm v s) := .next fun h => h.ldpcFlipWrite

theorem Answers.portCntClr {p v} : Answers s (execPortCntClr p v s) := .ite (.next id) (.next fun h => h.clearCounters)

theorem Answers.ceCntClr {v} : Answers s (execCeCntClr v s) := .next fun h => h.clearCounters

theorem Answers.chCntClr {ch v} : Answers s (execChCntClr ch v s) := .ite (.next id) (.next fun h => h.clearCounters)

theorem Answers.ldpcCntClr {v} : Answers s (execLdpcCntClr v s) := .next fun h => h.clearCounters

theorem Answers.strCntClr {v} : Answers s (execStrCntClr v s) := .next fun h => h.clearCounters

theorem Answers.cmpCntClr {v} : Answers s (execCmpCntClr v s) := .next fun h => h.clearCounters

theorem Answers.pnCntClr {v} : Answers s (execPnCntClr v s) := .next fun h => h.clearCounters

theorem Answers.dramCntClr {v} : Answers s (execDramCntClr v s) := .next fun h => h.clearCounters

theorem Answers.psCntClr {v} : Answers s (execPsCntClr v s) := .next fun h => h.clearCounters

theorem Answers.norCntClr {v} : Answers s (execNorCntClr v s) := .next fun h => h.clearCounters

theorem Answers.fwCntClr {v} : Answers s (execFwCntClr v s) := .next fun h => h.clearCounters

theorem Answers.stickyClear {g v raised} : Answers s (execStickyClear g v raised s) := .ite (.next id) (.next fun h => h.setReg)

theorem Answers.mgAuthCommit {v writer} : Answers s (execMgAuthCommit v writer s) := .done fun h => h.mgAuthWrite

theorem Answers.eventCapture {code p0 p1 p2 p3} : Answers s (execEventCapture code p0 p1 p2 p3 s) := .next fun h => h.capture

theorem Safe.ctlRead (h : Safe s) {offs} : Safe (s.ctlRead offs).2 :=
  foldl_keeps (fun r : List Byte × State => Safe r.2) _ _ _ h fun _ _ _ k => k.afterRead

theorem Safe.ctlWrite (h : Safe s) {c writer} : Safe (s.ctlWrite c writer) := .foldl h fun _ _ k => k.writeReg

theorem Answers.controlRead {e} : Answers s (execControlRead e s) :=
  .next fun h => .withCmd h fun _ _ k => .ite k (.ite k.reply k.ctlRead.finish)

theorem Answers.controlWrite {e} : Answers s (execControlWrite e s) :=
  .done fun h => .withCmd h fun _ _ k => .ite k (.ite k.reply (.ite k k.ctlWrite.reply))

theorem Safe.logClear (h : Safe s) {n} : Safe (s.logClear n) := h.upd.capture.upd

theorem Answers.eventLogClear {e} : Answers s (execEventLogClear e s) := by
  refine .next fun h => .withCmd h fun _ _ k => ?_
  split
  · exact k.answer
  · exact k.logClear.answer

/-! ### Machine/ConfigImage.lean -/

theorem Safe.putLive (h : Safe s) {r} : Safe (s.putLive r) := h.upd

theorem Safe.applyEntries (h : Safe s) {es writer} : Safe (s.applyEntries es writer) := .foldl h fun _ _ k => k.writeReg

theorem Safe.ringClose (h : Safe s) {nb} : Safe (s.ringClose nb) := .assocLost (.assocLost (.foldl h fun _ _ k => k.endConn))

theorem Safe.actLive (h : Safe s) {r writer} : Safe (s.actLive r writer) := by
  unfold State.actLive
  extract_lets
  split
  · exact h.upd
  · exact .ite h.upd h.upd.ringClose.ringClose
  · exact h.trimPslc
  · exact h.upd.writeSettings.ringClose.ringClose
  · exact h.applyEntries
  · exact h.upd
  · exact h

theorem Safe.applyRecord {x : Nat × State} (h : Safe x.2) {writer r} : Safe (State.applyRecord writer x r).2 := by
  unfold State.applyRecord
  obtain ⟨n, s⟩ := x
  dsimp only
  split
  · split
    · exact h.upd
    · exact h
  · split
    · exact h.upd
    · exact .actLive (.ite h h.putLive)

theorem Safe.applyLive (h : Safe s) {l writer} : Safe (s.applyLive l writer).2 :=
  foldl_keeps (fun x : Nat × State => Safe x.2) _ _ _ h fun _ _ _ k => k.applyRecord

theorem Safe.storeCopy (h : Safe s) {b len w} : Safe (s.storeCopy b len w).2 := by
  unfold State.storeCopy
  extract_lets n
  split
  · exact h
  · exact .ite h.upd.norWrite h.upd.norWrite.norFailed

theorem Safe.cfgRefuse (h : Safe s) {c status dw0} : Safe (s.cfgRefuse c status dw0) := h.answer.capture

theorem Safe.applyConfig (h : Safe s) {c b w} : Safe (s.applyConfig c b w) := by
  unfold State.applyConfig
  extract_lets l apply store fixed
  have h1 : Safe (if apply then s.applyLive l c.cntl else (0, s)).2 := by
    split
    · exact h.applyLive
    · exact h
  split
  next n s1 e =>
  rw [e] at h1
  have h2 : Safe (if store then s1.storeCopy b c.cap.dw11.toNat w else (false, s1)).2 := by
    split
    · exact h1.storeCopy
    · exact h1
  split
  next stored s2 e2 =>
  rw [e2] at h2
  exact .ite h2.upd h2.upd.answer.capture

theorem Answers.applyConfiguration {e w} : Answers s (execApplyConfiguration e w s) := by
  refine .done fun h => .withCmd h fun _ _ k => .ite k.cfgRefuse (.ite k.cfgRefuse (.ite k ?_))
  extract_lets
  split
  · exact k.upd.cfgRefuse
  · exact k.applyConfig

theorem Safe.closeIface (h : Safe s) {i} : Safe (s.closeIface i) :=
  .foldl (.foldl (.foldl h fun _ _ k => k.loseHost) fun _ _ k => .ite k.endConn k) fun _ _ k => k.ringClose

theorem Safe.actAddressing (h : Safe s) {r} : Safe (s.actAddressing r) := by
  unfold State.actAddressing
  extract_lets
  split
  · exact h.upd
  · exact h.upd
  · exact h.upd
  · exact h.ringClose.upd
  · exact h

theorem Answers.configAddressingApply : Answers s (execConfigAddressingApply s) :=
  .ite (.next id) (.done fun h => .upd (.foldl (.foldl h fun _ _ k => k.closeIface) fun _ _ k => k.actAddressing.putLive))

/-! ### Machine/Recovery.lean -/

theorem Safe.replayMap (h : Safe s) : Safe s.replayMap := h.upd

theorem Safe.voidOpen (h : Safe s) : Safe s.voidOpen.2 := by
  unfold State.voidOpen
  extract_lets l reloc n s1
  have h1 : Safe s1 := .foldl h fun _ _ k => k.jwrite
  exact .ite h1 h1.health.capture

theorem Safe.loseBuffered (h : Safe s) {c} : Safe (s.loseBuffered c) := by
  unfold State.loseBuffered
  extract_lets
  split
  · exact .capture (.foldl h fun _ _ k => k.loseUnit)
  · exact .capture (.foldl h fun _ _ k => k.loseUnit)
  · exact .foldl h fun _ _ k => k.loseUnit

theorem Safe.recoverBands (h : Safe s) : Safe s.recoverBands := .ite h.upd h.upd.capture

theorem Safe.resetOffsets (h : Safe s) : Safe s.resetOffsets := h.upd

theorem Safe.addReads (h : Safe s) : Safe s.addReads := .capture (.upd (.foldl h fun _ _ k => k.readBlock))

theorem Safe.ageOff (h : Safe s) {lost restored} : Safe (s.ageOff lost restored) := by
  unfold State.ageOff
  refine .ite (.ite h h.newLap.upd.capture) ?_
  split
  · exact h
  · exact h.upd

theorem Safe.recoverSlices (h : Safe s) : Safe s.recoverSlices := .ite h.upd h.upd.capture

theorem Safe.recoverL4 (h : Safe s) : Safe s.recoverL4 := by
  unfold State.recoverL4
  refine .ite h ?_
  split
  · exact .ite h.l4Minutes h.l4Minutes.capture
  · exact h

theorem Safe.discardPartial (h : Safe s) : Safe s.discardPartial := .foldl h fun _ _ k => k.discardCopy.capture

theorem Safe.takeMapUnit (h : Safe s) : Safe s.takeMapUnit := .ite h (.ite h.upd h.capture)

theorem Safe.bootPool (h : Safe s) : Safe s.bootPool := by
  unfold State.bootPool
  extract_lets
  split
  · exact h.setPool
  · exact .ite h.setPool.capture h.setPool

theorem Safe.startLanding (h : Safe s) : Safe s.startLanding := .ite h.upd h

theorem Safe.spendStops (h : Safe s) : Safe s.spendStops := h.upd

theorem Safe.recover (h : Safe s) {lost restored} : Safe (s.recover lost restored) := by
  unfold State.recover
  extract_lets c n j s1 s2 v s3 s4 s5 s6 s7 s8 ms
  have h2 : Safe s2 := h.upd.recoverSlices.recoverL4
  have h4 : Safe s4 := h2.voidOpen.loseBuffered.spendStops.recoverBands.resetOffsets.ageOff
  have h5 : Safe s5 := .ite h4.addReads h4
  have h8 : Safe s8 := h5.takeMapUnit.discardPartial.settle.settleRelease.bootPool.fitPages.startLanding
  exact h8.drawFree.capture

/-! ### Machine/Boot.lean -/

theorem Safe.bootStart (h : Safe s) : Safe s.bootStart := by
  unfold State.bootStart
  extract_lets sv x pc new x2 l sd s1 s2 s3 s4
  have h2 : Safe s2 := h.upd.putDoms
  have h4 : Safe s4 := .captureLatched (.ite h2.capture h2)
  clear_value s4 sv
  split
  · exact h4.capture
  · exact h4

theorem Safe.enterHold (h : Safe s) {step cause} : Safe (s.enterHold step cause) := h.capture.putDoms.upd

theorem Safe.takeNor (h : Safe s) {n} : Safe (s.takeNor n) := by
  unfold State.takeNor
  split
  · exact h
  · exact h.upd

theorem Safe.bootFrom (h : Safe s) {n f} : Safe (s.bootFrom n f) := .ite h.upd h.upd.capture

theorem Safe.flushBoot (h : Safe s) : Safe s.flushBoot := .foldl h.upd fun _ _ k => k.evWrite

theorem Safe.settleRecord (h : Safe s) : Safe s.settleRecord :=
  .ite h.dropStaging.upd.capture (.ite (.capture (.bump (.upd (.dropStaging (.upd (.ite h h.unpin)))))) h)

theorem Safe.takeSettings (h : Safe s) : Safe s.takeSettings.2 := by
  unfold State.takeSettings
  split
  · exact h
  · refine .loadSettings ?_
    split
    · exact h.upd.capture
    · exact h.upd

theorem Safe.checkCopy (h : Safe s) {n} : Safe (s.checkCopy n).2 := by
  unfold State.checkCopy
  split
  · exact h.capture
  · split
    · exact h
    · exact h.capture

theorem Safe.takeImage (h : Safe s) : Safe s.takeImage.2 := by
  unfold State.takeImage
  extract_lets a b s1 pick
  have h1 : Safe s1 := h.checkCopy.checkCopy
  clear_value pick s1
  split
  · exact h1
  · exact h1.upd

theorem Safe.bootEntry (h : Safe s) {e} : Safe (s.bootEntry e) := .ite h.loopWrite (.ite h.setReg h)

theorem Safe.bootRegisters (h : Safe s) : Safe s.bootRegisters := by
  refine .foldl h fun _ _ k => ?_
  split
  · exact .foldl k fun _ _ m => m.bootEntry
  · exact k.upd
  · exact k

theorem Safe.bootLoops (h : Safe s) : Safe s.bootLoops := by
  unfold State.bootLoops
  extract_lets
  split
  · exact h.upd.startSlot.startSlot
  · exact h.upd.startSlot.startSlot.upd.capture

theorem Safe.bootRemove (h : Safe s) {c r} : Safe (s.bootRemove c r).2 := by
  unfold State.bootRemove
  extract_lets sp used s1
  have h1 : Safe s1 := h.setRank
  clear_value sp s1
  split
  · split
    · exact h1.setRank
    · exact h1
  · exact h1

theorem Safe.applyTable (h : Safe s) : Safe s.applyTable := by
  unfold State.applyTable
  extract_lets m t rk ch m2 s1 s2 s3
  have h2 : Safe s2 := .foldl h.upd fun _ _ k => .ite k k.bootRemove
  have h3 : Safe s3 := .foldl h2 fun _ _ k => .ite k.setRank k
  exact .ite h3.writeSettings h3

theorem Safe.rankFailed (h : Safe s) {x} : Safe (s.rankFailed x) := .ite h h.bootRemove.upd.writeSettings.capture

theorem Safe.bootDram (h : Safe s) {f} : Safe (s.bootDram f) := .upd (.foldl h.putDoms.applyTable fun _ _ k => k.rankFailed)

theorem Safe.bootSlot (h : Safe s) {f k} : Safe (s.bootSlot f k).2 := by
  unfold State.bootSlot
  split
  · exact h
  · split
    · exact h
    · exact h.capture

theorem Safe.runImage (h : Safe s) {k b} : Safe (s.runImage k b) := h.upd

theorem Safe.bootConfirmed (h : Safe s) {f} : Safe (s.bootConfirmed f).2 := by
  unfold State.bootConfirmed
  extract_lets k r q
  have h1 : Safe r.2 := h.bootSlot
  have h2 : Safe q.2 := h1.bootSlot
  split
  · exact h1.runImage
  · split
    · exact h1
    · split
      · exact h2.runImage.bump.capture
      · exact h2

theorem Safe.bootFirmware (h : Safe s) {f} : Safe (s.bootFirmware f).2 := by
  unfold State.bootFirmware
  split
  · exact h.bootConfirmed
  · extract_lets
    split
    · exact h.bootSlot.upd.runImage.bump.capture
    · exact h.bootSlot.upd.dropStaging.capture.bootConfirmed

theorem Safe.bootCores (h : Safe s) {fail} : Safe (s.bootCores fail) := .foldl h.upd fun _ _ k => k.capture

theorem Safe.bootPorts (h : Safe s) : Safe s.bootPorts := h.upd

theorem Safe.bootPower (h : Safe s) {k f} : Safe (s.bootPower k f) := h.startSlot.modCarrier.setDom

theorem Safe.bootMember (h : Safe s) {releasing k} : Safe (s.bootMember releasing k) := by
  unfold State.bootMember
  split
  · exact h
  · exact .settleCarrier (.foldl (.ite h.bootPower.upd.calibrate.modCarrier h.bootPower.upd.calibrate.modCarrier.writeRec) fun _ _
      k => k.failDie.modDie)

theorem Safe.bootOther (h : Safe s) {k c} : Safe (s.bootOther k c) := by
  unfold State.bootOther
  split
  · exact h
  · extract_lets
    split
    · exact h
    · exact h
    · exact h.refuseCarrier
    · exact .ite h.bootPower.identify.openSwitch.setDom.refuseCarrier h.bootPower.identify.modCarrier.capture
    · exact .ite h.capture.bootPower.identify.openSwitch.setDom.refuseCarrier h.capture.bootPower.identify.modCarrier.capture
    · exact h.bootPower.identify.startAdmit

theorem Safe.autoAdmit (h : Safe s) {k} : Safe (s.autoAdmit k) := .ite h.startAdmit h

theorem Safe.bootCarriers (h : Safe s) {releasing} : Safe (s.bootCarriers releasing) :=
  .upd (.finishAdmit (.foldl (.foldl (.foldl (.foldl h fun _ _ k => .ite k.bootMember k) fun _ _ k => k.loseMember) fun _ _ k =>
      k.bootOther) fun _ _ k => k.autoAdmit))

theorem Safe.fuseOwner (h : Safe s) : Safe s.fuseOwner := .ite h h.upd.capture

theorem Safe.settleLoader (h : Safe s) : Safe s.settleLoader :=
  .ite h.updateLoader.upd (.ite h.upd.writeLoader.upd (.ite h.writeLoader.upd.capture (.ite h.writeLoader.upd h)))

theorem Safe.bootReady (h : Safe s) {f unsafe_} : Safe (s.bootReady f unsafe_) :=
  .trackIdle (.evalTolerance (.upd (.ite h.upd.capture.fuseOwner.settleLoader.startProbation h.upd.capture.fuseOwner.settleLoader)))

theorem Safe.bootRest (h : Safe s) {f lost restored releasing} : Safe (s.bootRest f lost restored releasing) :=
  h.burnFuse.putDoms.bootCores.bootPorts.replayMap.bootCarriers.upd.recover.upd.bootReady

theorem Safe.bootLoaded (h : Safe s) {f lost restored} : Safe (s.bootLoaded f lost restored) := by
  unfold State.bootLoaded
  extract_lets bad s1 r i s2 b
  have hi : Safe i.2 := .takeImage (.takeSettings (.settleRecord (.flushBoot (.foldl h fun _ _ k => k.quinceFail))))
  have h2 : Safe s2 := hi.bootRegisters.bootLoops.bootDram
  have hb : Safe b.2 := h2.bootFirmware
  exact .ite hi.enterHold (.ite h2.enterHold (.ite hb.bootRest hb.enterHold))

theorem Answers.coldBoot {f} : Answers s (execColdBoot f s) := by
  unfold execColdBoot
  refine .ite (.next id) ?_
  extract_lets
  split
  · exact .next fun h => h.bootStart.takeNor.enterHold
  · exact .done fun h => h.bootStart.takeNor.bootFrom.bootLoaded

/-! ### Machine/RomCalls.lean -/

theorem Safe.romEnd (h : Safe s) {op st c} : Safe (s.romEnd op st c) := .ite (.ite h.upd.bump h.upd) (.capture (.ite h.upd.bump
    h.upd))

theorem Safe.endErase (h : Safe s) : Safe s.endErase := h.upd

theorem Safe.norTouched (h : Safe s) {n a len} : Safe (s.norTouched n a len) := h.upd

theorem Answers.romRead {c} : Answers s (execRomRead c s) := .ite (.next id) (.next fun h => .romEnd (.ite h.bump h))

theorem Answers.romProgram {c} : Answers s (execRomProgram c s) :=
  .ite (.next id) (.next fun h => .romEnd (.ite (.bump (.upd (.ite h.endErase.norTouched h.endErase))) (.ite h.endErase.norTouched
      h.endErase)))

theorem Answers.romEraseSector {c} : Answers s (execRomEraseSector c s) :=
  .ite (.next id) (.next fun h => .romEnd (.ite (.bump (.upd (.ite h.endErase.norTouched h.endErase))) (.ite h.endErase.norTouched
      h.endErase)))

end Sys2Proof
end

section
/-! PROOFS. What every command answers (O5, O23). -/

namespace Sys2Proof

open Sys2Proof.Machine

variable {s : State}

theorem exec_answers (c : Instr) : Answers s (exec c s) := by
  cases c with
  | controlRead => exact .controlRead
  | controlWrite => exact .controlWrite
  | registerWrite => exact .registerWrite
  | seedHoursRead => exact .seedHoursRead
  | seedRtcLoWrite => exact .seedRtcLoWrite
  | seedRtcHiWrite => exact .seedRtcHiWrite
  | clrRc => exact .clrRc
  | lapNow => exact .lapNow
  | eolNow => exact .eolNow
  | ceCctSelWrite => exact .ceCctSelWrite
  | chDieSelWrite => exact .chDieSelWrite
  | ldpcFlipArm => exact .ldpcFlipArm
  | pnFlipArm => exact .pnFlipArm
  | pnFlipRun => exact .pnFlipRun
  | qFlipArm => exact .qFlipArm
  | dramFlipArm => exact .dramFlipArm
  | dramFlipRun => exact .dramFlipRun
  | clearRanks => exact .clearRanks
  | clearPages => exact .clearPages
  | portCntClr => exact .portCntClr
  | ceCntClr => exact .ceCntClr
  | chCntClr => exact .chCntClr
  | ldpcCntClr => exact .ldpcCntClr
  | strCntClr => exact .strCntClr
  | cmpCntClr => exact .cmpCntClr
  | pnCntClr => exact .pnCntClr
  | dramCntClr => exact .dramCntClr
  | psCntClr => exact .psCntClr
  | norCntClr => exact .norCntClr
  | fwCntClr => exact .fwCntClr
  | stickyClear => exact .stickyClear
  | mgAuthCommit => exact .mgAuthCommit
  | loopFlagClear => exact .loopFlagClear
  | loopCoeffWrite => exact .loopCoeffWrite
  | loopTargetWrite => exact .loopTargetWrite
  | thOffsetWrite => exact .thOffsetWrite
  | pkgLimitWrite => exact .pkgLimitWrite
  | plimFloorWrite => exact .plimFloorWrite
  | laneEnWrite => exact .laneEnWrite
  | linkFault => exact .linkFault
  | macDown => exact .macDown
  | linkUp => exact .linkUp
  | macUp => exact .macUp
  | pauseFrameReceived => exact .pauseFrameReceived
  | pauseLong => exact .pauseLong
  | arpRequest => exact .arpRequest
  | neighborSolicitation => exact .neighborSolicitation
  | echoRequest => exact .echoRequest
  | ecnCeReceived => exact .ecnCeReceived
  | cnpReceived => exact .cnpReceived
  | tcpEceAck => exact .tcpEceAck
  | rateIncrease => exact .rateIncrease
  | tcpConnectRequest _ _ _ remote => exact .tcpConnectRequest (remote := remote)
  | rdmaConnectRequest => exact .rdmaConnectRequest
  | tlsHandshake => exact .tlsHandshake
  | icreq => exact .icreq
  | capsuleReceived => exact .capsuleReceived
  | capsuleIntakeResume => exact .capsuleIntakeResume
  | h2cDataReceived => exact .h2cDataReceived
  | rdmaReadCompletion => exact .rdmaReadCompletion
  | ringAssociationUp => exact .ringAssociationUp
  | ringRetry => exact .ringRetry
  | ringPeerUnreachable => exact .ringPeerUnreachable
  | ringKeepAliveExpiry => exact .ringKeepAliveExpiry
  | admitCapsule => exact .admitCapsule
  | tokenRefill => exact .tokenRefill
  | releasePass => exact .releasePass
  | orderingPoint => exact .orderingPoint
  | commandComplete => exact .commandComplete
  | holdWarn => exact .holdWarn
  | shadowCheckerFault => exact .shadowCheckerFault
  | ccEnClear => exact .ccEnClear
  | ccEnSet => exact .ccEnSet
  | ccShnTenant => exact .ccShnTenant
  | shutdownAbortTimeout => exact .shutdownAbortTimeout
  | ccShnDevice => exact .ccShnDevice
  | shutdownStopRecord => exact .shutdownStopRecord
  | shutdownResume => exact .shutdownResume
  | keepAliveExpiry => exact .keepAliveExpiry
  | propertyGet => exact .propertyGet
  | propertySet => exact .propertySet
  | connect => exact .connect
  | authenticationSend => exact .authenticationSend
  | authenticationReceive => exact .authenticationReceive
  | flush => exact .flush
  | write => exact .write
  | read => exact .read
  | compare => exact .compare
  | writeZeroes => exact .writeZeroes
  | datasetManagement => exact .datasetManagement
  | verify => exact .verify
  | reservationRegister => exact .reservationRegister
  | reservationReport => exact .reservationReport
  | reservationAcquire => exact .reservationAcquire
  | reservationRelease => exact .reservationRelease
  | copy => exact .copy
  | getLogPage => exact .getLogPage
  | identify => exact .identify
  | abort => exact .abort
  | setFeatures => exact .setFeatures
  | getFeatures => exact .getFeatures
  | asynchronousEventRequest => exact .asynchronousEventRequest
  | namespaceManagement => exact .namespaceManagement
  | namespaceAttachment => exact .namespaceAttachment
  | keepAlive => exact .keepAlive
  | formatNvm => exact .formatNvm
  | sanitize => exact .sanitize
  | sanitizeComplete => exact .sanitizeComplete
  | firmwareImageDownload => exact .firmwareImageDownload
  | firmwareCommit => exact .firmwareCommit
  | firmwareConfirm => exact .firmwareConfirm
  | probationExpiry => exact .probationExpiry
  | firmwareForward => exact .firmwareForward
  | forwardRetry => exact .forwardRetry
  | sliceCreate => exact .sliceCreate
  | sliceDelete => exact .sliceDelete
  | sliceQuiesce => exact .sliceQuiesce
  | sliceQuiesced => exact .sliceQuiesced
  | sliceResume => exact .sliceResume
  | sliceFreeze => exact .sliceFreeze
  | sliceSave => exact .sliceSave
  | sliceRestore => exact .sliceRestore
  | replicationPairing => exact .replicationPairing
  | forwardedChangeReceived => exact .forwardedChangeReceived
  | replicaAck => exact .replicaAck
  | lostUnitReport => exact .lostUnitReport
  | peerRepairComplete => exact .peerRepairComplete
  | replicaDetachReceived => exact .replicaDetachReceived
  | precopyPassComplete => exact .precopyPassComplete
  | migrationDataReceived => exact .migrationDataReceived
  | migrationCommitReceived => exact .migrationCommitReceived
  | migrationCommitAck => exact .migrationCommitAck
  | streamChunkReceived => exact .streamChunkReceived
  | streamRestartRequest => exact .streamRestartRequest
  | apstTransition => exact .apstTransition
  | carrierRelease => exact .carrierRelease
  | carrierAdmit => exact .carrierAdmit
  | reshape => exact .reshape
  | reshapeBandStep => exact .reshapeBandStep
  | applyConfiguration => exact .applyConfiguration
  | configAddressingApply => exact .configAddressingApply
  | eventLogClear => exact .eventLogClear
  | holdUpTest => exact .holdUpTest
  | holdupTestAuto => exact .holdupTestAuto
  | writeBufferAllocate => exact .writeBufferAllocate
  | laneUnitComplete => exact .laneUnitComplete
  | stagingDurable => exact .stagingDurable
  | punnetGrant => exact .punnetGrant
  | punnetRelease => exact .punnetRelease
  | punnetWaitWarn => exact .punnetWaitWarn
  | stripeFlush => exact .stripeFlush
  | stripePadIdle => exact .stripePadIdle
  | l3PadFlush => exact .l3PadFlush
  | memberProgramStatus => exact .memberProgramStatus
  | mapPageWrite => exact .mapPageWrite
  | mapRootWrite => exact .mapRootWrite
  | journalTruncate => exact .journalTruncate
  | pwrFailAssert => exact .pwrFailAssert
  | prsntNDeassert => exact .prsntNDeassert
  | hubLowAssert => exact .hubLowAssert
  | mainRailOutOfRange => exact .mainRailOutOfRange
  | mainRailsInRange => exact .mainRailsInRange
  | sledPresenceAssert => exact .sledPresenceAssert
  | coldBoot => exact .coldBoot
  | romRead => exact .romRead
  | romProgram => exact .romProgram
  | romEraseSector => exact .romEraseSector
  | maintenanceMoveStart => exact .maintenanceMoveStart
  | eraseStart => exact .eraseStart
  | eraseStatus => exact .eraseStatus
  | eraseStarved => exact .eraseStarved
  | eolPrediction => exact .eolPrediction
  | patrolReadComplete => exact .patrolReadComplete
  | patrolLapOverrun => exact .patrolLapOverrun
  | retentionAgeUpdate => exact .retentionAgeUpdate
  | dieReadRequest => exact .dieReadRequest
  | reconWaitExpiry => exact .reconWaitExpiry
  | operationAgePromotion => exact .operationAgePromotion
  | dieOperationStart => exact .dieOperationStart
  | readSenseComplete => exact .readSenseComplete
  | ldpcDecodeComplete => exact .ldpcDecodeComplete
  | reconstructionComplete => exact .reconstructionComplete
  | trackValley => exact .trackValley
  | memberOperationTimeout => exact .memberOperationTimeout
  | dieResetTimeout => exact .dieResetTimeout
  | zqPeriod => exact .zqPeriod
  | carrierTempSample => exact .carrierTempSample
  | carrierSensorTimeout => exact .carrierSensorTimeout
  | i2cStretchTimeout => exact .i2cStretchTimeout
  | carrierDomainWake => exact .carrierDomainWake
  | carrierDomainGate => exact .carrierDomainGate
  | carrierInsert => exact .carrierInsert
  | carrierPowerGood => exact .carrierPowerGood
  | carrierPowerGoodTimeout => exact .carrierPowerGoodTimeout
  | carrierRemove => exact .carrierRemove
  | rebuildDelayExpiry => exact .rebuildDelayExpiry
  | rebuildStart => exact .rebuildStart
  | slowRecovery => exact .slowRecovery
  | slowFail => exact .slowFail
  | quinceDieFailure => exact .quinceDieFailure
  | journalAreaFull => exact .journalAreaFull
  | dramCorrectedError => exact .dramCorrectedError
  | dramUncorrectable => exact .dramUncorrectable
  | punnetUncorrectable => exact .punnetUncorrectable
  | tableCopyError => exact .tableCopyError
  | dramRefresh => exact .dramRefresh
  | dramMr4Poll => exact .dramMr4Poll
  | dramRetrainStep => exact .dramRetrainStep
  | dramScrub => exact .dramScrub
  | dramScrubLapWarn => exact .dramScrubLapWarn
  | sramScrubPass => exact .sramScrubPass
  | quinceRefresh => exact .quinceRefresh
  | powerStateEntry => exact .powerStateEntry
  | toleranceEvaluation => exact .toleranceEvaluation
  | wakeEvent => exact .wakeEvent
  | maintenanceWake => exact .maintenanceWake
  | minuteTick => exact .minuteTick
  | seedHourRollover => exact .seedHourRollover
  | crystalStop => exact .crystalStop
  | crystalRestore => exact .crystalRestore
  | pllLockTimeout => exact .pllLockTimeout
  | loopSample => exact .loopSample
  | followingErrorTimeout => exact .followingErrorTimeout
  | dirtyLimitUpdate => exact .dirtyLimitUpdate
  | thermalSample => exact .thermalSample
  | thermalLimitStep => exact .thermalLimitStep
  | rorStep => exact .rorStep
  | thermalLimitRise => exact .thermalLimitRise
  | overTemperatureTrip => exact .overTemperatureTrip
  | eventCapture => exact .eventCapture
  | journalGroupTimeout => exact .journalGroupTimeout
  | holdupDischargeEnd => exact .holdupDischargeEnd
  | holdupRechargeTimeout => exact .holdupRechargeTimeout
  | rankMigratedToSpare => exact .rankMigratedToSpare
  | keyEraseCompleted => exact .keyEraseCompleted
  | migrationAcceptReceived => exact .migrationAcceptReceived
  | migrationCancelReceived => exact .migrationCancelReceived
  | forwardCompletionReceived => exact .forwardCompletionReceived
  | meteringMsSum => exact .meteringMsSum
  | vddSeedLoss => exact .vddSeedLoss
  | vddSeedReturn => exact .vddSeedReturn
  | transportConnectionClosed => exact .transportConnectionClosed

/-- Settles O5: the command at the front of the queue answers by the rule of its meaning, and an empty queue idles. -/
theorem everyStepKeepsTheRegisterStoreCanonical : Obligations.EveryStepKeepsTheRegisterStoreCanonical := by
  intro s t h e
  unfold step at e
  split at e
  · next c rest _ =>
    obtain ⟨u, hu, k⟩ := exec_answers (s := { s with pending := rest }) c
    rw [hu] at e
    cases e
    exact k h
  · cases e
    exact h.idleTick

/-- Settles O23, which is the first half of what `exec_answers` says of each command. -/
theorem everyCommandAnswersANextState : Obligations.EveryCommandAnswersANextState := by
  intro c s
  obtain ⟨t, e, -⟩ := exec_answers (s := s) c
  exact ⟨t, e⟩

end Sys2Proof
end

section
/-! PROOFS. Reading and writing the control space (O3, O4, O9, O11, O12). -/

namespace Sys2Proof

open Sys2Proof.Machine

variable {s : State}

/-- Settles O3: the store of the reset state is empty, and its lists have their lengths by default. -/
theorem resetStateIsSafe : Obligations.ResetStateIsSafe := by
  refine ⟨rfl, ?_, rfl⟩
  unfold Shape
  decide

/-- Settles O4, register by register. -/
theorem registersReadTheirResetValues : Obligations.RegistersReadTheirResetValues := by
  unfold Obligations.RegistersReadTheirResetValues
  decide +kernel

/-- Settles O9, by the laws of a put. -/
theorem registerStoreReadsBackWhatWasWritten : Obligations.RegisterStoreReadsBackWhatWasWritten :=
  fun s off v h => ⟨regLook_put_self h off v, fun _ ho => State.reg_setReg_ne s v ho, h.setReg⟩

theorem readReg_unimplemented {off : Nat} (h : regRow off = none) : s.readReg off = 0 := by
  simp [State.readReg, h]

theorem writeReg_unimplemented {off w : Nat} {v : Word} (h : regRow off = none) : s.writeReg off v w = s := by
  simp [State.writeReg, h]

theorem exec_registerWrite {off : Nat} {v : Word} (h4 : off % 4 = 0) (h : off < 0x100000) :
    exec (.registerWrite off v) s = (s.writeReg off v 0).done := by
  show execRegisterWrite off v s = _
  simp [execRegisterWrite, h4, h]

theorem exec_registerWrite_outside {off : Nat} {v : Word} (h : ¬ (off % 4 = 0 ∧ off < 0x100000)) :
    exec (.registerWrite off v) s = .next s := by
  show execRegisterWrite off v s = _
  exact if_neg (by simpa using h)

/-- Settles O11: the read and the write both look for the register first. -/
theorem unimplementedOffsetsReadZeroAndIgnoreWrites : Obligations.UnimplementedOffsetsReadZeroAndIgnoreWrites := by
  intro s off v h
  refine ⟨readReg_unimplemented h, writeReg_unimplemented h, fun h4 ho => ?_, exec_registerWrite_outside⟩
  rw [exec_registerWrite h4 ho, writeReg_unimplemented h]
  rfl

/-- Offsets at which a write does more than keep its fields, or is checked first (R12). -/
def writeRule (off : Nat) : Bool :=
  (decide (0x30000 ≤ off) && decide (off < 0x30500)) || (decide (0x40100 ≤ off) && decide (off < 0x40190)) ||
  (decide (0x40340 ≤ off) && decide (off < 0x40380)) || (decide (0x50010 ≤ off) && decide (off < 0x5002C)) ||
  (decide (0x80000 ≤ off) && decide (off < 0xA0000)) ||
  [0x10010, 0x10014, 0x1001C, 0x10070, 0x20004, 0x20008, 0x2000C, 0x30800, 0x3080C, 0x40300, 0x50064, 0x50074, 0x50098, 0x6002C,
    0x60034, 0x60054, 0xA0160, 0xA8008, 0xA8020, 0xB0000, 0xB002C, 0xC0028, 0xC1028, 0xD0020, 0xD009C, 0xE0050, 0xF002C].contains off

/-- Away from these offsets a write acts by field type alone. -/
theorem writeReg_plain {off w : Nat} {v : Word} {r : RegRow} (hr : regRow off = some r) (h : writeRule off = false) :
    s.writeReg off v w = s.setReg off (fieldWrite (s.reg off).toNat v.toNat r.rw r.w1c 0) := by
  have p : s.plainWrite off v = s.setReg off (fieldWrite (s.reg off).toNat v.toNat r.rw r.w1c 0) := by simp [State.plainWrite, hr]
  simp only [writeRule, Bool.or_eq_false_iff, Bool.and_eq_false_iff, decide_eq_false_iff_not] at h
  obtain ⟨⟨⟨⟨⟨h1, h2⟩, h3⟩, h4⟩, h5⟩, h6⟩ := h
  unfold State.writeReg
  simp only [hr, Option.isNone_some, Bool.false_eq_true, if_false, Bool.and_eq_true, decide_eq_true_eq]
  rw [if_neg (by omega), if_neg (by omega), if_neg (by omega), if_neg (by omega), if_neg (by omega)]
  split
  case h_28 => exact p
  all_goals simp at h6

/-- A write by field type of an implemented register stores the word, and the examination of the Critical Warnings follows. -/
theorem exec_registerWrite_plain {off : Nat} {v : Word} {r : RegRow} (h4 : off % 4 = 0) (ho : off < 0x100000) (hr : regRow off = some r)
    (h : writeRule off = false) :
    exec (.registerWrite off v) s = .next (s.setReg off (fieldWrite (s.reg off).toNat v.toNat r.rw r.w1c 0)).smartCheck := by
  rw [exec_registerWrite h4 ho, writeReg_plain hr h]
  rfl

/-- Settles O12: none of the listed offsets has a rule of its own, and the examination of the warnings leaves the registers. -/
theorem registerWriteStoresThePlainRegisters : Obligations.RegisterWriteStoresThePlainRegisters := by
  intro s v hs off ho r hr
  have plain : off % 4 = 0 ∧ off < 0x100000 ∧ writeRule off = false := by
    clear hr
    revert off
    decide
  obtain ⟨h4, hlt, hrule⟩ := plain
  let w := fieldWrite (s.reg off).toNat v.toNat r.rw r.w1c 0
  have e : (s.setReg off w).smartCheck.reg off = w := by
    rw [State.reg, smartCheck_regs]
    exact regLook_put_self hs off w
  refine ⟨_, exec_registerWrite_plain h4 hlt hr hrule, e, ?_⟩
  rw [e]
  exact aside_smartCheck _

end Sys2Proof
end

section
/-! PROOFS. Control Read and Control Write (O25). -/

namespace Sys2Proof

open Sys2Proof.Machine

variable {s : State}

/-- A command runs on its entry. -/
theorem withCmd_onEntry {e opc : Nat} {io : Bool} {c : Cct} {f : Cct → State → State} (h : OnEntry s e opc io c) :
    s.withCmd e opc io f = f c s := by
  obtain ⟨he, hst, hopc, hio⟩ := h
  simp [State.withCmd, he, hst, hopc, hio]

theorem entry_idx {e : Nat} {c : Cct} (h : s.entry e = some c) : c.idx = e := by
  simpa using List.find?_some h

theorem OnEntry.idx {e opc : Nat} {io : Bool} {c : Cct} (h : OnEntry s e opc io c) : c.idx = e := entry_idx h.1

/-- Reads of offsets other than the captured pair change nothing, and answer their words in order. -/
theorem ctlRead_plain {offs : List Nat} (h : ∀ o ∈ offs, o ≠ Reg.SEED_HOURS ∧ o ≠ Reg.SEED_MS) :
    s.ctlRead offs = (offs.flatMap (fun o => natBytes 4 (s.readReg o).toNat), s) := by
  have go : ∀ (l : List Nat) (bs : List Byte), (∀ o ∈ l, o ≠ Reg.SEED_HOURS ∧ o ≠ Reg.SEED_MS) →
      l.foldl (fun (r : List Byte × State) o => (r.1 ++ natBytes 4 (r.2.readReg o).toNat, r.2.afterRead o)) (bs, s) =
        (bs ++ l.flatMap (fun o => natBytes 4 (s.readReg o).toNat), s) := by
    intro l
    induction l with
    | nil => simp
    | cons o l ih =>
      intro bs hl
      have ho := hl o (List.mem_cons_self ..)
      have keep : s.afterRead o = s := by simp [State.afterRead, ho]
      rw [List.foldl_cons, keep, ih _ fun x hx => hl x (List.mem_cons_of_mem _ hx)]
      simp
  simpa [State.ctlRead] using go offs [] h

/-- Settles O25: each case of the two commands on an entry that holds them. -/
theorem controlReadsAndWritesGoDwordByDword : Obligations.ControlReadsAndWritesGoDwordByDword := by
  intro s e c
  have rd : exec (.controlRead e) s = execControlRead e s := rfl
  have wr : exec (.controlWrite e) s = execControlWrite e s := rfl
  rw [rd, wr]
  refine ⟨fun h hw => ?_, fun h hw hb => ?_, fun h hw hb ho => ?_, fun h hw hb => ?_, fun h hw hb hd => ?_⟩
  · simp [execControlRead, withCmd_onEntry h, hw]
  · simp [execControlRead, withCmd_onEntry h, hw, hb, State.reply, State.answer, h.idx]
  · simp [execControlRead, withCmd_onEntry h, hw, hb, ctlRead_plain ho, h.idx]
  · simp [execControlWrite, withCmd_onEntry h, hw, hb, State.reply, State.answer, h.idx, State.done]
  · simp [execControlWrite, withCmd_onEntry h, hw, hb, Nat.not_lt.mpr hd, State.ctlWrite, State.reply, State.answer, h.idx, State.done]

end Sys2Proof
end

section
/-! PROOFS. What the recording of events, counts and journal records leaves as it was. -/

namespace Sys2Proof

open Sys2Proof.Machine

variable {s t u : State}

/-- `t` differs from `s` at most in what `Aside` names, in the counters and in the journal. -/
structure Recorded (s t : State) : Prop where
  rest : t = { s with
    regs := t.regs, events := t.events, eng := t.eng, slices := t.slices, journal := t.journal
    store := { s.store with buf := t.store.buf, jobs := t.store.jobs }
    mem := { s.mem with reqs := t.mem.reqs }
    upkeep := { s.upkeep with bands := t.upkeep.bands }
    fw := { s.fw with probFault := t.fw.probFault } }

theorem Recorded.refl (s : State) : Recorded s s := ⟨rfl⟩

/-- The later of two steps is named first: its start is read off the goal. -/
theorem Recorded.after (k : Recorded t u) (h : Recorded s t) : Recorded s u := by
  obtain ⟨h⟩ := h
  obtain ⟨k⟩ := k
  rw [h] at k
  exact ⟨k⟩

theorem Aside.recorded (h : Aside s t) : Recorded s t := by
  have e := h.rest
  constructor
  rw [e]

theorem Recorded.glb (h : Recorded s t) : t.glb = s.glb := (congrArg State.glb h.rest :)
theorem Recorded.seed (h : Recorded s t) : t.seed = s.seed := (congrArg State.seed h.rest :)
theorem Recorded.power (h : Recorded s t) : t.power = s.power := (congrArg State.power h.rest :)
theorem Recorded.fabric (h : Recorded s t) : t.fabric = s.fabric := (congrArg State.fabric h.rest :)
theorem Recorded.array (h : Recorded s t) : t.array = s.array := (congrArg State.array h.rest :)
theorem Recorded.stripes (h : Recorded s t) : t.store.stripes = s.store.stripes := (congrArg (·.store.stripes) h.rest :)
theorem Recorded.map (h : Recorded s t) : t.store.map = s.store.map := (congrArg (·.store.map) h.rest :)

theorem recorded_capture (s : State) (code : Nat) (ps : List Nat) : Recorded s (s.capture code ps) := (aside_capture ..).recorded

theorem recorded_setReg (s : State) (off : Nat) (v : Word) : Recorded s (s.setReg off v) := ⟨rfl⟩

theorem recorded_ite {p : Prop} [Decidable p] (h : Recorded s t) (k : Recorded s u) : Recorded s (if p then t else u) := by
  split
  · exact h
  · exact k

theorem recorded_foldl {α : Type} {f : State → α → State} {l : List α} (h : ∀ x a, Recorded x (f x a)) : Recorded s (l.foldl f s) :=
  foldl_keeps (Recorded s ·) f l s (.refl s) fun x a _ k => (h x a).after k

theorem recorded_bump (s : State) (off n : Nat) : Recorded s (s.bump off n) :=
  recorded_ite ((recorded_capture ..).after (recorded_setReg ..)) (recorded_setReg ..)

theorem recorded_jwrite (s : State) (b : RecBody) : Recorded s (s.jwrite b) :=
  recorded_ite (recorded_ite ⟨rfl⟩ (((recorded_capture ..).after (recorded_bump ..)).after ⟨rfl⟩)) ⟨rfl⟩

theorem recorded_meterMs (s : State) (ms : Nat) : Recorded s (s.meterMs ms) := recorded_foldl fun _ _ => ⟨rfl⟩

theorem recorded_meterTick (s : State) (part : Bool) (ago : Nat) : Recorded s (s.meterTick part ago) :=
  .after (t := State.jwrite _ _) ⟨rfl⟩ ((recorded_jwrite ..).after ⟨rfl⟩)

end Sys2Proof
end

section
/-! PROOFS. What leaving a power state does (O20, O35, O52). -/

namespace Sys2Proof

open Sys2Proof.Machine

variable {s t u : State}

/-! ### Leaving a state -/

/-- `t` differs from `s` at most in what leaving a power state touches: what `Recorded` names, the Seed island, the power state,
the loop slots, the MACs, frames sent and free values drawn. -/
structure Woken (s t : State) : Prop where
  rest : t = { s with
    regs := t.regs, events := t.events, eng := t.eng, slices := t.slices, journal := t.journal, seed := t.seed, power := t.power
    loops := t.loops, free := t.free
    fabric := { s.fabric with macs := t.fabric.macs, sent := t.fabric.sent }
    store := { s.store with buf := t.store.buf, jobs := t.store.jobs }
    mem := { s.mem with reqs := t.mem.reqs }
    upkeep := { s.upkeep with bands := t.upkeep.bands }
    fw := { s.fw with probFault := t.fw.probFault } }

theorem Woken.refl (s : State) : Woken s s := ⟨rfl⟩

theorem Woken.after (k : Woken t u) (h : Woken s t) : Woken s u := by
  obtain ⟨h⟩ := h
  obtain ⟨k⟩ := k
  rw [h] at k
  exact ⟨k⟩

theorem Recorded.woken (h : Recorded s t) : Woken s t := by
  obtain ⟨h⟩ := h
  constructor
  rw [h]

theorem Woken.ite {p : Prop} [Decidable p] (h : Woken s t) (k : Woken s u) : Woken s (if p then t else u) := by
  split
  · exact h
  · exact k

theorem Woken.glb (h : Woken s t) : t.glb = s.glb := (congrArg State.glb h.rest :)
theorem Woken.conns (h : Woken s t) : t.fabric.conns = s.fabric.conns := (congrArg (·.fabric.conns) h.rest :)
theorem Woken.flush (h : Woken s t) : t.store.flush = s.store.flush := (congrArg (·.store.flush) h.rest :)
theorem Woken.stripes (h : Woken s t) : t.store.stripes = s.store.stripes := (congrArg (·.store.stripes) h.rest :)

theorem recorded_countState (s : State) : Recorded s s.countState := recorded_ite (.refl s) (recorded_bump ..)

theorem recorded_captureLatched (l : List (Nat × List Nat)) (s : State) : Recorded s (s.captureLatched l) :=
  recorded_foldl fun _ _ => recorded_capture ..

theorem recorded_l4Minutes (secs fin : Nat) (s : State) : Recorded s (s.l4Minutes secs fin) := by
  refine recorded_ite (recorded_meterMs ..) ((recorded_meterMs ..).after ((recorded_foldl fun _ _ => ?_).after ?_))
  · exact (recorded_meterTick ..).after (recorded_meterMs ..)
  · exact (recorded_meterTick ..).after (recorded_meterMs ..)

/-- What the exit from L4 sets before it records. -/
theorem exitL4_recorded (late : Nat) (s : State) : ∃ x : State, Recorded x (s.exitL4 late) ∧
    x.seed = { s.seed with refReq := true, refLate := decide (0 < late), l4Entry := none, latched := [] } ∧
    x.power = { s.power with selfRefresh := false } ∧ Woken s x := by
  let y : State := { s with
    seed := { s.seed with refReq := true, refLate := decide (0 < late), l4Entry := none }
    power := { s.power with selfRefresh := false }
    fabric := { s.fabric with macs := s.fabric.macs.map (fun m => { m with lpi := false }) }
    loops := s.loops.map (fun x => { x with arm := true }) }
  let z := y.l4Minutes (s.since s.power.enteredAt / 1000000) s.seed.rtc.toNat
  have hz : Recorded y z := recorded_l4Minutes ..
  refine ⟨{ z with seed := { z.seed with latched := [] } }, ?_, ?_, hz.power, ?_⟩
  · exact (recorded_capture ..).after ((recorded_ite (.refl _) (recorded_capture ..)).after (recorded_captureLatched ..))
  · rw [hz.seed]
  · exact (show Woken z _ from ⟨rfl⟩).after (hz.woken.after ⟨rfl⟩)

theorem woken_exitL4 (late : Nat) (s : State) : Woken s (s.exitL4 late) := by
  obtain ⟨x, h, -, -, w⟩ := exitL4_recorded late s
  exact h.woken.after w

theorem exitL4_wake (late : Nat) (s : State) :
    (s.exitL4 late).seed.wake = s.seed.wake ∧ (s.exitL4 late).seed.wakeFrom = s.seed.wakeFrom := by
  obtain ⟨x, h, e, -, -⟩ := exitL4_recorded late s
  rw [h.seed, e]
  exact ⟨rfl, rfl⟩

theorem foldl_putDoms (f : Nat → DomCond) (l : List Nat) (s : State) : l.foldl (fun s d => s.putDoms [d] (f d)) s =
    { s with power := { s.power with doms := l.foldl (fun x d => modNth x (domIdx d) (fun _ => f d)) s.power.doms } } := by
  induction l generalizing s with
  | nil => rfl
  | cons d l ih => exact ih _

/-- The sequencer changes the domains' conditions alone. -/
theorem seqDoms_eq (st : PState) (s : State) :
    s.seqDoms st = { s with power := { s.power with doms := (s.seqDoms st).power.doms } } := by
  have e := foldl_putDoms (fun d => domCond st (s.fabric.l4link.getD ((d + 1) % 2) 0) d) domOrder s
  unfold State.seqDoms
  rw [e]

theorem woken_seqDoms (st : PState) (s : State) : Woken s (s.seqDoms st) := by
  rw [seqDoms_eq]
  exact ⟨rfl⟩

theorem woken_leaveTo (target : PState) (bit late : Nat) (s : State) : Woken s (s.leaveTo target bit late) := by
  unfold State.leaveTo
  refine .ite (.refl s) (.after (t := State.seqDoms target _) ⟨rfl⟩ ((woken_seqDoms ..).after (.after ⟨rfl⟩ (.after
    (.ite (woken_exitL4 ..) (.refl _)) (.after (.ite (recorded_bump ..).woken (.refl _)) (.after ⟨rfl⟩ (recorded_countState s).woken))))))

/-- A move to a shallower state arrives there, with the cause and the state left in SEED_WAKE (R436). -/
theorem leaveTo_spec {target : PState} (bit late : Nat) (h : target.code < s.power.state.code) :
    (s.leaveTo target bit late).power.state = target ∧
    (s.leaveTo target bit late).seed.wake = BitVec.ofNat 9 (2 ^ bit) ∧
    (s.leaveTo target bit late).seed.wakeFrom = s.power.state.code := by
  unfold State.leaveTo
  simp only [Nat.not_le.mpr h, if_false, State.busyNow]
  rw [seqDoms_eq]
  refine ⟨rfl, ?_⟩
  have keep : ∀ (p : Prop) [Decidable p] (x : State), (if p then x.retrainAll else x).seed = x.seed := fun p _ x =>
    (recorded_ite (recorded_bump ..) (.refl x) : Recorded x (if p then x.retrainAll else x)).seed
  split <;> simp only [exitL4_wake, keep, and_self]

theorem leaveTo_same {target : PState} (bit late : Nat) (h : s.power.state.code ≤ target.code) : s.leaveTo target bit late = s := if_pos h

theorem code_pos {p : PState} (h : p ≠ .l0) : 0 < p.code := by
  cases p <;> simp_all [PState.code]

theorem leaveTo_l0 (bit late : Nat) (s : State) : (s.leaveTo .l0 bit late).power.state = .l0 := by
  by_cases h : s.power.state = .l0
  · rw [leaveTo_same _ _ (by rw [h]), h]
  · exact (leaveTo_spec (target := .l0) bit late (code_pos h)).1

end Sys2Proof
end

section
/-! PROOFS. Power states are entered and left (O20). -/

namespace Sys2Proof

open Sys2Proof.Machine

variable {s t u : State}

/-! ### The wake logic of a port -/

/-- XOFF frames of the wake logic: frames sent, counts and what a count may record. -/
theorem wakeXoff_power (port : Nat) (s : State) : (s.wakeXoff port).power = s.power ∧ (s.wakeXoff port).seed = s.seed := by
  have send (l : List Nat) (x : State) : (l.foldl (fun s i => s.send (.xoff port i)) x).power = x.power ∧
      (l.foldl (fun s i => s.send (.xoff port i)) x).seed = x.seed :=
    foldl_keeps (fun y => y.power = x.power ∧ y.seed = x.seed) (fun s i => s.send (.xoff port i)) l x ⟨rfl, rfl⟩ fun _ _ _ h => h
  unfold State.wakeXoff
  dsimp only
  split
  · exact ⟨rfl, rfl⟩
  · rw [(recorded_bump ..).power, (recorded_bump ..).seed]
    exact send _ _

theorem wakePort_power (s : State) : s.wakePort.2.power = s.power ∧ s.wakePort.2.seed = s.seed := by
  unfold State.wakePort
  split
  · exact ⟨rfl, rfl⟩
  · split <;> exact ⟨rfl, rfl⟩

theorem framed_power (s : State) : s.framed.power = s.power ∧ s.framed.seed = s.seed := by
  obtain ⟨hp, hs⟩ := wakePort_power s
  obtain ⟨xp, xs⟩ := wakeXoff_power s.wakePort.1 s.wakePort.2
  exact ⟨xp.trans hp, xs.trans hs⟩

/-- A wake source that acts brings the device from below L0 to L0; a frame or a capsule in L4 also starts the wake logic (R431, R436). -/
theorem exec_wakeEvent {src : WakeSource} {late : Nat} (h : s.power.state ≠ .l0)
    (hsrc : src = .capsule ∧ (s.power.state ≠ .l4 ∨ s.wakeLogic = true) ∨ src = .carrier ∨ src = .maintenance ∨
      src = .frame ∧ s.power.state = .l4 ∧ s.wakeLogic = true ∨ src = .keepAlive ∧ s.power.state = .l4) :
    ∃ x t : State, exec (.wakeEvent src late) s = .next t ∧ x.power.state = s.power.state ∧
      t.power = (x.leaveTo .l0 (wakeBit src) late).power ∧ t.seed = (x.leaveTo .l0 (wakeBit src) late).seed := by
  have e : exec (.wakeEvent src late) s = execWakeEvent src late s := rfl
  rw [e]
  unfold execWakeEvent
  rcases hsrc with ⟨rfl, h4⟩ | rfl | rfl | ⟨rfl, h4, hw⟩ | ⟨rfl, h4⟩
  · by_cases hl : s.power.state = .l4
    · exact ⟨s, _, by simp [wakeBit, hl, h4.resolve_left (not_not.mpr hl)], rfl, framed_power _⟩
    · exact ⟨s, _, by simp [wakeBit, hl], rfl, rfl, rfl⟩
  · exact ⟨s, _, rfl, rfl, rfl, rfl⟩
  · exact ⟨{ s with power := { s.power with maintDue := true } }, _, by simp [wakeBit, h], rfl, rfl, rfl⟩
  · exact ⟨s, _, by simp [wakeBit, h4, hw], rfl, framed_power _⟩
  · exact ⟨s, _, by simp [wakeBit, h4], rfl, rfl, rfl⟩

/-! ### Tolerances -/

/-- A state a tolerance allows is L0 or one whose exit latency it covers (R434). -/
theorem allowedFor_exitUs (s : State) (lt : Nat) : (s.allowedFor (some lt)).exitUs ≤ lt := by
  unfold State.allowedFor
  generalize hf : List.find? _ _ = o
  cases o with
  | none => exact Nat.zero_le _
  | some n =>
    have h := List.find?_some hf
    simp only [Bool.and_eq_true, decide_eq_true_eq] at h
    exact h.2

theorem exitUs_le (p : PState) : p.exitUs ≤ 20000 := by cases p <;> decide

theorem code_lt_of_exitUs_lt {p q : PState} (h : p.exitUs < q.exitUs) : p.code < q.code := by
  cases p <;> cases q <;> simp_all [PState.code, PState.exitUs]

/-- Where the tolerance is below a state's exit latency, the allowed state is a shallower one (R435). -/
theorem allowed_shallower (s : State) {p : PState} (h : s.evalTolerance.power.lt.toNat < p.exitUs) :
    s.evalTolerance.power.allowed.code < p.code := by
  have hp := exitUs_le p
  unfold State.evalTolerance at h ⊢
  simp only at h ⊢
  cases hx : s.smallest with
  | none =>
    rw [hx] at h
    simp at h
    omega
  | some y =>
    rw [hx] at h
    simp only [BitVec.toNat_ofNat] at h
    have ha := allowedFor_exitUs s y.1
    exact code_lt_of_exitUs_lt (by simp only [Option.map_some]; omega)

/-! ### Entering a state -/

theorem domIdx_bound : ∀ d ∈ domOrder, domIdx d < 20 ∧ ¬ (12 ≤ d ∧ d < 28) := by decide

theorem domOrder_nodup : (domOrder.map domIdx).Nodup := by decide

/-- Conditions put one after the other at places all different are each found at their place. -/
theorem foldl_modNth_getD {α : Type} (idx : Nat → Nat) (f : Nat → α) (x : α) (l : List Nat) (doms : List α)
    (hn : (l.map idx).Nodup) (hb : ∀ d ∈ l, idx d < doms.length) :
    (∀ d ∈ l, (l.foldl (fun y d => modNth y (idx d) (fun _ => f d)) doms).getD (idx d) x = f d) ∧
    (∀ i, i ∉ l.map idx → (l.foldl (fun y d => modNth y (idx d) (fun _ => f d)) doms).getD i x = doms.getD i x) := by
  induction l generalizing doms with
  | nil => simp
  | cons a l ih =>
    obtain ⟨ha, hn⟩ := List.nodup_cons.mp hn
    obtain ⟨h1, h2⟩ := ih (modNth doms (idx a) (fun _ => f a)) hn (fun d hd => by simpa using hb d (List.mem_cons_of_mem _ hd))
    have hlen := hb a (List.mem_cons_self ..)
    constructor
    · intro d hd
      rcases List.mem_cons.mp hd with rfl | hd
      · rw [List.foldl_cons, h2 _ ha, modNth_getD _ _ _ _ _ hlen, if_pos rfl]
      · exact h1 d hd
    · intro i hi
      rw [List.map_cons, List.mem_cons, not_or] at hi
      rw [List.foldl_cons, h2 i hi.2, modNth_getD_ne _ _ _ hi.1]

/-- The sequencer leaves each domain it switches in its condition (R426). -/
theorem seqDoms_domain (st : PState) (h : s.power.doms.length = 20) :
    ∀ d ∈ domOrder, (s.seqDoms st).domain d = domCond st (s.fabric.l4link.getD ((d + 1) % 2) 0) d := by
  intro d hd
  obtain ⟨-, hcar⟩ := domIdx_bound d hd
  have g := (foldl_modNth_getD domIdx (fun d => domCond st (s.fabric.l4link.getD ((d + 1) % 2) 0) d) DomCond.off domOrder s.power.doms
    domOrder_nodup (fun d hd => by rw [h]; exact (domIdx_bound d hd).1)).1 d hd
  unfold State.seqDoms State.domain
  rw [foldl_putDoms]
  simp only [Bool.and_eq_true, decide_eq_true_eq, hcar, if_false]
  exact g

/-- What L4 entry leaves of the rest (R431). -/
theorem enterL4_spec (s : State) : s.enterL4.power = { s.power with selfRefresh := true, carDom := List.replicate 16 .off } ∧
    s.enterL4.fabric.l4link = s.fabric.l4link ∧ s.enterL4.seed.now = s.seed.now := by
  unfold State.enterL4
  simp only [(recorded_capture ..).power, (recorded_capture ..).fabric, (recorded_capture ..).seed, (recorded_jwrite ..).power,
    (recorded_jwrite ..).fabric, (recorded_jwrite ..).seed, and_self]

/-- A deeper state is entered now, and its domains take their conditions (R426, R427). -/
theorem enterState_spec (n : Nat) (s : State) : (s.enterState n).power.state = pstateOf n ∧ (s.enterState n).power.enteredAt = s.seed.now ∧
    (s.power.doms.length = 20 → ∀ d ∈ domOrder,
      (s.enterState n).domain d = domCond (pstateOf n) (s.fabric.l4link.getD ((d + 1) % 2) 0) d) := by
  let x := if n = 4 then s.countState.enterL4 else s.countState
  have hx : x.power.doms = s.power.doms ∧ x.fabric.l4link = s.fabric.l4link ∧ x.seed.now = s.seed.now := by
    obtain ⟨hp, hf, hn⟩ := enterL4_spec s.countState
    have hc := recorded_countState s
    simp only [x]
    split
    · rw [hp, hf, hn, hc.power, hc.fabric, hc.seed]
      exact ⟨rfl, rfl, rfl⟩
    · rw [hc.power, hc.fabric, hc.seed]
      exact ⟨rfl, rfl, rfl⟩
  obtain ⟨hd, hl, hn⟩ := hx
  let p := x.power
  let y : State := { x with power := { p with
    state := pstateOf n, enteredAt := x.seed.now, selfRefresh := decide (3 ≤ n)
    belowAt := match p.belowAt with | some t => some t | none => some x.seed.now } }
  have hy : (s.enterState n).power = (y.seqDoms (pstateOf n)).power := (recorded_bump ..).power
  have hq := congrArg State.power (seqDoms_eq (pstateOf n) y)
  refine ⟨?_, ?_, fun h d hdo => ?_⟩
  · rw [hy, hq]
  · rw [hy, hq]
    exact hn
  · have hdom : (s.enterState n).domain d = (y.seqDoms (pstateOf n)).domain d := by
      unfold State.domain
      rw [hy]
    rw [hdom, seqDoms_domain _ (by rw [← h, ← hd]) d hdo]
    exact congrArg (fun l => domCond _ (List.getD l _ 0) d) hl

/-! ### The commands -/

theorem powerStateEntry_enters (s : State) : let u := s.trackIdle.evalTolerance
    u.glb.powered = true → u.mustStay = false → u.power.state.code < u.deepest →
      Completes .powerStateEntry s (fun t => t.power.state = pstateOf u.deepest ∧ t.power.enteredAt = s.seed.now ∧
        (Shape s → ∀ d ∈ domOrder, t.domain d = domCond (pstateOf u.deepest) (s.fabric.l4link.getD ((d + 1) % 2) 0) d)) := by
  intro u hp hm hd
  obtain ⟨h1, h2, h3⟩ := enterState_spec u.deepest u
  refine ⟨u.enterState u.deepest, ?_, h1, h2, fun sh => h3 ?_⟩
  · show execPowerStateEntry s = _
    unfold execPowerStateEntry
    simp only [u, hp, hm, hd, decide_true, Bool.not_false, Bool.and_self, if_true]
  · obtain ⟨-, -, -, -, -, -, -, -, -, -, -, h, -⟩ := sh
    exact h

/-- In L0 with no maintenance due R434 alone is evaluated: no state is left. -/
theorem exec_toleranceEvaluation_l0 (h : s.power.state = .l0) (hm : s.power.maintDue = false) :
    exec .toleranceEvaluation s = .next s.trackIdle.evalTolerance := by
  have state : s.trackIdle.evalTolerance.power.state = .l0 := h
  show execToleranceEvaluation s = _
  simp only [execToleranceEvaluation, hm, Bool.false_and, Bool.false_eq_true, if_false, state]
  rw [leaveTo_same _ _ (by rw [state])]
  simp [PState.exitUs]

/-- Below L0 the device returns to L0 where R429 holds, and else goes to the allowed state where the tolerance asks for it. -/
theorem exec_toleranceEvaluation_below (h : s.power.state ≠ .l0) (hp : s.glb.powered = true) :
    exec .toleranceEvaluation s = (let u := s.trackIdle.evalTolerance
      if u.mustStay = true then .next (u.leaveTo .l0 2 0)
      else if u.power.lt.toNat < s.power.state.exitUs then .next (u.leaveTo u.power.allowed 2 0) else .next u) := by
  have due : (s.power.maintDue && s.power.state == .l0 && s.maintDone) = false := by simp [h]
  have powered : s.trackIdle.evalTolerance.glb.powered = true := hp
  have state : s.trackIdle.evalTolerance.power.state = s.power.state := rfl
  show execToleranceEvaluation s = _
  simp only [execToleranceEvaluation, due, Bool.false_eq_true, if_false, powered, Bool.true_and, state]

theorem hubLow_shallower (late : Nat) (h : s.power.state = .l4) :
    Completes (.wakeEvent .hubLow late) s (fun t => t.power.state.code ≤ 3) := by
  let target := if s.power.allowed.code < 3 then s.power.allowed else PState.l3
  have ht : target.code ≤ 3 := by
    simp only [target]
    split
    · omega
    · decide
  refine ⟨s.leaveTo target 5 late, ?_, ?_⟩
  · show execWakeEvent .hubLow late s = _
    simp [execWakeEvent, h, target]
  · show (s.leaveTo target 5 late).power.state.code ≤ 3
    rw [(leaveTo_spec (target := target) 5 late (by rw [h]; exact Nat.lt_succ_of_le ht)).1]
    exact ht

theorem maintenanceWake_wakes {a : Nat} (ha : s.power.belowAt = some a) (h : s.power.state ≠ .l0)
    (hmin : max 1 (s.fld Reg.PS_CFG 31 16) * 60000000 ≤ s.since a) :
    Completes .maintenanceWake s (fun t => t.power.state = .l0 ∧ t.power.maintDue = true) := by
  let u : State := { s.leaveTo .l0 7 0 with power := { (s.leaveTo .l0 7 0).power with maintDue := true } }
  refine ⟨u.capture 0x0109 [u.since a / 60000000, s.power.state.code], ?_, ?_⟩
  · show execMaintenanceWake s = _
    simp only [execMaintenanceWake, ha, bne_iff_ne.mpr h, hmin, decide_true, Bool.and_true, if_true]
    rfl
  · simp only [(recorded_capture ..).power]
    exact ⟨leaveTo_l0 7 0 s, rfl⟩

theorem apstTransition_moves {i : Nat} {k : Ctrl} {p itpt : Nat} (hk : s.ctrl i = some k) (hen : k.apste = true)
    (hp : k.apst.getD k.ps (0, 0) = (p, itpt)) (hi : itpt ≠ 0) (hs : itpt * 1000 ≤ s.since k.lastIo)
    (hb : ∀ c ∈ s.eng.cct, c.cntl = i → ¬ c.queue < 8192) :
    Completes (.apstTransition i) s (fun t => t.ctrl i = some { k with ps := p }) := by
  have idle : s.eng.cct.any (fun e => e.cntl == i && decide (e.queue < 8192)) = false := by
    simp only [List.any_eq_false, Bool.and_eq_true, beq_iff_eq, decide_eq_true_eq, not_and]
    exact hb
  let f (y : Ctrl) : Ctrl := { y with ps := p }
  refine ⟨(s.modCtrl i f).evalTolerance, ?_, ?_⟩
  · show execApstTransition i s = _
    simp only [execApstTransition, hk, hp, hen, idle, hs, bne_iff_ne.mpr hi, decide_true, Bool.not_false, Bool.and_self, if_true]
    rfl
  · show (s.modCtrl i f).ctrl i = _
    rw [State.ctrl_modCtrl s i i f (fun _ => rfl), if_pos rfl, hk]
    rfl

/-- Settles O20, command by command. -/
theorem powerStatesAreEnteredAndLeft : Obligations.PowerStatesAreEnteredAndLeft := by
  intro s
  refine ⟨powerStateEntry_enters s, exec_toleranceEvaluation_l0, fun h hp hm => ?_, fun h hp hm hl => ?_, fun src late h hsrc => ?_,
    fun late => hubLow_shallower late, fun a => maintenanceWake_wakes, fun i k p itpt => apstTransition_moves⟩
  · refine ⟨_, ?_, leaveTo_l0 2 0 s.trackIdle.evalTolerance⟩
    rw [exec_toleranceEvaluation_below h hp]
    simp only [hm, if_true]
  · refine ⟨_, ?_, (leaveTo_spec (s := s.trackIdle.evalTolerance) 2 0 (allowed_shallower s.trackIdle hl)).1⟩
    rw [exec_toleranceEvaluation_below h hp]
    simp only [hm, Bool.false_eq_true, if_false, hl, if_true]
  · obtain ⟨x, t, e, hx, hp, hs⟩ := exec_wakeEvent (late := late) h hsrc
    obtain ⟨h1, h2, h3⟩ := leaveTo_spec (s := x) (target := .l0) (wakeBit src) late (code_pos (by rw [hx]; exact h))
    exact ⟨t, e, by rw [hp]; exact h1, by rw [hs]; exact h2, by rw [hs, h3, hx]⟩

end Sys2Proof
end

section
/-! PROOFS. Transport connections are opened and ended (O35). -/

namespace Sys2Proof

open Sys2Proof.Machine

variable {s t u : State}

/-! ### A frame for an interface -/

theorem woken_wakeXoff (port : Nat) (s : State) : Woken s (s.wakeXoff port) := by
  have send (l : List Nat) (x : State) : Woken x (l.foldl (fun s i => s.send (.xoff port i)) x) :=
    foldl_keeps (Woken x ·) (fun s i => s.send (.xoff port i)) l x (.refl x) fun y _ _ h => .after (t := y) ⟨rfl⟩ h
  refine .ite (.refl s) ((recorded_bump ..).woken.after ((send _ _).after ⟨rfl⟩))

theorem frameIn_awake (x : Iface) (h : s.power.state ≠ .l4) : s.frameIn x = s := by simp [State.frameIn, h]

/-- In L4 a frame wakes the device, and leaves what the connection services look at (R431). -/
theorem frameIn_asleep (x : Iface) (h : s.power.state = .l4) : (s.frameIn x).power.state = .l0 ∧ Woken s (s.frameIn x) := by
  have e : s.frameIn x = ((s.leaveTo .l0 1 0).wakeXoff (macPort x.mac)).smartCheck := by simp [State.frameIn, h]
  rw [e]
  refine ⟨?_, (aside_smartCheck _).recorded.woken.after ((woken_wakeXoff ..).after (woken_leaveTo ..))⟩
  rw [(aside_smartCheck _).recorded.power, (wakeXoff_power ..).1]
  exact leaveTo_l0 ..

theorem Woken.services (h : Woken s t) : t.services = s.services := by
  unfold State.services
  rw [h.glb, h.flush]

theorem woken_frameIn (x : Iface) (s : State) : Woken s (s.frameIn x) := by
  by_cases h : s.power.state = .l4
  · exact (frameIn_asleep x h).2
  · rw [frameIn_awake x h]
    exact .refl s

/-! ### Connection requests -/

/-- A TCP request taken on an interface, for a connection that is not there yet (R55). -/
theorem exec_tcpConnectRequest {conn i port : Nat} {tag : Option Nat} {ecn : Bool} {remote : BitVec 128} {x : Iface}
    (hx : s.ifaceIn i tag = some x) (hc : s.fabric.conns.any (·.id == conn) = false) :
    exec (.tcpConnectRequest conn ⟨i, tag⟩ ⟨port, ecn⟩ remote) s = .next
      (if s.services = true ∧ (port = 4420 ∨ port = 8009) then
        ((s.frameIn x).addConn { id := conn, iface := i, mac := x.mac, tcp := true, port := port, ecn := ecn }).send (.tcpAccept conn ecn)
      else (s.frameIn x).send (.tcpReset conn)) := by
  have w := woken_frameIn x s
  have port_bad : (port != 4420 && port != 8009) = true ↔ ¬ (port = 4420 ∨ port = 8009) := by simp
  show execTcpConnectRequest conn ⟨i, tag⟩ ⟨port, ecn⟩ remote s = _
  simp only [execTcpConnectRequest, hx, w.conns, hc, w.services, Bool.false_eq_true, if_false, Bool.or_eq_true, Bool.not_eq_true', port_bad]
  by_cases hs : s.services = true <;> by_cases hp : port = 4420 ∨ port = 8009 <;> simp [hs, hp]

/-- An RDMA request taken on an interface (R55, R65). -/
theorem exec_rdmaConnectRequest {conn : Nat} {r : RdmaReq} {remote : BitVec 128} {x : Iface}
    (hx : s.ifaceIn r.frame.iface r.frame.tag = some x) (hu : r.udp = 4791) (hi : r.icrcOk = true)
    (hc : s.fabric.conns.any (·.id == conn) = false) :
    exec (.rdmaConnectRequest conn r remote) s = .next (if s.services = true ∧ r.rc = true then
      ((s.frameIn x).addConn {
          id := conn, iface := r.frame.iface, mac := x.mac, tcp := false
          ring := (s.frameIn x).nbOf r.frame.iface remote, ecn := true, pmtu := rdmaMtu r.mtu x.mtu, readMax := min 16 r.reads }).send
          (.rdmaAccept conn (rdmaMtu r.mtu x.mtu) (min 16 r.reads))
      else (s.frameIn x).send (.rdmaReject conn)) := by
  have w := woken_frameIn x s
  show execRdmaConnectRequest conn r remote s = _
  simp only [execRdmaConnectRequest, hx, Option.filter_some, hu, hi, beq_self_eq_true, Bool.and_self, if_true, w.conns, hc, w.services,
    Bool.false_eq_true, if_false, Bool.or_eq_true, Bool.not_eq_true']
  by_cases hs : s.services = true <;> by_cases hr : r.rc = true <;> simp [hs, hr]

/-- What is put onto the fabric last is among what was sent. -/
theorem mem_sent_send (x : Sent) (s : State) : x ∈ (s.send x).fabric.sent := by simp [State.send]

/-! ### Handshakes -/

theorem exec_tlsHandshake {conn : Nat} {y : Conn} (hy : s.fabric.conns.find? (·.id == conn) = some y) (ht : y.tcp = true)
    (hi : y.icDone = false) (hl : y.tls = false) (h : TlsHello) :
    exec (.tlsHandshake conn h) s = (match h.alert with
      | some a => .next ((s.endConn conn).capture (macEv y.mac 6) [y.mac, a]).smartCheck
      | none => .next (if y.port = 8009 ∨ s.tlsFits h = false then
          ((s.drawFree.2.endConn conn).capture (macEv y.mac 6) [y.mac, s.drawFree.1.toNat]).smartCheck
        else { s with fabric := { s.fabric with conns := modFirst s.fabric.conns (·.id == conn) (fun y => { y with tls := true, psk := h.psk }) } })) := by
  show execTlsHandshake conn h s = _
  simp only [execTlsHandshake, hy, ht, hi, hl, Bool.not_true, Bool.or_self, Bool.false_eq_true, if_false]
  cases ha : h.alert with
  | some a => simp [State.done]
  | none => by_cases hp : y.port = 8009 <;> by_cases hf : s.tlsFits h = true <;> simp [hp, hf, State.done]

theorem exec_icreq {conn p : Nat} {h d : Bool} {y : Conn} (hy : s.fabric.conns.find? (·.id == conn) = some y) (ht : y.tcp = true)
    (hi : y.icDone = false) (hp : p < 32) : exec (.icreq conn h d p) s = .next
      (({ s with fabric := { s.fabric with conns := modFirst s.fabric.conns (·.id == conn) (fun y =>
        { y with icDone := true, hdgst := h, ddgst := d, hpda := p }) } } : State).send (.icResp conn 0 131072)) := by
  show execIcreq conn h d p s = _
  simp only [execIcreq, hy, ht, hi, Bool.not_true, Bool.or_self, Bool.false_or, decide_eq_true_eq, Nat.not_le.mpr hp, if_false]
  rfl

theorem exec_transportConnectionClosed {conn : Nat} {y : Conn} (hy : s.fabric.conns.find? (·.id == conn) = some y) :
    exec (.transportConnectionClosed conn) s =
      .next (match y.ring with | none => s.endConn conn | some nb => (s.endConn conn).assocLost nb false).smartCheck := by
  show execTransportConnectionClosed conn s = _
  simp only [execTransportConnectionClosed, hy]
  cases y.ring <;> rfl

/-! ### The end of a connection (R37, R88) -/

/-- With keys all different, the first element of a key is the only one. -/
theorem modFirst_eq_map {α β : Type} [BEq β] [LawfulBEq β] {l : List α} (key : α → β) (k : β) (f : α → α) (hn : (l.map key).Nodup) :
    modFirst l (key · == k) f = l.map (fun a => if key a == k then f a else a) := by
  induction l with
  | nil => rfl
  | cons a l ih =>
    obtain ⟨ha, hn⟩ := List.nodup_cons.mp hn
    simp only [modFirst, List.map_cons]
    split
    · next e =>
      have other : ∀ b ∈ l, (if key b == k then f b else b) = b := fun b hb => if_neg fun c =>
        ha (List.mem_map.mpr ⟨b, hb, (eq_of_beq c).trans (eq_of_beq e).symm⟩)
      rw [List.map_congr_left other, List.map_id']
    · rw [ih hn]

/-- A queue with its ring emptied. -/
def clearedQueue (q : Queue) : Queue := { q with ring := [] }

/-- Queues with the rings of some emptied. -/
def clearedQueues (qs l : List Queue) : List Queue := qs.foldl (fun l q => modFirst l (·.idx == q.idx) clearedQueue) l

/-- Rings cleared one after the other: the queues and the pool's use change alone. -/
theorem clearRings_eq (qs : List Queue) (s : State) : qs.foldl (fun s q => s.clearRing q) s =
    { s with eng := { s.eng with
      queues := clearedQueues qs s.eng.queues, poolUsed := (qs.foldl (fun s q => s.clearRing q) s).eng.poolUsed } } := by
  induction qs generalizing s with
  | nil => rfl
  | cons q qs ih =>
    rw [List.foldl_cons, ih]
    rfl

/-- With indices all different, every queue named has its ring emptied, and no other. -/
theorem clearedQueues_eq_map (qs : List Queue) {l : List Queue} (hn : (l.map (·.idx)).Nodup) :
    clearedQueues qs l = l.map (fun y => if y.idx ∈ qs.map (·.idx) then clearedQueue y else y) := by
  induction qs generalizing l with
  | nil => simp [clearedQueues]
  | cons q qs ih =>
    have keep : ((modFirst l (·.idx == q.idx) clearedQueue).map (·.idx)) = l.map (·.idx) := modFirst_map _ _ _ _ fun _ => rfl
    have step : clearedQueues (q :: qs) l = clearedQueues qs (modFirst l (·.idx == q.idx) clearedQueue) := rfl
    rw [step, ih (by rw [keep]; exact hn), modFirst_eq_map _ _ _ hn, List.map_map]
    refine List.map_congr_left fun y _ => ?_
    by_cases e : y.idx = q.idx <;> by_cases m : y.idx ∈ qs.map (·.idx) <;> simp_all [clearedQueue]

/-- An ended connection's queues with commands left, dead; the others stay. -/
def endedQueues (conn : Nat) (s : State) (cct : List Cct) : List Queue :=
  ((clearedQueues (s.eng.queues.filter (·.conn == conn)) s.eng.queues).map (fun q => if q.conn == conn then { q with dead := true } else q)).filter
    (fun q => !(q.dead && !cct.any (·.queue == q.idx)))

/-- Entries of an ended connection's queues run on with their completions discarded. -/
def endedEntries (conn : Nat) (s : State) : List Cct :=
  s.eng.cct.map (fun c => if ((s.eng.queues.filter (·.conn == conn)).map (·.idx)).contains c.queue then { c with discard := true } else c)

theorem endConn_eq (conn : Nat) (s : State) : s.endConn conn =
    { s with
      eng := { s.eng with
        cct := endedEntries conn s, queues := endedQueues conn s (endedEntries conn s), poolUsed := (s.endConn conn).eng.poolUsed }
      fabric := { s.fabric with
        conns := s.fabric.conns.filter (·.id != conn), flows := s.fabric.flows.filter (·.id != conn)
        sent := s.fabric.sent ++ [.connClosed conn] } } := by
  unfold State.endConn
  dsimp only
  rw [clearRings_eq]
  rfl

theorem endedQueues_spec (conn : Nat) (s : State) (cct : List Cct) : ∀ q ∈ endedQueues conn s cct, q.conn = conn →
    q.dead = true ∧ ((s.eng.queues.map (·.idx)).Nodup → q.ring = []) ∧ ∃ c ∈ cct, c.queue = q.idx := by
  intro q hq hc
  obtain ⟨hq, hleft⟩ := List.mem_filter.mp hq
  obtain ⟨y, hy, rfl⟩ := List.mem_map.mp hq
  have hyc : y.conn = conn := by
    split at hc
    · exact hc
    · exact hc
  simp only [hyc, beq_self_eq_true, if_true] at hleft ⊢
  refine ⟨trivial, fun hn => ?_, ?_⟩
  · rw [clearedQueues_eq_map _ hn] at hy
    obtain ⟨z, hz, rfl⟩ := List.mem_map.mp hy
    have hzc : z.conn = conn := by
      split at hyc
      · exact hyc
      · exact hyc
    have hin : z.idx ∈ (s.eng.queues.filter (·.conn == conn)).map (·.idx) :=
      List.mem_map.mpr ⟨z, List.mem_filter.mpr ⟨hz, by simp [hzc]⟩, rfl⟩
    rw [if_pos hin]
    rfl
  · simpa using hleft

theorem endedEntries_discard {conn : Nat} {q : Queue} (hq : q ∈ s.eng.queues) (hc : q.conn = conn) :
    ∀ c ∈ endedEntries conn s, c.queue = q.idx → c.discard = true := by
  intro c hm hi
  obtain ⟨x, -, rfl⟩ := List.mem_map.mp hm
  have hin : q.idx ∈ (s.eng.queues.filter (·.conn == conn)).map (·.idx) :=
    List.mem_map.mpr ⟨q, List.mem_filter.mpr ⟨hq, by simp [hc]⟩, rfl⟩
  by_cases e : ((s.eng.queues.filter (·.conn == conn)).map (·.idx)).contains x.queue = true
  · rw [if_pos e]
  · rw [if_neg e] at hi
    exact absurd (by rw [hi]; exact List.contains_iff_mem.mpr hin) e

/-- Settles O35: requests, handshakes, and the end of a connection. -/
theorem connectionsOpenAndEnd : Obligations.ConnectionsOpenAndEnd := by
  intro s
  refine ⟨fun conn i port tag ecn remote x hx hc => ⟨fun h => ?_, fun h => ?_⟩,
    fun conn r remote x hx hu hi hc => ⟨fun h => ?_, fun h => ?_⟩,
    fun conn y hy => ⟨fun ht hi hl h => ⟨fun ha hp hf => ?_, fun ha hp => ?_, fun a ha => ?_⟩, fun h d p ht hi hp => exec_icreq hy ht hi hp,
      fun hr => ?_, fun nb hr => ?_⟩, ?_⟩
  · rw [exec_tcpConnectRequest hx hc, frameIn_awake x h]
  · refine ⟨_, exec_tcpConnectRequest hx hc, ?_⟩
    have awake := (frameIn_asleep x h).1
    split
    · exact ⟨awake, mem_sent_send ..⟩
    · exact ⟨awake, mem_sent_send ..⟩
  · rw [exec_rdmaConnectRequest hx hu hi hc, frameIn_awake x h]
  · refine ⟨_, exec_rdmaConnectRequest hx hu hi hc, ?_⟩
    have awake := (frameIn_asleep x h).1
    split
    · exact ⟨awake, mem_sent_send ..⟩
    · exact ⟨awake, mem_sent_send ..⟩
  · rw [exec_tlsHandshake hy ht hi hl, ha]
    simp [hp, hf]
  · rw [exec_tlsHandshake hy ht hi hl, ha]
    simp only [hp, if_true]
    rfl
  · rw [exec_tlsHandshake hy ht hi hl, ha]
    rfl
  · rw [exec_transportConnectionClosed hy, hr]
  · rw [exec_transportConnectionClosed hy, hr]
  · intro conn u hu
    rw [endConn_eq] at hu
    rw [hu]
    exact ⟨fun y hy => by simpa using (List.mem_filter.mp hy).2, fun f hf => by simpa using (List.mem_filter.mp hf).2,
      endedQueues_spec conn s _, fun q hq hc => endedEntries_discard hq hc, rfl⟩

end Sys2Proof
end

section
/-! PROOFS. What the map holds of a unit after its changes (O41, O52). -/

namespace Sys2Proof

open Sys2Proof.Machine

variable {s t u : State}

theorem recorded_jsync (s : State) (b : RecBody) : Recorded s (s.jsync b) :=
  recorded_ite (.after (t := s.jwrite b) ⟨rfl⟩ (recorded_jwrite ..)) (recorded_jwrite ..)

/-- The map entry of a unit depends on the map alone. -/
theorem entryAt_congr (h : t.store.map = s.store.map) (sl ns mu : Nat) : t.entryAt sl ns mu = s.entryAt sl ns mu := by
  unfold State.entryAt
  rw [h]

/-- A unit reads the entry last put for it. -/
theorem entryAt_setEntry (s : State) (sl ns mu : Nat) (e : MapEntry) (sl' ns' mu' : Nat) :
    (s.setEntry sl ns mu e).entryAt sl' ns' mu' = if sl' = sl ∧ ns' = ns ∧ mu' = mu then e else s.entryAt sl' ns' mu' := by
  have key (c : MapCell) : (c.slice == sl' && c.nsid == ns' && c.mu == mu') = true ↔ c.slice = sl' ∧ c.nsid = ns' ∧ c.mu = mu' := by
    simp [and_assoc]
  let r := s.store.map.filter (fun c => !(c.slice == sl && c.nsid == ns && c.mu == mu))
  have hput : (s.setEntry sl ns mu e).store.map = if e = {} then r else { slice := sl, nsid := ns, mu := mu, e := e } :: r := rfl
  unfold State.entryAt
  rw [hput]
  by_cases same : sl' = sl ∧ ns' = ns ∧ mu' = mu
  · rw [if_pos same]
    obtain ⟨rfl, rfl, rfl⟩ := same
    by_cases he : e = {}
    · have none_left : r.find? (fun c => c.slice == sl' && c.nsid == ns' && c.mu == mu') = none := by
        simp only [r, List.find?_eq_none, List.mem_filter]
        rintro c ⟨-, hc⟩ hk
        simp [hk] at hc
      rw [if_pos he, none_left, he]
      rfl
    · simp [he]
  · rw [if_neg same]
    have rest : r.find? (fun c => c.slice == sl' && c.nsid == ns' && c.mu == mu') =
        s.store.map.find? (fun c => c.slice == sl' && c.nsid == ns' && c.mu == mu') := by
      rw [List.find?_filter]
      congr 1
      funext c
      by_cases hk : (c.slice == sl' && c.nsid == ns' && c.mu == mu') = true
      · have other : (c.slice == sl && c.nsid == ns && c.mu == mu) = false := by
          obtain ⟨h1, h2, h3⟩ := (key c).mp hk
          subst h1 h2 h3
          simpa [and_assoc] using same
        rw [other, hk]
        rfl
      · simp [hk]
    split
    · rw [rest]
    · rw [List.find?_cons_of_neg, rest]
      intro hk
      obtain ⟨h1, h2, h3⟩ := (key _).mp hk
      exact same ⟨h1.symm, h2.symm, h3.symm⟩

theorem lostSpill_map (s : State) : s.lostSpill.store.map = s.store.map := by
  unfold State.lostSpill
  split
  · split
    · rfl
    · exact (recorded_capture ..).map
  · rfl

theorem removeLost_map (s : State) (sl ns a n : Nat) : (s.removeLost sl ns a n).store.map = s.store.map := by
  unfold State.removeLost
  dsimp only
  split
  · rfl
  · exact lostSpill_map _

theorem supersede_map (s : State) (old : MapEntry) : (s.supersede old).store.map = s.store.map := by
  unfold State.supersede
  split <;> rfl

theorem entryAt_stageEntry (s : State) (sl ns mu : Nat) (e : MapEntry) (sl' ns' mu' : Nat) :
    (s.stageEntry sl ns mu e).entryAt sl' ns' mu' = if sl' = sl ∧ ns' = ns ∧ mu' = mu then e else s.entryAt sl' ns' mu' := by
  unfold State.stageEntry
  rw [entryAt_setEntry, entryAt_congr (supersede_map ..)]

theorem entryAt_deallocUnit (s : State) (sl ns mu sl' ns' mu' : Nat) :
    (s.deallocUnit sl ns mu).entryAt sl' ns' mu' = if sl' = sl ∧ ns' = ns ∧ mu' = mu then {} else s.entryAt sl' ns' mu' := by
  have lost : (if (s.entryAt sl ns mu).lost then s.removeLost sl ns (mu * s.unitLbas (s.lbafOf sl ns)) (s.unitLbas (s.lbafOf sl ns))
      else s).store.map = s.store.map := by
    split
    · exact removeLost_map ..
    · rfl
  exact (entryAt_stageEntry ..).trans (by rw [entryAt_congr lost])

/-- Units deallocated one after the other. -/
theorem entryAt_deallocUnits (l : List MapCell) (s : State) (sl ns mu : Nat) :
    (l.foldl (fun s c => s.deallocUnit sl ns c.mu) s).entryAt sl ns mu = if mu ∈ l.map (·.mu) then {} else s.entryAt sl ns mu := by
  induction l generalizing s with
  | nil => simp
  | cons c l ih =>
    rw [List.foldl_cons, ih, entryAt_deallocUnit]
    by_cases h : mu = c.mu
    · by_cases m : mu ∈ l.map (·.mu) <;> simp [h]
    · by_cases m : mu ∈ l.map (·.mu) <;> simp_all

/-- A unit the map does not list holds nothing. -/
theorem entryAt_unlisted {sl ns mu : Nat} (h : ∀ c ∈ s.store.map, ¬ (c.slice = sl ∧ c.nsid = ns ∧ c.mu = mu)) : s.entryAt sl ns mu = {} := by
  have none : s.store.map.find? (fun c => c.slice == sl && c.nsid == ns && c.mu == mu) = none :=
    List.find?_eq_none.mpr fun c hc hk => h c hc (by simpa [and_assoc] using hk)
  unfold State.entryAt
  rw [none]
  rfl

/-- A deallocated run of units leaves the map and no other unit of the namespace changes (R199). -/
theorem entryAt_deallocRun (s : State) (sl : Nat) (n : Ns) (i : Nat) (q : Word) (a k mu : Nat) :
    (s.deallocRun sl n i q (a, k)).entryAt sl n.nsid mu = if a ≤ mu ∧ mu < a + k then {} else s.entryAt sl n.nsid mu := by
  unfold State.deallocRun
  by_cases hk : k = 0
  · have none : ¬ (a ≤ mu ∧ mu < a + k) := by omega
    rw [if_pos hk, if_neg none]
  · rw [if_neg hk]
    dsimp only
    have hmap := (recorded_jsync s (.deallocRange sl n.nsid a i q k)).map
    rw [entryAt_deallocUnits, hmap, entryAt_congr hmap]
    by_cases hin : a ≤ mu ∧ mu < a + k
    · rw [if_pos hin]
      split
      · rfl
      · next h =>
        refine entryAt_unlisted fun c hc ⟨h1, h2, h3⟩ => h (List.mem_map.mpr ⟨c, List.mem_filter.mpr ⟨hc, ?_⟩, h3⟩)
        simp [h1, h2, h3, hin]
    · rw [if_neg hin, if_neg]
      intro hm
      obtain ⟨c, hc, rfl⟩ := List.mem_map.mp hm
      have := (List.mem_filter.mp hc).2
      simp only [Bool.and_eq_true, decide_eq_true_eq] at this
      exact hin ⟨this.1.2, this.2⟩

end Sys2Proof
end

section
/-! PROOFS. A unit goes to its lane, and a range is written (O41). -/

namespace Sys2Proof

open Sys2Proof.Machine

variable {s t u : State} {e : Nat} {c : Cct} {n : Ns}

/-- A command runs with its namespace. -/
theorem withNs_onNs {opc : Nat} {f : Cct → Ns → State → State} (h : OnNs s e opc c n) : s.withNs e opc f = f c n s := by
  obtain ⟨he, hn, h0⟩ := h
  unfold State.withNs
  rw [withCmd_onEntry he]
  simp only [hn, h0, if_true]

theorem reply_onEntry {opc st : Nat} {io : Bool} (h : OnEntry s e opc io c) : s.reply c st = s.finish e st 0 .none := by
  rw [State.reply, State.answer, h.idx]

/-! ### A unit goes to its lane -/

/-- An element found by its key at the end of a list none of whose others has the key. -/
theorem modFirst_concat {α : Type} {l : List α} {p : α → Bool} {f : α → α} {a : α} (h : ∀ x ∈ l, p x = false) (ha : p a = true) :
    modFirst (l ++ [a]) p f = l ++ [f a] := by
  induction l with
  | nil => simp [modFirst, ha]
  | cons x l ih => simp [modFirst, h x (List.mem_cons_self ..), ih fun y hy => h y (List.mem_cons_of_mem _ hy)]

theorem find?_concat {α : Type} {l : List α} {p : α → Bool} {a : α} (h : ∀ x ∈ l, p x = false) (ha : p a = true) :
    (l ++ [a]).find? p = some a := by
  rw [List.find?_append, List.find?_eq_none.mpr fun x hx => by simp [h x hx]]
  simp [ha]

/-- Punnets that may be had are granted at once (R384). -/
theorem requestPun_granted {cls k : Nat} {job entry : Option Nat} (h0 : k ≠ 0) (hp : s.punMay cls k = true)
    (hr : s.mem.reqs.any (·.cls == cls) = false) :
    ∃ (l : List Nat) (ps : List Punnet), s.requestPun cls k job entry =
      ({ s with mem := { s.mem with punnets := ps } } : State).giveChain job entry l := by
  let l := freeNums (s.mem.punnets.map (·.num)) punnetCount k 0
  refine ⟨l, (s.enterChain cls l).mem.punnets, ?_⟩
  unfold State.requestPun
  rw [if_neg h0, if_pos (by rw [hp, hr]; rfl)]
  rfl

/-- A job of a written unit whose punnets are at hand waits in the lane in service with the least queued work (R359, R366). -/
theorem startJob_granted {j : UnitJob} (hj : j.reading = false) (fresh : ∀ x ∈ s.store.jobs, x.id ≠ s.store.nextJob)
    (hp : s.punMay 3 (s.chainLen j) = true) (hr : s.mem.reqs.any (·.cls == 3) = false) :
    ∃ (l : List Nat) (ps : List Punnet), s.startJob j =
      { s with
        store := { s.store with
          jobs := s.store.jobs ++ [{ j with id := s.store.nextJob, stage := 0, x := none, chain := l, lane := s.laneFor, raw := none }]
          nextJob := s.store.nextJob + 1 }
        mem := { s.mem with punnets := ps } } := by
  have hk : s.chainLen j ≠ 0 := by
    unfold State.chainLen ceilDiv
    rw [hj]
    simp only [Bool.false_eq_true, if_false]
    omega
  have others : ∀ x ∈ s.store.jobs, (x.id == s.store.nextJob) = false := fun x hx => by simpa using fresh x hx
  let a : UnitJob := { j with id := s.store.nextJob }
  let b : UnitJob := { a with stage := 0, x := none, chain := [], lane := s.laneFor, raw := none }
  have hd : (s.addJob j).dropJob s.store.nextJob = { s with store := { s.store with nextJob := s.store.nextJob + 1 } } := by
    have : (s.store.jobs ++ [a]).filter (·.id != s.store.nextJob) = s.store.jobs := by
      rw [List.filter_append, List.filter_eq_self.mpr fun x hx => by simpa using fresh x hx]
      simp [a]
    unfold State.dropJob State.addJob
    simp only
    rw [this]
  let m : State := { s with store := { s.store with jobs := s.store.jobs ++ [b], nextJob := s.store.nextJob + 1 } }
  have hm : (s.addJob j).modJob s.store.nextJob (fun y => { y with
      stage := 0, x := if y.reading then y.x else none, chain := []
      lane := ((s.addJob j).dropJob s.store.nextJob).laneFor, raw := none }) = m := by
    have hl : ((s.addJob j).dropJob s.store.nextJob).laneFor = s.laneFor := by rw [hd]; rfl
    rw [hl]
    have hb : ({ a with stage := 0, x := if a.reading then a.x else none, chain := [], lane := s.laneFor, raw := none } : UnitJob) = b := by
      simp [a, b, hj]
    unfold State.modJob State.addJob
    simp only
    rw [modFirst_concat others (by simp)]
    exact congrArg (fun x => ({ s with store := { s.store with jobs := s.store.jobs ++ [x], nextJob := s.store.nextJob + 1 } } : State)) hb
  have hjob : m.job s.store.nextJob = some b := find?_concat others (by simp [b, a])
  obtain ⟨l, ps, hq⟩ := requestPun_granted (s := m) (job := some s.store.nextJob) (entry := b.entry) (cls := 3) (k := s.chainLen j) hk hp hr
  refine ⟨l, ps, ?_⟩
  have hs : s.startJob j = m.requestPun 3 (s.chainLen j) (some s.store.nextJob) b.entry := by
    unfold State.startJob State.giveLane
    simp only [hm, hjob]
    have hb : b.reading = false := hj
    rw [hb]
    rfl
  rw [hs, hq]
  show (State.modJob s.store.nextJob (fun y => { y with chain := l }) _) = _
  unfold State.modJob
  simp only [m]
  rw [modFirst_concat others (by simp [b, a])]

/-- A range within one map unit is written by one job, with the LBAs of the range (R187). -/
theorem writeRange_one {a mu : Nat} {l : List Lba} (hu : s.unitsOf n a l.length = [mu])
    (fresh : ∀ x ∈ s.store.jobs, x.id ≠ s.store.nextJob)
    (hp : s.punMay 3 (ceilDiv (16 + s.origLen (s.lbafOf c.slice n.nsid)) 4096) = true) (hr : s.mem.reqs.any (·.cls == 3) = false) :
    ∃ (j : UnitJob) (ps : List Punnet), s.writeRange c n a l =
        { s with store := { s.store with jobs := s.store.jobs ++ [j], nextJob := s.store.nextJob + 1 }, mem := { s.mem with punnets := ps } } ∧
      j.id = s.store.nextJob ∧ j.entry = some c.idx ∧ j.slice = c.slice ∧ j.nsid = n.nsid ∧ j.mu = mu ∧ j.stage = 0 ∧ j.reading = false ∧
      j.wrote = s.offsIn n a l.length mu ∧ j.orig = j.wrote.map (fun i => l.getD (mu * s.unitLbas n.lbaf + i - a) {}) ∧ j.lane = s.laneFor := by
  have hw : s.writeRange c n a l = s.writeJob c n mu (s.offsIn n a l.length mu)
      ((s.offsIn n a l.length mu).map (fun i => l.getD (mu * s.unitLbas n.lbaf + i - a) {})) := by
    unfold State.writeRange
    rw [hu]
    rfl
  rw [hw]
  obtain ⟨ch, ps, hj⟩ := startJob_granted (s := s) (j := {
      id := 0, entry := some c.idx, slice := c.slice, nsid := n.nsid, mu := mu
      wrote := s.offsIn n a l.length mu, orig := (s.offsIn n a l.length mu).map (fun i => l.getD (mu * s.unitLbas n.lbaf + i - a) {}) })
    rfl fresh hp hr
  exact ⟨_, ps, hj, rfl, rfl, rfl, rfl, rfl, rfl, rfl, rfl, rfl, rfl⟩

end Sys2Proof
end

section
/-! PROOFS. A read begins and completes (O41). -/

namespace Sys2Proof

open Sys2Proof.Machine

variable {s t u : State} {e : Nat} {c : Cct} {n : Ns}

/-! ### A read begins -/

/-- `t` differs from `s` at most in what a read that passes no lane touches: entries, pins of buffer extents and of bands, punnets. -/
structure Reads (s t : State) : Prop where
  rest : t = { s with
    eng := { s.eng with cct := t.eng.cct }, store := { s.store with buf := t.store.buf }
    mem := { s.mem with punnets := t.mem.punnets }, upkeep := { s.upkeep with bands := t.upkeep.bands } }

theorem Reads.refl (s : State) : Reads s s := ⟨rfl⟩

theorem Reads.after (k : Reads t u) (h : Reads s t) : Reads s u := by
  obtain ⟨h⟩ := h
  obtain ⟨k⟩ := k
  rw [h] at k
  exact ⟨k⟩

theorem reads_modEntry (s : State) (e : Nat) (f : Cct → Cct) : Reads s (s.modEntry e f) := ⟨rfl⟩

/-- The entry changed is found as changed. -/
theorem entry_modEntry_self {x : Cct} {f : Cct → Cct} (hf : ∀ c, (f c).idx = c.idx) (hx : s.entry e = some x) :
    (s.modEntry e f).entry e = some (f x) := by
  rw [State.entry_modEntry _ _ _ _ hf, if_pos rfl, hx]
  rfl

theorem Reads.waitsPun (h : Reads s t) (e : Nat) : t.waitsPun e = s.waitsPun e :=
  congrArg (fun r : List PunReq => r.any (·.entry == some e)) (congrArg (·.mem.reqs) h.rest :)

/-- What a range needs of punnets for codewords that bypass the lanes can be had at once: nothing, or one chain (R384). -/
def directNow (s : State) (sl : Nat) (n : Ns) (a len : Nat) : Prop :=
  s.directCws sl n a len [] = [] ∨
    ∃ k, s.directCws sl n a len [] = [k] ∧ s.punMay 1 k = true ∧ s.mem.reqs.any (·.cls == 1) = false

/-- Chains that can be had are granted to the entry and change nothing else of it. -/
theorem directCws_granted {l : List Nat} {x : Cct} (hx : s.entry e = some x)
    (hl : l = [] ∨ ∃ k, l = [k] ∧ s.punMay 1 k = true ∧ s.mem.reqs.any (·.cls == 1) = false) :
    ∃ ch, (l.foldl (fun s k => s.requestPun 1 k none (some e)) s).entry e = some { x with chain := x.chain ++ ch } ∧
      Reads s (l.foldl (fun s k => s.requestPun 1 k none (some e)) s) := by
  have same : s.entry e = some { x with chain := x.chain ++ [] } := by rw [List.append_nil]; exact hx
  rcases hl with rfl | ⟨k, rfl, hp, hr⟩
  · exact ⟨[], same, .refl s⟩
  · rw [List.foldl_cons, List.foldl_nil]
    by_cases hk : k = 0
    · rw [show s.requestPun 1 k none (some e) = s from if_pos hk]
      exact ⟨[], same, .refl s⟩
    · obtain ⟨ch, ps, h⟩ := requestPun_granted (job := none) (entry := some e) hk hp hr
      rw [h]
      exact ⟨ch, entry_modEntry_self (f := fun c => { c with chain := c.chain ++ ch }) (fun _ => rfl) hx, ⟨rfl⟩⟩

/-- A read-like command whose units pass no lane has begun and waits for nothing; what it came to is its entry's. -/
theorem beginRead_direct {a len step : Nat} {whole : Bool} {x : Cct} (hx : s.entry e = some x) (hc : c.idx = e)
    (lanes : s.laneUnits c.slice n a len whole = []) (hcw : directNow s c.slice n a len) :
    ∃ (m : State) (g : Gate) (ch : List Nat), s.beginRead c n a len whole step = m.readDone e ∧ Reads s m ∧
      m.entry e = some { x with step := step, left := 0, gate := g, chain := ch } := by
  subst hc
  let es := (s.unitsOf n a len).map (s.entryAt c.slice n.nsid)
  let offs := es.filterMap (fun e => match e.loc with | .buffered o => some o | _ => none)
  let bands := es.filterMap s.bandOf
  let pin (l : List Nat) : List Nat := l ++ [c.idx]
  let p : State := { s with
    store := { s.store with buf := s.store.buf.map (fun b =>
      if offs.contains b.off && !b.superseded && !b.pins.contains c.idx then { b with pins := pin b.pins } else b) }
    upkeep := { s.upkeep with bands := s.upkeep.bands.map (fun b =>
      if bands.contains b.num && !b.pins.contains c.idx then { b with pins := pin b.pins } else b) } }
  let comm := checksUnits c.cap.opc && decide (0 < es.length)
  let f (c : Cct) : Cct := { c with step := step, left := 0, gate := if comm then .committed else c.gate }
  have hq : (p.modEntry c.idx f).entry c.idx = some (f x) := entry_modEntry_self (s := p) (fun _ => rfl) hx
  obtain ⟨ch, he, hr⟩ := directCws_granted (s := p.modEntry c.idx f) hq hcw
  refine ⟨_, _, _, ?_, hr.after ((reads_modEntry ..).after ⟨rfl⟩), he⟩
  unfold State.beginRead
  rw [lanes]
  rfl

/-- A read that waits for nothing is complete, with the status and the data its meaning set. -/
theorem readDone_completes {x : Cct} (hx : s.entry e = some x) (hst : x.st = .dispatched) (h1 : x.step = 1) (hl : x.left = 0)
    (hw : s.waitsPun e = false) : Reads s (s.readDone e) ∧
      ∃ y, (s.readDone e).entry e = some y ∧ y.st = .completing ∧ y.status = x.status ∧
        y.out = (if x.status == St.ok then x.out else .none) ∧ y.rd = x.rd := by
  have h : s.readDone e = s.finish e x.status x.result (if x.status == St.ok then x.out else .none) := by
    simp [State.readDone, hx, hst, h1, hl, hw]
  rw [h]
  exact ⟨⟨rfl⟩, _, entry_modEntry_self (f := fun y => { y with
      st := .completing, gate := .committed, status := x.status
      result := x.result, out := if x.status == St.ok then x.out else .none }) (fun _ => rfl) hx, rfl, rfl, rfl, rfl⟩

/-- The source of a Copy has been read: it goes on to its destination (R118). -/
theorem readDone_copies {x : Cct} (hx : s.entry e = some x) (hst : x.st = .dispatched) (h2 : x.step = 2) (hl : x.left = 0)
    (hw : s.waitsPun e = false) : Reads s (s.readDone e) ∧
      ∃ y, (s.readDone e).entry e = some y ∧ y.st = .dispatched ∧ y.step = 3 := by
  have h : s.readDone e = s.modEntry e (fun c => { c with step := 3, st := .dispatched }) := by
    simp [State.readDone, hx, hst, h2, hl, hw]
  rw [h]
  exact ⟨⟨rfl⟩, _, entry_modEntry_self (f := fun c => { c with step := 3, st := .dispatched }) (fun _ => rfl) hx, rfl, rfl⟩

/-- A read-like command whose units pass no lane and that waits for nothing completes at once with what its entry holds. -/
theorem read_completes {a len : Nat} {whole : Bool} {x : Cct} (hx : s.entry e = some x) (hc : c.idx = e) (hst : x.st = .dispatched)
    (hw : s.waitsPun e = false) (lanes : s.laneUnits c.slice n a len whole = []) (hcw : directNow s c.slice n a len) :
    let t := s.beginRead c n a len whole 1
    Reads s t ∧ ∃ y, t.entry e = some y ∧ y.st = .completing ∧ y.status = x.status ∧
      y.out = (if x.status == St.ok then x.out else .none) ∧ y.rd = x.rd := by
  obtain ⟨m, g, ch, hb, hr, he⟩ := beginRead_direct (step := 1) (whole := whole) hx hc lanes hcw
  obtain ⟨hr', y, hy⟩ := readDone_completes he hst rfl rfl (by rw [hr.waitsPun]; exact hw)
  rw [hb]
  exact ⟨hr'.after hr, y, hy⟩

/-- The source of a Copy that is read without a wait is read at once. -/
theorem copy_reads {a len : Nat} {x : Cct} (hx : s.entry e = some x) (hc : c.idx = e) (hst : x.st = .dispatched)
    (hw : s.waitsPun e = false) (lanes : s.laneUnits c.slice n a len false = []) (hcw : directNow s c.slice n a len) :
    let t := s.beginRead c n a len false 2
    Reads s t ∧ ∃ y, t.entry e = some y ∧ y.st = .dispatched ∧ y.step = 3 := by
  obtain ⟨m, g, ch, hb, hr, he⟩ := beginRead_direct (step := 2) (whole := false) hx hc lanes hcw
  obtain ⟨hr', y, hy⟩ := readDone_copies he hst rfl rfl (by rw [hr.waitsPun]; exact hw)
  rw [hb]
  exact ⟨hr'.after hr, y, hy⟩

/-! ### The commands -/

theorem exec_write (h : OnNs s e 0x01 c n) (hd : c.dataHere n = true) : exec (.write e) s =
    (let st := if n.lbaf = 2 && lbaWire n c.cap != lbaSize n.lbaf then piStatus n c.cap (hostLbas n c.cap) else St.ok
    .next (if st != St.ok then s.finish e st 0 .none
      else (s.modEntry e (fun x => { x with
          step := 1, left := (s.unitsOf n c.cap.slba c.cap.nlb).length
          wr := c.cap.nlb * lbaSize n.lbaf, pib := xferBytes (some n) true c.cap - c.cap.nlb * lbaSize n.lbaf })).writeRange
        c n c.cap.slba (hostLbas n c.cap))) := by
  show execWrite e s = _
  simp only [execWrite, withNs_onNs h, hd, Bool.not_true, Bool.false_eq_true, if_false, reply_onEntry h.1]

theorem hostLbas_length (n : Ns) (c : Capsule) : (hostLbas n c).length = c.nlb := by simp [hostLbas]

/-- Reads of a range with a lost LBA that no peer repairs (R181). -/
theorem exec_reads_lost (hl : s.lostIn c.slice n c.cap.slba c.cap.nlb = 1) :
    (OnNs s e 0x02 c n → exec (.read e) s = .next (s.finish e St.unrecoveredRead 0 .none)) ∧
    (OnNs s e 0x05 c n → c.dataHere n = true → exec (.compare e) s = .next (s.finish e St.unrecoveredRead 0 .none)) ∧
    (OnNs s e 0x0C c n → exec (.verify e) s = .next (s.finish e St.unrecoveredRead 0 .none)) := by
  refine ⟨fun h => ?_, fun h hd => ?_, fun h => ?_⟩
  · show execRead e s = _
    simp only [execRead, withNs_onNs h, hl, reply_onEntry h.1]
  · show execCompare e s = _
    simp only [execCompare, withNs_onNs h, hl, hd, Bool.not_true, Bool.false_eq_true, if_false, reply_onEntry h.1]
  · show execVerify e s = _
    simp only [execVerify, withNs_onNs h, hl, reply_onEntry h.1]

end Sys2Proof
end

section
/-! PROOFS. I/O commands read and write their range (O41). -/

namespace Sys2Proof

open Sys2Proof.Machine

variable {s t u : State} {e : Nat} {c : Cct} {n : Ns}

/-- A range within one map unit with punnets at hand: one job, and the entry as `f` leaves it. -/
theorem write_starts {a mu : Nat} {l : List Lba} {f : Cct → Cct} (hf : ∀ x, (f x).idx = x.idx) (hx : s.entry e = some c)
    (hu : s.unitsOf n a l.length = [mu]) (hp : s.punMay 3 (ceilDiv (16 + s.origLen (s.lbafOf c.slice n.nsid)) 4096) = true)
    (hr : s.mem.reqs.any (·.cls == 3) = false) (fresh : ∀ x ∈ s.store.jobs, x.id ≠ s.store.nextJob) :
    let t := (s.modEntry e f).writeRange c n a l
    ∃ j : UnitJob, t.store.jobs = s.store.jobs ++ [j] ∧ j.id = s.store.nextJob ∧ j.entry = some e ∧ j.slice = c.slice ∧
      j.nsid = n.nsid ∧ j.mu = mu ∧ j.stage = 0 ∧ j.reading = false ∧ j.wrote = s.offsIn n a l.length mu ∧
      j.orig = j.wrote.map (fun i => l.getD (mu * s.unitLbas n.lbaf + i - a) {}) ∧ j.lane = s.laneFor ∧
      t.entry e = some (f c) ∧
      t = { s with eng := { s.eng with cct := t.eng.cct }, store := { s.store with
        jobs := t.store.jobs, nextJob := s.store.nextJob + 1 }, mem := { s.mem with punnets := t.mem.punnets } } := by
  obtain ⟨j, ps, ht, hj⟩ := writeRange_one (s := s.modEntry e f) (c := c) hu fresh hp hr
  obtain ⟨h1, h2, h3, h4, h5, h6, h7, h8, h9, h10⟩ := hj
  rw [entry_idx hx] at h2
  intro t
  have he : t.entry e = some (f c) := by
    simp only [t, ht]
    exact entry_modEntry_self hf hx
  refine ⟨j, ?_, h1, h2, h3, h4, h5, h6, h7, h8, h9, h10, he, ?_⟩
  · simp only [t, ht]
    rfl
  · simp only [t, ht]
    rfl

/-- A Write within one map unit (R187). -/
theorem write_one {mu : Nat} (h : OnNs s e 0x01 c n) (hd : c.dataHere n = true) (hl : n.lbaf ≠ 2)
    (hu : s.unitsOf n c.cap.slba c.cap.nlb = [mu]) (hp : s.punMay 3 (ceilDiv (16 + s.origLen (s.lbafOf c.slice n.nsid)) 4096) = true)
    (hr : s.mem.reqs.any (·.cls == 3) = false) (fresh : ∀ j ∈ s.store.jobs, j.id ≠ s.store.nextJob) : Completes (.write e) s (fun t =>
      ∃ j : UnitJob, t.store.jobs = s.store.jobs ++ [j] ∧ j.id = s.store.nextJob ∧ j.entry = some e ∧ j.slice = c.slice ∧
      j.nsid = n.nsid ∧ j.mu = mu ∧ j.stage = 0 ∧ j.reading = false ∧ j.wrote = s.offsIn n c.cap.slba c.cap.nlb mu ∧
      j.orig = j.wrote.map (fun i => (hostLbas n c.cap).getD (mu * s.unitLbas n.lbaf + i - c.cap.slba) {}) ∧
      j.lane = s.laneFor ∧
      (t.entry e).map (fun x => (x.step, x.left, x.wr)) = some (1, 1, c.cap.nlb * lbaSize n.lbaf) ∧
      t = { s with eng := { s.eng with cct := t.eng.cct }, store := { s.store with
        jobs := t.store.jobs, nextJob := s.store.nextJob + 1 }, mem := { s.mem with punnets := t.mem.punnets } }) := by
  let f (x : Cct) : Cct := { x with
    step := 1, left := (s.unitsOf n c.cap.slba c.cap.nlb).length, wr := c.cap.nlb * lbaSize n.lbaf
    pib := xferBytes (some n) true c.cap - c.cap.nlb * lbaSize n.lbaf }
  have len := hostLbas_length n c.cap
  obtain ⟨j, h1, h2, h3, h4, h5, h6, h7, h8, h9, h10, h11, h12, h13⟩ :=
    write_starts (f := f) (l := hostLbas n c.cap) (fun _ => rfl) h.1.1 (by rw [len]; exact hu) hp hr fresh
  rw [len] at h9
  refine ⟨_, exec_write h hd, ?_⟩
  simp only [hl, decide_false, Bool.false_and, Bool.false_eq_true, if_false, bne_self_eq_false]
  refine ⟨j, h1, h2, h3, h4, h5, h6, h7, h8, h9, h10, h11, ?_, h13⟩
  rw [h12]
  simp [f, hu]

/-- A Write whose protection information fails (R127). -/
theorem write_badPi (h : OnNs s e 0x01 c n) (hd : c.dataHere n = true) (hl : n.lbaf = 2) (hw : lbaWire n c.cap ≠ lbaSize n.lbaf)
    (hp : piStatus n c.cap (hostLbas n c.cap) ≠ St.ok) :
    exec (.write e) s = .next (s.finish e (piStatus n c.cap (hostLbas n c.cap)) 0 .none) := by
  rw [exec_write h hd]
  simp only [hl, hl ▸ bne_iff_ne.mpr hw, decide_true, Bool.and_self, if_true, bne_iff_ne.mpr hp]

/-- Read, Compare and Verify of a range that waits for nothing (R118, R369). -/
theorem reads_complete (h0 : s.lostIn c.slice n c.cap.slba c.cap.nlb = 0) (hst : c.status = St.ok) (hw : s.waitsPun e = false)
    (hcw : directNow s c.slice n c.cap.slba c.cap.nlb) :
    (OnNs s e 0x02 c n → s.laneUnits c.slice n c.cap.slba c.cap.nlb false = [] → Completes (.read e) s (fun t =>
      (t.entry e).map (fun x => (x.st, x.status, x.out, x.rd)) = some (.completing, St.ok,
        .lbas ((s.content c.slice n c.cap.slba c.cap.nlb).map (wireLba n c.cap)), c.cap.nlb * lbaSize n.lbaf) ∧ Reads s t)) ∧
    (OnNs s e 0x05 c n → c.dataHere n = true → s.laneUnits c.slice n c.cap.slba c.cap.nlb false = [] →
      Completes (.compare e) s (fun t =>
        (t.entry e).map (fun x => (x.st, x.status)) = some (.completing,
          if (s.content c.slice n c.cap.slba c.cap.nlb).map (wireLba n c.cap) =
            (List.range c.cap.nlb).map (fun i => wireLba n c.cap (hostLba n c.cap c.cap.data i)) then St.ok
          else St.compareFailure) ∧ Reads s t)) ∧
    (OnNs s e 0x0C c n → s.laneUnits c.slice n c.cap.slba c.cap.nlb true = [] → Completes (.verify e) s (fun t =>
      (t.entry e).map (fun x => (x.st, x.status)) = some (.completing, St.ok) ∧ Reads s t)) := by
  refine ⟨fun h hl => ?_, fun h hd hl => ?_, fun h hl => ?_⟩
  · let f (x : Cct) : Cct := { x with
      out := .lbas ((s.content c.slice n c.cap.slba c.cap.nlb).map (wireLba n c.cap))
      rd := c.cap.nlb * lbaSize n.lbaf, pib := xferBytes (some n) true c.cap - c.cap.nlb * lbaSize n.lbaf }
    obtain ⟨hr, y, hy, h1, h2, h3, h4⟩ := read_completes (s := s.modEntry e f) (entry_modEntry_self (f := f) (fun _ => rfl) h.1.1)
      h.1.idx h.1.2.1 hw hl hcw
    refine ⟨_, ?_, ?_, hr.after (reads_modEntry ..)⟩
    · show execRead e s = _
      simp only [execRead, withNs_onNs h, h0]
      rfl
    · rw [hy]
      simp [h1, h2, h3, h4, f, hst]
  · let st := if (s.content c.slice n c.cap.slba c.cap.nlb).map (wireLba n c.cap) =
      (List.range c.cap.nlb).map (fun i => wireLba n c.cap (hostLba n c.cap c.cap.data i)) then St.ok else St.compareFailure
    let f (x : Cct) : Cct := { x with status := st }
    obtain ⟨hr, y, hy, h1, h2, -, -⟩ := read_completes (s := s.modEntry e f) (entry_modEntry_self (f := f) (fun _ => rfl) h.1.1)
      h.1.idx h.1.2.1 hw hl hcw
    refine ⟨_, ?_, ?_, hr.after (reads_modEntry ..)⟩
    · show execCompare e s = _
      simp only [execCompare, withNs_onNs h, h0, hd, Bool.not_true, Bool.false_eq_true, if_false]
      rfl
    · rw [hy]
      simp [h1, h2, f, st]
  · obtain ⟨hr, y, hy, h1, h2, -, -⟩ := read_completes (whole := true) h.1.1 h.1.idx h.1.2.1 hw hl hcw
    refine ⟨_, ?_, ?_, hr⟩
    · show execVerify e s = _
      simp only [execVerify, withNs_onNs h, h0]
    · rw [hy]
      simp [h1, h2, hst]

/-- A map unit that holds nothing reads as deallocated LBAs (R181). -/
theorem unitContent_empty {sl ns mu : Nat} (h : s.entryAt sl ns mu = {}) :
    s.unitContent sl ns mu = List.replicate (s.unitLbas (s.lbafOf sl ns)) (zeroLba (s.lbafOf sl ns)) := by
  unfold State.unitContent
  rw [h]
  rfl

theorem exec_writeZeroes (h : OnNs s e 0x08 c n) (hj : s.journalHolds = false) :
    exec (.writeZeroes e) s = .next (s.deallocRanges c n [(c.cap.slba, c.cap.nlb)]) := by
  show execWriteZeroes e s = _
  simp only [execWriteZeroes, withNs_onNs h, hj, Bool.false_eq_true, if_false]

theorem exec_datasetManagement (h : OnNs s e 0x09 c n) :
    (dsmDealloc c.cap = false → exec (.datasetManagement e) s = .next (s.finish e St.ok 0 .none)) ∧
    (dsmDealloc c.cap = true → c.dataHere n = true → State.rangesIn n c.cap = true → s.journalHolds = false →
      exec (.datasetManagement e) s = .next (s.deallocRanges c n c.cap.dsmRanges)) := by
  have ex : exec (.datasetManagement e) s = execDatasetManagement e s := rfl
  rw [ex, execDatasetManagement, withNs_onNs h]
  refine ⟨fun hd => ?_, fun hd hh hr hj => ?_⟩
  · simp only [hd, Bool.not_false, if_true, reply_onEntry h.1]
  · simp only [hd, hh, hr, hj, Bool.not_true, Bool.false_eq_true, if_false]

/-- A Copy that begins reads its source (R118). -/
theorem copy_begins (h : OnNs s e 0x19 c n) (hd : 32 ≤ c.cap.data.length) (hs : State.sizeStatus n c.cap = St.ok)
    (hi : State.rangesIn n c.cap = true) (h0 : s.lostIn c.slice n c.cap.copySrc.1 c.cap.copySrc.2 = 0)
    (lanes : s.laneUnits c.slice n c.cap.copySrc.1 c.cap.copySrc.2 false = []) (hw : s.waitsPun e = false)
    (hcw : directNow s c.slice n c.cap.copySrc.1 c.cap.copySrc.2) : Completes (.copy e) s (fun t =>
      (t.entry e).map (fun x => (x.st, x.step)) = some (.dispatched, 3) ∧ Reads s t) := by
  obtain ⟨hr, y, hy, h1, h2⟩ := copy_reads h.1.1 h.1.idx h.1.2.1 hw lanes hcw
  refine ⟨_, ?_, ?_, hr⟩
  · obtain ⟨he, hn, hz⟩ := h
    show execCopy e s = _
    simp only [execCopy, withCmd_onEntry he, hn, Nat.not_lt.mpr hd, hz, hs, hi, h0, if_false, if_true, bne_self_eq_false, Bool.false_eq_true,
      Bool.not_true]
  · rw [hy]
    simp [h1, h2]

/-- A Copy whose source has been read rewrites it, within one map unit (R118). -/
theorem copy_one {mu : Nat} (h : OnEntry s e 0x19 true c) (hn : s.nsOf c.slice c.cap.nsid = some n) (h3 : c.step = 3) (hst : c.status = St.ok)
    (hd : 32 ≤ c.cap.data.length) (hpi : n.pi = 0) (hu : s.unitsOf n c.cap.slba c.cap.copySrc.2 = [mu])
    (hlen : (s.content c.slice n c.cap.copySrc.1 c.cap.copySrc.2).length = c.cap.copySrc.2)
    (hp : s.punMay 3 (ceilDiv (16 + s.origLen (s.lbafOf c.slice n.nsid)) 4096) = true) (hr : s.mem.reqs.any (·.cls == 3) = false)
    (fresh : ∀ j ∈ s.store.jobs, j.id ≠ s.store.nextJob) : Completes (.copy e) s (fun t =>
      ∃ j : UnitJob, t.store.jobs = s.store.jobs ++ [j] ∧ j.id = s.store.nextJob ∧ j.entry = some e ∧ j.slice = c.slice ∧
      j.nsid = n.nsid ∧ j.mu = mu ∧ j.stage = 0 ∧ j.reading = false ∧ j.wrote = s.offsIn n c.cap.slba c.cap.copySrc.2 mu ∧
      j.orig = j.wrote.map (fun i =>
        (s.content c.slice n c.cap.copySrc.1 c.cap.copySrc.2).getD (mu * s.unitLbas n.lbaf + i - c.cap.slba) {}) ∧
      j.lane = s.laneFor ∧
      (t.entry e).map (fun x => (x.step, x.left, x.wr)) = some (1, 1, c.cap.copySrc.2 * lbaSize n.lbaf) ∧
      t = { s with eng := { s.eng with cct := t.eng.cct }, store := { s.store with
        jobs := t.store.jobs, nextJob := s.store.nextJob + 1 }, mem := { s.mem with punnets := t.mem.punnets } }) := by
  let f (x : Cct) : Cct := { x with
    step := 1, left := (s.unitsOf n c.cap.slba c.cap.copySrc.2).length
    wr := c.cap.copySrc.2 * lbaSize n.lbaf, pib := c.cap.copySrc.2 * lbaXfer n.lbaf - c.cap.copySrc.2 * lbaSize n.lbaf }
  obtain ⟨j, h1, h2, h3', h4, h5, h6, h7, h8, h9, h10, h11, h12, h13⟩ :=
    write_starts (f := f) (l := s.content c.slice n c.cap.copySrc.1 c.cap.copySrc.2) (fun _ => rfl) h.1 (by rw [hlen]; exact hu) hp hr fresh
  rw [hlen] at h9
  have kept : copyLbas n c.cap (s.content c.slice n c.cap.copySrc.1 c.cap.copySrc.2) = s.content c.slice n c.cap.copySrc.1 c.cap.copySrc.2 := by
    simp [copyLbas, hpi]
  refine ⟨_, ?_, j, h1, h2, h3', h4, h5, h6, h7, h8, h9, h10, h11, ?_, h13⟩
  · show execCopy e s = _
    simp only [execCopy, withCmd_onEntry h, hn, Nat.not_lt.mpr hd, h3, hst, kept, hpi, if_false, bne_self_eq_false, Bool.false_eq_true,
      Bool.false_and, show ¬ (3 = 0) by decide]
    rfl
  · rw [h12]
    simp [f, hu]

/-- Settles O41, command by command. -/
theorem ioCommandsReadAndWriteTheirRange : Obligations.IoCommandsReadAndWriteTheirRange := by
  intro s e c n
  refine ⟨fun h => ?_, fun h hd hl hw hp => write_badPi h hd hl hw hp, fun mu h hd hl hu hp hr hf => write_one h hd hl hu hp hr hf,
    fun h => exec_reads_lost h, fun h0 hst hw hcw => ?_, fun sl ns mu h => unitContent_empty h, exec_writeZeroes, exec_datasetManagement,
    (entryAt_deallocRun s · n), fun h hd hs hi h0 hl hw hcw => ?_,
    fun mu h hn h3 hst hd hpi hu hlen hp hr hf => copy_one h hn h3 hst hd hpi hu hlen hp hr hf⟩
  · show execFlush e s = _
    rw [execFlush, withCmd_onEntry h, reply_onEntry h]
  · obtain ⟨hr, hc, hv⟩ := reads_complete (n := n) h0 hst hw hcw
    refine ⟨fun h hl => ?_, fun h hd hl => ?_, fun h hl => ?_⟩
    · obtain ⟨t, he, h1, h2⟩ := hr h hl
      exact ⟨t, he, h1, h2.rest⟩
    · obtain ⟨t, he, h1, h2⟩ := hc h hd hl
      exact ⟨t, he, h1, h2.rest⟩
    · obtain ⟨t, he, h1, h2⟩ := hv h hl
      exact ⟨t, he, h1, h2.rest⟩
  · obtain ⟨t, he, h1, h2⟩ := copy_begins h hd hs hi h0 hl hw hcw
    exact ⟨t, he, h1, h2.rest⟩

end Sys2Proof
end

section
/-! PROOFS. What the recorder keeps (O39, O52): a property that its four kinds of change keep is kept by the capture of an event, by a count
that rises, and by the examination of the Critical Warnings. -/

namespace Sys2Proof

open Sys2Proof.Machine

variable {s t u : State}

theorem ite_keeps {α : Type} (P : α → Prop) {p : Prop} [Decidable p] {t u : α} (h : P t) (k : P u) : P (if p then t else u) := by
  split
  · exact h
  · exact k

/-- A property of states that each change the recorder makes keeps: a sticky bit, the recorder's own state, the mark of an image on
probation, and a notice. -/
structure KeptByRecorder (P : State → Prop) : Prop where
  sticky : ∀ {t : State} {g : Nat} (b : Nat), g < 36 → P t → P (t.setSticky g b)
  events : ∀ {t : State} (x : Events), P t → P { t with events := x }
  prob : ∀ {t : State} (b : Bool), P t → P { t with fw := { t.fw with probFault := b } }
  notify : ∀ {t : State} (c : Nat) (n : Notice), P t → P (t.notify c n)

namespace KeptByRecorder

variable {P : State → Prop}

theorem notifyAll (k : KeptByRecorder P) {p : Ctrl → Bool} {n : Notice} (h : P s) : P (s.notifyAll p n) :=
  foldl_keeps P _ _ s h fun _ _ _ hx => k.notify _ _ hx

theorem evActs (k : KeptByRecorder P) {code sev : Nat} (hg : code / 256 < 36) (h : P s) : P (s.evActs code sev) := by
  have mark : P (if sev = 4 && s.fw.probEnd.isSome then { s with fw := { s.fw with probFault := true } } else s) := by
    split
    · exact k.prob _ h
    · exact h
  have b := k.sticky (code % 256) hg mark
  exact ite_keeps P (k.notifyAll (k.events _ b)) (k.events _ b)

theorem evDrop (k : KeptByRecorder P) {g n : Nat} (hg : g < 36) (h : P s) : P (s.evDrop g n) := by
  have drop := k.sticky 0 hg (k.events { s.events with dropped := min (s.events.dropped + n) 0xFFFFFFFF } h)
  exact ite_keeps P (k.sticky _ (by decide) (k.evActs (by decide) drop)) drop

theorem evWrite (k : KeptByRecorder P) {r : EvRec} {n : Nat} (hg : r.code / 256 < 36) (h : P s) : P (s.evWrite r n).2 := by
  unfold State.evWrite
  split
  · split
    · exact k.events _ h
    · exact k.evDrop hg (k.events _ h)
  · split
    · exact k.evDrop hg h
    · split
      · exact k.events _ (k.evActs (by decide) (k.evDrop hg h))
      · exact k.events _ h

theorem captureOne (k : KeptByRecorder P) {code : Nat} {ps : List Nat} (h : P s) : P (s.captureOne code ps) := by
  unfold State.captureOne
  split
  · exact h
  · next sev hs =>
    have hg := severity_group hs
    exact ite_keeps P (k.events _ (k.evWrite hg (k.evActs hg h))) (k.events _ (k.sticky _ hg (k.evActs hg h)))

/-- The capture of an event is at most three captures of one. -/
theorem capture (k : KeptByRecorder P) {code : Nat} {ps : List Nat} (h : P s) : P (s.capture code ps) := by
  unfold State.capture
  dsimp only
  split
  · split
    · exact k.captureOne (k.captureOne (k.captureOne h))
    · exact k.captureOne (k.captureOne h)
  · exact k.captureOne h

/-- A count that rises, where the property does not look at its register. -/
theorem bump (k : KeptByRecorder P) {off n : Nat} (hoff : ∀ v, P (s.setReg off v)) : P (s.bump off n) := by
  unfold State.bump
  dsimp only
  split
  · exact k.capture (hoff _)
  · exact hoff _

/-- The examination of the Critical Warnings notes them and raises notices. -/
theorem smartCheck (k : KeptByRecorder P) (hw : ∀ {t : State} (c w : Nat), P t → P (t.modCtrl c (fun k => { k with warn := w }))) (h : P s) :
    P s.smartCheck := by
  have bit {y : State} {c : Ctrl} {a b i j : Nat} (hy : P y) : P (y.warnBit c a b i j) := by
    unfold State.warnBit
    split
    · exact k.notify _ _ hy
    · exact hy
  refine foldl_keeps P _ _ s h fun x c _ hx => ?_
  dsimp only
  split
  · exact hx
  · exact bit (bit (bit (bit (hw _ _ hx))))

end KeptByRecorder

end Sys2Proof
end

section
/-! PROOFS. Completions: what posting one leaves of the table, of the slices' tokens and of the controllers (O39). -/

namespace Sys2Proof

open Sys2Proof.Machine

variable {s t u : State} {e : Nat} {c x : Cct}

/-! ### What a closed entry is metered by -/

/-- What of a slice decides on a release: its number, its state and its buckets. -/
def tokenKey (x : SliceS) : Nat × SliceState × Int × Int := (x.num, x.state, x.opTok, x.byteTok)

/-- `t` differs from `s` at most in the meters and counts of slices and in the error entries of controllers. -/
structure Metered (s t : State) : Prop where
  rest : t = { s with slices := t.slices, eng := { s.eng with ctrls := t.eng.ctrls } }
  keys : t.slices.list.map tokenKey = s.slices.list.map tokenKey
  ctrls : t.eng.ctrls.map (fun k => (k.id, k.aers)) = s.eng.ctrls.map (fun k => (k.id, k.aers))

theorem Metered.refl (s : State) : Metered s s := ⟨rfl, rfl, rfl⟩

theorem Metered.after (k : Metered t u) (h : Metered s t) : Metered s u := by
  refine ⟨?_, k.keys.trans h.keys, k.ctrls.trans h.ctrls⟩
  have e := k.rest
  rw [h.rest] at e
  exact e

theorem metered_ite {p : Prop} [Decidable p] (h : Metered s t) (k : Metered s u) : Metered s (if p then t else u) := by
  split
  · exact h
  · exact k

theorem metered_modSlice (s : State) (n : Nat) {f : SliceS → SliceS} (hf : ∀ x, tokenKey (f x) = tokenKey x) : Metered s (s.modSlice n f) :=
  ⟨rfl, modFirst_map _ _ _ _ hf, rfl⟩

theorem metered_meterAdd (s : State) (n i v : Nat) : Metered s (s.meterAdd n i v) := metered_modSlice _ _ fun _ => rfl

theorem metered_meterClosed (s : State) (e : Cct) (st : Nat) : Metered s (s.meterClosed e st) := by
  have add {x : State} {i v : Nat} (h : Metered s x) : Metered s (x.meterAdd e.slice i v) := (metered_meterAdd ..).after h
  have bytes {x : State} {rd wr : Nat} (h : Metered s x) :
      Metered s (x.modSlice e.slice fun y => { y with readBytes := y.readBytes + rd, writeBytes := y.writeBytes + wr }) :=
    (metered_modSlice x e.slice (f := fun y => { y with readBytes := y.readBytes + rd, writeBytes := y.writeBytes + wr }) fun _ => rfl).after h
  have failed {x : State} (h : Metered s x) : Metered s (if st != St.ok then x.meterAdd e.slice 12 1 else x) := metered_ite (add h) h
  have timed {x : State} {p q : Bool} {us : Nat} (h : Metered s x) :
      Metered s (if p then x.meterAdd e.slice 9 us else if q then x.meterAdd e.slice 10 us else x) :=
    metered_ite (add h) (metered_ite (add h) h)
  exact failed (bytes (add (add (add (add (add (add (timed (add (.refl s))))))))))

theorem metered_recordErr (s : State) (e : Cct) (st : Nat) : Metered s (s.recordErr e st) := by
  have count : Metered s (s.countErr e.slice) := metered_ite ⟨rfl, rfl, rfl⟩ (metered_modSlice _ _ fun _ => rfl)
  exact Metered.after ⟨rfl, rfl, modFirst_map _ _ _ _ fun _ => rfl⟩ count

/-- A closed entry is metered and its error recorded before its completion is sent. -/
theorem post_eq (s : State) (e : Cct) (st : Nat) (r : Word) : ∃ x, Metered s x ∧ s.post e st r = x.sendCqe e st r := by
  have closed := metered_ite (p := e.queue < 8192) (metered_meterClosed s e st)
    (metered_ite (p := (st != St.ok && e.slice != 0) = true) (metered_meterAdd s e.slice 12 1) (.refl s))
  exact ⟨_, metered_ite (p := statusNoEntry st = true) closed ((metered_recordErr ..).after closed), rfl⟩

/-! ### The entry is freed -/

theorem releaseWaiters_idx (l : List Cct) (ws : List Nat) (now : Nat) : (releaseWaiters l ws now).map (·.idx) = l.map (·.idx) := by
  rw [releaseWaiters, List.map_map]
  refine List.map_congr_left fun y _ => ?_
  simp only [Function.comp]
  split
  · split <;> rfl
  · rfl

/-- An entry found where waiters are released is the one found before, released if it waits. -/
theorem find?_releaseWaiters (l : List Cct) (ws : List Nat) (now e : Nat) : (releaseWaiters l ws now).find? (·.idx == e) =
    (l.find? (·.idx == e)).bind fun y => (releaseWaiters [y] ws now).head? := by
  induction l with
  | nil => rfl
  | cons y l ih =>
    have keys := releaseWaiters_idx [y] ws now
    rw [releaseWaiters, List.map_singleton, List.map_singleton, List.map_singleton, List.singleton_inj] at keys
    rw [releaseWaiters, List.map_cons, List.find?_cons, List.find?_cons, keys]
    by_cases hy : y.idx = e
    · simp only [beq_iff_eq.mpr hy]
      rfl
    · simp only [beq_eq_false_iff_ne.mpr hy]
      exact ih

/-- The table after an entry is freed, its waiters released. -/
theorem freeEntry_cct (s : State) (x : Cct) : (s.freeEntry x).eng.cct =
    if x.orderDone then s.eng.cct.filter (·.idx != x.idx) else releaseWaiters (s.eng.cct.filter (·.idx != x.idx)) x.waiters s.seed.now := rfl

theorem freeEntry_idx (s : State) (x : Cct) : (s.freeEntry x).eng.cct.map (·.idx) = (s.eng.cct.filter (·.idx != x.idx)).map (·.idx) := by
  rw [freeEntry_cct]
  split
  · rfl
  · exact releaseWaiters_idx ..

/-- The freed entry is out of the table. -/
theorem freeEntry_gone (s : State) (x : Cct) : ∀ y ∈ (s.freeEntry x).eng.cct, y.idx ≠ x.idx := by
  intro y hy
  have hm : y.idx ∈ (s.freeEntry x).eng.cct.map (·.idx) := List.mem_map_of_mem hy
  rw [freeEntry_idx] at hm
  obtain ⟨z, hz, e⟩ := List.mem_map.mp hm
  rw [← e]
  simpa using (List.mem_filter.mp hz).2

/-- Entries other than the freed one stay, those held for overlap apart. -/
theorem entry_freeEntry (he : s.entry e = some c) (hc : c.st ≠ .heldOverlap) (hne : e ≠ x.idx) : (s.freeEntry x).entry e = some c := by
  have kept : (s.eng.cct.filter (·.idx != x.idx)).find? (·.idx == e) = some c := by
    rw [List.find?_filter]
    refine Eq.trans ?_ he
    congr 1
    funext y
    by_cases h : y.idx = e
    · simp [h, hne]
    · simp [h]
  rw [State.entry, freeEntry_cct]
  split
  · exact kept
  · rw [find?_releaseWaiters, kept]
    simp [releaseWaiters, hc]

/-! ### What a completion comes to -/

theorem entry_park (h : s.entry x.idx = none) {st : Nat} {r : Word} :
    ((s.park x st r).entry x.idx).map (fun y => (y.parked, y.status, y.result)) = some (true, st, r) := by
  have none : s.eng.cct.find? (·.idx == x.idx) = none := h
  simp [State.entry, State.park, List.find?_append, none]

end Sys2Proof
end

section
/-! PROOFS. An entry that a step leaves in the table (O39): what the recorder, the punnets and the dispatch of others keep of it. -/

namespace Sys2Proof

open Sys2Proof.Machine

variable {s t u : State} {e : Nat} {c x : Cct} {w : Bool} {dry : Nat → Prop}

/-- Entry `e` is `c`, which no controller will answer a notice with, with or without a wait for punnets; the slices of `dry` may release
nothing. -/
structure Stands (e : Nat) (c : Cct) (w : Bool) (dry : Nat → Prop) (s : State) : Prop where
  entry : s.entry e = some c
  waits : s.waitsPun e = w
  nodup : (s.eng.cct.map (·.idx)).Nodup
  aers : ∀ k ∈ s.eng.ctrls, e ∉ k.aers
  tokens : ∀ y ∈ s.slices.list, dry y.num → y.mayRelease = false

namespace Stands

/-- What changes none of the tables an entry stands by keeps it. -/
theorem congr (h : Stands e c w dry s) (hc : t.eng.cct = s.eng.cct) (hk : t.eng.ctrls = s.eng.ctrls) (hr : t.mem.reqs = s.mem.reqs)
    (hl : t.slices.list = s.slices.list) : Stands e c w dry t where
  entry := by
    rw [State.entry, hc]
    exact h.entry
  waits := by
    rw [State.waitsPun, hr]
    exact h.waits
  nodup := hc ▸ h.nodup
  aers := hk ▸ h.aers
  tokens := hl ▸ h.tokens

theorem mayRelease_key {y z : SliceS} (h : tokenKey y = tokenKey z) : y.mayRelease = z.mayRelease := by
  simp only [tokenKey, Prod.mk.injEq] at h
  obtain ⟨-, hs, ho, hb⟩ := h
  rw [SliceS.mayRelease, SliceS.mayRelease, hs, ho, hb]

/-- The metering of a command keeps every entry. -/
theorem metered (h : Stands e c w dry s) (m : Metered s t) : Stands e c w dry t := by
  have hc : t.eng.cct = s.eng.cct := (congrArg (·.eng.cct) m.rest :)
  have hr : t.mem.reqs = s.mem.reqs := (congrArg (·.mem.reqs) m.rest :)
  refine ⟨?_, ?_, hc ▸ h.nodup, ?_, ?_⟩
  · rw [State.entry, hc]
    exact h.entry
  · rw [State.waitsPun, hr]
    exact h.waits
  · intro k hk
    have : (k.id, k.aers) ∈ s.eng.ctrls.map (fun k => (k.id, k.aers)) := m.ctrls ▸ List.mem_map_of_mem hk
    obtain ⟨k', hk', e'⟩ := List.mem_map.mp this
    have := h.aers k' hk'
    rwa [(Prod.mk.inj e').2] at this
  · intro y hy hd
    have : tokenKey y ∈ s.slices.list.map tokenKey := m.keys ▸ List.mem_map_of_mem hy
    obtain ⟨z, hz, e'⟩ := List.mem_map.mp this
    rw [← mayRelease_key e']
    exact h.tokens z hz (by rw [show z.num = y.num from congrArg Prod.fst e']; exact hd)

/-- A change of controllers that leaves the entry no outstanding request. -/
theorem modCtrl (h : Stands e c w dry s) {i : Nat} {f : Ctrl → Ctrl} (hf : ∀ k ∈ s.eng.ctrls, e ∉ (f k).aers) :
    Stands e c w dry (s.modCtrl i f) := by
  refine ⟨h.entry, h.waits, h.nodup, fun k hk => ?_, h.tokens⟩
  rcases modFirst_mem hk with hk | ⟨k', hk', -, rfl⟩
  · exact h.aers k hk
  · exact hf k' hk'

theorem freeEntry (h : Stands e c w dry s) (hc : c.st ≠ .heldOverlap) (hne : e ≠ x.idx) : Stands e c w dry (s.freeEntry x) := by
  refine ⟨entry_freeEntry h.entry hc hne, ?_, ?_, ?_, h.tokens⟩
  · refine Eq.trans ?_ h.waits
    show (s.mem.reqs.filter (fun r => r.entry != some x.idx)).any (·.entry == some e) = s.mem.reqs.any (·.entry == some e)
    rw [List.any_filter]
    congr 1
    funext r
    by_cases hr : r.entry = some e
    · simp [hr, hne]
    · simp [hr]
  · rw [freeEntry_idx]
    exact h.nodup.sublist (List.filter_sublist.map _)
  · intro k hk ha
    rcases modFirst_mem hk with hk | ⟨k', hk', -, rfl⟩
    · exact h.aers k hk ha
    · exact h.aers k' hk' (List.mem_filter.mp ha).1

theorem park (h : Stands e c w dry s) (hx : ∀ y ∈ s.eng.cct, y.idx ≠ x.idx) {st : Nat} {r : Word} : Stands e c w dry (s.park x st r) := by
  refine ⟨?_, h.waits, ?_, h.aers, h.tokens⟩
  · have found : s.eng.cct.find? (·.idx == e) = some c := h.entry
    simp [State.entry, State.park, List.find?_append, found]
  · have keys : (s.park x st r).eng.cct.map (·.idx) = s.eng.cct.map (·.idx) ++ [x.idx] := by simp [State.park]
    rw [keys, List.nodup_append]
    refine ⟨h.nodup, by simp, fun a ha b hb => ?_⟩
    obtain ⟨y, hy, rfl⟩ := List.mem_map.mp ha
    have : b = x.idx := by simpa using hb
    exact this ▸ hx y hy

theorem sendCqe (h : Stands e c w dry s) (hc : c.st ≠ .heldOverlap) (hne : e ≠ x.idx) {st : Nat} {r : Word} :
    Stands e c w dry (s.sendCqe x st r) := by
  unfold State.sendCqe
  split
  · exact h.freeEntry hc hne
  · split
    · exact (h.freeEntry hc hne).park (freeEntry_gone s x)
    · exact (h.congr rfl rfl rfl rfl : Stands e c w dry (s.postCqe x st r)).freeEntry hc hne

/-- Another entry's completion. -/
theorem post (h : Stands e c w dry s) (hc : c.st ≠ .heldOverlap) (hne : e ≠ x.idx) {st : Nat} {r : Word} :
    Stands e c w dry (s.post x st r) := by
  obtain ⟨y, hm, hy⟩ := post_eq s x st r
  rw [hy]
  exact (h.metered hm).sendCqe hc hne

/-- A notice completes an outstanding request, never the entry. -/
theorem reportNotice (h : Stands e c w dry s) (hc : c.st ≠ .heldOverlap) (i : Nat) : Stands e c w dry (s.reportNotice i) := by
  unfold State.reportNotice
  split
  · exact h
  next k hk =>
    split
    · next n a rest _ ha =>
      have ho : e ∉ a :: rest := ha ▸ h.aers k (List.mem_of_find?_eq_some hk)
      split
      · exact h
      next x hx =>
        exact (h.modCtrl fun _ _ => fun hm => ho (List.mem_cons_of_mem _ hm)).post hc fun he => ho (by simp [he, entry_idx hx])
    · exact h

theorem notify (h : Stands e c w dry s) (hc : c.st ≠ .heldOverlap) (i : Nat) (n : Notice) : Stands e c w dry (s.notify i n) := by
  refine ite_keeps (Stands e c w dry) h (reportNotice (h.modCtrl fun k hk => ?_) hc i)
  split
  · exact h.aers k hk
  · exact h.aers k hk

end Stands

theorem keptByRecorder_stands (hc : c.st ≠ .heldOverlap) : KeptByRecorder (Stands e c w dry) where
  sticky := fun _ _ h => h.congr rfl rfl rfl rfl
  events := fun _ h => h.congr rfl rfl rfl rfl
  prob := fun _ h => h.congr rfl rfl rfl rfl
  notify := fun i n h => h.notify hc i n

/-! ### Punnets and dispatch -/

/-- A request for punnets of a command asks for nothing, is granted, or waits. -/
theorem requestPun_cases {Q : State → Prop} {i cls n : Nat} (none : Q s)
    (grant : ∀ (l : List Nat) (ps : List Punnet),
      Q (({ s with mem := { s.mem with punnets := ps } } : State).modEntry i fun c => { c with chain := c.chain ++ l }))
    (wait : ∀ r : PunReq, r.entry = some i →
      Q ((({ s with mem := { s.mem with reqs := s.mem.reqs ++ [r], nextReq := s.mem.nextReq + 1 } } : State).bump Reg.PN_CNT_WAIT 1).holdRes (some i))) :
    Q (s.requestPun cls n .none (some i)) :=
  ite_keeps Q none (ite_keeps Q (grant _ _) (wait _ rfl))

/-- A command held for a resource keeps its number. -/
theorem holdRes_idx (now : Nat) (c : Cct) :
    (if c.st == .dispatched then { c with st := .heldResource, heldAt := now, warned := false } else c).idx = c.idx := by
  split <;> rfl

namespace Stands

theorem entry_kept (h : Stands e c w dry s) {i : Nat} (hne : i ≠ e) {f : Cct → Cct} (hf : ∀ y, (f y).idx = y.idx) :
    Stands e c w dry (s.modEntry i f) := by
  refine ⟨?_, h.waits, ?_, h.aers, h.tokens⟩
  · rw [State.entry_modEntry _ _ _ _ hf, if_neg (Ne.symm hne)]
    exact h.entry
  · rw [show (s.modEntry i f).eng.cct.map (·.idx) = s.eng.cct.map (·.idx) from modFirst_map _ _ _ _ hf]
    exact h.nodup

/-- The entry itself as it is changed. -/
theorem entry_changed (h : Stands e c w dry s) {f : Cct → Cct} (hf : ∀ y, (f y).idx = y.idx) : Stands e (f c) w dry (s.modEntry e f) := by
  refine ⟨entry_modEntry_self hf h.entry, h.waits, ?_, h.aers, h.tokens⟩
  rw [show (s.modEntry e f).eng.cct.map (·.idx) = s.eng.cct.map (·.idx) from modFirst_map _ _ _ _ hf]
  exact h.nodup

theorem bump (h : Stands e c w dry s) (hc : c.st ≠ .heldOverlap) {off n : Nat} : Stands e c w dry (s.bump off n) :=
  (keptByRecorder_stands hc).bump fun _ => h.congr rfl rfl rfl rfl

/-- A request that another command makes. -/
theorem requestPun_other (h : Stands e c w dry s) (hc : c.st ≠ .heldOverlap) {i cls n : Nat} (hne : i ≠ e) :
    Stands e c w dry (s.requestPun cls n none (some i)) := by
  refine requestPun_cases h (fun l _ => ?_) fun r hr => ?_
  · refine entry_kept (f := fun c => { c with chain := c.chain ++ l }) ?_ hne fun _ => rfl
    exact h.congr rfl rfl rfl rfl
  · refine entry_kept (bump ?_ hc) hne (holdRes_idx _)
    refine ⟨h.entry, Eq.trans ?_ h.waits, h.nodup, h.aers, h.tokens⟩
    simp [State.waitsPun, hr, hne]

end Stands

/-- The entry has been given to a core, and waits at most for the punnets of its data. -/
def Given (e core : Nat) (dry : Nat → Prop) (s : State) : Prop :=
  ∃ c w, Stands e c w dry s ∧ c.core = some core ∧ c.isIo = false ∧ (c.st = .dispatched ∨ c.st = .heldResource ∧ w = true)

namespace Given

variable {core : Nat}

theorem not_overlap (h : c.st = .dispatched ∨ c.st = .heldResource ∧ w = true) : c.st ≠ .heldOverlap := by
  rcases h with h | ⟨h, -⟩ <;> rw [h] <;> decide

/-- A request that the entry itself makes: granted, or it waits. -/
theorem requestPun (h : Given e core dry s) {cls n : Nat} : Given e core dry (s.requestPun cls n none (some e)) := by
  obtain ⟨c, w, hs, hcore, hio, hst⟩ := h
  refine requestPun_cases ⟨c, w, hs, hcore, hio, hst⟩ (fun l ps => ?_) fun r hr => ?_
  · have granted : Stands e c w dry ({ s with mem := { s.mem with punnets := ps } } : State) := hs.congr rfl rfl rfl rfl
    exact ⟨_, w, granted.entry_changed (f := fun c => { c with chain := c.chain ++ l }) fun _ => rfl, hcore, hio, hst⟩
  · have queued : Stands e c true dry ({ s with mem := { s.mem with reqs := s.mem.reqs ++ [r], nextReq := s.mem.nextReq + 1 } } : State) :=
      ⟨hs.entry, by simp [State.waitsPun, hr], hs.nodup, hs.aers, hs.tokens⟩
    refine ⟨_, true, (queued.bump (not_overlap hst)).entry_changed (holdRes_idx _), ?_, ?_, ?_⟩
    · exact ite_keeps (fun c : Cct => c.core = some core) hcore hcore
    · exact ite_keeps (fun c : Cct => c.isIo = false) hio hio
    · split
      · exact .inr ⟨rfl, rfl⟩
      · exact hst.imp_right fun h => ⟨h.1, rfl⟩

theorem changed (h : Given e core dry s) {f : Cct → Cct} (hf : ∀ y, ((f y).idx, (f y).core, (f y).queue, (f y).st) = (y.idx, y.core, y.queue, y.st)) :
    Given e core dry (s.modEntry e f) := by
  obtain ⟨c, w, hs, hcore, hio, hst⟩ := h
  have same := hf c
  simp only [Prod.mk.injEq] at same
  obtain ⟨-, h1, h2, h3⟩ := same
  refine ⟨f c, w, hs.entry_changed fun y => congrArg Prod.fst (hf y), h1.trans hcore, ?_, ?_⟩
  · rw [Cct.isIo, h2]
    exact hio
  · rw [h3]
    exact hst

end Given

/-- Asking for the data of a command requests punnets for it, notes the asking in its entry, and sends. -/
theorem fetchData_keeps {P : State → Prop} {i : Nat} (hreq : ∀ {x : State} (n : Nat), P x → P (x.requestPun 2 n none (some i)))
    (hr2t : ∀ {x : State} (n : Cct → Nat), P x → P (x.modEntry i fun c => { c with r2t := n c }))
    (hfetch : ∀ {x : State}, P x → P (x.modEntry i fun c => { c with fetching := true }))
    (hfab : ∀ {x : State} (y : Fabric), P x → P { x with fabric := y }) (h : P s) : P (s.fetchData i) := by
  unfold State.fetchData
  split
  · exact h
  next c hc =>
  refine ite_keeps P h ?_
  have chain : P (s.recvChain c) := by
    unfold State.recvChain
    refine ite_keeps P h (foldl_keeps P _ _ s h fun x _ _ hx => ?_)
    rw [entry_idx hc]
    exact hreq _ hx
  refine ite_keeps P chain ?_
  split
  · exact chain
  · refine ite_keeps P (ite_keeps P chain (hfab _ (hr2t _ chain))) (ite_keeps P chain (hfab _ (hfab _ (hfetch chain))))

end Sys2Proof
end

section
/-! PROOFS. The release pass (O39): the exempt entries are given to the core, and a slice without tokens releases nothing. -/

namespace Sys2Proof

open Sys2Proof.Machine

variable {s t u : State} {e core : Nat} {c x : Cct} {w : Bool} {dry : Nat → Prop}

/-- Where keys are distinct an element is the one found by its key. -/
theorem find?_of_mem {α β : Type} [BEq β] [LawfulBEq β] {l : List α} {key : α → β} {a : α} (hn : (l.map key).Nodup) (ha : a ∈ l) :
    l.find? (key · == key a) = some a := by
  induction l with
  | nil => cases ha
  | cons b l ih =>
    obtain ⟨hb, hn⟩ := List.nodup_cons.mp hn
    rw [List.find?_cons]
    rcases List.mem_cons.mp ha with rfl | ha
    · simp
    · have hne : key b ≠ key a := fun h => hb (h ▸ List.mem_map_of_mem ha)
      simp only [beq_eq_false_iff_ne.mpr hne]
      exact ih hn ha

/-! ### Dispatch -/

theorem Stands.dispatch_other (h : Stands e c w dry s) (hc : c.st ≠ .heldOverlap) {i : Nat} (hne : i ≠ e) :
    Stands e c w dry (s.dispatch i core) :=
  fetchData_keeps (fun _ hx => hx.requestPun_other hc hne) (fun _ hx => hx.entry_kept hne fun _ => rfl)
    (fun hx => hx.entry_kept hne fun _ => rfl) (fun _ hx => hx.congr rfl rfl rfl rfl) (h.entry_kept hne fun _ => rfl)

theorem Given.dispatch_other (h : Given e core dry s) {i : Nat} (hne : i ≠ e) : Given e core dry (s.dispatch i core) := by
  obtain ⟨c, w, hs, hcore, hio, hst⟩ := h
  exact ⟨c, w, hs.dispatch_other (not_overlap hst) hne, hcore, hio, hst⟩

/-- A dispatched entry is given to the core. -/
theorem Stands.dispatch_self (h : Stands e c w dry s) (hio : c.isIo = false) : Given e core dry (s.dispatch e core) := by
  have given : Given e core dry
      (s.modEntry e fun c => { c with st := .dispatched, core := some core, qosUs := c.qosUs + s.since c.heldAt }) :=
    ⟨_, w, h.entry_changed fun _ => rfl, rfl, hio, .inl rfl⟩
  refine fetchData_keeps (fun _ hx => hx.requestPun) (fun _ hx => hx.changed fun _ => rfl) (fun hx => hx.changed fun _ => rfl)
    (fun _ hx => ?_) given
  obtain ⟨c, w, hs, hx⟩ := hx
  exact ⟨c, w, hs.congr rfl rfl rfl rfl, hx⟩

/-- The exempt entries are dispatched one after the other, each to the core (R96). -/
theorem dispatch_exempt {l : List Cct} (hn : (l.map (·.idx)).Nodup) (hc : c ∈ l) (h : Stands c.idx c w dry s) (hst : c.st = .heldQos)
    (hio : c.isIo = false) : Given c.idx core dry (l.foldl (fun s c => s.dispatch c.idx core) s) := by
  obtain ⟨l1, l2, rfl⟩ := List.append_of_mem hc
  rw [List.map_append, List.map_cons, List.nodup_append] at hn
  obtain ⟨-, h2, h1⟩ := hn
  have before : Stands c.idx c w dry (l1.foldl (fun s c => s.dispatch c.idx core) s) :=
    foldl_keeps _ _ _ _ h fun _ y hy hx =>
      hx.dispatch_other (by rw [hst]; decide) (h1 _ (List.mem_map_of_mem hy) _ (List.mem_cons_self ..))
  rw [List.foldl_append, List.foldl_cons]
  refine foldl_keeps _ _ _ _ (before.dispatch_self hio) fun _ y hy hx => hx.dispatch_other fun he => ?_
  exact (List.nodup_cons.mp h2).1 (he ▸ List.mem_map_of_mem hy)

/-! ### The release of I/O entries -/

theorem roundRobin_mem {l : List SliceS} {last : Nat} {y : SliceS} (h : roundRobin l last = some y) : y ∈ l := by
  have least (l : List SliceS) (b : Option SliceS) {z : SliceS}
      (hz : l.foldl (fun (best : Option SliceS) x => match best with
        | none => some x
        | some y => if x.num < y.num then some x else some y) b = some z) : z ∈ l ∨ b = some z := by
    induction l generalizing b with
    | nil => exact .inr hz
    | cons a l ih =>
      rcases ih _ hz with hm | hb
      · exact .inl (List.mem_cons_of_mem _ hm)
      · cases b with
        | none => exact .inl (by simp_all)
        | some y =>
          simp only at hb
          split at hb
          · exact .inl (by simp_all)
          · exact .inr hb
  unfold roundRobin at h
  dsimp only at h
  split at h
  · next z hz =>
    cases h
    exact (List.mem_filter.mp ((least _ _ hz).resolve_right nofun)).1
  · exact (least _ _ h).resolve_right nofun

theorem heldOf_mem {n : Nat} (h : s.heldOf n = some c) : c ∈ s.eng.cct ∧ c.slice = n ∧ c.st = .heldQos ∧ c.isIo = true := by
  have hm : c ∈ s.heldAll n := by
    unfold State.heldOf at h
    dsimp only at h
    split at h
    · exact List.mem_of_find?_eq_some h
    · obtain ⟨q, -, hq⟩ := Option.bind_eq_some_iff.mp h
      exact List.mem_of_find?_eq_some hq
  obtain ⟨hc, hk⟩ := List.mem_filter.mp hm
  simp only [Bool.and_eq_true, beq_iff_eq] at hk
  exact ⟨hc, hk.1.1, hk.1.2, hk.2⟩

/-- A slice that is not dry may change its tokens. -/
theorem Stands.modSlice (h : Stands e c w dry s) {n : Nat} (hn : ¬ dry n) {f : SliceS → SliceS} (hf : ∀ y, (f y).num = y.num) :
    Stands e c w dry (s.modSlice n f) := by
  refine ⟨h.entry, h.waits, h.nodup, h.aers, fun y hy hd => ?_⟩
  rcases modFirst_mem hy with hy | ⟨z, -, hz, rfl⟩
  · exact h.tokens y hy hd
  · rw [hf, eq_of_beq hz] at hd
    exact absurd hd hn

/-- The release of another entry, of a slice that is not dry. -/
theorem Stands.releaseOne (h : Stands e c w dry s) (hc : c.st ≠ .heldOverlap) {y : SliceS} (hy : ¬ dry y.num) (hne : x.idx ≠ e) :
    Stands e c w dry (s.releaseOne y x core) := by
  have turn : Stands e c w dry (s.modSlice y.num fun z => { z with rrQueue := x.queue }) := h.modSlice hy fun _ => rfl
  have noted {z : State} {l : List (Nat × Nat × Nat)} {i : Nat} (hz : Stands e c w dry z) :
      Stands e c w dry { z with eng := { z.eng with released := l, rrSlice := i } } := hz.congr rfl rfl rfl rfl
  refine Stands.dispatch_other ?_ hc hne
  exact noted (ite_keeps _ turn (turn.modSlice (f := fun z => { z with opTok := _, byteTok := _ }) hy fun _ => rfl))

/-- Releases pass an entry by that is not held for QoS, is exempt, or belongs to a slice that is dry (R94, R95). -/
theorem Stands.releaseLoop (h : Stands e c w dry s) (hc : c.st ≠ .heldOverlap) (hd : c.st = .heldQos → c.isIo = true → dry c.slice)
    (n : Nat) : Stands e c w dry (s.releaseLoop core n) := by
  induction n generalizing s with
  | zero => exact h
  | succ n ih =>
    unfold State.releaseLoop
    dsimp only
    split
    · exact h
    next y hy =>
    split
    · exact h
    next x hx =>
    have hl : y ∈ s.slices.list.filter (fun x => (s.heldOf x.num).isSome && x.mayRelease) := by
      have hm := roundRobin_mem hy
      split at hm
      · exact hm
      · exact (List.mem_filter.mp hm).1
    obtain ⟨hl, hr⟩ := List.mem_filter.mp hl
    have wet : ¬ dry y.num := fun hdry => by simp [h.tokens y hl hdry] at hr
    obtain ⟨hmem, hsl, hst, hio⟩ := heldOf_mem hx
    refine ih (h.releaseOne hc wet fun he => ?_)
    have found : s.entry x.idx = some x := find?_of_mem (key := Cct.idx) h.nodup hmem
    rw [he, h.entry] at found
    cases found
    exact wet (hsl ▸ hd hst hio)

theorem Given.releaseLoop (h : Given e core dry s) (n : Nat) : Given e core dry (s.releaseLoop core n) := by
  obtain ⟨c, w, hs, hcore, hio, hst⟩ := h
  refine ⟨c, w, hs.releaseLoop (not_overlap hst) (fun hq => ?_) n, hcore, hio, hst⟩
  rcases hst with hst | ⟨hst, -⟩ <;> rw [hst] at hq <;> cases hq

theorem Given.bump (h : Given e core dry s) {off n : Nat} : Given e core dry (s.bump off n) := by
  obtain ⟨c, w, hs, hcore, hio, hst⟩ := h
  exact ⟨c, w, hs.bump (not_overlap hst), hcore, hio, hst⟩

/-- A given entry is found dispatched, or held for the punnets it waits for. -/
theorem Given.found (h : Given e core dry s) :
    ∃ x, s.entry e = some x ∧ x.core = some core ∧ (x.st = .dispatched ∨ x.st = .heldResource ∧ s.waitsPun e = true) := by
  obtain ⟨c, w, hs, hcore, -, hst⟩ := h
  exact ⟨c, hs.entry, hcore, hst.imp_right fun ⟨hr, hw⟩ => ⟨hr, hs.waits.trans hw⟩⟩

/-! ### The pass -/

/-- The buckets a release pass reads: full where the slice has no ceiling (R94, R150). -/
def fullBuckets (s : State) : State := { s with slices := { s.slices with list := s.slices.list.map (·.refill true) } }

/-- The entries exempt from QoS, and the state once they are dispatched (R96). -/
def exemptHeld (s : State) : List Cct := s.eng.cct.filter (fun c => c.st == .heldQos && !c.isIo)
def exemptGiven (core : Nat) (s : State) : State := (exemptHeld s).foldl (fun s c => s.dispatch c.idx core) (fullBuckets s)

/-- The state once every release is made. -/
def allReleased (core : Nat) (s : State) : State := (exemptGiven core s).releaseLoop core (exemptGiven core s).eng.cct.length

/-- A release pass in an active core of a ready device. -/
theorem exec_releasePass (ha : s.glb.coreActive.getLsbD core = true) (hr : s.glb.state = .ready) (hf : s.store.flush = none) :
    exec (.releasePass core) s = .next (if (allReleased core s).eng.cct.any (fun c => c.st == .heldQos)
      then (allReleased core s).bump Reg.CE_CNT_QOS_HOLD 1 else allReleased core s) := by
  show execReleasePass core s = _
  unfold execReleasePass
  rw [if_neg (by simp [ha, hr, hf])]
  rfl

/-- An entry held for QoS at the start of the pass. -/
theorem stands_start (hn : (s.eng.cct.map (·.idx)).Nodup) (hc : s.entry e = some c) (hst : c.st = .heldQos)
    (ha : ∀ k ∈ s.eng.ctrls, ∀ i ∈ k.aers, ∀ c, s.entry i = some c → c.st = .heldResource)
    (hd : ∀ y ∈ s.slices.list, dry y.num → (y.refill true).mayRelease = false) :
    Stands e c (s.waitsPun e) dry (fullBuckets s) := by
  refine ⟨hc, rfl, hn, fun k hk he => ?_, fun y hy hdry => ?_⟩
  · have := ha k hk e he c hc
    rw [hst] at this
    cases this
  · obtain ⟨z, hz, rfl⟩ := List.mem_map.mp hy
    exact hd z hz hdry

/-- What the pass leaves keeps what its last count keeps. -/
theorem releasePass_keeps {P : State → Prop} (ha : s.glb.coreActive.getLsbD core = true) (hr : s.glb.state = .ready) (hf : s.store.flush = none)
    (h : P (allReleased core s)) (hb : P ((allReleased core s).bump Reg.CE_CNT_QOS_HOLD 1)) : Completes (.releasePass core) s P :=
  ⟨_, exec_releasePass ha hr hf, ite_keeps P hb h⟩

/-- Every exempt entry held for QoS is given to the core (R96). -/
theorem allReleased_given (hn : (s.eng.cct.map (·.idx)).Nodup)
    (ha : ∀ k ∈ s.eng.ctrls, ∀ i ∈ k.aers, ∀ c, s.entry i = some c → c.st = .heldResource)
    (hc : s.entry e = some c) (hst : c.st = .heldQos) (hio : c.isIo = false) : Given e core (fun _ => False) (allReleased core s) := by
  have he := entry_idx hc
  subst he
  have listed : c ∈ exemptHeld s := List.mem_filter.mpr ⟨List.mem_of_find?_eq_some hc, by simp [hst, hio]⟩
  exact (dispatch_exempt (hn.sublist (List.filter_sublist.map _)) listed (stands_start hn hc hst ha fun _ _ h => h.elim) hst hio).releaseLoop _

/-- An I/O entry of a slice without tokens stays as it is (R94, R95). -/
theorem allReleased_held (hn : (s.eng.cct.map (·.idx)).Nodup) (hl : (s.slices.list.map (·.num)).Nodup)
    (ha : ∀ k ∈ s.eng.ctrls, ∀ i ∈ k.aers, ∀ c, s.entry i = some c → c.st = .heldResource)
    (hc : s.entry e = some c) (hst : c.st = .heldQos) (hio : c.isIo = true) {y : SliceS} (hy : s.slice c.slice = some y)
    (hr : (y.refill true).mayRelease = false) : Stands e c (s.waitsPun e) (· = c.slice) (allReleased core s) := by
  have hov : c.st ≠ .heldOverlap := by
    rw [hst]
    decide
  have start := stands_start (dry := (· = c.slice)) hn hc hst ha fun z hz hd => by
    have found : s.slice z.num = some z := find?_of_mem (key := SliceS.num) hl hz
    rw [hd, hy] at found
    cases found
    exact hr
  refine Stands.releaseLoop (foldl_keeps _ _ _ _ start fun x z hz hx => hx.dispatch_other hov fun he => ?_) hov (fun _ _ => rfl) _
  obtain ⟨hm, hk⟩ := List.mem_filter.mp hz
  have found : s.entry z.idx = some z := find?_of_mem (key := Cct.idx) hn hm
  rw [he, hc] at found
  cases found
  simp [hio] at hk

end Sys2Proof
end

section
/-! PROOFS. Tokens, ordering, completions, held entries and failed cores: O39 clause by clause. -/

namespace Sys2Proof

open Sys2Proof.Machine

variable {s t u : State} {e core us : Nat} {c x : Cct}

/-! ### Tokens (R95) -/

/-- A refill brings the fields of a modify into force and adds 10 µs of the ceilings. -/
theorem refill_false (x : SliceS) : x.refill false = { x with qosOld := none, opTok := (x.refill false).opTok, byteTok := (x.refill false).byteTok } ∧
    (x.desc.iopsCeil ≠ 0 → (x.refill false).opTok = min (x.desc.opBurstU : Int) (x.opTok + (x.desc.iopsCeil : Int))) ∧
    (x.desc.bwCeil ≠ 0 → (x.refill false).byteTok = min (x.desc.byteBurstU : Int) (x.byteTok + ((x.desc.bwCeil * 10 : Nat) : Int))) := by
  refine ⟨rfl, fun h => ?_, fun h => ?_⟩
  · exact if_neg h
  · exact if_neg h

/-! ### Ordering (R94, R98) -/

/-- An entry whose last conflict is released is held for QoS. -/
theorem releaseWaiters_last {l : List Cct} {ws : List Nat} {now i : Nat} (hi : i ∈ ws) (hx : l.find? (·.idx == i) = some x)
    (hst : x.st = .heldOverlap) (hw : x.waits ≤ 1) : ((releaseWaiters l ws now).find? (·.idx == i)).map (·.st) = some .heldQos := by
  have hidx : x.idx = i := by simpa using List.find?_some hx
  rw [find?_releaseWaiters, hx]
  simp [releaseWaiters, hidx, hi, hst, hw]

/-- A command that has begun, its units staged, passes its ordering point. -/
theorem exec_orderingPoint (hc : s.entry e = some c) (ho : c.orderDone = false) (hs : c.step = 1) (hl : isWriteLike c.cap.opc = true → c.left = 0) :
    exec (.orderingPoint e) s = .next { s with eng := { s.eng with
      cct := releaseWaiters (s.modEntry e fun c => { c with orderDone := true, waiters := [] }).eng.cct c.waiters s.seed.now } } := by
  show execOrderingPoint e s = _
  have go : (c.orderDone || c.step = 0 || 2 ≤ c.step || (isWriteLike c.cap.opc && c.left != 0)) = false := by
    by_cases hw : isWriteLike c.cap.opc = true
    · simp [ho, hs, hw, hl hw]
    · simp [ho, hs, hw]
  unfold execOrderingPoint
  simp only [hc, go]
  rfl

/-! ### Completions (R37, R58, R106) -/

theorem Metered.sendPaused (h : Metered s t) (c : Cct) : t.sendPaused c = s.sendPaused c := by
  rw [h.rest]
  rfl

theorem Metered.flush (h : Metered s t) : t.store.flush = s.store.flush := (congrArg (·.store.flush) h.rest :)
theorem Metered.posted (h : Metered s t) : t.eng.posted = s.eng.posted := (congrArg (·.eng.posted) h.rest :)

/-- A completion that is discarded or not paused takes its entry out of the table. -/
theorem post_gone {st : Nat} {r : Word} (h : s.sendPaused c = false ∨ c.discard = true) : ∀ x ∈ (s.post c st r).eng.cct, x.idx ≠ c.idx := by
  obtain ⟨y, hm, hy⟩ := post_eq s c st r
  rw [hy, State.sendCqe, hm.sendPaused]
  split
  · exact freeEntry_gone _ _
  next hd =>
  have hd : c.discard = false := by simp_all
  rw [if_neg (by simp [h.resolve_right (by simp [hd])])]
  exact freeEntry_gone _ _

/-- A paused completion waits in its entry. -/
theorem post_parked {st : Nat} {r : Word} (hp : s.sendPaused c = true) (hd : c.discard = false) (hf : s.store.flush = none) :
    (s.post c st r).eng.posted = s.eng.posted ∧
      ((s.post c st r).entry c.idx).map (fun x => (x.parked, x.status, x.result)) = some (true, st, r) := by
  obtain ⟨y, hm, hy⟩ := post_eq s c st r
  rw [hy, State.sendCqe, hm.sendPaused, hm.flush, if_neg (by simp [hd, hf]), if_pos hp]
  refine ⟨hm.posted, entry_park ?_⟩
  exact List.find?_eq_none.mpr fun z hz => by simpa using freeEntry_gone y c z hz

/-- A completion that is sent is the last of those posted. -/
theorem post_sent {st : Nat} {r : Word} (hp : s.sendPaused c = false) (hd : c.discard = false) (hf : s.store.flush = none) :
    ∃ q, (s.post c st r).eng.posted = s.eng.posted ++
      [{ queue := c.queue, cid := c.cap.cid, status := st, result := r, sqhd := q, data := if st == St.ok then c.out else .none }] := by
  obtain ⟨y, hm, hy⟩ := post_eq s c st r
  rw [hy, State.sendCqe, hm.sendPaused, hm.flush, if_neg (by simp [hd, hf]), if_neg (by simp [hp])]
  exact ⟨(y.queue c.queue).elim 0xFFFF (·.head), congrArg (· ++ _) hm.posted⟩

theorem post_discarded {st : Nat} {r : Word} (hd : c.discard = true) : (s.post c st r).eng.posted = s.eng.posted := by
  obtain ⟨y, hm, hy⟩ := post_eq s c st r
  rw [hy, State.sendCqe, if_pos (by simp [hd])]
  exact hm.posted

/-- COMMAND_COMPLETE of a command that is finished and not paused: its completion is posted, or sent where it was held, and a
disable or shutdown that waited for it goes on. -/
theorem exec_commandComplete (hc : s.entry e = some c) (hp : s.sendPaused c = false) (hk : c.isIo = true ∨ c.cap.opc ≠ 0xD0)
    (hf : c.st = .completing ∨ c.parked = true) : exec (.commandComplete e) s =
      .next (((if c.parked then s.sendCqe c c.status c.result else s.post c c.status c.result).settleDisable c.cntl).settleShutdown c.cntl).smartCheck := by
  show execCommandComplete e s = _
  have open_ : (!(c.st == .completing || c.parked) || s.sendPaused c) = false := by
    rcases hf with h | h <;> simp [h, hp]
  have plain : (!c.isIo && c.cap.opc == 0xD0) = false := by
    rcases hk with h | h <;> simp [h]
  unfold execCommandComplete
  simp only [hc, open_, plain, Bool.false_and]
  rfl

/-! ### Held entries (R97) -/

theorem exec_holdWarn (hc : s.entry e = some c) (hm : s.fld Reg.CE_CFG 31 16 ≠ 0) (hw : c.warned = false)
    (ht : s.fld Reg.CE_CFG 31 16 * 1000 < s.since c.heldAt) (hst : c.st = .heldOverlap ∨ c.st = .heldQos) :
    exec (.holdWarn e) s = .next ((s.modEntry e (fun c => { c with warned := true })).capture
      (if c.st = .heldOverlap then 0x0505 else 0x0506) [c.slice, c.queue, c.cap.cid, s.since c.heldAt / 1000]).smartCheck := by
  show execHoldWarn e s = _
  have due : (decide (s.fld Reg.CE_CFG 31 16 = 0) || c.warned || decide (s.since c.heldAt ≤ s.fld Reg.CE_CFG 31 16 * 1000)) = false := by
    simp [hm, hw, ht]
  unfold execHoldWarn
  simp only [hc, due]
  rcases hst with h | h <;> rw [h] <;> rfl

/-! ### Failed cores (R110, R111) -/

/-- No entry is `core`'s. -/
def Unassigned (core : Nat) (s : State) : Prop := ∀ c ∈ s.eng.cct, c.core ≠ some core

theorem unassigned_post (h : Unassigned core s) (hx : x.core ≠ some core) {st : Nat} {r : Word} : Unassigned core (s.post x st r) := by
  obtain ⟨y, hm, hy⟩ := post_eq s x st r
  have hc : y.eng.cct = s.eng.cct := (congrArg (·.eng.cct) hm.rest :)
  have hy' : Unassigned core y := fun c hcm => h c (hc ▸ hcm)
  have freed {z : State} (hz : Unassigned core z) : Unassigned core (z.freeEntry x) := by
    intro c hcm
    rw [freeEntry_cct] at hcm
    split at hcm
    · exact hz c (List.mem_filter.mp hcm).1
    · obtain ⟨d, hd, rfl⟩ := List.mem_map.mp hcm
      have := hz d (List.mem_filter.mp hd).1
      exact ite_keeps (fun c : Cct => c.core ≠ some core) (ite_keeps (fun c : Cct => c.core ≠ some core) this this) this
  rw [hy]
  refine ite_keeps _ (freed hy') (ite_keeps _ (fun c hcm => ?_) (freed hy'))
  rcases List.mem_append.mp hcm with hcm | hcm
  · exact freed hy' c hcm
  · rw [List.mem_singleton.mp hcm]
    exact hx

theorem unassigned_modCtrl (h : Unassigned core s) (i : Nat) (f : Ctrl → Ctrl) : Unassigned core (s.modCtrl i f) := h

theorem unassigned_reportNotice (h : Unassigned core s) (i : Nat) : Unassigned core (s.reportNotice i) := by
  unfold State.reportNotice
  split
  · exact h
  · split
    · split
      · exact h
      · next hx => exact unassigned_post (unassigned_modCtrl h _ _) (h _ (List.mem_of_find?_eq_some hx))
    · exact h

theorem keptByRecorder_unassigned : KeptByRecorder (Unassigned core) where
  sticky := fun _ _ h => h
  events := fun _ h => h
  prob := fun _ h => h
  notify := fun i _ h => ite_keeps _ h (unassigned_reportNotice (unassigned_modCtrl h _ _) i)

/-- Bit `b` of a sticky word is set, in a sound store. -/
def Marked (g b : Nat) (s : State) : Prop := Safe s ∧ (s.sticky g).getLsbD b = true

/-- A state with the same registers is marked alike. -/
theorem Marked.of_regs {g b : Nat} (h : Marked g b s) (hr : t.regs = s.regs) : Marked g b t := by
  obtain ⟨hs, hb⟩ := h
  refine ⟨Safe.of_regs hs hr, ?_⟩
  rw [State.sticky, State.reg, hr]
  exact hb

theorem Marked.setSticky {g b g' b' : Nat} (h : Marked g b s) : Marked g b (s.setSticky g' b') := by
  obtain ⟨hs, hb⟩ := h
  refine ⟨hs.setReg, ?_⟩
  rw [State.sticky_setSticky hs]
  split
  · next hg => simp [← hg, hb]
  · exact hb

/-- Setting a bit marks it. -/
theorem marked_setSticky {g b : Nat} (hs : Safe s) (hb : b < 32) : Marked g b (s.setSticky g b) := by
  refine ⟨hs.setReg, ?_⟩
  rw [State.sticky_setSticky hs, if_pos rfl, BitVec.getLsbD_or, BitVec.getLsbD_ofNat, Nat.testBit_two_pow_self]
  simp [hb]

theorem keptByRecorder_marked {g b : Nat} : KeptByRecorder (Marked g b) where
  sticky := fun _ _ h => h.setSticky
  events := fun _ h => h.of_regs rfl
  prob := fun _ h => h.of_regs rfl
  notify := fun _ _ h => h.of_regs (notify_regs ..)

/-- The capture of a listed code sets its sticky bit (R548). -/
theorem marked_capture {code sev : Nat} {ps : List Nat} (hs : Safe s) (hc : severity code = some sev) (hb : code % 256 < 32) :
    Marked (code / 256) (code % 256) (s.capture code ps) := by
  have k : KeptByRecorder (Marked (code / 256) (code % 256)) := keptByRecorder_marked
  have hg := severity_group hc
  have acts : Marked (code / 256) (code % 256) (s.evActs code sev) := by
    have marked : Marked (code / 256) (code % 256)
        ((if sev = 4 && s.fw.probEnd.isSome then { s with fw := { s.fw with probFault := true } } else s).setSticky (code / 256) (code % 256)) :=
      marked_setSticky (ite_keeps Safe hs hs) hb
    exact ite_keeps _ (k.notifyAll (k.events _ marked)) (k.events _ marked)
  have one : Marked (code / 256) (code % 256) (s.captureOne code ps) := by
    unfold State.captureOne
    simp only [hc]
    exact ite_keeps _ (k.events _ (k.evWrite hg acts)) (k.events _ (k.sticky _ hg acts))
  exact ite_keeps _ (ite_keeps _ (k.captureOne (k.captureOne one)) (k.captureOne one)) one

theorem Marked.smartCheck {g b : Nat} (h : Marked g b s) : Marked g b s.smartCheck := h.of_regs (smartCheck_regs ..)

/-- Cores named by one bit. -/
theorem core_bit {i j : Nat} (hj : j < 18) : (BitVec.ofNat 18 (2 ^ i)).getLsbD j = decide (i = j) := by
  rw [BitVec.getLsbD_ofNat, Nat.testBit_two_pow]
  simp [hj]

/-- The entries of an active core that fails go to spare 16 where that is free (R110, R111). -/
theorem shadowChecker_spare (hs : Safe s) (hlt : core < 18) (hf : s.glb.coreFailed.getLsbD core = false)
    (ha : s.glb.coreActive.getLsbD core = true) (ha16 : s.glb.coreActive.getLsbD 16 = false) (hf16 : s.glb.coreFailed.getLsbD 16 = false)
    (hne : core ≠ 16) : Completes (.shadowCheckerFault core us) s (fun t =>
      t.glb.coreFailed = s.glb.coreFailed ||| BitVec.ofNat 18 (2 ^ core) ∧
      t.glb.coreActive = (s.glb.coreActive &&& ~~~BitVec.ofNat 18 (2 ^ core)) ||| BitVec.ofNat 18 (2 ^ 16) ∧
      Unassigned core t ∧ (t.sticky 5).getLsbD 1 = true) := by
  have spare : (List.range 18).find? (fun i => 16 ≤ i && !(s.glb.coreActive &&& ~~~BitVec.ofNat 18 (2 ^ core)).getLsbD i &&
      !(s.glb.coreFailed ||| BitVec.ofNat 18 (2 ^ core)).getLsbD i) = some 16 := by
    rw [List.find?_range_eq_some]
    refine ⟨?_, by decide, fun j hj => by simp [hj]⟩
    have h16 := core_bit (i := core) (j := 16) (by decide)
    rw [decide_eq_false hne] at h16
    rw [BitVec.getLsbD_and, BitVec.getLsbD_or, ha16, hf16, h16]
    rfl
  have inRange : (decide (18 ≤ core) || s.glb.coreFailed.getLsbD core) = false := by
    rw [hf, decide_eq_false (by omega)]
    rfl
  unfold Completes
  show ∃ t, execShadowCheckerFault core us s = _ ∧ _
  unfold execShadowCheckerFault
  simp only [inRange, ha, spare]
  have kept (x : State) (code : Nat) (ps : List Nat) : (x.capture code ps).smartCheck.glb = x.glb :=
    ((aside_smartCheck _).recorded.after (recorded_capture ..)).glb
  refine ⟨_, rfl, ?_, ?_, ?_, ?_⟩
  · rw [kept]
    exact congrArg Glb.coreFailed (recorded_bump ..).glb
  · rw [kept]
    exact congrArg (fun g : Glb => g.coreActive ||| BitVec.ofNat 18 (2 ^ 16)) (recorded_bump ..).glb
  · refine keptByRecorder_unassigned.smartCheck (fun _ _ h => h) (keptByRecorder_unassigned.capture fun c hc => ?_)
    obtain ⟨d, -, rfl⟩ := List.mem_map.mp hc
    split
    · simpa using Ne.symm hne
    · next h => simpa using h
  · have listed : (severity 0x0501).isSome = true := by decide +kernel
    obtain ⟨sev, hsev⟩ := Option.isSome_iff_exists.mp listed
    refine (Marked.smartCheck (g := 0x0501 / 256) (b := 0x0501 % 256) (marked_capture ?_ hsev (by decide))).2
    exact Safe.upd (Safe.bump (Safe.upd hs))

/-! ### The clauses together -/

/-- Settles O39, instruction by instruction. -/
theorem entriesAreReleasedOrderedAndCompleted : Obligations.EntriesAreReleasedOrderedAndCompleted := by
  intro s hs _
  refine ⟨?_, ?_, ?_, ?_, ?_, fun c st r => ⟨post_gone, post_parked, fun hd hf hp => post_sent hp hd hf, post_discarded⟩, ?_, ?_⟩
  · refine ⟨s.slices.list.map (·.refill false), rfl, List.length_map _, fun i x hx => ⟨x.refill false, ?_, refill_false x⟩⟩
    rw [List.getElem?_map, hx]
    rfl
  · intro core hcore hr hf _ hn hl ha
    refine releasePass_keeps hcore hr hf ⟨?_, ?_⟩ ⟨?_, ?_⟩
    · intro e c hc hst hio
      exact (allReleased_given hn ha hc hst hio).found
    · intro e c x hc hst hio hx hdry
      rw [(allReleased_held hn hl ha hc hst hio hx hdry).entry, ← hst]
      rfl
    · intro e c hc hst hio
      exact (allReleased_given hn ha hc hst hio).bump.found
    · intro e c x hc hst hio hx hdry
      rw [((allReleased_held hn hl ha hc hst hio hx hdry).bump (by rw [hst]; decide)).entry, ← hst]
      rfl
  · intro e c hc ho hst hl
    refine ⟨_, exec_orderingPoint hc ho hst hl, fun x hx hne y hy hov hw => releaseWaiters_last hx ?_ hov hw, rfl⟩
    exact (State.entry_modEntry s e x (fun c => { c with orderDone := true, waiters := [] }) fun _ => rfl).trans ((if_neg hne).trans hy)
  · intro e c hc hp hk
    refine ⟨fun hst hpk => ?_, fun hpk => ?_⟩
    · rw [exec_commandComplete hc hp hk (.inl hst), hpk]
      rfl
    · rw [exec_commandComplete hc hp hk (.inr hpk), hpk]
      rfl
  · intro e c hc hp
    show execCommandComplete e s = _
    unfold execCommandComplete
    simp only [hc, hp, Bool.or_true, if_true]
  · exact fun e c => exec_holdWarn
  · exact fun core us => shadowChecker_spare hs

end Sys2Proof
end

section
/-! PROOFS. What the steps of the write path keep (O52): a property that each kind of change a step makes keeps is kept by counts, journal
records, the gathering of extents, the settling of bands and dies, and the end of a release. -/

namespace Sys2Proof

open Sys2Proof.Machine

variable {s t u : State} {P : State → Prop}

/-! ### Kinds of change -/

/-- Kept too where a register that is no sticky word changes. -/
structure KeptByCounts (P : State → Prop) : Prop extends KeptByRecorder P where
  reg : ∀ {t : State} (off : Nat) (v : Word), (off < Reg.STICKY ∨ Reg.STICKY + 144 ≤ off) → P t → P (t.setReg off v)

/-- The two copies of the map root, and which was used last. -/
def roots (j : Journal) : Option MapRoot × Option MapRoot × Bool := (j.mapA, j.mapB, j.rootB)

/-- Kept too where the journal changes that keeps its map roots. -/
structure KeptByJournal (P : State → Prop) : Prop extends KeptByCounts P where
  journal : ∀ {t : State} (j : Journal), roots j = roots t.journal → P t → P { t with journal := j }

/-- What a stripe comes to while it gathers or flushes: it stays itself, goes on flushing, and loses neither granules nor pages. -/
structure Grew (a b : Stripe) : Prop where
  band : b.band = a.band
  stripe : b.stripe = a.stripe
  flushing : a.flushing = true → b.flushing = true
  filled : a.fill + a.pad ≤ b.fill + b.pad
  pages : a.pages ⊆ b.pages

/-- Kept too where stripes open and grow, punnets are taken, extents of the buffer change state, and bands and blocks are counted. -/
structure KeptByGathering (P : State → Prop) : Prop extends KeptByJournal P where
  upkeep : ∀ {t : State} (x : Upkeep), P t → P { t with upkeep := x }
  mem : ∀ {t : State} (x : Mem), P t → P { t with mem := x }
  buf : ∀ {t : State} (l : List BufExt), P t → P { t with store := { t.store with buf := l } }
  again : ∀ {t : State} (l : List (Nat × Item)), P t → P { t with store := { t.store with again := l } }
  opened : ∀ {t : State} (x : Stripe), P t → P { t with store := { t.store with stripes := t.store.stripes ++ [x] } }
  grown : ∀ {t : State} (b n : Nat) {f : Stripe → Stripe}, (∀ a, Grew a (f a)) → P t → P (t.modStripe b n f)

/-- Kept too where dies and carriers change their state, and the pSLC size. -/
structure KeptBySettling (P : State → Prop) : Prop extends KeptByGathering P where
  array : ∀ {t : State} (x : Array_), P t → P { t with array := x }
  pslc : ∀ {t : State} (n : Nat), P t → P { t with store := { t.store with pslcGib := n } }

theorem Grew.refl (a : Stripe) : Grew a a := ⟨rfl, rfl, id, Nat.le_refl _, fun _ h => h⟩

theorem Grew.trans {a b c : Stripe} (h : Grew a b) (k : Grew b c) : Grew a c :=
  ⟨k.band.trans h.band, k.stripe.trans h.stripe, fun f => k.flushing (h.flushing f), Nat.le_trans h.filled k.filled,
    fun _ m => k.pages (h.pages m)⟩

/-! ### Counts and records -/

theorem KeptByCounts.count (k : KeptByCounts P) {off n : Nat} (ho : off < Reg.STICKY ∨ Reg.STICKY + 144 ≤ off) (h : P s) : P (s.bump off n) :=
  k.bump fun v => k.reg off v ho h

theorem KeptByCounts.bumpCh (k : KeptByCounts P) {off d n : Nat} (ho : Reg.STICKY + 144 ≤ off) (h : P s) : P (s.bumpCh off d n) :=
  k.count (.inr (Nat.le_add_right_of_le ho)) h

/-- The flip mask armed for a codeword is taken (R300). -/
theorem KeptByCounts.takeFlip (k : KeptByCounts P) {x : Stripe} {b : Band}
    (hf : ∀ {t : State} (l : List (Nat × Nat × Nat × Word)), P t → P { t with array := { t.array with flipped := l } }) (h : P s) :
    P (s.takeFlip x b) := by
  unfold State.takeFlip
  refine ite_keeps P h ?_
  split
  · exact h
  · have taken := k.reg Reg.LDPC_FLIP_MASK 0 (.inr (by decide)) (k.reg Reg.LDPC_FLIP_CTL (s.reg Reg.LDPC_FLIP_CTL &&& ~~~(0x100 : Word)) (.inr (by decide)) h)
    exact ite_keeps P taken (hf _ taken)

/-- The journal once a record has been handed to it, its group programmed when it is full (R207, R326). -/
def recWritten (s : State) (b : RecBody) : Journal :=
  let j := s.journal
  let j1 := { j with nextSeq := j.nextSeq + 1, recs := j.recs ++ [{ jseq := j.nextSeq, durable := !j.areaActive, body := b }] }
  let j2 := if j.areaActive then { j1 with group := j1.group + b.size, groupAt := if j.group = 0 then s.seed.now else j.groupAt } else j1
  if j2.group ≥ 16384 then j2.groupDone else j2

theorem recWritten_roots (s : State) (b : RecBody) : roots (recWritten s b) = roots s.journal := by
  have full {j : Journal} (h : roots j = roots s.journal) : roots (if j.group ≥ 16384 then j.groupDone else j) = roots s.journal :=
    ite_keeps (fun j => roots j = roots s.journal) h h
  exact full (ite_keeps (fun j => roots j = roots s.journal) rfl rfl)

theorem groupDone_roots (j : Journal) : roots j.groupDone = roots j := rfl

namespace KeptByJournal

theorem jwrite (k : KeptByJournal P) {r : RecBody} (h : P s) : P (s.jwrite r) := by
  have written : P { s with journal := recWritten s r } := k.journal _ (recWritten_roots s r) h
  have taken := k.reg Reg.Q_FLIP_MASK 0 (.inr (by decide))
    (k.reg Reg.Q_FLIP_CTL (s.reg Reg.Q_FLIP_CTL &&& ~~~(0x100 : Word)) (.inr (by decide)) written)
  exact ite_keeps P (ite_keeps P taken (k.capture (k.count (.inr (Nat.le_add_right_of_le (by decide))) taken))) written

theorem jsync (k : KeptByJournal P) {r : RecBody} (h : P s) : P (s.jsync r) :=
  ite_keeps P (k.journal _ (groupDone_roots _) (k.jwrite h)) (k.jwrite h)

theorem memberRec (k : KeptByJournal P) {slot cause die st : Nat} {direct : Bool} (h : P s) : P (s.memberRec slot cause die st direct) :=
  k.jwrite h

end KeptByJournal

/-! ### Gathering (R183, R189, R226, R240) -/

/-- A stream with a stripe open, where it finds a band. -/
def withOpen (stream kind : Nat) (s : State) : State := if (s.openOf stream).isNone then s.openStripe stream kind else s

/-- Placing in the stripe a stream has open. -/
def placeOpen (stream kind len : Nat) (add : Stripe → Stripe) (s : State) : Bool × State :=
  match s.openOf stream with
  | none => (false, s)
  | some x =>
    if len ≤ s.stripeRoom x && (x.fill == 0 || x.kind == kind) then
      (true, s.modStripe x.band x.stripe fun y =>
        { add y with kind := kind, fill := (add y).fill + len, lastAt := s.seed.now, firstAt := if (add y).fill = 0 then s.seed.now else (add y).firstAt })
    else if x.fill = 0 then (false, s)
    else (false, s.modStripe x.band x.stripe fun y => { y with pad := y.pad + s.stripeRoom x })

theorem place_eq (s : State) (stream kind len : Nat) (add : Stripe → Stripe) :
    s.place stream kind len add = placeOpen stream kind len add (withOpen stream kind s) := rfl

namespace KeptByGathering

theorem modBand (k : KeptByGathering P) {n : Nat} {f : Band → Band} (h : P s) : P (s.modBand n f) := k.upkeep _ h

theorem health (k : KeptByGathering P) {i n : Nat} (h : P s) : P (s.health i n) := k.upkeep _ h

theorem freeChain (k : KeptByGathering P) {l : List Nat} (h : P s) : P (s.freeChain l) := k.mem _ h

theorem takePun (k : KeptByGathering P) {cls n : Nat} {l : List Nat} (h : P s) (ht : s.takePun cls n = some (l, t)) : P t := by
  unfold State.takePun at ht
  split at ht
  · cases ht
    exact h
  · split at ht
    · cases ht
      exact foldl_keeps P _ _ s h fun _ _ _ hx => k.mem _ hx
    · cases ht

theorem openStripe (k : KeptByGathering P) {stream kind : Nat} (h : P s) : P (s.openStripe stream kind) := by
  unfold State.openStripe
  dsimp only
  split
  · exact h
  · exact ite_keeps P h (k.opened _ (k.modBand h))

/-- An extent or page enters the write point of a stripe, or the stripe is padded; either way it grows. -/
theorem place (k : KeptByGathering P) {stream kind len : Nat} {add : Stripe → Stripe} (ha : ∀ a, Grew a (add a)) (h : P s) :
    P (s.place stream kind len add).2 := by
  rw [place_eq]
  have open_ : P (withOpen stream kind s) := ite_keeps P (k.openStripe h) h
  unfold placeOpen
  split
  · exact open_
  · split
    · refine k.grown _ _ (fun a => ?_) open_
      exact ⟨(ha a).band, (ha a).stripe, (ha a).flushing, Nat.le_trans (ha a).filled (by dsimp only; omega), (ha a).pages⟩
    · split
      · exact open_
      · exact k.grown _ _ (fun a => ⟨rfl, rfl, id, by dsimp only; omega, fun _ m => m⟩) open_

theorem grew_addItem (i : Item) (a : Stripe) : Grew a (a.addItem i) := ⟨rfl, rfl, id, Nat.le_refl _, fun _ m => m⟩

theorem grew_addPage (pg : Nat × Nat × Nat) (a : Stripe) : Grew a (a.addPage pg) :=
  ⟨rfl, rfl, id, Nat.le_refl _, List.subset_append_left ..⟩

theorem readBlock (k : KeptByGathering P) {b : Band} {m : Member} {n : Nat} (h : P s) : P (s.readBlock b m n) := by
  have counted : P (s.countReads m n) := k.upkeep _ h
  have front {x : State} {c : Prop} [Decidable c] (hx : P x) :
      P (if c then { x with upkeep := { x.upkeep with lapFront := x.upkeep.lapFront ++ [b.num] } } else x) := ite_keeps P (k.upkeep _ hx) hx
  have victim {x : State} {c : Prop} [Decidable c] {code : Nat} {ps : List Nat} (hx : P x) :
      P (if c then ((x.request b.num 1 3).health 13 1).capture code ps else x) := ite_keeps P (k.capture (k.health (k.modBand hx))) hx
  exact victim (front counted)

/-- Reading an extent counts reads of its members and the codewords decoded. -/
theorem readExtent (k : KeptByGathering P) {p : Placed} (h : P s) : P (s.readExtent p) := by
  unfold State.readExtent
  split
  · exact h
  · refine k.count (.inr (by decide)) (foldl_keeps P _ _ s h fun x _ _ hx => ?_)
    split
    · exact hx
    · exact ite_keeps P (k.readBlock hx) (foldl_keeps P _ _ _ hx fun _ _ _ hy => k.readBlock hy)

theorem moveOne (k : KeptByGathering P) {kind : Nat} {p : Placed} (h : P s) : P (s.moveOne kind p).2 := by
  unfold State.moveOne
  split
  · exact h
  next l s1 ht =>
  have placed := fun (add : Stripe → Stripe) (ha : ∀ a, Grew a (add a)) => k.place (stream := 1) (kind := kind) (len := p.len) ha (k.takePun h ht)
  dsimp only
  split
  · exact k.readExtent (k.health (k.upkeep _ (placed _ fun a => ⟨rfl, rfl, id, Nat.le_refl _, fun _ m => m⟩)))
  · exact k.freeChain (placed _ fun a => ⟨rfl, rfl, id, Nat.le_refl _, fun _ m => m⟩)

theorem replaceList (k : KeptByGathering P) {l : List (Nat × Item)} (h : P s) : P (s.replaceList l) := by
  induction l generalizing s with
  | nil => exact k.again _ h
  | cons x l ih =>
    unfold State.replaceList
    split
    · exact ih h
    · exact ite_keeps P (ih h) (ite_keeps P (ih (k.moveOne h)) (k.again _ (k.moveOne h)))

theorem replaceAll (k : KeptByGathering P) (h : P s) : P s.replaceAll := ite_keeps P h (k.replaceList h)

theorem againOf (k : KeptByGathering P) {x : Stripe} (h : P s) : P (s.againOf x) := k.replaceAll (k.again _ h)

theorem gatherOne (k : KeptByGathering P) {b : BufExt} (h : P s) : P (s.gatherOne b) := by
  have placed := fun (i : Item) => k.place (stream := 0) (kind := 0) (len := b.len) (grew_addItem i) h
  have gathered {x : State} {l : List BufExt} {u : Upkeep} (hx : P x) : P { x with store := { x.store with buf := l }, upkeep := u } :=
    k.upkeep u (k.buf l hx)
  exact ite_keeps P h (ite_keeps P (k.health (gathered (placed _))) (placed _))

theorem gatherList (k : KeptByGathering P) {l : List BufExt} (h : P s) : P (s.gatherList l) := by
  induction l generalizing s with
  | nil => exact h
  | cons b l ih => exact ite_keeps P (k.gatherOne h) (ih (k.gatherOne h))

theorem setRegime (k : KeptByGathering P) (h : P s) : P s.setRegime := by
  unfold State.setRegime
  refine ite_keeps P h ?_
  have spent {d : Nat} : P (if s.upkeep.regime = .urgent then s.health 19 d else if s.upkeep.regime = .held then s.health 20 d else s) :=
    ite_keeps P (k.health h) (ite_keeps P (k.health h) h)
  dsimp only
  split
  · exact k.capture (k.upkeep _ spent)
  · exact k.capture (k.upkeep _ spent)
  · exact k.capture (k.upkeep _ spent)

/-- The host stream gathers what it can. -/
theorem gatherHost (k : KeptByGathering P) (h : P s) : P s.gatherHost := k.setRegime (k.replaceAll (k.gatherList h))

end KeptByGathering

end Sys2Proof
end

section
/-! PROOFS. What settling, the end of a release, and the end of stripes keep (O52), and the properties that are kept so. -/

namespace Sys2Proof

open Sys2Proof.Machine

variable {s t u : State} {P : State → Prop}

/-! ### Settling (R204, R222, R309, R319, R337) -/

namespace KeptBySettling

theorem modDie (k : KeptBySettling P) {d : Nat} {f : Die → Die} (h : P s) : P (s.modDie d f) := k.array _ h

theorem modCarrier (k : KeptBySettling P) {i : Nat} {f : Carrier → Carrier} (h : P s) : P (s.modCarrier i f) := k.array _ h

theorem settleDies (k : KeptBySettling P) (h : P s) : P s.settleDies := by
  have ended {x : State} {c : Prop} [Decidable c] {y : Upkeep} {code : Nat} {ps : List Nat} (hx : P x) :
      P (if c then ({ x with upkeep := y } : State).capture code ps else x) := ite_keeps P (k.capture (k.upkeep _ hx)) hx
  unfold State.settleDies
  extract_lets dies _ x
  have hx : P x := k.array _ h
  split
  · exact ended hx
  · exact hx

theorem settleBands (k : KeptBySettling P) (h : P s) : P s.settleBands :=
  foldl_keeps P _ _ s h fun _ _ _ hx =>
    ite_keeps P (ite_keeps P (k.health (k.upkeep _ (k.modBand hx))) (k.upkeep _ (k.modBand hx))) hx

theorem progress (k : KeptBySettling P) {before : List Band} (h : P s) : P (s.progress before) :=
  foldl_keeps P _ _ s h fun _ _ _ hx => k.jwrite (k.upkeep _ hx)

theorem setPslc (k : KeptBySettling P) (h : P s) : P s.setPslc :=
  ite_keeps P h (k.capture (foldl_keeps P _ _ _ (k.pslc _ h) fun _ _ _ hx => ite_keeps P (k.modBand hx) hx))

/-- What follows a change of valid counts. -/
theorem settle (k : KeptBySettling P) {before : List Band} (h : P s) : P (s.settle before) := by
  have carriers : P ((List.range 16).foldl (fun s k => s.settleCarrier k) (s.progress before).settleBands.settleDies) :=
    foldl_keeps P _ _ _ (k.settleDies (k.settleBands (k.progress h))) fun _ _ _ hx => k.modCarrier hx
  exact k.setRegime (k.setPslc (ite_keeps P (k.upkeep _ carriers) carriers))

end KeptBySettling

/-! ### The end of releases and stripes (R193, R240, R341) -/

/-- Kept too where stripes end and leave what they have on flash, and where domains, slots and settings change. -/
structure KeptByWritePath (P : State → Prop) : Prop extends KeptBySettling P where
  flash : ∀ {t : State} (l : List Stripe), P t → P { t with store := { t.store with flash := l } }
  ended : ∀ {t : State} (l : List Stripe), P t → P { t with store := { t.store with stripes := l } }
  power : ∀ {t : State} (x : Power), P t → P { t with power := x }
  loops : ∀ {t : State} (l : List Slot), P t → P { t with loops := l }
  fw : ∀ {t : State} (x : Fw), P t → P { t with fw := x }

namespace KeptByWritePath

theorem writeRec (k : KeptByWritePath P) {i st : Nat} (h : P s) : P (s.writeRec i st) :=
  ite_keeps P h (ite_keeps P (k.capture h) (k.modCarrier h))

theorem writeSettings (k : KeptByWritePath P) (h : P s) : P s.writeSettings :=
  ite_keeps P (k.fw _ (k.journal _ rfl h)) (k.journal _ rfl h)

theorem newMembers (k : KeptByWritePath P) {members slot cause st : Nat} {b : Bool} (h : P s) : P (s.newMembers members slot cause st b) :=
  k.writeSettings (foldl_keeps P _ _ _ (k.jsync (k.array _ h)) fun _ _ _ hx => k.writeRec hx)

theorem setDom (k : KeptByWritePath P) {i : Nat} {d : DomCond} (h : P s) : P (s.setDom i d) :=
  foldl_keeps P _ _ _ (k.power _ h) fun _ _ _ hx => k.array _ hx

/-- Releases that come to their last step (R341). -/
theorem settleRelease (k : KeptByWritePath P) (h : P s) : P s.settleRelease := by
  refine foldl_keeps P _ _ s h fun x i hi hx => ite_keeps P hx (k.settleDies (k.capture (k.array _ (k.setDom (k.upkeep _ (k.modCarrier ?_))))))
  refine k.loops _ (k.reg _ _ (.inl ?_) (k.array _ (k.writeRec (k.newMembers hx))))
  have := List.mem_range.mp hi
  show 0x30014 + 0x40 * i < 0x40100
  omega

theorem fillBand (k : KeptByWritePath P) {n : Nat} (h : P s) : P (s.fillBand n) := by
  unfold State.fillBand
  split
  · exact h
  · exact ite_keeps P (k.modBand h) h

theorem closeBand (k : KeptByWritePath P) {n : Nat} (h : P s) : P (s.closeBand n) := k.fillBand (k.modBand h)

theorem onFlash (k : KeptByWritePath P) {x : Stripe} {c : Bool} (h : P s) : P (s.onFlash x c) := ite_keeps P h (k.flash _ h)

theorem dropStripe (k : KeptByWritePath P) {b n : Nat} (h : P s) : P (s.dropStripe b n) := k.ended _ (ite_keeps P h (k.freeChain h))

theorem endFlushJob (k : KeptByWritePath P) (h : P s) : P s.endFlushJob := ite_keeps P h (k.upkeep _ h)

end KeptByWritePath

/-! ### Properties that are kept -/

/-- Whatever the recording of events leaves aside is kept by it. -/
theorem keptByRecorder_of_aside (h : ∀ {s t : State}, Aside s t → P s → P t) : KeptByRecorder P where
  sticky := fun b hg => h (aside_setSticky _ b hg)
  events := fun x => h (aside_events _ x)
  prob := fun _ => h (Aside.of_regs rfl)
  notify := fun c n => h (aside_notify _ c n)

theorem Marked.reg {g b : Nat} (hg : g < 36) (h : Marked g b s) {off : Nat} {v : Word} (ho : off < Reg.STICKY ∨ Reg.STICKY + 144 ≤ off) :
    Marked g b (s.setReg off v) := by
  refine ⟨Safe.setReg h.1, ?_⟩
  rw [State.sticky, State.reg_setReg_ne s v (by omega)]
  exact h.2

/-- A sticky bit stays set. -/
theorem keptByWritePath_marked {g b : Nat} (hg : g < 36) : KeptByWritePath (Marked g b) where
  toKeptByRecorder := keptByRecorder_marked
  reg := fun _ _ ho h => h.reg hg ho
  journal := fun _ _ h => h.of_regs rfl
  upkeep := fun _ h => h.of_regs rfl
  mem := fun _ h => h.of_regs rfl
  buf := fun _ h => h.of_regs rfl
  again := fun _ h => h.of_regs rfl
  opened := fun _ h => h.of_regs rfl
  grown := fun _ _ _ _ h => h.of_regs rfl
  array := fun _ h => h.of_regs rfl
  pslc := fun _ h => h.of_regs rfl
  flash := fun _ h => h.of_regs rfl
  ended := fun _ h => h.of_regs rfl
  power := fun _ h => h.of_regs rfl
  loops := fun _ h => h.of_regs rfl
  fw := fun _ h => h.of_regs rfl

/-- The map stays as it is. -/
theorem keptByWritePath_map {m : List MapCell} : KeptByWritePath (·.store.map = m) where
  toKeptByRecorder := keptByRecorder_of_aside fun a h => a.recorded.map.trans h
  reg := fun _ _ _ h => h
  journal := fun _ _ h => h
  upkeep := fun _ h => h
  mem := fun _ h => h
  buf := fun _ h => h
  again := fun _ h => h
  opened := fun _ h => h
  grown := fun _ _ _ _ h => h
  array := fun _ h => h
  pslc := fun _ h => h
  flash := fun _ h => h
  ended := fun _ h => h
  power := fun _ h => h
  loops := fun _ h => h
  fw := fun _ h => h

/-- The roots of the map and the pages they name or will name stay. -/
theorem keptBySettling_roots {r : Option MapRoot × Option MapRoot × Bool} {a n : List PageAt} :
    KeptBySettling (fun t => roots t.journal = r ∧ t.store.pagesAt = a ∧ t.store.namedPages = n) where
  toKeptByRecorder := keptByRecorder_of_aside fun a h => by
    rw [a.rest]
    exact h
  reg := fun _ _ _ h => h
  journal := fun _ hj h => ⟨hj.trans h.1, h.2⟩
  upkeep := fun _ h => h
  mem := fun _ h => h
  buf := fun _ h => h
  again := fun _ h => h
  opened := fun _ h => h
  grown := fun _ _ _ _ h => h
  array := fun _ h => h
  pslc := fun _ h => h

theorem keptBySettling_power {p : Power} : KeptBySettling (·.power = p) where
  toKeptByRecorder := keptByRecorder_of_aside fun a h => a.recorded.power.trans h
  reg := fun _ _ _ h => h
  journal := fun _ _ h => h
  upkeep := fun _ h => h
  mem := fun _ h => h
  buf := fun _ h => h
  again := fun _ h => h
  opened := fun _ h => h
  grown := fun _ _ _ _ h => h
  array := fun _ h => h
  pslc := fun _ h => h

/-- The dies stay as they are while extents are gathered. -/
theorem keptByGathering_dies {l : List Die} : KeptByGathering (·.array.dies = l) where
  toKeptByRecorder := keptByRecorder_of_aside fun a h => (congrArg Array_.dies a.recorded.array).trans h
  reg := fun _ _ _ h => h
  journal := fun _ _ h => h
  upkeep := fun _ h => h
  mem := fun _ h => h
  buf := fun _ h => h
  again := fun _ h => h
  opened := fun _ h => h
  grown := fun _ _ _ _ h => h

/-- The stripe of a place is one that grew out of `a`. -/
def GrewFrom (a : Stripe) (t : State) : Prop := ∃ b, t.stripe a.band a.stripe = some b ∧ Grew a b

theorem stripe_key {b n : Nat} {x : Stripe} (h : s.stripe b n = some x) : x.band = b ∧ x.stripe = n := by
  have := List.find?_some h
  simpa using this

theorem stripe_modStripe (b n : Nat) {f : Stripe → Stripe} (hf : ∀ a, (f a).band = a.band ∧ (f a).stripe = a.stripe) (i j : Nat) :
    (s.modStripe b n f).stripe i j = if i = b ∧ j = n then (s.stripe b n).map f else s.stripe i j := by
  unfold State.stripe State.modStripe
  dsimp only
  split
  · next h =>
    obtain ⟨rfl, rfl⟩ := h
    exact modFirst_find?_self _ _ _ fun a => by rw [(hf a).1, (hf a).2]
  · next h =>
    refine modFirst_find?_ne _ _ _ _ fun a ha => ?_
    simp only [Bool.and_eq_true, beq_iff_eq] at ha
    obtain ⟨rfl, rfl⟩ := ha
    rw [(hf a).1, (hf a).2]
    simp only [Bool.and_eq_false_imp, beq_iff_eq, beq_eq_false_iff_ne, ne_eq, and_self]
    exact fun e k => h ⟨e.symm, k.symm⟩

/-- A stripe changed grew out of whatever its change makes of what it grew out of before. -/
theorem GrewFrom.modStripe {a b : Stripe} (h : GrewFrom a s) {f : Stripe → Stripe} (hf : ∀ c, (f c).band = c.band ∧ (f c).stripe = c.stripe)
    (hb : b.band = a.band ∧ b.stripe = a.stripe) (hg : ∀ c, Grew a c → Grew b (f c)) : GrewFrom b (s.modStripe a.band a.stripe f) := by
  obtain ⟨c, hc, hac⟩ := h
  refine ⟨f c, ?_, hg c hac⟩
  rw [hb.1, hb.2, stripe_modStripe a.band a.stripe hf, if_pos ⟨rfl, rfl⟩, hc]
  rfl

/-- A stripe goes on growing through whatever the write path does short of ending it. -/
theorem keptBySettling_grewFrom {a : Stripe} : KeptBySettling (GrewFrom a) where
  toKeptByRecorder := keptByRecorder_of_aside fun as h => by
    unfold GrewFrom State.stripe
    rw [as.recorded.stripes]
    exact h
  reg := fun _ _ _ h => h
  journal := fun _ _ h => h
  upkeep := fun _ h => h
  mem := fun _ h => h
  buf := fun _ h => h
  again := fun _ h => h
  opened := fun x ⟨b, hb, hg⟩ => ⟨b, by
    show List.find? _ (_ ++ _) = _
    rw [List.find?_append, show List.find? _ _ = some b from hb]
    rfl, hg⟩
  grown := fun b n f hf ⟨c, hc, hg⟩ => by
    unfold GrewFrom
    rw [stripe_modStripe b n fun a => ⟨(hf a).band, (hf a).stripe⟩]
    split
    · next h =>
      obtain ⟨rfl, rfl⟩ := h
      exact ⟨f c, by rw [hc]; rfl, hg.trans (hf c)⟩
    · exact ⟨c, hc, hg⟩
  array := fun _ h => h
  pslc := fun _ h => h

end Sys2Proof
end

section
/-! PROOFS. Stripes flush and idle ones are padded (O52): the geometry of bands outlasts what precedes the padding. -/

namespace Sys2Proof

open Sys2Proof.Machine

variable {s t u : State} {P : State → Prop}

/-! ### The geometry of bands (R182, R263) -/

/-- A band but for the readers that pin it, and what of a die fixes the geometry of its bands. -/
def bandKey (b : Band) : Band := { b with pins := [] }
def dieKey (d : Die) : Nat × Nat × DieFacts := (d.idx, d.gen, d.facts)

/-- The bands and dies are those of `s`, but for pins and what dies are doing. -/
def SameGeometry (s t : State) : Prop :=
  t.upkeep.bands.map bandKey = s.upkeep.bands.map bandKey ∧ t.array.dies.map dieKey = s.array.dies.map dieKey

theorem SameGeometry.refl (s : State) : SameGeometry s s := ⟨rfl, rfl⟩

/-- Lists with equal keys have elements of equal keys where a predicate of the key finds them. -/
theorem find?_map_key {α β : Type} {key : α → β} {q : β → Bool} {l m : List α} (h : l.map key = m.map key) :
    (l.find? (fun a => q (key a))).map key = (m.find? (fun a => q (key a))).map key := by
  have e (l : List α) : (l.find? (fun a => q (key a))).map key = (l.map key).find? q := by
    rw [List.find?_map]
    rfl
  rw [e, e, h]

theorem SameGeometry.band (h : SameGeometry s t) (n : Nat) : (t.band n).map bandKey = (s.band n).map bandKey :=
  find?_map_key (key := bandKey) (q := fun b => b.num == n) h.1

theorem SameGeometry.memFacts (h : SameGeometry s t) (m : Member) : t.memFacts m = s.memFacts m := by
  have e := find?_map_key (key := dieKey) (q := fun x => x.1 == m.die && x.2.1 == m.gen) h.2
  have f (s : State) : s.memFacts m = (((s.array.dies.find? fun x => (dieKey x).1 == m.die && (dieKey x).2.1 == m.gen).map dieKey).map (·.2.2)).getD {} := by
    rw [Option.map_map]
    rfl
  rw [f, f, e]

theorem SameGeometry.bandMem (h : SameGeometry s t) (b : Band) : t.bandMem b = s.bandMem b := by
  have e : t.memFacts = s.memFacts := funext h.memFacts
  unfold State.bandMem State.bandFacts
  rw [e]

theorem SameGeometry.granOf (h : SameGeometry s t) (b : Band) (st off : Nat) : t.granOf b st off = s.granOf b st off := by
  have e : t.memFacts = s.memFacts := funext h.memFacts
  unfold State.granOf
  rw [h.bandMem, e]

theorem SameGeometry.stripeGran (h : SameGeometry s t) {b c : Band} (hc : bandKey c = bandKey b) : t.stripeGran c = s.stripeGran b :=
  calc t.stripeGran c = t.stripeGran (bandKey c) := rfl
    _ = t.stripeGran (bandKey b) := by rw [hc]
    _ = b.d * t.bandMem b := rfl
    _ = s.stripeGran b := by
      rw [h.bandMem]
      rfl

/-- A change that keeps the key keeps the geometry. -/
theorem SameGeometry.congr (h : SameGeometry s t) (hb : u.upkeep.bands.map bandKey = t.upkeep.bands.map bandKey)
    (hd : u.array.dies.map dieKey = t.array.dies.map dieKey) : SameGeometry s u := ⟨hb.trans h.1, hd.trans h.2⟩

theorem sameGeometry_sendCqe {x : Cct} {st : Nat} {r : Word} (h : SameGeometry s t) : SameGeometry s (t.sendCqe x st r) := by
  have freed {t : State} (h : SameGeometry s t) : SameGeometry s (t.freeEntry x) := by
    refine h.congr ?_ rfl
    show (t.upkeep.bands.map _).map bandKey = _
    rw [List.map_map]
    rfl
  exact ite_keeps (SameGeometry s) (freed h) (ite_keeps (SameGeometry s) (freed h) (freed (t := t.postCqe x st r) h))

theorem sameGeometry_post {x : Cct} {st : Nat} {r : Word} (h : SameGeometry s t) : SameGeometry s (t.post x st r) := by
  obtain ⟨y, hm, hy⟩ := post_eq t x st r
  have same : SameGeometry s y := h.congr (congrArg (·.upkeep.bands.map bandKey) hm.rest :) (congrArg (·.array.dies.map dieKey) hm.rest :)
  rw [hy]
  exact sameGeometry_sendCqe same

theorem sameGeometry_reportNotice {c : Nat} (h : SameGeometry s t) : SameGeometry s (t.reportNotice c) := by
  unfold State.reportNotice
  split
  · exact h
  · split
    · split
      · exact h
      · exact sameGeometry_post (t := State.modCtrl _ _ t) h
    · exact h

theorem keptByJournal_sameGeometry : KeptByJournal (SameGeometry s) where
  sticky := fun _ _ h => h
  events := fun _ h => h
  prob := fun _ h => h
  notify := fun _ _ h => ite_keeps (SameGeometry s) h (sameGeometry_reportNotice (t := State.modCtrl _ _ _) h)
  reg := fun _ _ _ h => h
  journal := fun _ _ h => h

/-! ### Leaving a state for it (R428, R436) -/

/-- Kept too by what else leaving a power state changes. -/
structure KeptByWaking (P : State → Prop) : Prop extends KeptByJournal P where
  seed : ∀ {t : State} (x : Seed), P t → P { t with seed := x }
  power : ∀ {t : State} (x : Power), P t → P { t with power := x }
  fabric : ∀ {t : State} (x : Fabric), P t → P { t with fabric := x }
  loops : ∀ {t : State} (l : List Slot), P t → P { t with loops := l }
  slices : ∀ {t : State} (x : Slices), P t → P { t with slices := x }

namespace KeptByWaking

theorem meterMs (k : KeptByWaking P) {ms : Nat} (h : P s) : P (s.meterMs ms) := foldl_keeps P _ _ s h fun _ _ _ hx => k.slices _ (k.slices _ (k.slices _ hx))

theorem meterTick (k : KeptByWaking P) {part : Bool} {ago : Nat} (h : P s) : P (s.meterTick part ago) :=
  k.journal _ rfl (k.jwrite (k.slices _ h))

theorem l4Minutes (k : KeptByWaking P) {secs fin : Nat} (h : P s) : P (s.l4Minutes secs fin) :=
  ite_keeps P (k.meterMs h) (k.meterMs (foldl_keeps P _ _ _ (k.meterTick (k.meterMs h)) fun _ _ _ hx => k.meterTick (k.meterMs hx)))

theorem exitL4 (k : KeptByWaking P) {late : Nat} (h : P s) : P (s.exitL4 late) := by
  have latched {x : State} (hx : P x) {l : List (Nat × List Nat)} : P (x.captureLatched l) := foldl_keeps P _ _ x hx fun _ _ _ hy => k.capture hy
  have noted {x : State} (hx : P x) : P (if late = 0 then x else x.capture 0x0107 [late]) := ite_keeps P hx (k.capture hx)
  have left {sd : Seed} {p : Power} {f : Fabric} {l : List Slot} : P { s with seed := sd, power := p, fabric := f, loops := l } :=
    k.loops l (k.fabric f (k.power p (k.seed sd h)))
  exact k.capture (noted (latched (k.seed _ (k.l4Minutes left))))

theorem leaveTo (k : KeptByWaking P) {target : PState} {bit late : Nat} (h : P s) : P (s.leaveTo target bit late) := by
  have counted : P s.countState := by
    have hc : s.power.state.code ≤ 4 := by cases s.power.state <;> decide
    refine ite_keeps P h (k.count (.inl ?_) h)
    show 0x10060 + 4 * (s.power.state.code - 1) < 0x40100
    omega
  have trained {x : State} (hx : P x) {c : Prop} [Decidable c] : P (if c then x.retrainAll else x) :=
    ite_keeps P (k.count (.inr (by decide)) hx) hx
  have left {x : State} (hx : P x) {c : Prop} [Decidable c] : P (if c then x.exitL4 late else x) := ite_keeps P (k.exitL4 hx) hx
  have sequenced {x : State} (hx : P x) : P (x.seqDoms target).busyNow := by
    rw [seqDoms_eq]
    exact k.power _ (k.power _ hx)
  exact ite_keeps P h (sequenced (k.power _ (left (trained (k.seed _ counted)))))

end KeptByWaking

theorem keptByWaking_sameGeometry : KeptByWaking (SameGeometry s) where
  toKeptByJournal := keptByJournal_sameGeometry
  seed := fun _ h => h
  power := fun _ h => h
  fabric := fun _ h => h
  loops := fun _ h => h
  slices := fun _ h => h

end Sys2Proof
end

section
/-! PROOFS. Full stripes flush and idle ones are padded: O52's clauses on STRIPE_FLUSH and STRIPE_PAD_IDLE. -/

namespace Sys2Proof

open Sys2Proof.Machine

variable {s t u : State} {P : State → Prop} {x : Stripe} {b : Band} {l : List Nat}

/-! ### The queues of the member dies (R189, R191) -/

/-- The program of member `i` of a stripe waits in the queue of die `d`. -/
def Queued (x : Stripe) (d i : Nat) (t : State) : Prop :=
  ∃ y o, t.die d = some y ∧ o ∈ y.queue ∧ o.kind = 2 ∧ o.band = x.band ∧ o.stripe = x.stripe ∧ o.mem = i

theorem Queued.of_dies {d i : Nat} (h : Queued x d i s) (hd : t.array.dies = s.array.dies) : Queued x d i t := by
  unfold Queued State.die
  rw [hd]
  exact h

theorem die_modDie (d i : Nat) {f : Die → Die} (hf : ∀ y, (f y).idx = y.idx ∧ (f y).old = y.old) :
    (s.modDie d f).die i = if i = d then (s.die d).map f else s.die i := by
  unfold State.die State.modDie
  dsimp only
  split
  · next h =>
    subst h
    exact modFirst_find?_self _ _ _ fun a => by rw [(hf a).1, (hf a).2]
  · next h =>
    refine modFirst_find?_ne _ _ _ _ fun a ha => ?_
    simp only [Bool.and_eq_true, beq_iff_eq] at ha
    rw [(hf a).1, ha.1, beq_false_of_ne (Ne.symm h)]
    exact ⟨rfl, rfl⟩

/-- A die after an operation has entered a queue. -/
theorem die_enqueueOp (d cls kind band stripe mem i : Nat) (s : State) : ∃ o : DieOp, (s.enqueueOp d cls kind band stripe mem).die i =
    (if i = d then (s.die d).map fun y => { y with queue := y.queue ++ [o] } else s.die i) ∧
    o.kind = kind ∧ o.band = band ∧ o.stripe = stripe ∧ o.mem = mem :=
  ⟨_, die_modDie d i fun _ => ⟨rfl, rfl⟩, rfl, rfl, rfl, rfl⟩

/-- An operation enters the queue of a die. -/
theorem queued_enqueueOp {d cls i : Nat} (h : (s.die d).isSome = true) : Queued x d i (s.enqueueOp d cls 2 x.band x.stripe i) := by
  obtain ⟨y, hy⟩ := Option.isSome_iff_exists.mp h
  obtain ⟨o, ho, hk⟩ := die_enqueueOp d cls 2 x.band x.stripe i d s
  rw [if_pos rfl, hy] at ho
  exact ⟨_, o, ho, List.mem_append_right _ (List.mem_singleton_self o), hk⟩

/-- What waits in a queue goes on waiting there while others enter. -/
theorem Queued.enqueueOp {d i : Nat} (h : Queued x d i s) {e cls kind band stripe mem : Nat} :
    Queued x d i (s.enqueueOp e cls kind band stripe mem) := by
  obtain ⟨y, o, hy, ho, hk⟩ := h
  obtain ⟨q, hq, -⟩ := die_enqueueOp e cls kind band stripe mem d s
  split at hq
  · next he =>
    subst he
    rw [hy] at hq
    exact ⟨_, o, hq, List.mem_append_left _ ho, hk⟩
  · exact ⟨y, o, hq.trans hy, ho, hk⟩

theorem die_isSome_enqueueOp {d e cls kind band stripe mem : Nat} (h : (s.die d).isSome = true) :
    ((s.enqueueOp e cls kind band stripe mem).die d).isSome = true := by
  obtain ⟨q, hq, -⟩ := die_enqueueOp e cls kind band stripe mem d s
  rw [hq]
  split
  · next he => rw [Option.isSome_map, ← he, h]
  · exact h

/-- A member's program enters the queue of its die. -/
def queueProg (x : Stripe) (b : Band) (cls : Nat) (s : State) (m : Nat) : State :=
  match b.memberAt x.stripe m with
  | none => s
  | some y => s.enqueueOp y.die cls 2 x.band x.stripe m

/-- Each member's program waits in the queue of its die once all have entered. -/
theorem queued_progs {cls : Nat} {is : List Nat} (hd : ∀ m ∈ b.members, (s.die m.die).isSome = true) :
    ∀ i ∈ is, ∀ m, b.memberAt x.stripe i = some m → Queued x m.die i (is.foldl (queueProg x b cls) s) := by
  induction is generalizing s with
  | nil => exact fun _ h => nomatch h
  | cons j is ih =>
    intro i hi m hm
    have next : ∀ m ∈ b.members, ((queueProg x b cls s j).die m.die).isSome = true := fun m hm => by
      unfold queueProg
      split
      · exact hd m hm
      · exact die_isSome_enqueueOp (hd m hm)
    by_cases hij : i ∈ is
    · exact ih next i hij m hm
    obtain rfl : i = j := (List.mem_cons.mp hi).resolve_right hij
    have entered : Queued x m.die i (queueProg x b cls s i) := by
      unfold queueProg
      rw [hm]
      exact queued_enqueueOp (hd m (List.mem_of_getElem? hm))
    refine foldl_keeps (Queued x m.die i) _ is _ entered fun z k _ hz => ?_
    unfold queueProg
    split
    · exact hz
    · exact hz.enqueueOp

/-! ### The start of a flush -/

/-- A stripe whose open record is written is flushing. -/
def openedFlush (x : Stripe) (l : List Nat) (s : State) : State :=
  let s := s.jsync (.stripeOpen x.band x.stripe x.d x.p)
  s.modStripe x.band x.stripe fun y => { y with flushing := true, openSeq := s.journal.nextSeq - 1, copyB := y.band % 2 == 1, chain := y.chain ++ l }

/-- Its extents in the buffer are FLUSHING, and an engine shows the flush (R185, R256). -/
def shownFlush (x : Stripe) (s : State) : State :=
  let buf := modAll s.store.buf (fun y => (x.items.filterMap (·.buf)).contains y.off && y.st == .gathered) fun y => { y with st := .flushing }
  { s with store := { s.store with buf := buf }, upkeep := s.upkeep.show 1 }

theorem startProgs_eq (s : State) (x : Stripe) (b : Band) (l : List Nat) : ∃ n, s.startProgs x b l =
    (((List.range (x.d + x.p)).foldl (queueProg x b (s.progClass x)) (shownFlush x (openedFlush x l s))).bump Reg.LDPC_CNT_ENC n).takeFlip x b :=
  ⟨_, rfl⟩

/-- What follows the opening of a flush keeps what settling does. -/
theorem KeptBySettling.startProgs (k : KeptBySettling P) (h : P (openedFlush x l s)) : P (s.startProgs x b l) := by
  obtain ⟨n, e⟩ := startProgs_eq s x b l
  rw [e]
  have shown {z : State} {b : List BufExt} {u : Upkeep} (hz : P z) : P { z with store := { z.store with buf := b }, upkeep := u } :=
    k.upkeep u (k.buf b hz)
  refine k.takeFlip (fun _ hx => k.array _ hx) (k.count (.inr (by decide)) (foldl_keeps P _ _ _ (shown h) fun _ _ _ hx => ?_))
  unfold queueProg
  split
  · exact hx
  · exact k.array _ (k.modDie hx)

theorem KeptBySettling.openedFlush (k : KeptBySettling P) (h : P s) : P (openedFlush x l s) :=
  k.grown _ _ (fun _ => ⟨rfl, rfl, fun _ => rfl, Nat.le_refl _, fun _ m => m⟩) (k.jsync h)

theorem KeptBySettling.flushStripe (k : KeptBySettling P) (h : P s) : P (s.flushStripe x) := by
  unfold State.flushStripe
  split
  · exact h
  · refine ite_keeps P h ?_
    split
    · exact h
    · next ht => exact k.startProgs (k.openedFlush (k.takePun h ht))

/-- The stripe whose record is written is flushing from then on. -/
theorem grewFrom_openedFlush (h : GrewFrom x s) : GrewFrom { x with flushing := true } (openedFlush x l s) := by
  refine (keptBySettling_grewFrom.jsync h).modStripe (b := { x with flushing := true }) (fun _ => ⟨rfl, rfl⟩) ⟨rfl, rfl⟩ fun c hc => ?_
  exact ⟨hc.band, hc.stripe, fun _ => rfl, hc.filled, hc.pages⟩

theorem grewFrom_self (h : s.stripe x.band x.stripe = some x) : GrewFrom x s := ⟨x, h, .refl x⟩

/-- A stripe may flush only where each member's die is there. -/
theorem canFlush_dies (hf : s.canFlush x b = true) : ∀ m ∈ b.members, (s.die m.die).isSome = true := by
  intro m hm
  simp only [State.canFlush, Bool.and_eq_true, List.all_eq_true] at hf
  obtain ⟨-, hall⟩ := hf
  obtain ⟨-, hdie⟩ := hall m hm
  cases hd : s.die m.die with
  | none => simp [hd] at hdie
  | some _ => rfl

/-- A full stripe that may flush, its parity members in punnets, begins flushing; each member's program waits in its die's queue. -/
theorem flushStripe_starts (hx : s.stripe x.band x.stripe = some x) (hb : s.band x.band = some b) (hf : s.canFlush x b = true)
    (ht : (s.takePun 4 (s.parityPun x b)).isSome = true) :
    GrewFrom { x with flushing := true } (s.flushStripe x).gatherHost ∧
      ∀ i m, i < x.d + x.p → b.memberAt x.stripe i = some m → Queued x m.die i (s.flushStripe x).gatherHost := by
  obtain ⟨⟨l, s1⟩, hl⟩ := Option.isSome_iff_exists.mp ht
  have starts : s.flushStripe x = s1.startProgs x b l := by
    unfold State.flushStripe
    simp only [hb, hf, hl]
    rfl
  rw [starts]
  refine ⟨?_, fun i m hi hm => ?_⟩
  · refine keptBySettling_grewFrom.gatherHost (keptBySettling_grewFrom.startProgs (grewFrom_openedFlush ?_))
    exact keptBySettling_grewFrom.takePun (grewFrom_self hx) hl
  · have dies : (openedFlush x l s1).array.dies = s.array.dies :=
      keptByGathering_dies.grown _ _ (fun _ => ⟨rfl, rfl, fun _ => rfl, Nat.le_refl _, fun _ m => m⟩)
        (keptByGathering_dies.jsync (keptByGathering_dies.takePun rfl hl))
    have there : ∀ m ∈ b.members, ((shownFlush x (openedFlush x l s1)).die m.die).isSome = true := by
      intro m hm
      have all := canFlush_dies hf m hm
      unfold State.die at all ⊢
      rw [show (shownFlush x (openedFlush x l s1)).array.dies = s.array.dies from dies]
      exact all
    have waits := queued_progs (x := x) (cls := s1.progClass x) there i (List.mem_range.mpr hi) m hm
    obtain ⟨n, e⟩ := startProgs_eq s1 x b l
    refine waits.of_dies (keptByGathering_dies.gatherHost ?_)
    rw [e]
    exact keptByGathering_dies.takeFlip (fun _ h => h) (keptByGathering_dies.count (.inr (by decide)) rfl)

/-! ### Padding (R190, R428) -/

theorem KeptBySettling.padStream (k : KeptBySettling P) {n : Nat} (h : P s) : P (s.padStream n) := by
  unfold State.padStream
  split
  · exact h
  · exact ite_keeps P h (k.capture (k.grown _ _ (fun a => ⟨rfl, rfl, id, by dsimp only; omega, fun _ m => m⟩) h))

theorem KeptBySettling.padFlush (k : KeptBySettling P) {n : Nat} (h : P s) : P (s.padFlush n) := by
  unfold State.padFlush
  split
  · exact h
  · dsimp only
    split
    · exact k.padStream h
    · exact k.flushStripe (k.padStream h)

/-- Padding takes what room the open stripe has left. -/
theorem padStream_fills {n : Nat} (ho : s.openOf n = some x) (hx : s.stripe x.band x.stripe = some x) (hf : x.fill ≠ 0) :
    GrewFrom { x with pad := x.pad + s.stripeRoom x } (s.padStream n) := by
  unfold State.padStream
  simp only [ho, hf, decide_false, Bool.false_or, decide_eq_true_eq]
  split
  · next h0 =>
    rw [h0]
    exact ⟨x, hx, rfl, rfl, id, Nat.le_refl _, fun _ m => m⟩
  · refine keptBySettling_grewFrom.capture ((grewFrom_self hx).modStripe (b := { x with pad := x.pad + s.stripeRoom x })
      (fun _ => ⟨rfl, rfl⟩) ⟨rfl, rfl⟩ fun c hc => ?_)
    have := hc.filled
    exact ⟨hc.band, hc.stripe, hc.flushing, by dsimp only; omega, hc.pages⟩

/-- The room left in a stripe, by the geometry before. -/
theorem SameGeometry.stripeRoom (h : SameGeometry s t) (hb : s.band x.band = some b) : t.stripeRoom x = s.stripeGran b - (x.fill + x.pad) := by
  have e := h.band x.band
  rw [hb] at e
  obtain ⟨c, hc, hk⟩ := Option.map_eq_some_iff.mp e
  unfold State.stripeRoom
  simp only [hc]
  rw [h.stripeGran hk]

theorem Woken.openOf (h : Woken s t) (n : Nat) : t.openOf n = s.openOf n := by
  unfold State.openOf
  rw [h.stripes]

theorem Woken.stripe (h : Woken s t) (b n : Nat) : t.stripe b n = s.stripe b n := by
  unfold State.stripe
  rw [h.stripes]

/-- A stripe whose timer has run out is full from then on, and the device is in L0 (R190, R428). -/
theorem stripePadIdle_fills {n : Nat} (ho : s.openOf n = some x) (hx : s.stripe x.band x.stripe = some x) (hd : s.padDue x = true) :
    Completes (.stripePadIdle n) s (fun t => t.power.state = .l0 ∧
      ∀ b y, s.band x.band = some b → t.stripe x.band x.stripe = some y → s.stripeGran b ≤ y.fill + y.pad) := by
  have runs : exec (.stripePadIdle n) s = .next ((((s.leaveTo .l0 7 0).padFlush n).gatherHost).busyNow) := by
    show execStripePadIdle n s = _
    unfold execStripePadIdle
    simp only [ho, hd]
    rfl
  have woken := woken_leaveTo .l0 7 0 s
  have power : (((s.leaveTo .l0 7 0).padFlush n).gatherHost).power = (s.leaveTo .l0 7 0).power :=
    keptBySettling_power.gatherHost (keptBySettling_power.padFlush rfl)
  have hf : x.fill ≠ 0 := by
    simp only [State.padDue, Bool.and_eq_true, decide_eq_true_eq] at hd
    omega
  have open_ := (woken.openOf n).trans ho
  have full : GrewFrom { x with pad := x.pad + (s.leaveTo .l0 7 0).stripeRoom x } ((s.leaveTo .l0 7 0).padFlush n).gatherHost := by
    refine keptBySettling_grewFrom.gatherHost ?_
    have padded := padStream_fills open_ ((woken.stripe ..).trans hx) hf
    unfold State.padFlush
    simp only [open_]
    split
    · exact padded
    · exact keptBySettling_grewFrom.flushStripe padded
  refine ⟨_, runs, ?_, fun b y hb hy => ?_⟩
  · exact (congrArg Power.state power).trans (leaveTo_l0 7 0 s)
  · obtain ⟨z, hz, hg⟩ := full
    obtain rfl : z = y := Option.some.inj (hz.symm.trans hy)
    have room := (keptByWaking_sameGeometry.leaveTo (target := .l0) (bit := 7) (late := 0) (SameGeometry.refl s)).stripeRoom (x := x) hb
    have filled := hg.filled
    rw [room] at filled
    dsimp only at filled
    omega

end Sys2Proof
end

section
/-! PROOFS. Map pages, map roots and truncation: O52's clauses on MAP_PAGE_WRITE, MAP_ROOT_WRITE and JOURNAL_TRUNCATE. -/

namespace Sys2Proof

open Sys2Proof.Machine

variable {s t u : State} {P : State → Prop} {x : Stripe} {n : Nat} {pg : Nat × Nat × Nat}

/-! ### Map pages (R211) -/

theorem KeptByGathering.writePages (k : KeptByGathering P) (h : P s) : P (s.writePages n) := by
  induction n generalizing s with
  | zero => exact h
  | succ n ih =>
    unfold State.writePages
    split
    · exact h
    · exact ite_keeps P (ih (k.health (k.place (KeptByGathering.grew_addPage _) h))) (k.place (KeptByGathering.grew_addPage _) h)

theorem KeptByGathering.writeMeta (k : KeptByGathering P) (h : P s) : P s.writeMeta :=
  ite_keeps P h (ite_keeps P (k.health (k.place (KeptByGathering.grew_addPage _) h)) (k.place (KeptByGathering.grew_addPage _) h))

/-- A page that is placed lies in a stripe. -/
theorem place_addPage {stream kind len : Nat} (h : (s.place stream kind len (·.addPage pg)).1 = true) :
    ∃ a, pg ∈ a.pages ∧ GrewFrom a (s.place stream kind len (·.addPage pg)).2 := by
  rw [place_eq] at h ⊢
  unfold placeOpen at h ⊢
  split at h
  · cases h
  next y hy =>
  split at h
  · next hroom =>
    simp only [hroom, if_true]
    have there : ((withOpen stream kind s).stripe y.band y.stripe).isSome = true :=
      List.find?_isSome.mpr ⟨y, List.mem_of_find?_eq_some hy, by simp⟩
    obtain ⟨c, hc⟩ := Option.isSome_iff_exists.mp there
    obtain ⟨hb, hs⟩ := stripe_key hc
    refine ⟨c.addPage pg, List.mem_append_right _ (List.mem_singleton_self pg), ?_⟩
    rw [← hb, ← hs] at hc ⊢
    refine (grewFrom_self hc).modStripe (fun _ => ⟨rfl, rfl⟩) ⟨rfl, rfl⟩ fun d hd => ?_
    have := hd.filled
    refine ⟨hd.band, hd.stripe, hd.flushing, ?_, fun q hq => ?_⟩
    · show c.fill + c.pad ≤ d.fill + len + d.pad
      omega
    · exact List.mem_append.mpr ((List.mem_append.mp hq).imp_left (hd.pages ·))
  · split at h <;> cases h

theorem GrewFrom.pageWaits {a : Stripe} (h : GrewFrom a s) (hp : pg ∈ a.pages) : s.pageWaits pg = true := by
  obtain ⟨b, hb, hg⟩ := h
  exact List.any_eq_true.mpr ⟨b, List.mem_of_find?_eq_some hb, List.contains_iff_mem.mpr (hg.pages hp)⟩

/-- A dirty page that can be placed waits in a stripe (R211). -/
theorem mapPageWrite_waits (hf : s.store.flush = none) (hn : s.nextPage = some pg) (hp : (s.place 2 0 8 (·.addPage pg)).1 = true) :
    Completes (.mapPageWrite (n + 1)) s (fun t => t.pageWaits pg = true) := by
  have runs : exec (.mapPageWrite (n + 1)) s = .next ((((s.place 2 0 8 (·.addPage pg)).2.health 2 8).writePages n).writeMeta) := by
    show execMapPageWrite (n + 1) s = _
    unfold execMapPageWrite
    rw [if_neg (by simp [hf, hn])]
    have first : s.writePages (n + 1) = ((s.place 2 0 8 (·.addPage pg)).2.health 2 8).writePages n := by
      rw [State.writePages]
      simp only [hn, hp, if_true]
    rw [first]
  obtain ⟨a, ha, placed⟩ := place_addPage hp
  exact ⟨_, runs, (keptBySettling_grewFrom.writeMeta (keptBySettling_grewFrom.writePages (keptBySettling_grewFrom.health placed))).pageWaits ha⟩

theorem mapPageWrite_idle (h : s.store.flush.isSome = true ∨ s.nextPage = none ∨ n = 0) : exec (.mapPageWrite n) s = .next s := by
  show execMapPageWrite n s = _
  unfold execMapPageWrite
  rcases h with h | h | h
  · rw [if_pos (by simp [h])]
  · rw [if_pos (by simp [h])]
  · rw [if_pos (by simp [h])]

/-! ### Map roots (R198, R211) -/

/-- The root in force is at least as new as each copy that is whole. -/
theorem root_newest {j : Journal} {r : MapRoot} (ht : r.torn = false) (h : j.mapA = some r ∨ j.mapB = some r) : r.gen ≤ j.root.gen := by
  have whole : (some r).filter (fun r : MapRoot => !r.torn) = some r := by simp [Option.filter, ht]
  unfold Journal.root
  rcases h with h | h
  · rw [h, whole]
    cases hb : j.mapB.filter fun r => !r.torn with
    | none => exact Nat.le_refl _
    | some b =>
      dsimp only
      split <;> omega
  · rw [h, whole]
    cases ha : j.mapA.filter fun r => !r.torn with
    | none => exact Nat.le_refl _
    | some a =>
      dsimp only
      split <;> omega

/-- A whole root newer than the one in force takes its place. -/
theorem root_putRoot {j : Journal} {r : MapRoot} (ht : r.torn = false) (hg : j.root.gen < r.gen) : (j.putRoot r).root = r := by
  have whole : (some r).filter (fun r : MapRoot => !r.torn) = some r := by simp [Option.filter, ht]
  have older {m : Option MapRoot} {a : MapRoot} (hm : m.filter (fun r => !r.torn) = some a) (h : m = j.mapA ∨ m = j.mapB) : a.gen < r.gen := by
    obtain ⟨rfl, hat⟩ := Option.filter_eq_some_iff.mp hm
    have := root_newest (j := j) (r := a) (by simpa using hat) (h.imp Eq.symm Eq.symm)
    omega
  unfold Journal.putRoot
  split
  · show (match (some r).filter _, j.mapB.filter _ with | some a, some b => _ | some a, none => _ | none, some b => _ | none, none => _) = r
    rw [whole]
    cases hb : j.mapB.filter fun r => !r.torn with
    | none => rfl
    | some b => exact if_neg (Nat.not_lt_of_lt (older hb (.inr rfl)))
  · show (match j.mapA.filter _, (some r).filter _ with | some a, some b => _ | some a, none => _ | none, some b => _ | none, none => _) = r
    rw [whole]
    cases ha : j.mapA.filter fun r => !r.torn with
    | none => rfl
    | some a => exact if_pos (older ha (.inl rfl))

theorem root_of_roots {j k : Journal} (h : roots j = roots k) : j.root = k.root := by
  simp only [roots, Prod.mk.injEq] at h
  obtain ⟨ha, hb, -⟩ := h
  unfold Journal.root
  rw [ha, hb]

/-- A map root takes the next generation in the other copy, and names T and the pages that are on flash (R198, R211). -/
theorem mapRootWrite_names (hf : s.store.flush = none) : Completes .mapRootWrite s (fun t => t.journal.rootGen = s.journal.rootGen + 1 ∧
    t.journal.rootB = !s.journal.rootB ∧ t.journal.rootT = max s.journal.rootT s.truncPoint ∧ t.store.namedPages = [] ∧
    (∀ p ∈ s.store.namedPages, p ∈ t.store.pagesAt)) := by
  have runs : exec .mapRootWrite s = .next (State.settle s.rebuildSet { s with
      journal := s.journal.putRoot s.nextRoot
      store := { s.store with pagesAt := s.nextRoot.pages, namedPages := [], namedCells := [], writtenMeta := none } }) := by
    show execMapRootWrite s = _
    unfold execMapRootWrite
    rw [if_neg (by simp [hf])]
  obtain ⟨hr, hp, hn⟩ := keptBySettling_roots.settle (before := s.rebuildSet) (s := { s with
    journal := s.journal.putRoot s.nextRoot
    store := { s.store with pagesAt := s.nextRoot.pages, namedPages := [], namedCells := [], writtenMeta := none } }) ⟨rfl, rfl, rfl⟩
  have new : _ = s.nextRoot := (root_of_roots hr).trans (root_putRoot rfl (Nat.lt_succ_self _))
  refine ⟨_, runs, congrArg MapRoot.gen new, ?_, congrArg MapRoot.t new, hn, fun p hm => ?_⟩
  · refine (congrArg (·.2.2) hr).trans ?_
    unfold Journal.putRoot
    split
    · next h => simp [roots, h]
    · next h => simp [roots, h]
  · rw [hp]
    exact List.mem_append_left _ hm

/-! ### Truncation (R198) -/

theorem journalTruncate_drops (ht : s.journal.t < n) (hr : n ≤ s.journal.rootT) :
    Completes (.journalTruncate n) s (fun t => t.journal.t = n ∧ t.journal.recs = s.journal.recs.filter (s.keepRec n)) := by
  unfold Completes
  show ∃ t, execJournalTruncate n s = _ ∧ _
  unfold execJournalTruncate
  rw [if_neg (by simp [ht, hr])]
  dsimp only
  split
  · exact ⟨_, rfl, rfl, rfl⟩
  · exact ⟨_, rfl, rfl, rfl⟩

theorem journalTruncate_idle (h : n ≤ s.journal.t ∨ s.journal.rootT < n) : exec (.journalTruncate n) s = .next s := by
  show execJournalTruncate n s = _
  unfold execJournalTruncate
  rcases h with h | h
  · rw [if_pos (by simp [h])]
  · rw [if_pos (by simp [h])]

end Sys2Proof
end

section
/-! PROOFS. Program statuses (O52): a pass is marked, the last one commits the stripe, a failed one voids it. -/

namespace Sys2Proof

open Sys2Proof.Machine

variable {s t u : State} {P : State → Prop} {x : Stripe} {b : Band} {m : Member} {o : DieOp} {band stripe mem busy : Nat}

/-! ### The operation ends (R288, R309) -/

/-- An operation that ends, slow or not, keeps what counts, records and the states of dies keep. -/
theorem KeptByJournal.slowOp (k : KeptByJournal P) (hd : ∀ {t : State} (d : Nat) {f : Die → Die}, (∀ y,
      dieKey (f y) = dieKey y) → P t → P (t.modDie d f))
    {d kind : Nat} (h : P s) : P (s.slowOp d kind busy) := by
  unfold State.slowOp
  split
  · exact h
  next y _ =>
  refine ite_keeps P h ?_
  have noted {l : List Nat} {code : Nat} {ps : List Nat} : P (((s.bumpCh Reg.CH_CNT_SLOW d 1).capture code ps).modDie d fun y => { y with slowTimes := l }) :=
    hd d (fun _ => rfl) (k.capture (k.bumpCh (by decide) h))
  exact ite_keeps P (k.capture (k.memberRec (hd d (fun _ => rfl) noted))) noted

/-- The state once the running program of a member has ended. -/
def programEnded (m : Member) (o : DieOp) (busy : Nat) (s : State) : State := (s.endOp m.die o.id busy).slowOp m.die 2 busy

theorem KeptByJournal.programEnded (k : KeptByJournal P)
    (hd : ∀ {t : State} (d : Nat) {f : Die → Die}, (∀ y, dieKey (f y) = dieKey y) → P t → P (t.modDie d f)) (h : P s) :
    P (programEnded m o busy s) := k.slowOp hd (hd _ (fun _ => rfl) h)

theorem keptByJournal_stripes {l : List Stripe} : KeptByJournal (·.store.stripes = l) where
  toKeptByRecorder := keptByRecorder_of_aside fun a h => a.recorded.stripes.trans h
  reg := fun _ _ _ h => h
  journal := fun _ _ h => h

theorem programEnded_stripes (m : Member) (o : DieOp) (busy : Nat) (s : State) : (programEnded m o busy s).store.stripes = s.store.stripes :=
  keptByJournal_stripes.programEnded (fun _ _ _ h => h) rfl

theorem programEnded_map (m : Member) (o : DieOp) (busy : Nat) (s : State) : (programEnded m o busy s).store.map = s.store.map :=
  keptByWritePath_map.toKeptByJournal.programEnded (fun _ _ _ h => h) rfl

theorem programEnded_geometry (m : Member) (o : DieOp) (busy : Nat) (s : State) : SameGeometry s (programEnded m o busy s) :=
  keptByJournal_sameGeometry.programEnded (fun _ _ hf h => h.congr rfl (modFirst_map _ _ _ _ hf)) (.refl s)

/-- The program of a member that its die is running. -/
structure Programs (s : State) (band stripe mem : Nat) (x : Stripe) (b : Band) (m : Member) (o : DieOp) : Prop where
  isStripe : s.stripe band stripe = some x
  isBand : s.band band = some b
  isMember : b.memberAt stripe mem = some m
  running : (s.dieGen m.die m.gen).bind (fun d => d.queue.find? (fun o => o.kind == 2 && o.band == band && o.stripe == stripe && o.mem == mem &&
    o.started && d.op == 2 && d.opId == o.id)) = some o

/-- A pass: the member is marked, and the stripe commits when it is the last. -/
theorem exec_programPass (h : Programs s band stripe mem x b m o) (ht : busy < s.memberTmoUs) :
    exec (.memberProgramStatus band stripe mem .pass busy) s =
      if (List.range (x.d + x.p)).all (x.passed ++ [mem]).contains then
        .next ((((((programEnded m o busy s).modStripe band stripe fun y => { y with passed := y.passed ++ [mem] }).commitStripe
          { x with passed := x.passed ++ [mem] }).settle s.rebuildSet).settleRelease.gatherHost).smartCheck)
      else .next ((programEnded m o busy s).modStripe band stripe fun y => { y with passed := y.passed ++ [mem] }) := by
  obtain ⟨hx, hb, hm, hr⟩ := h
  show execMemberProgramStatus band stripe mem .pass busy s = _
  unfold execMemberProgramStatus
  simp only [hx, hb, hm, hr, Nat.not_le.mpr ht, if_false]
  rfl

/-- A failure: the block is flagged, and the stripe is voided. -/
theorem exec_programFail (h : Programs s band stripe mem x b m o) (ht : busy < s.memberTmoUs) :
    ∃ (ps : List Nat) (f : Band → Band), exec (.memberProgramStatus band stripe mem .fail busy) s =
      .next ((((((((programEnded m o busy s).capture 0x0904 ps).health 7 1).modBand band f).voidStripe x 1 m.die).settle
        s.rebuildSet).settleRelease.gatherHost).smartCheck) := by
  obtain ⟨hx, hb, hm, hr⟩ := h
  show ∃ ps f, execMemberProgramStatus band stripe mem .fail busy s = _
  unfold execMemberProgramStatus
  simp only [hx, hb, hm, hr, Nat.not_le.mpr ht, if_false]
  exact ⟨_, _, rfl⟩

/-- A member that passes while another has not is marked (R192). -/
theorem programPass_marks (h : Programs s band stripe mem x b m o) (ht : busy < s.memberTmoUs)
    (hi : ∃ i, i < x.d + x.p ∧ i ∉ x.passed ∧ i ≠ mem) : Completes (.memberProgramStatus band stripe mem .pass busy) s (fun t =>
      t.stripe band stripe = some { x with passed := x.passed ++ [mem] }) := by
  obtain ⟨i, hlt, hp, hne⟩ := hi
  refine ⟨_, (exec_programPass h ht).trans (if_neg fun hall => ?_), ?_⟩
  · have := List.all_eq_true.mp hall i (List.mem_range.mpr hlt)
    simp [hp, hne] at this
  · refine (stripe_modStripe band stripe (f := fun y => { y with passed := y.passed ++ [mem] }) (fun _ => ⟨rfl, rfl⟩) band stripe).trans ?_
    rw [if_pos ⟨rfl, rfl⟩]
    unfold State.stripe
    rw [programEnded_stripes]
    exact congrArg _ h.isStripe

/-! ### The commit (R188, R192) -/

theorem SameGeometry.itemGran (h : SameGeometry s t) {y : Stripe} (hb : y.band = x.band) (hs : y.stripe = x.stripe) (i : Item) :
    t.itemGran y i = s.itemGran x i := by
  unfold State.itemGran
  rw [hb, hs]
  have e := h.band x.band
  cases hc : t.band x.band with
  | none =>
    rw [hc] at e
    rw [Option.map_eq_none_iff.mp e.symm]
  | some c =>
    rw [hc] at e
    obtain ⟨b, hb, hk⟩ := Option.map_eq_some_iff.mp e.symm
    simp only [hb]
    calc t.granOf c x.stripe i.off = t.granOf (bandKey c) x.stripe i.off := rfl
      _ = t.granOf (bandKey b) x.stripe i.off := by rw [hk]
      _ = t.granOf b x.stripe i.off := rfl
      _ = s.granOf b x.stripe i.off := h.granOf ..

/-- What identifies the map unit of an extent. -/
def itemKey (i : Item) : Nat × Nat × Nat := (i.slice, i.nsid, i.mu)

/-- An extent whose entry names its buffer offset takes its place in the band, and no other entry changes. -/
theorem entryAt_commitBuf {i : Item} (sl ns mu : Nat) : ((s.commitBuf x false i).entryAt sl ns mu).loc =
    if itemKey i = (sl, ns, mu) ∧ (s.entryAt sl ns mu).loc = .buffered (i.buf.getD 0) then .band (s.itemGran x i) else (s.entryAt sl ns mu).loc := by
  unfold State.commitBuf
  dsimp only
  split
  · next h =>
    let e := { s.entryAt i.slice i.nsid i.mu with loc := .band (s.itemGran x i) }
    refine (congrArg MapEntry.loc ((entryAt_congr (s := s.setEntry i.slice i.nsid i.mu e) rfl sl ns mu).trans (entryAt_setEntry ..))).trans ?_
    by_cases hk : itemKey i = (sl, ns, mu)
    · simp only [itemKey, Prod.mk.injEq] at hk
      obtain ⟨rfl, rfl, rfl⟩ := hk
      rw [if_pos ⟨rfl, rfl, rfl⟩, if_pos ⟨rfl, h⟩]
    · rw [if_neg fun hk' => hk (by simp [itemKey, hk']), if_neg fun hk' => hk hk'.1]
  · next h =>
    refine (if_neg fun ⟨hk, hl⟩ => h ?_).symm
    simp only [itemKey, Prod.mk.injEq] at hk
    obtain ⟨rfl, rfl, rfl⟩ := hk
    exact hl

theorem sameGeometry_commitBuf {y : Stripe} {i : Item} (h : SameGeometry s t) : SameGeometry s (t.commitBuf y false i) :=
  ite_keeps (SameGeometry s) (h.congr rfl rfl) h

/-- An entry that no extent of a list is about stays. -/
theorem entryAt_commits_other {y : Stripe} {is : List Item} {sl ns mu : Nat} (h : (sl, ns, mu) ∉ is.map itemKey) :
    ((is.foldl (fun s i => s.commitBuf y false i) t).entryAt sl ns mu).loc = (t.entryAt sl ns mu).loc := by
  induction is generalizing t with
  | nil => rfl
  | cons i is ih =>
    rw [List.map_cons, List.mem_cons, not_or] at h
    rw [List.foldl_cons, ih h.2, entryAt_commitBuf, if_neg fun hk => h.1 hk.1.symm]

/-- Extents of different units take their places one after the other. -/
theorem entryAt_commits {y : Stripe} {is : List Item} (hn : (is.map itemKey).Nodup) (hg : SameGeometry s t) (hb : y.band = x.band)
    (hs : y.stripe = x.stripe) : ∀ i ∈ is, (t.entryAt i.slice i.nsid i.mu).loc = .buffered (i.buf.getD 0) →
      ((is.foldl (fun s i => s.commitBuf y false i) t).entryAt i.slice i.nsid i.mu).loc = .band (s.itemGran x i) := by
  induction is generalizing t with
  | nil => exact fun _ h => nomatch h
  | cons j is ih =>
    obtain ⟨hj, hn⟩ := List.nodup_cons.mp hn
    intro i hi hl
    rw [List.foldl_cons]
    rcases List.mem_cons.mp hi with rfl | hi
    · rw [entryAt_commits_other (sl := i.slice) (ns := i.nsid) (mu := i.mu) hj, entryAt_commitBuf, if_pos ⟨rfl, hl⟩, hg.itemGran hb hs]
    · have other : itemKey j ≠ (i.slice, i.nsid, i.mu) := fun hk => hj (hk ▸ List.mem_map_of_mem hi)
      refine ih hn (sameGeometry_commitBuf hg) i hi ?_
      rw [entryAt_commitBuf, if_neg fun hk => other hk.1]
      exact hl

/-- A host stripe that commits: its record, its extents, its buffer space, its end. -/
theorem commitStripe_host {y : Stripe} (h : y.stream = 0) : ∃ (body : RecBody) (offs : List Nat), s.commitStripe y =
    ((((((y.items.foldl (fun s i => s.commitBuf y false i) (s.jsync body)).freeBufs offs).onFlash y true).dropStripe
      y.band y.stripe).fillBand y.band).endFlushJob) := by
  unfold State.commitStripe
  rw [h]
  exact ⟨_, _, rfl⟩

/-- What a commit or a void is followed by. -/
theorem KeptByWritePath.settled (k : KeptByWritePath P) (hc : ∀ {y : State}, P y → P y.smartCheck) {before : List Band} (h : P s) :
    P (((s.settle before).settleRelease.gatherHost).smartCheck) := hc (k.gatherHost (k.settleRelease (k.settle h)))

/-- The end of a stripe whose extents have taken their places. -/
theorem KeptByWritePath.committed (k : KeptByWritePath P) {y : Stripe} {offs : List Nat} (h : P s) :
    P (((((s.freeBufs offs).onFlash y true).dropStripe y.band y.stripe).fillBand y.band).endFlushJob) :=
  k.endFlushJob (k.fillBand (k.dropStripe (k.onFlash (k.buf _ h))))

/-- The last member passes: every extent the map still names at its buffer offset lies in the band (R188, R192). -/
theorem programPass_commits (h : Programs s band stripe mem x b m o) (ht : busy < s.memberTmoUs)
    (hall : ∀ i, i < x.d + x.p → i ∈ x.passed ∨ i = mem) (h0 : x.stream = 0) (hn : (x.items.map fun i => (i.slice, i.nsid, i.mu)).Nodup) :
    Completes (.memberProgramStatus band stripe mem .pass busy) s (fun t =>
      ∀ i ∈ x.items, (s.entryAt i.slice i.nsid i.mu).loc = .buffered (i.buf.getD 0) →
        (t.entryAt i.slice i.nsid i.mu).loc = .band (s.itemGran x i)) := by
  refine ⟨_, (exec_programPass h ht).trans (if_pos (List.all_eq_true.mpr fun i hi => ?_)), fun i hi hl => ?_⟩
  · have := hall i (List.mem_range.mp hi)
    simpa using this
  obtain ⟨body, offs, e⟩ := commitStripe_host (s := (programEnded m o busy s).modStripe band stripe fun y => { y with passed := y.passed ++ [mem] })
    (y := { x with passed := x.passed ++ [mem] }) h0
  rw [e]
  have after := fun (z : State) (y : Stripe) => (keptByWritePath_map (m := z.store.map)).settled (before := s.rebuildSet)
    (fun h => (aside_smartCheck _).recorded.map.trans h) (keptByWritePath_map.committed (y := y) (offs := offs) (rfl : z.store.map = _))
  rw [entryAt_congr (after _ _)]
  refine entryAt_commits hn ?_ rfl rfl i hi ?_
  · exact keptByJournal_sameGeometry.jsync ((programEnded_geometry m o busy s).congr rfl rfl)
  · have map : _ = s.store.map := keptByWritePath_map.jsync (r := body)
      (s := (programEnded m o busy s).modStripe band stripe fun y => { y with passed := y.passed ++ [mem] }) (programEnded_map m o busy s)
    rw [entryAt_congr map]
    exact hl

/-! ### The void (R193, R240) -/

/-- A stripe that is void but for its event. -/
def unstriped (x : Stripe) (cause : Nat) (s : State) : State :=
  ((((((s.jsync (.void x.band x.stripe cause)).onFlash x false).dropProgs x.band x.stripe).dropStripe x.band x.stripe).endFlushJob).closeBand x.band)

/-- What follows the event of a void stripe: its extents are gathered again. -/
theorem KeptByWritePath.voidStripe (k : KeptByWritePath P) {cause die : Nat}
    (h : P ((unstriped x cause s).capture 0x0702 [x.band, x.stripe, cause, die])) : P (s.voidStripe x cause die) := by
  unfold State.voidStripe
  dsimp only
  split
  · exact k.buf _ h
  · exact k.capture (k.modBand (k.againOf h))
  · exact h

theorem KeptByWritePath.unstriped (k : KeptByWritePath P) {cause : Nat} (h : P s) : P (unstriped x cause s) :=
  k.closeBand (k.endFlushJob (k.dropStripe (k.array _ (k.onFlash (k.jsync h)))))

theorem safe_unstriped {cause : Nat} (h : Safe s) : Safe (unstriped x cause s) := h.jsync.onFlash.dropProgs.dropStripe.endFlushJob.closeBand

/-- A program that fails records event 0x04 and voids its stripe with event 0x02 (R193, R288). -/
theorem programFail_voids (hs : Safe s) (h : Programs s band stripe mem x b m o) (ht : busy < s.memberTmoUs) :
    Completes (.memberProgramStatus band stripe mem .fail busy) s (fun t =>
      (t.sticky 7).getLsbD 2 = true ∧ (t.sticky 9).getLsbD 4 = true) := by
  obtain ⟨ps, f, runs⟩ := exec_programFail h ht
  have k7 : KeptByWritePath (Marked 7 2) := keptByWritePath_marked (by decide)
  have k9 : KeptByWritePath (Marked 9 4) := keptByWritePath_marked (by decide)
  have listed : ∀ code ∈ [0x0904, 0x0702], (severity code).isSome = true := by decide +kernel
  have sound : Safe (programEnded m o busy s) := Safe.slowOp (Safe.endOp hs)
  have failed : Marked 9 4 ((programEnded m o busy s).capture 0x0904 ps) := by
    obtain ⟨sev, hsev⟩ := Option.isSome_iff_exists.mp (listed 0x0904 (by simp))
    exact marked_capture sound hsev (by decide)
  have voided {z : State} (hz : Safe z) : Marked 7 2 ((unstriped x 1 z).capture 0x0702 [x.band, x.stripe, 1, m.die]) := by
    obtain ⟨sev, hsev⟩ := Option.isSome_iff_exists.mp (listed 0x0702 (by simp))
    exact marked_capture (safe_unstriped hz) hsev (by decide)
  refine ⟨_, runs, (k7.settled Marked.smartCheck (k7.voidStripe (voided sound.capture.health.modBand))).2, ?_⟩
  exact (k9.settled Marked.smartCheck (k9.voidStripe (k9.capture (k9.unstriped (k9.modBand (k9.health failed)))))).2

end Sys2Proof
end

section
/-! PROOFS. Stripes and the map: O52 clause by clause. -/

namespace Sys2Proof

open Sys2Proof.Machine

variable {s : State} {x : Stripe} {b : Band} {stream band : Nat}

/-- The first full stripe of a stream in a band is the one that flushes (R189). -/
theorem exec_stripeFlush
    (h : s.store.stripes.find? (fun t => t.stream == stream && t.band == band && !t.flushing && s.stripeRoom t == 0) = some x) :
    exec (.stripeFlush stream band) s = .next (s.flushStripe x).gatherHost := by
  show execStripeFlush stream band s = _
  unfold execStripeFlush
  rw [h]

/-- A stripe that may not flush, or whose parity members find no punnets, stays (R189, R191). -/
theorem flushStripe_stays (hb : s.band x.band = some b) (h : s.canFlush x b = false ∨ s.takePun 4 (s.parityPun x b) = none) :
    s.flushStripe x = s := by
  unfold State.flushStripe
  simp only [hb]
  rcases h with h | h
  · simp [h]
  · simp only [h]
    exact ite_id _

/-- Settles O52, instruction by instruction. -/
theorem stripesFlushCommitAndTheMapPersists : Obligations.StripesFlushCommitAndTheMapPersists := by
  intro s hs _
  refine ⟨?_, ?_, fun h => if_pos h, fun h => if_neg (by simp [h]), ?_, ?_, fun n => mapPageWrite_idle, mapRootWrite_names,
    fun n => journalTruncate_drops, fun n => journalTruncate_idle⟩
  · intro stream band x b hfull hx hb
    refine ⟨fun hf ht => ⟨_, exec_stripeFlush hfull, ?_, ?_⟩, fun h => ?_⟩
    · obtain ⟨y, hy, hg⟩ := (flushStripe_starts hx hb hf ht).1
      rw [show _ = some y from hy]
      exact congrArg some (hg.flushing rfl)
    · exact (flushStripe_starts hx hb hf ht).2
    · rw [exec_stripeFlush hfull, flushStripe_stays hb h]
  · intro stream x ho hx
    refine ⟨stripePadIdle_fills ho hx, fun hd => ?_⟩
    show execStripePadIdle stream s = _
    unfold execStripePadIdle
    simp only [ho, hd]
    rfl
  · intro band stripe mem busy x b m d o hx hb hm hd hq ht
    have programs : Programs s band stripe mem x b m o := ⟨hx, hb, hm, by rw [hd]; exact hq⟩
    exact ⟨programPass_marks programs ht, programPass_commits programs ht, programFail_voids hs programs ht⟩
  · exact fun n pg => mapPageWrite_waits

end Sys2Proof
end

section
/-! PROOFS. What every command leaves (O6): the waiting commands, the clock, the fuses but for those that burn, and the lengths of the lists
whose lengths the hardware fixes. The rules that the proof composes: each state operation `State.f` that a command uses has one rule
`Kept.f`, so that the chain `h.f.g` follows the model's `s.f.g`; each meaning `execF` has one, `Keeps.f`. -/

namespace Sys2Proof
open Sys2Proof.Machine

/-! ### What is kept -/

/-- Fuses after some may have been burnt (R488, R489, R528). -/
structure BurntFrom (a b : Fuses) : Prop where
  vendor : b.vendorKeyHash = a.vendorKeyHash
  jtag : b.jtagLock = a.jtagLock
  grade : b.grade = a.grade
  rollback : a.antiRollback ≤ b.antiRollback
  owner : a.ownerKeyHash.isSome = true → b.ownerKeyHash = a.ownerKeyHash

/-- `s` came from `s₀` by what a command may do: no waiting command and no time passed, no fuse undone, no list of fixed length changed in
length. -/
structure Kept (s₀ s : State) : Prop where
  pending : s.pending = s₀.pending
  now : s.seed.now = s₀.seed.now
  fuses : BurntFrom s₀.fuses s.fuses
  shape : Shape s₀ → Shape s

theorem BurntFrom.refl (a : Fuses) : BurntFrom a a := ⟨rfl, rfl, rfl, Nat.le_refl _, fun _ => rfl⟩

theorem BurntFrom.trans {a b c : Fuses} (h : BurntFrom a b) (k : BurntFrom b c) : BurntFrom a c :=
  ⟨k.vendor.trans h.vendor, k.jtag.trans h.jtag, k.grade.trans h.grade, h.rollback.trans k.rollback,
    fun o => (k.owner (by rw [h.owner o]; exact o)).trans (h.owner o)⟩

variable {s₀ s t : State}

theorem Kept.refl (s : State) : Kept s s := ⟨rfl, rfl, .refl _, id⟩

theorem Kept.trans (h : Kept s₀ s) (k : Kept s t) : Kept s₀ t :=
  ⟨k.pending.trans h.pending, k.now.trans h.now, h.fuses.trans k.fuses, fun x => k.shape (h.shape x)⟩

/-- An update that keeps the clock, the fuses, and the length of each list of fixed length. -/
theorem Kept.upd (h : Kept s₀ s) {regs glb fuses nor cfg fw seed power fabric eng slices store journal upkeep array comp mem loops bank
    thermal events free}
    (e : (seed.now, fuses, [fabric.macs.length, fabric.nbs.length, comp.lanes.length, loops.length, array.carriers.length,
        array.chans.length, upkeep.jobs.length, upkeep.moving.length, events.groups.length, bank.sense.length, power.carDom.length,
        power.doms.length, thermal.pace.length]) =
      (s.seed.now, s.fuses, [s.fabric.macs.length, s.fabric.nbs.length, s.comp.lanes.length, s.loops.length, s.array.carriers.length,
        s.array.chans.length, s.upkeep.jobs.length, s.upkeep.moving.length, s.events.groups.length, s.bank.sense.length,
        s.power.carDom.length, s.power.doms.length, s.thermal.pace.length]) := by rfl) :
    Kept s₀ ⟨s.pending, regs, glb, fuses, nor, cfg, fw, seed, power, fabric, eng, slices, store, journal, upkeep, array, comp, mem, loops,
      bank, thermal, events, free⟩ := by
  simp only [Prod.mk.injEq, List.cons.injEq, and_true] at e
  obtain ⟨now, fuse, f1, f2, f3, f4, f5, f6, f7, f8, f9, f10, f11, f12, f13⟩ := e
  refine h.trans ⟨rfl, now, by rw [fuse]; exact .refl _, fun x => ?_⟩
  simp only [Shape, f1, f2, f3, f4, f5, f6, f7, f8, f9, f10, f11, f12, f13]
  exact x

/-- Where the lists change, the fixed shape decides. -/
theorem Kept.reshape (h : Kept s₀ s) {regs glb nor cfg fw seed power fabric eng slices store journal upkeep array comp mem loops bank
    thermal events free} (k : Shape s → Shape ⟨s.pending, regs, glb, s.fuses, nor, cfg, fw, seed, power, fabric, eng, slices, store, journal,
      upkeep, array, comp, mem, loops, bank, thermal, events, free⟩) (e : seed.now = s.seed.now := by rfl) :
    Kept s₀ ⟨s.pending, regs, glb, s.fuses, nor, cfg, fw, seed, power, fabric, eng, slices, store, journal, upkeep, array, comp, mem, loops,
      bank, thermal, events, free⟩ := h.trans ⟨rfl, e, .refl _, k⟩

/-- Fuses burn, none of them back. -/
theorem Kept.burn (h : Kept s₀ s) {f : Fuses} (b : BurntFrom s.fuses f) : Kept s₀ { s with fuses := f } := h.trans ⟨rfl, rfl, b, id⟩

theorem Kept.ite {p : Prop} {_ : Decidable p} (ht : Kept s₀ t) (hs : Kept s₀ s) : Kept s₀ (if p then t else s) := by
  split
  · exact ht
  · exact hs

theorem Kept.foldl (h : Kept s₀ s) {α : Type} {f : State → α → State} {l : List α} (hf : ∀ x a, Kept s₀ x → Kept s₀ (f x a)) :
    Kept s₀ (l.foldl f s) :=
  foldl_keeps (Kept s₀) f l s h fun x a _ => hf x a

theorem Kept.optElim (h : Kept s₀ s) {α : Type} {o : Option α} {f : α → State} (hf : ∀ a, Kept s₀ (f a)) : Kept s₀ (o.elim s f) := by
  cases o
  · exact h
  · exact hf _

/-! ### The answer of a meaning -/

/-- A meaning answers a next state that came from `s` so. -/
def Keeps (s : State) (o : Out) : Prop := ∃ t, o = .next t ∧ Kept s t

theorem Keeps.next (h : Kept s s → Kept s t) : Keeps s (.next t) := ⟨t, rfl, h (.refl s)⟩

theorem Keeps.ite {p : Prop} {_ : Decidable p} {o o' : Out} (h : Keeps s o) (h' : Keeps s o') :
    Keeps s (if p then o else o') := by
  split
  · exact h
  · exact h'

theorem Keeps.after {o : Out} (h : Kept s s → Kept s t) (ho : Keeps t o) : Keeps s o := by
  obtain ⟨u, e, k⟩ := ho
  exact ⟨u, e, (h (.refl s)).trans k⟩

end Sys2Proof
end

section
/-! PROOFS. What the state operations and the meanings keep (O6), in the model's order, a heading for each of its files. -/

namespace Sys2Proof

open Sys2Proof.Machine

-- One proof after the other: the default proof of `Kept.upd` is read from the environment, and would wait for every proof before it.
set_option Elab.async false

variable {s₀ s t : State}

/-! ### Machine/Regs.lean -/

theorem Kept.setReg (h : Kept s₀ s) {off v} : Kept s₀ (s.setReg off v) := h.upd

/-! ### Machine/Ops.lean -/

theorem Kept.drawFree (h : Kept s₀ s) : Kept s₀ s.drawFree.2 := h.upd

theorem Kept.modEntry (h : Kept s₀ s) {e f} : Kept s₀ (s.modEntry e f) := h.upd

theorem Kept.modCtrl (h : Kept s₀ s) {c f} : Kept s₀ (s.modCtrl c f) := h.upd

theorem Kept.modQueue (h : Kept s₀ s) {q f} : Kept s₀ (s.modQueue q f) := h.upd

theorem Kept.modSlice (h : Kept s₀ s) {n f} : Kept s₀ (s.modSlice n f) := h.upd

theorem Kept.meterAdd (h : Kept s₀ s) {n i v} : Kept s₀ (s.meterAdd n i v) := h.modSlice

theorem Kept.freeEntry (h : Kept s₀ s) {e} : Kept s₀ (s.freeEntry e) := h.upd

theorem Kept.peerFree (h : Kept s₀ s) {e} : Kept s₀ (s.peerFree e) := by
  unfold State.peerFree
  split
  · exact h
  · exact h.freeEntry

theorem Kept.endPeer (h : Kept s₀ s) {sl} : Kept s₀ (s.endPeer sl) := .foldl h fun _ _ k => k.peerFree

theorem Kept.heardOn (h : Kept s₀ s) {nb initiator} : Kept s₀ (s.heardOn nb initiator) := h.upd (by simp)

theorem Kept.recordErr (h : Kept s₀ s) {e status} : Kept s₀ (s.recordErr e status) := .modCtrl (.ite h.upd h.modSlice)

theorem Kept.holdRes (h : Kept s₀ s) {e} : Kept s₀ (s.holdRes e) := by
  unfold State.holdRes
  split
  · exact h
  · exact h.modEntry

theorem Kept.unholdRes (h : Kept s₀ s) {e} : Kept s₀ (s.unholdRes e) := by
  unfold State.unholdRes
  split
  · exact h
  · exact h.modEntry

theorem Kept.wakeHeld (h : Kept s₀ s) : Kept s₀ s.wakeHeld := h.upd

theorem Kept.sendCqe (h : Kept s₀ s) {e status result} : Kept s₀ (s.sendCqe e status result) :=
  .ite h.freeEntry (.ite h.freeEntry.upd (.freeEntry h.upd))

theorem Kept.meterClosed (h : Kept s₀ s) {e status} : Kept s₀ (s.meterClosed e status) :=
  have counted := (Kept.ite h.meterAdd.meterAdd (.ite h.meterAdd.meterAdd h.meterAdd)).meterAdd.meterAdd.meterAdd.meterAdd.meterAdd.meterAdd.modSlice
  .ite counted.meterAdd counted

theorem Kept.post (h : Kept s₀ s) {e status result} : Kept s₀ (s.post e status result) :=
  have closed := .ite h.meterClosed (.ite h.meterAdd h)
  .sendCqe (.ite closed closed.recordErr)

theorem Kept.postAborted (h : Kept s₀ s) {e status} : Kept s₀ (s.postAborted e status) := h.post

theorem Kept.finish (h : Kept s₀ s) {e status result out} : Kept s₀ (s.finish e status result out) := h.modEntry

theorem Kept.reportNotice (h : Kept s₀ s) {c} : Kept s₀ (s.reportNotice c) := by
  unfold State.reportNotice
  split
  · exact h
  · split
    · split
      · exact h
      · exact h.modCtrl.post
    · exact h

theorem Kept.notify (h : Kept s₀ s) {c n} : Kept s₀ (s.notify c n) := .ite h h.modCtrl.reportNotice

theorem Kept.notifyAll (h : Kept s₀ s) {p n} : Kept s₀ (s.notifyAll p n) := .foldl h fun _ _ k => k.notify

theorem Kept.events (h : Kept s₀ s) {x : Events} (e : x.groups.length = s.events.groups.length) : Kept s₀ { s with events := x } :=
  h.upd (by simp [e])

theorem Kept.evActs (h : Kept s₀ s) {code sev} : Kept s₀ (s.evActs code sev) :=
  have counted := .events (.setReg (.ite h.upd h)) (modNth_length ..)
  .ite counted.notifyAll counted

theorem Kept.evDrop (h : Kept s₀ s) {g n} : Kept s₀ (s.evDrop g n) :=
  have dropped := h.upd.setReg
  .ite dropped.evActs.setReg dropped

theorem Kept.evWrite (h : Kept s₀ s) {r n} : Kept s₀ (s.evWrite r n).2 := by
  unfold State.evWrite
  split
  · split
    · exact h.upd
    · exact .evDrop h.upd
  · split
    · exact h.evDrop
    · split
      · exact h.evDrop.evActs.upd
      · exact h.upd

theorem Kept.captureOne (h : Kept s₀ s) {code ps} : Kept s₀ (s.captureOne code ps) := by
  unfold State.captureOne
  split
  · exact h
  · exact .ite (h.evActs.evWrite.events rfl) (h.evActs.setReg.events rfl)

theorem Kept.capture (h : Kept s₀ s) {code ps} : Kept s₀ (s.capture code ps) := by
  unfold State.capture
  extract_lets
  split
  · split
    · exact h.captureOne.captureOne.captureOne
    · exact h.captureOne.captureOne
  · exact h.captureOne

theorem Kept.evSummaries (h : Kept s₀ s) : Kept s₀ s.evSummaries := .foldl h fun _ _ k => k.evWrite.events rfl

theorem Kept.satEvent (h : Kept s₀ s) {g p0 p1} : Kept s₀ (s.satEvent g p0 p1) := .ite h h.upd.capture

theorem Kept.bump (h : Kept s₀ s) {off n} : Kept s₀ (s.bump off n) := .ite h.setReg.capture h.setReg

theorem Kept.clearCounters (h : Kept s₀ s) {off n v} : Kept s₀ (s.clearCounters off n v) := .ite (.foldl h fun _ _ k => k.setReg) h

theorem Kept.jwrite (h : Kept s₀ s) {b} : Kept s₀ (s.jwrite b) := .ite (.ite h.upd.setReg.setReg h.upd.setReg.setReg.bump.capture) h.upd

theorem Kept.writeSettings (h : Kept s₀ s) : Kept s₀ s.writeSettings := .ite h.upd.upd h.upd

/-! ### Machine/PunPool.lean -/

theorem Kept.enterChain (h : Kept s₀ s) {cls l} : Kept s₀ (s.enterChain cls l) := h.upd

/-- A grant of punnets, when there is one. -/
theorem Kept.takePun (h : Kept s₀ s) {cls n} {r : List Nat × State} (e : s.takePun cls n = some r) : Kept s₀ r.2 := by
  unfold State.takePun at e
  split at e
  · cases e; exact h
  · split at e
    · cases e; exact .foldl h fun _ _ k => k.enterChain
    · cases e

theorem Kept.freeChain (h : Kept s₀ s) {l} : Kept s₀ (s.freeChain l) := h.upd

/-! ### Machine/Geometry.lean -/

theorem Kept.modCarrier (h : Kept s₀ s) {k f} : Kept s₀ (s.modCarrier k f) := h.upd (by simp)

theorem Kept.modDie (h : Kept s₀ s) {d f} : Kept s₀ (s.modDie d f) := h.upd

theorem Kept.modChan (h : Kept s₀ s) {c f} : Kept s₀ (s.modChan c f) := h.upd (by simp)

theorem Kept.modBlock (h : Kept s₀ s) {d b f} : Kept s₀ (s.modBlock d b f) := h.upd

theorem Kept.modBand (h : Kept s₀ s) {n f} : Kept s₀ (s.modBand n f) := h.upd

theorem Kept.setPool (h : Kept s₀ s) : Kept s₀ s.setPool := h.upd

/-! ### Machine/MapOps.lean -/

theorem Kept.setEntry (h : Kept s₀ s) {sl ns mu e} : Kept s₀ (s.setEntry sl ns mu e) := h.upd

theorem Kept.lostSpill (h : Kept s₀ s) : Kept s₀ s.lostSpill := .ite (.ite h h.upd.capture) h.upd

theorem Kept.addLost (h : Kept s₀ s) {r} : Kept s₀ (s.addLost r) := .ite h h.upd.lostSpill

theorem Kept.removeLost (h : Kept s₀ s) {sl ns a n} : Kept s₀ (s.removeLost sl ns a n) := .ite h h.upd.lostSpill

theorem Kept.send (h : Kept s₀ s) {x} : Kept s₀ (s.send x) := h.upd

theorem Kept.afterLoss (h : Kept s₀ s) {sl ns mu} : Kept s₀ (s.afterLoss sl ns mu) := by
  unfold State.afterLoss
  split
  · exact h
  · exact .ite h.send (.ite h (.ite h.send h.capture))

theorem Kept.recordLoss (h : Kept s₀ s) {sl ns mu slba nlb cause whole band old} :
    Kept s₀ (s.recordLoss sl ns mu slba nlb cause whole band old) :=
  .ite h.addLost.modSlice h.addLost.modSlice.afterLoss

theorem Kept.loseUnits (h : Kept s₀ s) {sl ns mu k cause band} : Kept s₀ (s.loseUnits sl ns mu k cause band) :=
  .foldl h.jwrite fun _ _ k => k.setEntry.recordLoss

theorem Kept.loseUnit (h : Kept s₀ s) {sl ns mu cause band} : Kept s₀ (s.loseUnit sl ns mu cause band) := h.loseUnits

theorem Kept.losePart (h : Kept s₀ s) {sl ns mu slba nlb cause band} : Kept s₀ (s.losePart sl ns mu slba nlb cause band) :=
  h.jwrite.setEntry.recordLoss

theorem Kept.supersede (h : Kept s₀ s) {old} : Kept s₀ (s.supersede old) := by
  unfold State.supersede
  split
  · exact h.upd
  · exact h

theorem Kept.stageEntry (h : Kept s₀ s) {sl ns mu e} : Kept s₀ (s.stageEntry sl ns mu e) := h.supersede.setEntry

theorem Kept.deallocUnit (h : Kept s₀ s) {sl ns mu} : Kept s₀ (s.deallocUnit sl ns mu) := .stageEntry (.ite h.removeLost h)

/-! ### Machine/Metering.lean -/

theorem Kept.meterMs (h : Kept s₀ s) {ms} : Kept s₀ (s.meterMs ms) := .foldl h fun _ _ k => k.meterAdd.meterAdd.meterAdd

theorem Kept.meterTick (h : Kept s₀ s) {part ago} : Kept s₀ (s.meterTick part ago) := h.upd.jwrite.upd

/-! ### Machine/BandOps.lean -/

theorem Kept.health (h : Kept s₀ s) {i n} : Kept s₀ (s.health i n) := h.upd

theorem Kept.setRegime (h : Kept s₀ s) : Kept s₀ s.setRegime := by
  unfold State.setRegime
  refine .ite h ?_
  extract_lets
  split <;> exact .capture (.upd (.ite h.health (.ite h.health h)))

theorem Kept.trimPslc (h : Kept s₀ s) : Kept s₀ s.trimPslc := .foldl h fun _ _ k => .ite k.modBand k

theorem Kept.setPslc (h : Kept s₀ s) : Kept s₀ s.setPslc := .ite h h.upd.trimPslc.capture

theorem Kept.formBands (h : Kept s₀ s) {fuel} : Kept s₀ (s.formBands fuel) := by
  induction fuel generalizing s with
  | zero => exact h
  | succ n ih =>
    unfold State.formBands
    split
    · exact h
    · exact ih h.upd

theorem Kept.reform (h : Kept s₀ s) {num} : Kept s₀ (s.reform num) := by
  unfold State.reform
  split
  · exact h
  · refine .ite h.modBand ?_
    split
    split <;> exact h.modBand

theorem Kept.reformNew (h : Kept s₀ s) {num} : Kept s₀ (s.reformNew num) := by
  unfold State.reformNew
  split
  · exact h
  · extract_lets
    split
    · exact h.modBand
    · exact h

theorem Kept.reformLanding (h : Kept s₀ s) : Kept s₀ s.reformLanding := .foldl h fun _ _ k => .ite k.reformNew k

theorem Kept.fillLanding (h : Kept s₀ s) : Kept s₀ s.fillLanding := .ite h (.foldl h fun _ _ k => .ite k.modBand.reformNew k)

theorem Kept.reformErased (h : Kept s₀ s) : Kept s₀ s.reformErased := .fillLanding (.reformLanding (.foldl h fun _ _ k => k.reform))

/-- The engine that moves a band becomes idle. -/
theorem Kept.freeEngine (h : Kept s₀ s) {num} : Kept s₀ { s with upkeep := s.upkeep.freeEngine num } := by
  refine h.reshape fun ⟨h1, h2, h3, h4, h5, h6, jobs, moving, h⟩ => ⟨h1, h2, h3, h4, h5, h6, ?_, ?_, h⟩
  · simp [Upkeep.freeEngine, jobs, moving]
  · simp [Upkeep.freeEngine, moving]

theorem Kept.settleBand (h : Kept s₀ s) {b} : Kept s₀ (s.settleBand b) := .ite (.ite h.modBand.freeEngine.health h.modBand.freeEngine) h

theorem Kept.settleBands (h : Kept s₀ s) : Kept s₀ s.settleBands := .foldl h fun _ _ k => k.settleBand

theorem Kept.beginPeriod (h : Kept s₀ s) : Kept s₀ s.beginPeriod := by
  unfold State.beginPeriod
  split
  · exact h
  · exact h.upd

theorem Kept.settleDies (h : Kept s₀ s) : Kept s₀ s.settleDies := by
  unfold State.settleDies
  extract_lets
  split
  · exact .ite h.upd.upd.capture h.upd
  · exact h.upd

theorem Kept.settleCarrier (h : Kept s₀ s) {k} : Kept s₀ (s.settleCarrier k) := h.modCarrier

theorem Kept.memberRec (h : Kept s₀ s) {slot cause die st direct} : Kept s₀ (s.memberRec slot cause die st direct) := h.jwrite

theorem Kept.movedBytes (h : Kept s₀ s) {n} : Kept s₀ (s.movedBytes n) := .ite h.upd h.upd.bump

theorem Kept.loseExtents (h : Kept s₀ s) {band cause l} : Kept s₀ (s.loseExtents band cause l).2 :=
  .foldl (.foldl h fun _ _ k => k.loseUnits) fun _ _ k => .foldl k.upd fun _ _ m => m.losePart

theorem Kept.loseBand (h : Kept s₀ s) {b} : Kept s₀ (s.loseBand b) := .ite h (.foldl h fun _ _ k => .ite k k.loseExtents.upd.capture)

theorem Kept.loseBeyond (h : Kept s₀ s) : Kept s₀ s.loseBeyond := .foldl h fun _ _ k => k.loseBand

/-! ### Machine/StripeOps.lean -/

theorem Kept.jsync (h : Kept s₀ s) {b} : Kept s₀ (s.jsync b) := .ite h.jwrite.upd h.jwrite

theorem Kept.modStripe (h : Kept s₀ s) {b n f} : Kept s₀ (s.modStripe b n f) := h.upd

theorem Kept.dropStripe (h : Kept s₀ s) {b n} : Kept s₀ (s.dropStripe b n) := .upd (.ite h h.freeChain)

theorem Kept.onFlash (h : Kept s₀ s) {t committed} : Kept s₀ (s.onFlash t committed) := .ite h h.upd

theorem Kept.openStripe (h : Kept s₀ s) {stream kind} : Kept s₀ (s.openStripe stream kind) := by
  unfold State.openStripe
  extract_lets pick
  clear_value pick
  split
  · exact h
  · exact .ite h h.modBand.upd

theorem Kept.place (h : Kept s₀ s) {stream kind len add} : Kept s₀ (s.place stream kind len add).2 := by
  unfold State.place
  extract_lets s1
  have k : Kept s₀ s1 := .ite h.openStripe h
  clear_value s1
  split
  · exact k
  · extract_lets
    split
    · exact k.modStripe
    · split
      · exact k
      · exact k.modStripe

theorem Kept.countReads (h : Kept s₀ s) {m n} : Kept s₀ (s.countReads m n) := h.modBlock

theorem Kept.request (h : Kept s₀ s) {num cls kind} : Kept s₀ (s.request num cls kind) := h.modBand

theorem Kept.readsRose (h : Kept s₀ s) {b m old} : Kept s₀ (s.readsRose b m old) :=
  .ite (.capture (.health (.request (.ite h.upd h)))) (.ite h.upd h)

theorem Kept.readBlock (h : Kept s₀ s) {b m n} : Kept s₀ (s.readBlock b m n) := h.countReads.readsRose

theorem Kept.readExtent (h : Kept s₀ s) {p} : Kept s₀ (s.readExtent p) := by
  unfold State.readExtent
  split
  · exact h
  · refine .bump (.foldl h fun _ _ k => ?_)
    split
    · exact k
    · exact .ite k.readBlock (.foldl k fun _ _ m => m.readBlock)

theorem Kept.moveOne (h : Kept s₀ s) {kind p} : Kept s₀ (s.moveOne kind p).2 := by
  unfold State.moveOne
  split
  · exact h
  · next e =>
    have k := h.takePun e
    dsimp only
    split
    · exact k.place.upd.health.readExtent
    · exact k.place.freeChain

theorem Kept.moveList (h : Kept s₀ s) {kind l} : Kept s₀ (s.moveList kind l) := by
  induction l generalizing s with
  | nil => exact h
  | cons p t ih => exact .ite (ih h.moveOne) h.moveOne

theorem Kept.replaceList (h : Kept s₀ s) {l} : Kept s₀ (s.replaceList l) := by
  induction l generalizing s with
  | nil => exact h.upd
  | cons x t ih =>
    unfold State.replaceList
    split
    · exact ih h
    · exact .ite (ih h) (.ite (ih h.moveOne) h.moveOne.upd)

theorem Kept.replaceAll (h : Kept s₀ s) : Kept s₀ s.replaceAll := .ite h h.replaceList

theorem Kept.againOf (h : Kept s₀ s) {t} : Kept s₀ (s.againOf t) := h.upd.replaceAll

theorem Kept.gatherOne (h : Kept s₀ s) {b} : Kept s₀ (s.gatherOne b) := .ite h (.ite h.place.upd.health h.place)

theorem Kept.gatherList (h : Kept s₀ s) {l} : Kept s₀ (s.gatherList l) := by
  induction l generalizing s with
  | nil => exact h
  | cons b t ih => exact .ite h.gatherOne (ih h.gatherOne)

theorem Kept.gatherHost (h : Kept s₀ s) : Kept s₀ s.gatherHost := h.gatherList.replaceAll.setRegime

theorem Kept.padStream (h : Kept s₀ s) {stream} : Kept s₀ (s.padStream stream) := by
  unfold State.padStream
  split
  · exact h
  · exact .ite h h.modStripe.capture

theorem Kept.enqueueOp (h : Kept s₀ s) {d cls kind band stripe mem} : Kept s₀ (s.enqueueOp d cls kind band stripe mem) := h.modDie.upd

theorem Kept.endOp (h : Kept s₀ s) {d id busy} : Kept s₀ (s.endOp d id busy) := h.modDie

theorem Kept.dropProgs (h : Kept s₀ s) {band stripe} : Kept s₀ (s.dropProgs band stripe) := h.upd

theorem Kept.bumpCh (h : Kept s₀ s) {off d n} : Kept s₀ (s.bumpCh off d n) := h.bump

theorem Kept.takeFlip (h : Kept s₀ s) {t b} : Kept s₀ (s.takeFlip t b) := by
  unfold State.takeFlip
  refine .ite h ?_
  split
  · exact h
  · exact .ite h.setReg.setReg h.setReg.setReg.upd

theorem show_lengths (u : Upkeep) (j : Nat) : (u.show j).jobs.length = u.jobs.length ∧ (u.show j).moving = u.moving := by
  unfold Upkeep.show
  split
  · exact ⟨rfl, rfl⟩
  · split
    · exact ⟨List.length_set, rfl⟩
    · exact ⟨rfl, rfl⟩

theorem Kept.startProgs (h : Kept s₀ s) {t b l} : Kept s₀ (s.startProgs t b l) := by
  refine .takeFlip (.bump (.foldl (h.jsync.modStripe.upd (by simp [show_lengths])) fun _ _ k => ?_))
  split
  · exact k
  · exact k.enqueueOp

theorem Kept.flushStripe (h : Kept s₀ s) {t} : Kept s₀ (s.flushStripe t) := by
  unfold State.flushStripe
  split
  · exact h
  · refine .ite h ?_
    split
    · exact h
    · next e => exact (h.takePun e).startProgs

theorem Kept.commitBuf (h : Kept s₀ s) {t landing i} : Kept s₀ (s.commitBuf t landing i) := .ite h.setEntry.upd h

theorem Kept.commitCopy (h : Kept s₀ s) {t i} : Kept s₀ (s.commitCopy t i) := .ite h.setEntry.upd h

theorem Kept.freeBufs (h : Kept s₀ s) {offs} : Kept s₀ (s.freeBufs offs) := h.upd

theorem Kept.commitPage (h : Kept s₀ s) {t pg} : Kept s₀ (s.commitPage t pg) := .ite h.upd (.ite h.upd h.upd)

theorem Kept.fillBand (h : Kept s₀ s) {num} : Kept s₀ (s.fillBand num) := by
  unfold State.fillBand
  split
  · exact h
  · exact .ite h.modBand h

theorem Kept.countMoved (h : Kept s₀ s) {t} : Kept s₀ (s.countMoved t) := by
  unfold State.countMoved
  refine .ite ?_ h
  refine .movedBytes (.foldl h.upd fun _ _ k => ?_)
  split
  · exact k
  · split
    · exact k
    · split
      · exact k
      · exact .foldl k fun _ _ m => m.modCarrier

theorem Kept.newH (h : Kept s₀ s) : Kept s₀ s.newH := h.upd

theorem Kept.endFlushJob (h : Kept s₀ s) : Kept s₀ s.endFlushJob := .ite h (h.upd (by simp [Upkeep.unshow]))

theorem Kept.commitStripe (h : Kept s₀ s) {t} : Kept s₀ (s.commitStripe t) := by
  refine .endFlushJob (.fillBand (.dropStripe (.onFlash ?_)))
  split
  · exact .freeBufs (.foldl h.jsync fun _ _ k => k.commitBuf)
  · exact .newH (.upd (.foldl h.jsync.countMoved fun _ _ k => k.commitCopy))
  · exact .foldl h.jsync fun _ _ k => k.commitPage
  · exact h

theorem Kept.restage (h : Kept s₀ s) {offs} : Kept s₀ (s.restage offs) := h.upd

theorem Kept.closeBand (h : Kept s₀ s) {num} : Kept s₀ (s.closeBand num) := h.modBand.fillBand

theorem Kept.voidStripe (h : Kept s₀ s) {t cause die} : Kept s₀ (s.voidStripe t cause die) := by
  unfold State.voidStripe
  extract_lets
  split
  · exact h.jsync.onFlash.dropProgs.dropStripe.endFlushJob.closeBand.capture.restage
  · exact h.jsync.onFlash.dropProgs.dropStripe.endFlushJob.closeBand.capture.againOf.request.capture
  · exact h.jsync.onFlash.dropProgs.dropStripe.endFlushJob.closeBand.capture

theorem Kept.dropGathering (h : Kept s₀ s) {t} : Kept s₀ (s.dropGathering t) := by
  unfold State.dropGathering
  extract_lets
  split
  · exact h.dropStripe.closeBand.restage
  · exact h.dropStripe.closeBand.againOf
  · exact h.dropStripe.closeBand

theorem Kept.endStripesOf (h : Kept s₀ s) {d g cause} : Kept s₀ (s.endStripesOf d g cause) :=
  .foldl (.foldl h fun _ _ k => .ite k.voidStripe k.dropGathering) fun _ _ k => k.closeBand

theorem Kept.progress (h : Kept s₀ s) {before} : Kept s₀ (s.progress before) := .foldl h fun _ _ k => k.upd.jwrite

theorem Kept.settle (h : Kept s₀ s) {before} : Kept s₀ (s.settle before) :=
  .setRegime (.setPslc (.ite (.upd (.foldl h.progress.settleBands.settleDies fun _ _ k => k.settleCarrier)) (.foldl
      h.progress.settleBands.settleDies fun _ _ k => k.settleCarrier)))

theorem Kept.failDie (h : Kept s₀ s) {d cause voidCause} : Kept s₀ (s.failDie d cause voidCause) := by
  unfold State.failDie
  split
  · exact h
  · exact .ite h
      h.beginPeriod.memberRec.memberRec.modDie.capture.bump.endStripesOf.loseBeyond.reformErased.settleCarrier.capture.settle.gatherHost

theorem Kept.slowOp (h : Kept s₀ s) {d kind busy} : Kept s₀ (s.slowOp d kind busy) := by
  unfold State.slowOp
  split
  · exact h
  · exact .ite h (.ite h.bumpCh.capture.modDie.modDie.memberRec.capture h.bumpCh.capture.modDie)

theorem Kept.modEol (h : Kept s₀ s) {k f} : Kept s₀ (s.modEol k f) := h.upd

theorem Kept.endOfLife (h : Kept s₀ s) {k} : Kept s₀ (s.endOfLife k) := by
  unfold State.endOfLife
  split
  · exact h
  · exact .ite h.modEol.capture h

theorem Kept.retireBlock (h : Kept s₀ s) {band pos cause} : Kept s₀ (s.retireBlock band pos cause) := by
  unfold State.retireBlock
  split
  · exact h
  · split
    · exact h
    · extract_lets new s1 s2 s3 s4
      have k : Kept s₀ s4 := h.jsync.modBlock.health.modEol.capture.endOfLife
      clear_value s4 s3 s2 s1 new
      split
      · exact k.modBand
      · exact k.capture.failDie

/-! ### Machine/PowerOps.lean -/

theorem foldl_modNth_length {α β : Type} (f : β → Nat) (g : β → α → α) (l : List β) (x : List α) :
    (l.foldl (fun x d => modNth x (f d) (g d)) x).length = x.length :=
  foldl_keeps (·.length = x.length) _ l x rfl fun _ _ _ h => (modNth_length ..).trans h

theorem Kept.putDoms (h : Kept s₀ s) {l c} : Kept s₀ (s.putDoms l c) := h.upd (by simp [foldl_modNth_length domIdx])

theorem Kept.seqDoms (h : Kept s₀ s) {st} : Kept s₀ (s.seqDoms st) := .foldl h fun _ _ k => k.putDoms

theorem Kept.trackIdle (h : Kept s₀ s) : Kept s₀ s.trackIdle := h.upd

theorem Kept.busyNow (h : Kept s₀ s) : Kept s₀ s.busyNow := h.upd

theorem Kept.evalTolerance (h : Kept s₀ s) : Kept s₀ s.evalTolerance := h.upd

theorem Kept.countState (h : Kept s₀ s) : Kept s₀ s.countState := .ite h h.bump

theorem Kept.l4Minutes (h : Kept s₀ s) {secs fin} : Kept s₀ (s.l4Minutes secs fin) :=
  .ite h.meterMs (.meterMs (.foldl h.meterMs.meterTick fun _ _ k => k.meterMs.meterTick))

theorem Kept.captureLatched (h : Kept s₀ s) {l} : Kept s₀ (s.captureLatched l) := .foldl h fun _ _ k => k.capture

theorem Kept.exitL4 (h : Kept s₀ s) {lateUs} : Kept s₀ (s.exitL4 lateUs) :=
  have left := (h.upd (by simp)).l4Minutes.upd.captureLatched
  .capture (.ite left left.capture)

theorem Kept.retrainAll (h : Kept s₀ s) : Kept s₀ s.retrainAll := h.bump

theorem Kept.leaveTo (h : Kept s₀ s) {target bit lateUs} : Kept s₀ (s.leaveTo target bit lateUs) :=
  .ite h (.busyNow (.seqDoms (.upd (.ite (.exitL4 (.ite h.countState.upd.retrainAll h.countState.upd)) (.ite
      h.countState.upd.retrainAll h.countState.upd)))))

theorem Kept.enterL4 (h : Kept s₀ s) : Kept s₀ s.enterL4 := by
  refine .capture (.jwrite (h.reshape fun k => ?_))
  obtain ⟨macs, nbs, lanes, loops, cars, chans, jobs, moving, groups, sense, -, doms, pace⟩ := k
  exact ⟨by simpa using macs, nbs, lanes, loops, cars, by simpa using chans, jobs, moving, groups, sense, List.length_replicate, doms, pace⟩

theorem Kept.enterState (h : Kept s₀ s) {n} : Kept s₀ (s.enterState n) := .bump (.seqDoms (.upd (.ite h.countState.enterL4 h.countState)))

theorem Kept.wakeXoff (h : Kept s₀ s) {port} : Kept s₀ (s.wakeXoff port) := .ite h (.bump (.foldl h.drawFree fun _ _ k => k.send))

theorem Kept.wakePort (h : Kept s₀ s) : Kept s₀ s.wakePort.2 := by
  unfold State.wakePort
  split
  · exact h
  · split
    · exact h
    · exact h.drawFree

theorem Kept.seedWake (h : Kept s₀ s) {bit} : Kept s₀ (s.seedWake bit) := h.leaveTo

/-! ### Machine/Clock.lean -/

/-! ### Machine/LoopOps.lean -/

theorem Kept.modSlot (h : Kept s₀ s) {k f} : Kept s₀ (s.modSlot k f) := h.upd (by simp)

theorem Kept.setEn (h : Kept s₀ s) {k b} : Kept s₀ (s.setEn k b) := h.setReg

theorem Kept.setTarget (h : Kept s₀ s) {k v} : Kept s₀ (s.setTarget k v) := h.setReg.modSlot

theorem Kept.startSlot (h : Kept s₀ s) {k v} : Kept s₀ (s.startSlot k v) := h.setEn.setTarget.modSlot

theorem Kept.openSwitch (h : Kept s₀ s) {k} : Kept s₀ (s.openSwitch k) := h.setEn.modSlot.modCarrier

theorem Kept.paced (h : Kept s₀ s) {k} : Kept s₀ (s.paced k).2 := by
  unfold State.paced
  split
  · exact h
  · exact h.upd (by simp)

theorem Keeps.granted {k} {f : State → Out} (hf : ∀ t, Keeps t (f t)) : Keeps s (s.granted k f) :=
  .ite (.after (fun h => h.paced) (hf _)) (.next fun h => h.paced)

/-! ### Machine/EngineOps.lean -/

theorem Kept.withCmd (h : Kept s₀ s) {e opc io} {f : Cct → State → State} (hf : ∀ c t, Kept s₀ t → Kept s₀ (f c t)) :
    Kept s₀ (s.withCmd e opc io f) := by
  unfold State.withCmd
  split
  · exact h
  · exact .ite (hf _ _ h) h

theorem Kept.answer (h : Kept s₀ s) {c status result} : Kept s₀ (s.answer c status result) := h.finish

theorem Kept.reply (h : Kept s₀ s) {c status} : Kept s₀ (s.reply c status) := h.answer

theorem Kept.answerEntry (h : Kept s₀ s) {e status result} : Kept s₀ (s.answerEntry e status result) := by
  unfold State.answerEntry
  split
  · exact h
  · split
    · exact h
    · exact h.answer

/-! ### Machine/CarrierOps.lean -/

theorem Kept.writeRec (h : Kept s₀ s) {k st} : Kept s₀ (s.writeRec k st) := .ite h (.ite h.capture h.modCarrier)

theorem Kept.newMembers (h : Kept s₀ s) {members slot cause st bump} : Kept s₀ (s.newMembers members slot cause st bump) :=
  .writeSettings (.foldl h.upd.jsync fun _ _ k => k.writeRec)

theorem Kept.setRate (h : Kept s₀ s) {ch} : Kept s₀ (s.setRate ch) := .ite h.modChan h.modChan.capture

theorem Kept.calibrate (h : Kept s₀ s) {k f} : Kept s₀ (s.calibrate k f) := by
  refine .foldl ?_ fun _ _ k => ?_
  · refine .foldl h fun _ _ k => ?_
    split
    · exact k.capture
    · exact k
  · extract_lets
    split
    · exact k.modChan.capture
    · exact k.modChan.setRate

theorem Kept.identify (h : Kept s₀ s) {k st gen} : Kept s₀ (s.identify k st gen) := by
  unfold State.identify
  split
  · exact h
  · exact h.upd.calibrate

theorem Kept.refuseCarrier (h : Kept s₀ s) {k cause} : Kept s₀ (s.refuseCarrier k cause) := h.modCarrier.capture

theorem Kept.diesAbsent (h : Kept s₀ s) {k} : Kept s₀ (s.diesAbsent k) := h.upd

theorem Kept.setDom (h : Kept s₀ s) {k d} : Kept s₀ (s.setDom k d) := .foldl (h.upd (by simp)) fun _ _ k => k.modChan

theorem Kept.satField (h : Kept s₀ s) {off old new} : Kept s₀ (s.satField off old new) := .ite h.satEvent h

theorem Kept.dropEol (h : Kept s₀ s) {k} : Kept s₀ (s.dropEol k) := h.upd

theorem Kept.startAdmit (h : Kept s₀ s) {k} : Kept s₀ (s.startAdmit k) := h.jsync.writeRec.upd.modCarrier

theorem Kept.startRebuild (h : Kept s₀ s) {k delay} : Kept s₀ (s.startRebuild k delay) :=
  .settle (.capture (.upd (.foldl h fun _ _ k => k.memberRec)))

theorem Kept.finishAdmit (h : Kept s₀ s) : Kept s₀ s.finishAdmit :=
  .ite h (.gatherHost (.setRegime (.setPslc (.setPool (.formBands (.reformLanding (.foldl (.foldl h.newMembers.upd fun _ _ k =>
      k.modCarrier.upd.capture.settleCarrier) fun _ _ k => k.startRebuild)))))))

theorem Kept.admitErase (h : Kept s₀ s) {d block ok} : Kept s₀ (s.admitErase d block ok) := by
  unfold State.admitErase
  split
  · exact h
  · exact .ite h (.finishAdmit (.ite h.modDie.modBlock.health (.ite
      h.modDie.modBlock.modDie.modCarrier.jsync.health.health.capture.modDie
      h.modDie.modBlock.modDie.modCarrier.jsync.health.health.capture)))

theorem Kept.settleRelease (h : Kept s₀ s) : Kept s₀ s.settleRelease :=
  .foldl h fun _ _ k => .ite k k.newMembers.writeRec.upd.setTarget.modCarrier.dropEol.setDom.setPool.capture.settleDies

theorem Kept.landingDone (h : Kept s₀ s) : Kept s₀ s.landingDone := by
  unfold State.landingDone
  split
  · exact h
  · exact .ite h h.upd.capture

theorem Kept.sanBand (h : Kept s₀ s) {num} : Kept s₀ (s.sanBand num) := h.upd

theorem Kept.finishErase (h : Kept s₀ s) {num} : Kept s₀ (s.finishErase num) := by
  unfold State.finishErase
  split
  · exact h
  · refine .ite h (.settleRelease (.setRegime (.setPslc (.landingDone (.sanBand ?_)))))
    split
    · exact .ite (.reformNew (.ite h.jsync.upd.satField.modBand.upd.reform h.jsync.upd.satField.modBand.upd)) (.ite
        h.jsync.upd.satField.modBand.upd.reform h.jsync.upd.satField.modBand.upd)
    · exact .ite h.jsync.upd.satField.modBand.upd.reform h.jsync.upd.satField.modBand.upd

theorem Kept.loseMember (h : Kept s₀ s) {k cause rec} : Kept s₀ (s.loseMember k cause rec) := by
  unfold State.loseMember
  extract_lets before s1 bands hit s2 dies _ s3 s4 s5 s6 members c s7 s8 s9 s10 u _ s11
  have h4 : Kept s₀ s4 := .bump (.upd (.ite h.openSwitch h.openSwitch.beginPeriod))
  have h6 : Kept s₀ s6 := .foldl (.loseBeyond (.foldl h4 fun _ _ k => k.endStripesOf)) fun _ _ k => k.finishErase
  have h10 : Kept s₀ s10 := h6.modCarrier.dropEol.newMembers.setDom.capture.bump
  clear_value s10
  have h11 : Kept s₀ s11 := h10.upd
  clear_value s11
  split
  extract_lets s12 s13 s14
  have h13 : Kept s₀ s13 := .setPool (.reformErased (.ite h11.capture h11))
  have h14 : Kept s₀ s14 := .ite h13 h13.diesAbsent
  exact h14.settle.gatherHost

theorem Kept.loseCarrier (h : Kept s₀ s) {k cause} : Kept s₀ (s.loseCarrier k cause) := h.loseMember

theorem Kept.gateOn (h : Kept s₀ s) {k} : Kept s₀ (s.gateOn k) :=
  .foldl (.ite h.modCarrier.capture (.ite h.modCarrier.capture h)) fun _ _ k => k.modChan

/-! ### Machine/UpkeepOps.lean -/

theorem Kept.dirtyPagesOf (h : Kept s₀ s) {num} : Kept s₀ (s.dirtyPagesOf num) := h.upd

theorem Kept.moveBand (h : Kept s₀ s) {num kind} : Kept s₀ (s.moveBand num kind) := by
  unfold State.moveBand
  split
  · exact h
  · exact h.loseBand.modBand.dirtyPagesOf.moveList.settle

theorem Kept.startErase (h : Kept s₀ s) {num} : Kept s₀ (s.startErase num) := by
  unfold State.startErase
  split
  · exact h
  · refine .ite h ?_
    extract_lets
    split
    · exact .modBand (.foldl h fun _ _ k => k.retireBlock)
    · refine .finishErase (.foldl (.modBand (.jsync (.modBand (.foldl h fun _ _ k => k.retireBlock)))) fun _ _ k => ?_)
      split
      · exact k
      · exact k.enqueueOp

theorem Kept.levelWear (h : Kept s₀ s) {k} : Kept s₀ (s.levelWear k) := by
  unfold State.levelWear
  refine .ite h ?_
  extract_lets
  split
  · exact h
  · exact h.request.capture

theorem Kept.predictAll (h : Kept s₀ s) : Kept s₀ s.predictAll := .foldl h fun _ _ k => .ite k (.endOfLife (.ite k.modEol.capture
    k.modEol))

theorem Kept.newLap (h : Kept s₀ s) : Kept s₀ s.newLap := h.upd

/-! ### Machine/ReadOps.lean -/

theorem Kept.repairCw (h : Kept s₀ s) {b st mem cw} : Kept s₀ (s.repairCw b st mem cw) := h.moveList.request.capture

theorem Kept.loseCw (h : Kept s₀ s) {b st mem cw cause} : Kept s₀ (s.loseCw b st mem cw cause).2 :=
  .foldl h.loseExtents fun _ _ k => k.capture

theorem Kept.grownDefect (h : Kept s₀ s) {b st mem} : Kept s₀ (s.grownDefect b st mem) := by
  unfold State.grownDefect
  split
  · exact h
  · exact .ite h.modBand.capture h

theorem Kept.startRecon (h : Kept s₀ s) {o b} : Kept s₀ (s.startRecon o b) :=
  .upd (.foldl (.bumpCh (.foldl h fun _ _ k => k.readBlock.bump)) fun _ _ k => k.meterAdd)

theorem Kept.dropOp (h : Kept s₀ s) {id} : Kept s₀ (s.dropOp id) := h.upd

theorem Kept.startOp (h : Kept s₀ s) {d o} : Kept s₀ (s.startOp d o) := .ite h.modDie.bumpCh (.ite h.modDie.bumpCh h.modDie)

theorem Kept.suspendOp (h : Kept s₀ s) {d} : Kept s₀ (s.suspendOp d) := by
  unfold State.suspendOp
  split
  · exact h
  · exact .ite h.modDie.bumpCh h.modDie.bumpCh.upd.satField.health

theorem Kept.resumeOp (h : Kept s₀ s) {d} : Kept s₀ (s.resumeOp d) := h.modDie

theorem Kept.resumeDue (h : Kept s₀ s) {d} : Kept s₀ (s.resumeDue d) := by
  unfold State.resumeDue
  split
  · exact h
  · exact .ite h.resumeOp h

theorem Kept.queueRead (h : Kept s₀ s) {d o} : Kept s₀ (s.queueRead d o) := h.modDie

theorem Kept.readArrives (h : Kept s₀ s) {x b o} : Kept s₀ (s.readArrives x b o) :=
  .ite (.ite h.startRecon h) (.ite h.startRecon (.ite (.ite h.paced.queueRead.startOp h.paced.queueRead) (.ite (.ite h.startRecon
      (.ite h.paced.suspendOp.queueRead.startOp h.paced.queueRead)) (.ite h.startRecon h.queueRead))))

theorem Kept.decoded (h : Kept s₀ s) {o m f n} : Kept s₀ (s.decoded o m f n) :=
  .ite (.ite h.modBlock h) (.ite h.modBlock h.drawFree.modBlock)

theorem Kept.ladderFails (h : Kept s₀ s) {o b die} : Kept s₀ (s.ladderFails o b die) := by
  unfold State.ladderFails
  extract_lets s1 s2 running
  have h2 : Kept s₀ s2 := .ite h.bumpCh.grownDefect h.bumpCh.grownDefect.health
  exact .ite h2.upd (.ite (.ite h2.repairCw (.ite h2.loseCw h2.loseCw.health)) h2.startRecon)

/-! ### Machine/Health.lean -/

theorem Kept.warnBit (h : Kept s₀ s) {c old new bit info} : Kept s₀ (s.warnBit c old new bit info) := .ite h.notify h

theorem Kept.smartCheck (h : Kept s₀ s) : Kept s₀ s.smartCheck :=
  .foldl h fun _ _ k => .ite k k.modCtrl.warnBit.warnBit.warnBit.warnBit

/-- The check of the Critical Warnings that ends most meanings. -/
theorem Keeps.done (h : Kept s s → Kept s t) : Keeps s t.done := .next fun k => (h k).smartCheck

/-! ### Machine/Carriers.lean -/

theorem Keeps.carrierTempSample {k t} : Keeps s (execCarrierTempSample k t s) :=
  .ite (.next id) (.next fun h => h.modCarrier.gateOn)

theorem Keeps.carrierSensorTimeout {k} : Keeps s (execCarrierSensorTimeout k s) := by
  unfold execCarrierSensorTimeout
  refine .ite (.next id) (.next fun h => .gateOn (.capture (.modCarrier ?_)))
  split
  · exact h
  · exact h.drawFree

theorem Keeps.i2cStretchTimeout {k} : Keeps s (execI2cStretchTimeout k s) := .ite (.next id) (.next fun h => h.modCarrier)

theorem Keeps.carrierDomainWake {k us} : Keeps s (execCarrierDomainWake k us s) :=
  .ite (.next id) (.next fun h => .capture (.upd (.foldl h.setDom fun _ _ k => k.modChan)))

theorem Keeps.carrierDomainGate {k} : Keeps s (execCarrierDomainGate k s) := .ite (.next fun h => h.setDom) (.next id)

theorem Kept.seat (h : Kept s₀ s) {k f} : Kept s₀ (s.seat k f) := h.modCarrier

theorem Keeps.carrierInsert {k f} : Keeps s (execCarrierInsert k f s) := by
  unfold execCarrierInsert
  refine .ite (.next id) (.ite (.next fun h => h.seat.seedWake) ?_)
  extract_lets
  split
  · exact .next fun h => h.seat.seedWake.bump.modCarrier.refuseCarrier
  · exact .next fun h => h.seat.seedWake.bump.modCarrier.startSlot.modCarrier

theorem Kept.powerGood (h : Kept s₀ s) {k f} : Kept s₀ (s.powerGood k f) :=
  have h1 := h.setTarget.modCarrier.setDom.upd.identify
  .ite h1.openSwitch.setDom.refuseCarrier (.ite h1.modCarrier.capture.startAdmit.finishAdmit h1.modCarrier.capture)

theorem Keeps.carrierPowerGood {k} : Keeps s (execCarrierPowerGood k s) := by
  unfold execCarrierPowerGood
  extract_lets
  split
  · exact .ite (.done fun h => h.powerGood) (.next id)
  · exact .next id

theorem Keeps.carrierPowerGoodTimeout {k} : Keeps s (execCarrierPowerGoodTimeout k s) := by
  unfold execCarrierPowerGoodTimeout
  extract_lets
  split
  · exact .ite (.next fun h => h.openSwitch.modCarrier.capture) (.next id)
  · exact .next id

theorem Keeps.carrierRemove {k} : Keeps s (execCarrierRemove k s) :=
  .ite (.next id) (.done fun h => .modSlot (.ite h.modCarrier.seedWake.loseCarrier.settleRelease
      h.modCarrier.seedWake.openSwitch.setDom.modCarrier.diesAbsent.settleDies.finishAdmit))

theorem Keeps.rebuildDelayExpiry {k} : Keeps s (execRebuildDelayExpiry k s) := by
  unfold execRebuildDelayExpiry
  extract_lets
  split
  · exact .ite (.done fun h => h.startRebuild.settleRelease) (.next id)
  · exact .next id

theorem Kept.startRelease (h : Kept s₀ s) {k} : Kept s₀ (s.startRelease k) :=
  .gatherHost (.settleRelease (.settle (.setPool (.writeSettings (.foldl (.reformErased (.foldl (.modCarrier (.upd (.foldl
      h.beginPeriod fun _ _ k => k.memberRec))) fun _ _ k => k.endStripesOf)) fun _ _ k => k.finishErase)))))

theorem Kept.cancelRelease (h : Kept s₀ s) {k} : Kept s₀ (s.cancelRelease k) :=
  .gatherHost (.settleDies (.setPool (.writeSettings (.reformLanding (.settleCarrier (.modCarrier (.upd (.foldl h fun _ _ k =>
      k.memberRec))))))))

theorem Keeps.carrierRelease {e} : Keeps s (execCarrierRelease e s) :=
  .done fun h => .withCmd h fun _ _ k => .ite k.reply (.ite k.reply (.ite k.answer (.reply (.ite k.cancelRelease (.ite
      k.loseCarrier.settleRelease k.startRelease)))))

theorem Keeps.carrierAdmit {e} : Keeps s (execCarrierAdmit e s) :=
  .done fun h => .withCmd h fun _ _ k => .ite k.reply (.ite k.reply (.ite k.reply k.startAdmit.finishAdmit.reply))

theorem Kept.startReshape (h : Kept s₀ s) {dn pn} : Kept s₀ (s.startReshape dn pn) := h.upd.jsync.setPool.capture

theorem Kept.createArray (h : Kept s₀ s) {d p unit cars arrayId} : Kept s₀ (s.createArray d p unit cars arrayId) :=
  .finishAdmit (.capture (.writeSettings (.foldl h.upd fun _ _ k => k.startAdmit)))

theorem Keeps.reshape {e arrayId} : Keeps s (execReshape e arrayId s) :=
  .done fun h => .withCmd h fun _ _ k => .ite k.reply (.ite (.ite k.reply (.ite k.reply k.createArray.reply)) (.ite k.answer
      k.startReshape.reply))

theorem Kept.quinceFail (h : Kept s₀ s) {d} : Kept s₀ (s.quinceFail d) := .ite h (.ite h.upd.capture h.upd.capture)

theorem Keeps.quinceDieFailure {d} : Keeps s (execQuinceDieFailure d s) := .done fun h => h.quinceFail

theorem Keeps.journalAreaFull : Keeps s (execJournalAreaFull s) := .ite (.next fun h => h.upd) (.next id)

theorem Keeps.journalGroupTimeout : Keeps s (execJournalGroupTimeout s) := .ite (.next fun h => h.upd) (.next id)

/-! ### Machine/SliceOps.lean -/

theorem Kept.markMig (h : Kept s₀ s) {sl ns mu} : Kept s₀ (s.markMig sl ns mu) := h.modSlice

theorem Kept.setResync (h : Kept s₀ s) {sl l} : Kept s₀ (s.setResync sl l) := h.upd.modSlice

theorem Kept.markRun (h : Kept s₀ s) {sl ns mu n} : Kept s₀ (s.markRun sl ns mu n) := by
  unfold State.markRun
  split
  · exact h
  · exact h.setResync

theorem Kept.sendRun (h : Kept s₀ s) {sl r} : Kept s₀ (s.sendRun sl r) := by
  refine .modSlice ?_
  split
  · exact h.send.modEntry
  · exact h.send.meterAdd

theorem Kept.queueRun (h : Kept s₀ s) {sl r} : Kept s₀ (s.queueRun sl r) := h.modSlice

theorem Kept.sendOrQueue (h : Kept s₀ s) {sl r} : Kept s₀ (s.sendOrQueue sl r) := by
  unfold State.sendOrQueue
  split
  · exact h
  · exact .ite h.queueRun h.sendRun

theorem Kept.waitPeer (h : Kept s₀ s) {e} : Kept s₀ (s.waitPeer e) := by
  unfold State.waitPeer
  split
  · exact h
  · exact h.modEntry

theorem Kept.forward (h : Kept s₀ s) {sl r} : Kept s₀ (s.forward sl r) := by
  unfold State.forward
  split
  · exact h
  · refine .ite h ?_
    split
    · exact h.sendOrQueue.waitPeer
    · exact h.sendOrQueue.waitPeer
    · exact h.markRun
    · exact h.queueRun.waitPeer
    · exact h

theorem Kept.forwardChange (h : Kept s₀ s) {sl c} : Kept s₀ (s.forwardChange sl c) := by
  unfold State.forwardChange
  split
  · exact h
  · refine .ite h (.ite h.send (.ite ?_ h))
    split <;> exact h.modSlice

theorem Kept.sendAll (h : Kept s₀ s) {sl l} : Kept s₀ (s.sendAll sl l) := .foldl h fun _ _ k => k.send

theorem Kept.writeDone (h : Kept s₀ s) {e} : Kept s₀ (s.writeDone e) := by
  unfold State.writeDone
  split
  · exact h
  · exact .ite h.finish h

theorem Kept.peerDone (h : Kept s₀ s) {sl e} : Kept s₀ (s.peerDone sl e) := by
  unfold State.peerDone
  split
  · exact h
  · exact .ite h h.modEntry.writeDone

theorem Kept.pumpQueued (h : Kept s₀ s) {sl} : Kept s₀ (s.pumpQueued sl) := by
  unfold State.pumpQueued
  split
  · exact h
  · exact .foldl h.modSlice fun _ _ k => k.sendOrQueue

theorem Kept.syncDone (h : Kept s₀ s) {sl} : Kept s₀ (s.syncDone sl) := by
  unfold State.syncDone
  split
  · exact h
  · exact .ite h.modSlice.capture h

theorem Kept.syncRegion (h : Kept s₀ s) {sl ns reg} : Kept s₀ (s.syncRegion sl ns reg) := by
  unfold State.syncRegion
  split
  · exact h
  · exact .ite h h.setResync.modSlice.syncDone

theorem Kept.copyRegion (h : Kept s₀ s) {sl ns reg} : Kept s₀ (s.copyRegion sl ns reg) := by
  unfold State.copyRegion
  split
  · exact h.syncRegion
  · exact .syncRegion (.foldl h fun _ _ k => k.sendOrQueue)

theorem Kept.startSync (h : Kept s₀ s) {sl} : Kept s₀ (s.startSync sl) := by
  unfold State.startSync
  split
  · exact h
  · exact .syncDone (.pumpQueued (.foldl (.modSlice (.ite h.sendAll.send.sendAll.sendAll h.sendAll)) fun _ _ k => k.copyRegion))

theorem Kept.dropRepairs (h : Kept s₀ s) {sl cause p} : Kept s₀ (s.dropRepairs sl cause p) :=
  .ite h (.wakeHeld (.foldl h.upd fun _ _ k => k.capture))

theorem Kept.markLost (h : Kept s₀ s) {sl ns mu n} : Kept s₀ (s.markLost sl ns mu n) := h.markRun.dropRepairs

theorem Kept.peerLost (h : Kept s₀ s) {sl} : Kept s₀ (s.peerLost sl) := by
  unfold State.peerLost
  split
  · exact h
  · exact .ite h (.ite h.dropRepairs.modSlice.capture (.foldl (.capture (.foldl h.dropRepairs.modSlice fun _ _ k => k.markRun)) fun
      _ _ k => k.peerDone))

theorem Kept.peerBack (h : Kept s₀ s) {sl} : Kept s₀ (s.peerBack sl) := by
  unfold State.peerBack
  split
  · exact h
  · exact .ite h.startSync h

/-! ### Machine/WritePath.lean -/

theorem Kept.modJob (h : Kept s₀ s) {id f} : Kept s₀ (s.modJob id f) := h.upd

theorem Kept.dropJob (h : Kept s₀ s) {id} : Kept s₀ (s.dropJob id) := h.upd

theorem Kept.addJob (h : Kept s₀ s) {j} : Kept s₀ (s.addJob j) := h.upd

theorem Keeps.writeBufferAllocate {i off} : Keeps s (execWriteBufferAllocate i off s) := by
  unfold execWriteBufferAllocate
  split
  · exact .next id
  · split
    · exact .next id
    · exact .ite (.next id) (.ite (.next fun h => h.holdRes) (.next fun h => h.modJob.upd.unholdRes))

theorem Kept.noteHeld (h : Kept s₀ s) : Kept s₀ s.noteHeld := .ite h h.upd.capture

theorem Kept.fillToStaged (h : Kept s₀ s) {off} : Kept s₀ (s.fillToStaged off) := h.upd

theorem Kept.freeFilling (h : Kept s₀ s) {off} : Kept s₀ (s.freeFilling off) := h.upd

theorem Kept.stageRun (h : Kept s₀ s) {sl ns first l entry} : Kept s₀ (s.stageRun sl ns first l entry) :=
  .foldl (.jsync (.foldl h fun _ _ k => .ite (.foldl k fun _ _ m => m.removeLost) k)) fun _ _ k => k.stageEntry.fillToStaged

theorem Kept.stageExtent (h : Kept s₀ s) {sl ns mu off x wrote entry} : Kept s₀ (s.stageExtent sl ns mu off x wrote entry) := h.stageRun

theorem Kept.countStored (h : Kept s₀ s) {sl entry n} : Kept s₀ (s.countStored sl entry n) := by
  unfold State.countStored
  split
  · exact h.modEntry
  · exact h.meterAdd

theorem Keeps.stripeFlush {stream band} : Keeps s (execStripeFlush stream band s) := by
  unfold execStripeFlush
  split
  · exact .next id
  · exact .next fun h => h.flushStripe.gatherHost

theorem Kept.padFlush (h : Kept s₀ s) {stream} : Kept s₀ (s.padFlush stream) := by
  unfold State.padFlush
  split
  · exact h
  · extract_lets
    split
    · exact h.padStream
    · exact h.padStream.flushStripe

theorem Keeps.stripePadIdle {stream} : Keeps s (execStripePadIdle stream s) := by
  unfold execStripePadIdle
  split
  · exact .next id
  · exact .ite (.next id) (.next fun h => h.leaveTo.padFlush.gatherHost.busyNow)

theorem Kept.padAll (h : Kept s₀ s) : Kept s₀ s.padAll := h.padFlush.padFlush.padFlush.padFlush

theorem Keeps.l3PadFlush : Keeps s (execL3PadFlush s) := .ite (.next fun h => h.leaveTo.padAll.gatherHost.busyNow) (.next id)

theorem Kept.writePages (h : Kept s₀ s) {n} : Kept s₀ (s.writePages n) := by
  induction n generalizing s with
  | zero => exact h
  | succ n ih =>
    unfold State.writePages
    split
    · exact h
    · exact .ite (ih h.place.health) h.place

theorem Kept.writeMeta (h : Kept s₀ s) : Kept s₀ s.writeMeta := .ite h (.ite h.place.health h.place)

theorem Keeps.mapPageWrite {n} : Keeps s (execMapPageWrite n s) := .ite (.next id) (.next fun h => h.writePages.writeMeta)

theorem Keeps.mapRootWrite : Keeps s (execMapRootWrite s) := .ite (.next id) (.next fun h => h.upd.settle)

theorem Keeps.journalTruncate {t} : Keeps s (execJournalTruncate t s) :=
  .ite (.next id) (.ite (.next fun h => h.upd) (.next fun h => h.upd.upd.wakeHeld))

/-! ### Machine/PunnetOps.lean -/

theorem Kept.markChain (h : Kept s₀ s) {l n} : Kept s₀ (s.markChain l n) := h.upd

theorem Kept.giveChain (h : Kept s₀ s) {job entry l} : Kept s₀ (s.giveChain job entry l) := by
  unfold State.giveChain
  split
  · exact h.modJob
  · split
    · exact h.modEntry
    · exact h

theorem Kept.requestPun (h : Kept s₀ s) {cls n job entry} : Kept s₀ (s.requestPun cls n job entry) :=
  .ite h (.ite h.enterChain.giveChain h.upd.bump.holdRes)

theorem Kept.shareChain (h : Kept s₀ s) {cls l} : Kept s₀ (s.shareChain cls l) := h.upd.requestPun

theorem Keeps.punnetRelease {p} : Keeps s (execPunnetRelease p s) := by
  unfold execPunnetRelease
  split
  · exact .next id
  · exact .ite (.next fun h => h.upd) (.ite (.next id) (.next fun h => h.upd))

theorem Keeps.punnetWaitWarn {req} : Keeps s (execPunnetWaitWarn req s) := by
  unfold execPunnetWaitWarn
  split
  · exact .next id
  · exact .ite (.next id) (.next fun h => h.upd.capture)

/-! ### Machine/Lanes.lean -/

theorem Kept.modLane (h : Kept s₀ s) {l f} : Kept s₀ (s.modLane l f) := h.upd (by simp)

theorem Kept.moveQueued (h : Kept s₀ s) {l keep} : Kept s₀ (s.moveQueued l keep) := .foldl h fun _ _ k => k.modJob

theorem Kept.giveLane (h : Kept s₀ s) {id} : Kept s₀ (s.giveLane id) := by
  unfold State.giveLane
  extract_lets
  split
  · exact h.modJob
  · exact h.modJob.requestPun

theorem Kept.startJob (h : Kept s₀ s) {j} : Kept s₀ (s.startJob j) := h.addJob.giveLane

theorem Kept.laneFail (h : Kept s₀ s) {l} : Kept s₀ (s.laneFail l) := .ite h.modLane h.modLane.modLane.moveQueued.capture

theorem Kept.laneBytes (h : Kept s₀ s) {orig stored gran} : Kept s₀ (s.laneBytes orig stored gran) := h.upd.bump.bump

theorem Kept.formExtent (h : Kept s₀ s) {j payload} : Kept s₀ (s.formExtent j payload) := h.modJob.markChain.laneBytes

theorem Kept.verifyFails (h : Kept s₀ s) {lane j} : Kept s₀ (s.verifyFails lane j) := h.bump.bump.capture.formExtent.laneFail

theorem Kept.readDone (h : Kept s₀ s) {e} : Kept s₀ (s.readDone e) := by
  unfold State.readDone
  split
  · exact h
  · exact .ite h (.ite h.modEntry h.finish)

theorem Kept.endRead (h : Kept s₀ s) {j} : Kept s₀ (s.endRead j) := by
  unfold State.endRead
  extract_lets
  split
  · exact h.dropJob
  · exact h.dropJob.modEntry.readDone

theorem Kept.writeBack (h : Kept s₀ s) {e} : Kept s₀ (s.writeBack e) := by
  unfold State.writeBack
  split
  · exact h.upd
  · split
    · exact h.moveOne
    · exact h
  · split
    · exact h.moveOne
    · exact h
  · exact h
  · exact h

theorem Kept.decodeFail (h : Kept s₀ s) {lane j cause step} : Kept s₀ (s.decodeFail lane j cause step) :=
  .ite (.capture (.ite h.bump.laneFail (.ite h.bump.send h.bump.writeBack))) h.bump.bump.loseUnit.capture

theorem Kept.readFails (h : Kept s₀ s) {lane j cause step} : Kept s₀ (s.readFails lane j cause step) := by
  unfold State.readFails
  refine .ite h.decodeFail.holdRes (.ite h.decodeFail.endRead (.endRead ?_))
  split
  · exact h.decodeFail
  · exact h.decodeFail.modEntry

theorem Kept.laneCompressed (h : Kept s₀ s) {lane j p} : Kept s₀ (s.laneCompressed lane j p) := .ite h (.ite h.formExtent h.verifyFails)

theorem Keeps.laneUnitComplete {lane job r} : Keeps s (execLaneUnitComplete lane job r s) := by
  unfold execLaneUnitComplete
  split
  · exact .next id
  · refine .ite (.next id) (.granted fun _ => .ite ?_ ?_)
    · split
      · split
        · exact .done fun h => h.markChain.endRead
        · exact .done fun h => h.readFails
      · exact .done fun h => h.readFails
      · exact .next id
      · exact .next id
      · exact .next id
    · split
      · exact .ite (.done fun h => h.decodeFail) (.next id)
      · exact .done fun h => h.decodeFail
      · exact .next fun h => .ite h.formExtent h.laneCompressed
      · exact .next fun h => .formExtent (.ite h h.bump)
      · exact .next fun h => .ite h h.verifyFails
      · exact .next id

theorem Kept.unitStaged (h : Kept s₀ s) {j} : Kept s₀ (s.unitStaged j) :=
  .ite (.peerFree (.send (.forward (.markMig (.dropJob (.countStored (.ite h.shareChain h))))))) (.forward (.markMig (.dropJob
      (.countStored (.ite h.shareChain h)))))

theorem Keeps.stagingDurable {i} : Keeps s (execStagingDurable i s) := by
  unfold execStagingDurable
  split
  · exact .next id
  · next j _ =>
    split
    · exact .next id
    · refine .ite (.next id) (.ite (.next fun h => h.noteHeld.holdRes) (.ite (.next fun h => h.freeFilling.giveLane) ?_))
      extract_lets l s1 before all s2 s3 s4
      have k (h : Kept s s) : Kept s s4 := by
        have h1 : Kept s s1 := by
          unfold s1
          split
          · exact h
          · exact h.unholdRes.modEntry
        have h3 : Kept s s3 := .foldl h1.stageRun fun _ _ k => k.unitStaged
        exact h3.settle.gatherHost
      split
      · exact .done k
      · exact .done fun h => (k h).writeDone

theorem Kept.keepModes (h : Kept s₀ s) : Kept s₀ s.keepModes := by
  refine .foldl h fun _ _ k => ?_
  split
  · exact k
  · exact .ite k k.modJob

theorem Kept.laneCfg (h : Kept s₀ s) {v} : Kept s₀ (s.laneCfg v) := .foldl h.keepModes.setReg fun _ _ k => k.moveQueued

theorem Keeps.laneEnWrite {v} : Keeps s (execLaneEnWrite v s) := .next fun h => h.laneCfg

theorem Kept.modStream (h : Kept s₀ s) {id f} : Kept s₀ (s.modStream id f) := h.upd

theorem Keeps.streamChunkReceived {job c} : Keeps s (execStreamChunkReceived job c s) := by
  unfold execStreamChunkReceived
  split
  · exact .next id
  · refine .ite (.next id) ?_
    extract_lets
    split
    · exact .next fun h => h.modStream
    · split
      · exact .next fun h => .ite h.send h
      · exact .next fun h => h.modStream.send

theorem Keeps.streamRestartRequest {job seq cause} : Keeps s (execStreamRestartRequest job seq cause s) := by
  unfold execStreamRestartRequest
  split
  · exact .next id
  · exact .ite (.next id) (.next fun h => h.modStream.send.bump.capture)

/-! ### Machine/EngineAdmit.lean -/

theorem Kept.enter (h : Kept s₀ s) {x ws} : Kept s₀ (s.enter x ws) := .ite h.upd h.upd.bump

theorem Kept.modConn (h : Kept s₀ s) {i f} : Kept s₀ (s.modConn i f) := h.upd

theorem Kept.recvChain (h : Kept s₀ s) {c} : Kept s₀ (s.recvChain c) := .ite h (.foldl h fun _ _ k => k.requestPun)

theorem Kept.fetchData (h : Kept s₀ s) {e} : Kept s₀ (s.fetchData e) := by
  unfold State.fetchData
  split
  · exact h
  · refine .ite h (.ite h.recvChain ?_)
    split
    · exact h.recvChain
    · exact .ite (.ite h.recvChain h.recvChain.modEntry.send) (.ite h.recvChain h.recvChain.modEntry.modConn.send)

theorem Kept.knowList (h : Kept s₀ s) {e} : Kept s₀ (s.knowList e) := by
  unfold State.knowList
  split
  · exact h
  · split
    · exact h
    · exact h.modEntry.upd

theorem Kept.enterEntry (h : Kept s₀ s) {e k q c} : Kept s₀ (s.enterEntry e k q c) := by
  unfold State.enterEntry
  extract_lets x s1 s2 io s3
  have h3 : Kept s₀ s3 := .ite h.modQueue.bump.busyNow.modCtrl h.modQueue.bump.busyNow
  exact .ite h3.bump.capture.post (.ite h3.post (.ite h3.enter.fetchData h3.enter))

theorem Kept.freePool (h : Kept s₀ s) {n} : Kept s₀ (s.freePool n) := h.upd

theorem Kept.clearRing (h : Kept s₀ s) {q} : Kept s₀ (s.clearRing q) := h.modQueue.freePool

theorem Kept.endConn (h : Kept s₀ s) {conn} : Kept s₀ (s.endConn conn) := .send (.upd (.upd (.foldl h fun _ _ k => k.clearRing)))

theorem Kept.abortList (h : Kept s₀ s) {l status discard} : Kept s₀ (s.abortList l status discard) := by
  refine .foldl h fun _ _ k => ?_
  split
  · exact k
  · exact .ite k.postAborted k

theorem Kept.freeCtrl (h : Kept s₀ s) {c} : Kept s₀ (s.freeCtrl c) := .upd (.foldl h fun _ _ k => k.endConn)

theorem Kept.endIoQueues (h : Kept s₀ s) {c} : Kept s₀ (s.endIoQueues c) := .foldl h fun _ _ k => k.endConn

theorem Kept.settleDisable (h : Kept s₀ s) {c} : Kept s₀ (s.settleDisable c) := by
  unfold State.settleDisable
  split
  · exact h
  · split
    · exact h
    · exact .ite h (.ite (.freeCtrl (.ite h.upd.endIoQueues.modCtrl.capture h.upd.endIoQueues.modCtrl)) (.ite
        h.upd.endIoQueues.modCtrl.capture h.upd.endIoQueues.modCtrl))

theorem Kept.startDisable (h : Kept s₀ s) {c discard dying} : Kept s₀ (s.startDisable c discard dying) :=
  .settleDisable (.upd (.abortList (.modCtrl (.foldl h fun _ _ k => k.clearRing))))

theorem Kept.settleShutdown (h : Kept s₀ s) {c} : Kept s₀ (s.settleShutdown c) := by
  unfold State.settleShutdown
  split
  · exact h
  · exact .ite h.modCtrl h

theorem Kept.dispatch (h : Kept s₀ s) {e core} : Kept s₀ (s.dispatch e core) := h.modEntry.fetchData

theorem Kept.releaseOne (h : Kept s₀ s) {x c core} : Kept s₀ (s.releaseOne x c core) :=
  .dispatch (.upd (.ite h.modSlice h.modSlice.modSlice))

theorem Kept.releaseLoop (h : Kept s₀ s) {core fuel} : Kept s₀ (s.releaseLoop core fuel) := by
  induction fuel generalizing s with
  | zero => exact h
  | succ n ih =>
    unfold State.releaseLoop
    extract_lets
    split
    · exact h
    · split
      · exact h
      · exact ih h.releaseOne

/-! ### Machine/Engine.lean -/

theorem Keeps.punnetGrant {req punnets} : Keeps s (execPunnetGrant req punnets s) := by
  unfold execPunnetGrant
  split
  · exact .next id
  · refine .ite (.next id) (.next fun h => ?_)
    split
    · exact h.upd.enterChain.giveChain
    · exact .ite h.upd.enterChain.giveChain h.upd.enterChain.giveChain.unholdRes.fetchData.readDone

theorem Kept.loseHost (h : Kept s₀ s) {cntl} : Kept s₀ (s.loseHost cntl) := h.startDisable

theorem Kept.dropStaging (h : Kept s₀ s) : Kept s₀ s.dropStaging := h.upd

theorem Kept.fwAssocLost (h : Kept s₀ s) {nb initiator} : Kept s₀ (s.fwAssocLost nb initiator) :=
  .ite h.dropStaging.upd.capture (.ite h.upd h)

theorem Kept.assocLost (h : Kept s₀ s) {nb initiator} : Kept s₀ (s.assocLost nb initiator) := by
  unfold State.assocLost
  split
  · exact h
  · exact .ite h (.evalTolerance (.ite (h.upd (by simp)).fwAssocLost (.foldl (h.upd (by simp)).fwAssocLost fun _ _ k => k.loseHost)))

theorem Kept.rxPressure (h : Kept s₀ s) {y} : Kept s₀ (s.rxPressure y) := .ite h (.ite h.drawFree h.drawFree.send.bump)

theorem Kept.keepCapsule (h : Kept s₀ s) {q c} : Kept s₀ (s.keepCapsule q c) := h.modQueue.upd

theorem Kept.takeCapsule (h : Kept s₀ s) {q c} : Kept s₀ (s.takeCapsule q c) := by
  unfold State.takeCapsule
  split
  · exact h
  · exact .ite h (.ite (.ite h.endConn h.loseHost) h.keepCapsule)

theorem Keeps.capsuleReceived {q c} : Keeps s (execCapsuleReceived q c s) := by
  unfold execCapsuleReceived
  split
  · exact .next id
  · refine .ite (.next id) (.ite (.next ?_) (.ite (.next ?_) (.done ?_))) <;> intro h
    · exact .optElim h fun _ => h.rxPressure
    · exact .ite (.upd (.optElim h fun _ => h.rxPressure)) (.send (.upd (.optElim h fun _ => h.rxPressure)))
    · exact .takeCapsule (.optElim h fun _ => h.rxPressure)

theorem Kept.intake (h : Kept s₀ s) {conn fuel} : Kept s₀ (s.intake conn fuel) := by
  induction fuel generalizing s with
  | zero => exact h
  | succ n ih =>
    unfold State.intake
    split
    · exact h
    · split
      · exact h.upd
      · refine .ite h ?_
        extract_lets _ _ s1
        have k : Kept s₀ s1 := h.upd
        clear_value s1
        split
        · exact ih k
        · exact ih k.takeCapsule

theorem Keeps.capsuleIntakeResume {conn} : Keeps s (execCapsuleIntakeResume conn s) := by
  unfold execCapsuleIntakeResume
  split
  · exact .next id
  · exact .ite (.done fun h => h.intake) (.next id)

theorem Kept.takeData (h : Kept s₀ s) {c bytes} : Kept s₀ (s.takeData c bytes) := .ite h.modEntry.markChain.knowList h.modEntry.markChain

theorem Keeps.h2cDataReceived {e bytes digestOk} : Keeps s (execH2cDataReceived e bytes digestOk s) := by
  unfold execH2cDataReceived
  split
  · exact .next id
  · split
    · exact .next id
    · exact .ite (.next id) (.ite (.next fun h => h.rxPressure.endConn) (.ite (.next fun h => h.rxPressure.reply) (.next fun h =>
        h.rxPressure.modEntry.takeData)))

theorem Keeps.rdmaReadCompletion {e bytes ok} : Keeps s (execRdmaReadCompletion e bytes ok s) := by
  unfold execRdmaReadCompletion
  split
  · exact .next id
  · split
    · exact .next id
    · refine .ite (.next id) ?_
      extract_lets s1 s2 s3 next
      refine .next fun h => ?_
      have h2 : Kept s s2 := h.rxPressure.modConn.modEntry
      have h3 : Kept s s3 := .ite h2.takeData h2.reply
      exact .optElim h3 fun _ => h3.fetchData

theorem Keeps.transportConnectionClosed {conn} : Keeps s (execTransportConnectionClosed conn s) := by
  unfold execTransportConnectionClosed
  split
  · exact .next id
  · extract_lets
    split
    · exact .done fun h => h.endConn
    · exact .done fun h => h.endConn.assocLost

theorem Kept.takeTurn (h : Kept s₀ s) {k q} : Kept s₀ (s.takeTurn k q) := .ite h h.modCtrl

theorem Keeps.admitCapsule {qi e} : Keeps s (execAdmitCapsule qi e s) := by
  unfold execAdmitCapsule
  split
  · exact .next id
  · split
    · exact .next id
    · refine .ite (.next id) ?_
      split
      · exact .ite (.next id) (.done fun h => h.modCtrl.enterEntry)
      · exact .next id
      · refine .ite (.next id) (.ite (.next id) (.ite (.ite (.next fun h => h.modCtrl.modQueue.freePool) (.next id)) ?_))
        refine .ite (.next id) ?_
        extract_lets
        split
        · exact .next fun h => h.takeTurn.modQueue.freePool
        · exact .done fun h => h.takeTurn.modQueue.freePool.enterEntry

theorem Keeps.tokenRefill : Keeps s (execTokenRefill s) := .next fun h => h.upd

theorem Keeps.releasePass {core} : Keeps s (execReleasePass core s) :=
  .ite (.next id) (.next fun h => .ite (.bump (.releaseLoop (.foldl h.upd fun _ _ k => k.dispatch))) (.releaseLoop (.foldl h.upd
      fun _ _ k => k.dispatch)))

theorem Keeps.orderingPoint {e} : Keeps s (execOrderingPoint e s) := by
  unfold execOrderingPoint
  split
  · exact .next id
  · exact .ite (.next id) (.next fun h => h.modEntry.upd)

theorem Keeps.holdWarn {e} : Keeps s (execHoldWarn e s) := by
  unfold execHoldWarn
  split
  · exact .next id
  · refine .ite (.next id) ?_
    extract_lets
    split
    · exact .done fun h => h.modEntry.capture
    · exact .done fun h => h.modEntry.capture
    · exact .next id

theorem Keeps.commandComplete {e} : Keeps s (execCommandComplete e s) := by
  unfold execCommandComplete
  split
  · exact .next id
  · exact .ite (.next id) (.done fun h => .settleShutdown (.settleDisable (.ite (.upd (.ite h.sendCqe h.post)) (.ite h.sendCqe
      h.post))))

theorem Keeps.shadowCheckerFault {core us} : Keeps s (execShadowCheckerFault core us s) := by
  unfold execShadowCheckerFault
  refine .ite (.next id) (.ite (.done fun h => h.upd.capture) ?_)
  extract_lets
  split
  · exact .done fun h => h.upd.bump.upd.upd.capture
  · exact .done fun h => h.upd.bump.upd.capture

theorem Keeps.ccWrite {e kind} {f : Cct → Ctrl → Word → State → State} (hf : ∀ c k v t, Kept s t → Kept s (f c k v t)) :
    Keeps s (s.ccWrite e kind f) := by
  unfold State.ccWrite
  split
  · exact .next id
  · split
    · exact .next id
    · exact .ite (.done (hf _ _ _ _)) (.next id)

theorem Kept.setCc (h : Kept s₀ s) {c v} : Kept s₀ (s.setCc c v) := h.modCtrl

theorem Keeps.ccEnClear {e} : Keeps s (execCcEnClear e s) := .ccWrite fun _ _ _ _ k => k.setCc.reply.startDisable

theorem Keeps.ccEnSet {e} : Keeps s (execCcEnSet e s) := .ccWrite fun _ _ _ _ k => .ite k k.setCc.reply.modCtrl

theorem Keeps.ccShnTenant {e} : Keeps s (execCcShnTenant e s) :=
  .ccWrite fun _ _ _ _ k => .settleShutdown (.modCtrl (.foldl k.setCc.reply fun _ _ m => m.clearRing))

theorem Keeps.ccShnDevice {e} : Keeps s (execCcShnDevice e s) :=
  .ccWrite fun _ _ _ _ k => .ite k.reply k.setCc.reply.modCtrl.upd.padAll.gatherHost

theorem Keeps.shutdownResume {e} : Keeps s (execShutdownResume e s) := .ccWrite fun _ _ _ _ k => k.setCc.reply.modCtrl.upd

theorem Keeps.shutdownAbortTimeout {cntl} : Keeps s (execShutdownAbortTimeout cntl s) := by
  unfold execShutdownAbortTimeout
  split
  · exact .ite (.next id) (.done fun h => h.abortList)
  · split
    · exact .next id
    · exact .ite (.next id) (.done fun h => h.abortList.settleShutdown)

theorem Keeps.shutdownStopRecord : Keeps s (execShutdownStopRecord s) := by
  unfold execShutdownStopRecord
  split
  · exact .next id
  · exact .ite (.next id) (.done fun h => h.meterTick.jsync.modCtrl.upd.capture)

theorem Keeps.keepAliveExpiry {cntl} : Keeps s (execKeepAliveExpiry cntl s) := by
  unfold execKeepAliveExpiry
  split
  · exact .next id
  · exact .ite (.next id) (.done fun h => h.loseHost)

theorem Keeps.propertyGet {e} : Keeps s (execPropertyGet e s) := by
  unfold execPropertyGet
  split
  · exact .next id
  · refine .ite (.next id) ?_
    split
    · exact .next fun h => h.reply
    · exact .next fun h => h.finish

theorem Keeps.propertySet {e} : Keeps s (execPropertySet e s) := by
  unfold execPropertySet
  split
  · exact .next id
  · split
    · exact .next id
    · exact .ite (.next id) (.ite (.next fun h => h.reply) (.ite (.ite (.next fun h => h.setCc.reply) (.next id)) (.next fun h =>
        h.reply)))

theorem Keeps.ceCctSelWrite {v} : Keeps s (execCeCctSelWrite v s) := .next fun h => h.setReg.upd

/-! ### Machine/IoOps.lean -/

theorem Kept.beginRead (h : Kept s₀ s) {c n a len whole step} : Kept s₀ (s.beginRead c n a len whole step) :=
  .readDone (.foldl (.foldl h.upd.modEntry fun _ _ k => k.requestPun) fun _ _ k => k.startJob)

theorem Kept.writeJob (h : Kept s₀ s) {c n mu offs l} : Kept s₀ (s.writeJob c n mu offs l) := h.startJob

theorem Kept.writeRange (h : Kept s₀ s) {c n a l} : Kept s₀ (s.writeRange c n a l) := .foldl h fun _ _ k => k.writeJob

theorem Kept.deallocRun (h : Kept s₀ s) {sl n cct seq r} : Kept s₀ (s.deallocRun sl n cct seq r) :=
  .ite h (.foldl h.jsync fun _ _ k => k.deallocUnit)

theorem Kept.markMigRun (h : Kept s₀ s) {sl ns first count} : Kept s₀ (s.markMigRun sl ns first count) :=
  .ite h (.foldl h fun _ _ k => k.markMig)

theorem Kept.deallocRanges (h : Kept s₀ s) {c n ranges} : Kept s₀ (s.deallocRanges c n ranges) :=
  .writeDone (.gatherHost (.settle (.foldl (.foldl h.modEntry fun _ _ k => k.deallocRun.markMigRun.forward) fun _ _ k =>
      k.writeJob)))

theorem Kept.modNs (h : Kept s₀ s) {sl ns f} : Kept s₀ (s.modNs sl ns f) := h.modSlice

theorem Kept.resvNotify (h : Kept s₀ s) {sl ns kind hosts} : Kept s₀ (s.resvNotify sl ns kind hosts) :=
  .foldl h fun _ _ k => .ite k k.modCtrl.notify

theorem Kept.putResv (h : Kept s₀ s) {sl n r} : Kept s₀ (s.putResv sl n r) := .forwardChange (.ite h.modNs.writeSettings h.modNs)

theorem Keeps.resvCmd {e opc bytes f} : Keeps s (s.resvCmd e opc bytes f) := by
  refine .next fun h => .withCmd h fun _ _ k => ?_
  split
  · exact .ite k (.ite k.reply (.reply (.abortList (.foldl (.ite k k.putResv) fun _ _ m => m.resvNotify))))
  · exact k

/-! ### Machine/IoCommands.lean -/

theorem Keeps.flush {e} : Keeps s (execFlush e s) := .next fun h => .withCmd h fun _ _ k => k.reply

theorem Kept.withNs (h : Kept s₀ s) {e opc} {f : Cct → Ns → State → State} (hf : ∀ c n t, Kept s₀ t → Kept s₀ (f c n t)) :
    Kept s₀ (s.withNs e opc f) := by
  refine .withCmd h fun _ _ k => ?_
  split
  · exact k
  · exact .ite (hf _ _ _ k) k

theorem Keeps.write {e} : Keeps s (execWrite e s) :=
  .next fun h => .withNs h fun _ _ _ k => .ite k (.ite k.reply k.modEntry.writeRange)

theorem Keeps.read {e} : Keeps s (execRead e s) := by
  refine .next fun h => .withNs h fun _ _ _ k => ?_
  extract_lets
  split
  · exact k.holdRes
  · exact k.reply
  · exact k.modEntry.beginRead

theorem Keeps.compare {e} : Keeps s (execCompare e s) := by
  refine .next fun h => .withNs h fun _ _ _ k => .ite k ?_
  split
  · exact k.holdRes
  · exact k.reply
  · exact k.modEntry.beginRead

theorem Keeps.verify {e} : Keeps s (execVerify e s) := by
  refine .next fun h => .withNs h fun _ _ _ k => ?_
  extract_lets
  split
  · exact k.holdRes
  · exact k.reply
  · exact k.beginRead

theorem Keeps.writeZeroes {e} : Keeps s (execWriteZeroes e s) :=
  .next fun h => .withNs h fun _ _ _ k => .ite k.noteHeld.holdRes k.deallocRanges

theorem Keeps.datasetManagement {e} : Keeps s (execDatasetManagement e s) :=
  .next fun h => .withNs h fun _ _ _ k => .ite k.reply (.ite k (.ite k.reply (.ite k.noteHeld.holdRes k.deallocRanges)))

theorem Keeps.copy {e} : Keeps s (execCopy e s) := by
  refine .next fun h => .withCmd h fun _ _ k => ?_
  split
  · exact k
  · refine .ite k (.ite ?_ (.ite k (.ite k.reply (.ite k.reply k.modEntry.writeRange))))
    refine .ite k.reply (.ite k.reply ?_)
    split
    · exact k.holdRes
    · exact k.reply
    · exact k.beginRead

theorem Keeps.reservationRegister {e} : Keeps s (execReservationRegister e s) := .resvCmd

theorem Keeps.reservationAcquire {e} : Keeps s (execReservationAcquire e s) := .resvCmd

theorem Keeps.reservationRelease {e} : Keeps s (execReservationRelease e s) := .resvCmd

theorem Keeps.reservationReport {e} : Keeps s (execReservationReport e s) :=
  .next fun h => .withNs h fun _ _ _ k => .ite k.reply k.finish

/-! ### Machine/SliceCtl.lean -/

theorem Kept.anaChange (h : Kept s₀ s) {p} : Kept s₀ (s.anaChange p) := h.upd.notifyAll

theorem Kept.nsChanged (h : Kept s₀ s) {sl ns} : Kept s₀ (s.nsChanged sl ns) := .foldl h fun _ _ k => .ite k.modCtrl.notify k.modCtrl

theorem Kept.newKey (h : Kept s₀ s) {n} : Kept s₀ (s.newKey n) := h.upd.modSlice

theorem Kept.eraseOldKey (h : Kept s₀ s) {n} : Kept s₀ (s.eraseOldKey n) := h.writeSettings.upd

theorem Kept.wipeNs (h : Kept s₀ s) {sl n} : Kept s₀ (s.wipeNs sl n) := h.deallocRun.upd

theorem Kept.wipeSlice (h : Kept s₀ s) {sl} : Kept s₀ (s.wipeSlice sl) := by
  unfold State.wipeSlice
  split
  · exact h
  · exact .gatherHost (.settle (.foldl h fun _ _ k => k.wipeNs))

theorem Kept.openStream (h : Kept s₀ s) {sender nb migId} : Kept s₀ (s.openStream sender nb migId) := h.upd

theorem Kept.endStream (h : Kept s₀ s) {sender nb migId} : Kept s₀ (s.endStream sender nb migId) := h.upd

theorem Kept.discardCopy (h : Kept s₀ s) {x} : Kept s₀ (s.discardCopy x) := h.endPeer.wipeSlice.upd.modSlice.endStream.openStream

theorem Kept.cancelMig (h : Kept s₀ s) {sl cause} : Kept s₀ (s.cancelMig sl cause) := by
  unfold State.cancelMig
  split
  · exact h
  · split
    · exact h
    · exact .ite h h.modSlice.endStream.answerEntry.send.capture

theorem Kept.endCtrls (h : Kept s₀ s) {sl} : Kept s₀ (s.endCtrls sl) := .foldl h.abortList fun _ _ k => k.freeCtrl

theorem Kept.peerExtent (h : Kept s₀ s) {sl ns mu e x} : Kept s₀ (s.peerExtent sl ns mu e x) := h.addJob

theorem Kept.takeKeys (h : Kept s₀ s) {sl w secrets} : Kept s₀ (s.takeKeys sl w secrets) := h.upd.modSlice.writeSettings

theorem Kept.putNs (h : Kept s₀ s) {sl n} : Kept s₀ (s.putNs sl n) := h.modSlice

/-- The entry a peer's change takes is counted. -/
theorem Kept.peerEntry (h : Kept s₀ s) {sl e nb c t} (he : s.peerEntry sl e nb c = some t) : Kept s₀ t := by
  unfold State.peerEntry at he
  split at he
  · cases he
  · cases he; exact h.upd.bump

theorem Kept.applyPeer (h : Kept s₀ s) {sl e c} : Kept s₀ (s.applyPeer sl e c).2 := by
  unfold State.applyPeer
  split
  · exact h.peerExtent
  · exact h.deallocRun.settle.gatherHost
  · exact h.putNs.writeSettings
  · split
    · exact h
    · exact h.wipeNs.modSlice.writeSettings
  · split
    · exact h
    · exact h.wipeNs.modNs.writeSettings
  · exact h.wipeSlice
  · exact h.modNs
  · exact h.takeKeys
  · exact h.modSlice.writeSettings
  · exact h.modSlice

/-! ### Machine/SliceCmds.lean -/

theorem Kept.waitCmd (h : Kept s₀ s) {c} : Kept s₀ (s.waitCmd c) := h.modEntry

theorem Kept.addSlice (h : Kept s₀ s) {x} : Kept s₀ (s.addSlice x) := h.upd

theorem Kept.refusePools (h : Kept s₀ s) {c n bits} : Kept s₀ (s.refusePools c n bits) := h.answer.capture

theorem Kept.sliceMake (h : Kept s₀ s) {c} : Kept s₀ (s.sliceMake c) := by
  unfold State.sliceMake
  refine .ite h.reply (.ite h.reply ?_)
  extract_lets num bits
  clear_value bits num
  split
  · exact h.refusePools
  · exact .ite h.refusePools h.addSlice.newKey.writeSettings.capture.answer

theorem Kept.endRepl (h : Kept s₀ s) {n} : Kept s₀ (s.endRepl n) := .foldl h.setResync.modSlice fun _ _ k => k.peerDone

theorem Kept.sliceModify (h : Kept s₀ s) {c} : Kept s₀ (s.sliceModify c) := by
  unfold State.sliceModify
  extract_lets
  split
  · exact h.reply
  · exact .ite h.reply (.ite h.reply (.ite h.refusePools (.answer (.capture (.writeSettings (.ite h.modSlice.endRepl
      h.modSlice))))))

theorem Keeps.sliceCreate {e} : Keeps s (execSliceCreate e s) :=
  .next fun h => .withCmd h fun _ _ k => .ite k.reply (.ite k (.ite k.sliceMake k.sliceModify))

theorem Kept.forceClose (h : Kept s₀ s) {n} : Kept s₀ (s.forceClose n) := h.abortList.modSlice

theorem Keeps.sliceQuiesce {e} : Keeps s (execSliceQuiesce e s) := by
  refine .next fun h => .withCmd h fun _ _ k => ?_
  extract_lets
  split
  · exact k.reply
  · exact .ite k.reply (.ite (.ite (.forceClose (.waitCmd (.modSlice (.ite k.modSlice.writeSettings k)))) (.waitCmd (.modSlice
      (.ite k.modSlice.writeSettings k)))) k.reply)

theorem Keeps.sliceQuiesced {slice us} : Keeps s (execSliceQuiesced slice us s) := by
  unfold execSliceQuiesced
  split
  · exact .next id
  · exact .ite (.next id) (.next fun h => .foldl h.modSlice.writeSettings.capture fun _ _ k => k.answerEntry)

theorem Keeps.sliceResume {e} : Keeps s (execSliceResume e s) := by
  refine .next fun h => .withCmd h fun _ _ k => ?_
  extract_lets
  split
  · exact k.reply
  · exact .ite k.reply (.ite k (.reply (.ite (.writeSettings (.ite k.modSlice.upd.modSlice.capture k.modSlice)) (.anaChange
      (.writeSettings (.ite k.modSlice.upd.modSlice.capture k.modSlice))))))

theorem Kept.resetSlice (h : Kept s₀ s) {n} : Kept s₀ (s.resetSlice n) := .foldl h.endCtrls fun _ _ k => k.modNs.forwardChange

theorem Kept.deleteSlice (h : Kept s₀ s) {x} : Kept s₀ (s.deleteSlice x) :=
  .writeSettings (.upd (.wipeSlice (.eraseOldKey (.upd (.modSlice (.setResync (.endPeer (.endCtrls (.endStream (.cancelMig (.ite
      h.send h)))))))))))

theorem Keeps.sliceDelete {e} : Keeps s (execSliceDelete e s) := by
  refine .next fun h => .withCmd h fun _ _ k => ?_
  extract_lets
  split
  · exact k.reply
  · exact .ite k.reply (.ite k.reply (.ite k.reply (.ite k (.capture (.reply (.ite k.resetSlice.writeSettings k.deleteSlice))))))

theorem Kept.copyMarked (h : Kept s₀ s) {sl} : Kept s₀ (s.copyMarked sl) := by
  unfold State.copyMarked
  split
  · exact h
  · refine .foldl h.modSlice fun _ _ k => ?_
    split
    · exact k
    · exact .foldl k fun _ _ m => m.send.meterAdd

theorem Kept.sendCommit (h : Kept s₀ s) {x} : Kept s₀ (s.sendCommit x) := h.sendAll.sendAll.send

theorem Kept.cutOver (h : Kept s₀ s) {n} : Kept s₀ (s.cutOver n) := by
  unfold State.cutOver
  split
  · exact h
  · split
    · exact h
    · exact .ite h h.copyMarked.modSlice.sendCommit

theorem Keeps.sliceFreeze {e} : Keeps s (execSliceFreeze e s) := by
  refine .next fun h => .withCmd h fun _ _ k => ?_
  extract_lets
  split
  · exact k.reply
  · refine .ite k.reply (.ite k.reply ?_)
    split
    · exact k.modSlice.writeSettings.anaChange.reply
    · exact .ite k k.modSlice.writeSettings.anaChange.waitCmd.cutOver

theorem Keeps.sliceSave {e} : Keeps s (execSliceSave e s) := by
  refine .next fun h => .withCmd h fun _ _ k => ?_
  extract_lets
  split
  · exact k.answer
  · refine .ite k.reply ?_
    extract_lets
    split
    · exact .ite k.answer k.modSlice.send.waitCmd
    · split
      · exact k.reply
      · exact .ite k.reply k.cancelMig.reply
    · exact k.reply

theorem Keeps.sliceRestore {e} : Keeps s (execSliceRestore e s) := by
  refine .next fun h => .withCmd h fun _ _ k => .ite k.reply ?_
  refine .ite ?_ (.ite k (.ite k.reply (.ite k.reply (.ite k.refusePools (.reply (.writeSettings (.addSlice (.ite k.openStream
      k))))))))
  split
  · exact k.reply
  · exact .ite k.reply k.deleteSlice.upd.reply

/-! ### Machine/Replication.lean -/

theorem Keeps.replicationPairing {slice} : Keeps s (execReplicationPairing slice s) := by
  unfold execReplicationPairing
  split
  · exact .next id
  · exact .ite (.next id) (.next fun h => h.setResync.modSlice.startSync)

theorem Keeps.runPeer {slice e nb c} : Keeps s (s.runPeer slice e nb c) := by
  unfold State.runPeer
  split
  · exact .next id
  · next he =>
    refine .done fun h => ?_
    have k := h.peerEntry he
    exact .ite k.heardOn.applyPeer.peerFree.send k.heardOn.applyPeer

theorem Keeps.forwardedChangeReceived {p x} : Keeps s (execForwardedChangeReceived p x s) := by
  unfold execForwardedChangeReceived
  split
  · exact .next id
  · exact .ite (.next id) .runPeer

theorem Keeps.replicaAck {slice nsid mu} : Keeps s (execReplicaAck slice nsid mu s) := by
  unfold execReplicaAck
  split
  · exact .next id
  · split
    · exact .next id
    · extract_lets
      split
      · exact .next fun h => h.modSlice.heardOn.pumpQueued.peerDone
      · exact .next fun h => h.modSlice.heardOn.pumpQueued.syncRegion

theorem Keeps.lostUnitReport {slice nsid mu} : Keeps s (execLostUnitReport slice nsid mu s) := by
  unfold execLostUnitReport
  split
  · exact .next id
  · exact .ite (.next id) (.ite (.next fun h => h.markLost.startSync) (.ite (.next fun h => h.markLost.copyRegion) (.next fun h =>
      h.markLost)))

theorem Keeps.peerRepairComplete {slice nsid mu x} : Keeps s (execPeerRepairComplete slice nsid mu x s) := by
  unfold execPeerRepairComplete
  refine .ite (.next id) ?_
  split
  · exact .next id
  · exact .done fun h => .capture (.meterAdd (.wakeHeld (.gatherHost (.settle (.foldl h.upd.stageExtent fun _ _ k =>
      k.modJob.unholdRes)))))

theorem Keeps.replicaDetachReceived {p} : Keeps s (execReplicaDetachReceived p s) := by
  unfold execReplicaDetachReceived
  split
  · exact .next id
  · exact .next fun h => .ite h.modSlice h

theorem Keeps.migrationAcceptReceived {slice fits} : Keeps s (execMigrationAcceptReceived slice fits s) := by
  unfold execMigrationAcceptReceived
  split
  · exact .next id
  · split
    · exact .next id
    · refine .ite (.next id) ?_
      extract_lets
      split
      · exact .next fun h => h.heardOn.modSlice.answerEntry
      · exact .next fun h => h.heardOn.modSlice.answerEntry.capture
      · exact .next fun h => h.heardOn.modSlice.openStream.answerEntry.copyMarked

theorem Keeps.precopyPassComplete {slice} : Keeps s (execPrecopyPassComplete slice s) := by
  unfold execPrecopyPassComplete
  split
  · exact .next id
  · split
    · exact .next id
    · exact .ite (.next id) (.next fun h => .copyMarked (.ite h.modSlice.modSlice.capture h.modSlice))

theorem Keeps.migrationDataReceived {p x} : Keeps s (execMigrationDataReceived p x s) := by
  unfold execMigrationDataReceived
  split
  · exact .next id
  · exact .ite (.next id) .runPeer

theorem Keeps.migrationCommitReceived {p} : Keeps s (execMigrationCommitReceived p s) := by
  unfold execMigrationCommitReceived
  extract_lets
  split
  · exact .next id
  · exact .ite (.next id) (.next fun h => h.endStream.modSlice.upd.writeSettings.anaChange.send)

theorem Keeps.migrationCommitAck {slice ms} : Keeps s (execMigrationCommitAck slice ms s) := by
  unfold execMigrationCommitAck
  split
  · exact .next id
  · split
    · exact .next id
    · exact .ite (.next id) (.next fun h => h.heardOn.modSlice.endStream.writeSettings.anaChange.answerEntry.capture)

theorem Keeps.migrationCancelReceived {p} : Keeps s (execMigrationCancelReceived p s) := by
  unfold execMigrationCancelReceived
  split
  · exact .next id
  · exact .ite (.next id) (.done fun h => h.discardCopy)

theorem Kept.migPeerLost (h : Kept s₀ s) {nb} : Kept s₀ (s.migPeerLost nb) := by
  refine .foldl h fun _ _ k => ?_
  split
  · exact .ite k.discardCopy.capture k
  · exact .ite k (.ite k.endStream.modSlice.writeSettings.anaChange.answerEntry.capture (.ite
      k.endStream.modSlice.writeSettings.answerEntry.send.capture k.cancelMig))

/-! ### Machine/LogPages.lean -/

theorem Kept.clearReported (h : Kept s₀ s) : Kept s₀ s.clearReported := .foldl h fun _ _ k => k.setReg

/-! ### Machine/AdminPages.lean -/

theorem Kept.reportAll (h : Kept s₀ s) {c fuel} : Kept s₀ (s.reportAll c fuel) := by
  induction fuel generalizing s with
  | zero => exact h
  | succ n ih => exact ih h.reportNotice

theorem Kept.readPage (h : Kept s₀ s) {c lid} : Kept s₀ (s.readPage c lid) := h.modCtrl.reportAll

theorem Keeps.getLogPage {e} : Keeps s (execGetLogPage e s) := by
  refine .next fun h => .withCmd h fun _ _ k => ?_
  split
  · exact k
  · refine .ite k.reply (.ite k.reply ?_)
    split
    · exact k.reply
    · exact .ite k.reply (.ite (.ite k.finish.clearReported k.finish) (.readPage (.ite k.finish.clearReported k.finish)))

theorem Keeps.identify {e} : Keeps s (execIdentify e s) := by
  refine .next fun h => .withCmd h fun _ _ k => ?_
  split
  · exact k
  · split
    · exact k.reply
    · exact k.finish

/-! ### Machine/AdminCmds.lean -/

theorem Keeps.abort {e} : Keeps s (execAbort e s) := by
  refine .next fun h => .withCmd h fun _ _ k => .ite k.reply ?_
  split
  · exact k.bump.answer
  · exact .ite k.modEntry.postAborted.bump.answer k.modEntry.bump.answer

theorem Keeps.asynchronousEventRequest {e} : Keeps s (execAsynchronousEventRequest e s) := by
  refine .next fun h => .withCmd h fun _ _ k => ?_
  split
  · exact k
  · exact .ite k.reply k.modEntry.modCtrl.reportNotice

theorem Kept.setFeature (h : Kept s₀ s) {c x} : Kept s₀ (s.setFeature c x).2.2 := by
  unfold State.setFeature
  extract_lets
  split
  · exact h.modCtrl
  · split
    · exact h
    · exact h.modCtrl.evalTolerance
  · split
    · exact h
    · split
      · exact h.modCtrl
      · split
        · exact h.modCtrl
        · exact h
  · exact h
  · exact h.modCtrl
  · split
    · exact h
    · exact h.modCtrl
  · split
    · exact h
    · exact h.modCtrl
  · split
    · exact h.modCtrl
    · exact h
  · exact h.modCtrl
  · refine .writeSettings (.foldl h fun _ _ k => ?_)
    split
    · exact k
    · exact k.putResv
  · exact h.modCtrl.evalTolerance
  · exact h

theorem Keeps.setFeatures {e} : Keeps s (execSetFeatures e s) := by
  refine .done fun h => .withCmd h fun _ _ k => ?_
  split
  · exact k
  · exact .ite k.reply (.ite k k.setFeature.answer)

theorem Keeps.getFeatures {e} : Keeps s (execGetFeatures e s) := by
  refine .next fun h => .withCmd h fun _ _ k => ?_
  split
  · exact k
  · extract_lets
    split
    · exact k.reply
    · exact .ite k.answer k.finish

theorem Keeps.keepAlive {e} : Keeps s (execKeepAlive e s) := by
  refine .next fun h => .withCmd h fun _ _ k => .reply (.modCtrl ?_)
  split
  · exact k
  · exact k.heardOn

theorem Kept.deleteNs (h : Kept s₀ s) {sl n} : Kept s₀ (s.deleteNs sl n) := by
  refine .nsChanged (.writeSettings (.forwardChange (.modSlice (.upd (.gatherHost (.settle (.wipeNs ?_)))))))
  refine .foldl h fun _ _ k => ?_
  split
  · exact k
  · exact k.post

theorem Keeps.namespaceManagement {e} : Keeps s (execNamespaceManagement e s) := by
  refine .done fun h => .withCmd h fun _ _ k => ?_
  split
  · exact k
  · split
    · exact .ite k (.ite k.reply (.ite k.reply k.putNs.forwardChange.writeSettings.nsChanged.answer))
    · split
      · exact k.reply
      · exact k.deleteNs.reply
    · exact k.reply

theorem Keeps.namespaceAttachment {e} : Keeps s (execNamespaceAttachment e s) := by
  refine .next fun h => .withCmd h fun _ _ k => ?_
  split
  · exact k.reply
  · exact .ite k (.ite k.reply (.ite k.reply (.ite k.reply k.modNs.nsChanged.reply)))

theorem Kept.eraseJobs (h : Kept s₀ s) {sl} : Kept s₀ (s.eraseJobs sl) :=
  .foldl (.foldl h fun _ _ k => k.endRead) fun _ _ k => k.modJob.giveLane

theorem Kept.keyErase (h : Kept s₀ s) {sl} : Kept s₀ (s.keyErase sl) := by
  refine .eraseJobs (.wipeSlice ?_)
  split
  · split
    · exact h.cancelMig.newKey.eraseOldKey.forwardChange
    · exact h.cancelMig.newKey.eraseOldKey.forwardChange.forwardChange
  · refine .ite ?_ ?_
    · refine .modSlice (.setResync ?_)
      split
      · exact h.cancelMig.newKey.eraseOldKey.forwardChange
      · exact h.cancelMig.newKey.eraseOldKey.forwardChange.forwardChange
    · split
      · exact h.cancelMig.newKey.eraseOldKey.forwardChange
      · exact h.cancelMig.newKey.eraseOldKey.forwardChange.forwardChange

theorem Kept.formatNs (h : Kept s₀ s) {sl n lbaf pi} : Kept s₀ (s.formatNs sl n lbaf pi) :=
  h.wipeNs.settle.gatherHost.modNs.forwardChange.upd.writeSettings.nsChanged

theorem Keeps.formatNvm {e} : Keeps s (execFormatNvm e s) := by
  refine .done fun h => .withCmd h fun _ _ k => ?_
  extract_lets
  split
  · exact k.reply
  · refine .ite k.reply (.ite k.reply ?_)
    split
    · exact .reply (.foldl k.cancelMig fun _ _ m => m.formatNs)
    · exact .ite k.reply (.waitCmd (.modSlice (.foldl k.keyErase fun _ _ m => m.formatNs)))
    · exact k.reply

theorem Kept.moveOutOf (h : Kept s₀ s) {sl} : Kept s₀ (s.moveOutOf sl) := .foldl h.modSlice fun _ _ k => k.closeBand.request

theorem Keeps.sanitize {e} : Keeps s (execSanitize e s) := by
  refine .done fun h => .withCmd h fun _ _ k => ?_
  extract_lets
  split
  · exact k.reply
  · split
    · exact k.reply
    · exact .ite k.reply (.reply (.ite k.keyErase.modSlice.moveOutOf k.keyErase.modSlice))

theorem Kept.sanitized (h : Kept s₀ s) {sl} : Kept s₀ (s.sanitized sl) := h.modSlice.notifyAll

theorem Keeps.keyEraseCompleted {slice ms} : Keeps s (execKeyEraseCompleted slice ms s) := by
  unfold execKeyEraseCompleted
  split
  · exact .next id
  · split
    · exact .next id
    · exact .ite (.next id) (.done fun h => .ite h.modSlice.capture.answerEntry.sanitized h.modSlice.capture.answerEntry)

theorem Keeps.sanitizeComplete {slice ms} : Keeps s (execSanitizeComplete slice ms s) := by
  unfold execSanitizeComplete
  split
  · exact .next id
  · split
    · exact .next id
    · exact .ite (.next id) (.done fun h => h.modSlice.capture.sanitized)

/-! ### Machine/FlashChannels.lean -/

theorem Keeps.chDieSelWrite {ch v} : Keeps s (execChDieSelWrite ch v s) := .ite (.next id) (.next fun h => h.setReg.modChan)

theorem Keeps.dieReadRequest {die op cls band stripe mem cw} : Keeps s (execDieReadRequest die op cls band stripe mem cw s) :=
    by
  unfold execDieReadRequest
  split
  · exact .ite (.next id) (.ite (.next fun h => h.upd.readArrives) (.ite (.next fun h => .ite h.upd.startRecon h.upd) (.next fun h
      => h.upd.queueRead)))
  · exact .next id

theorem Keeps.reconWaitExpiry {die op} : Keeps s (execReconWaitExpiry die op s) := by
  unfold execReconWaitExpiry
  split
  · exact .next id
  · split
    · exact .next id
    · exact .ite (.next fun h => h.modDie.startRecon) (.next id)

theorem Keeps.operationAgePromotion {die op} : Keeps s (execOperationAgePromotion die op s) := .next fun h => h.modDie

theorem Keeps.dieOperationStart {die} : Keeps s (execDieOperationStart die s) := by
  unfold execDieOperationStart
  split
  · exact .next id
  · refine .ite (.next id) ?_
    split
    · exact .next fun h => h.resumeDue
    · exact .granted fun _ => .next fun h => h.startOp

theorem Keeps.readSenseComplete {die} : Keeps s (execReadSenseComplete die s) := by
  unfold execReadSenseComplete
  split
  · exact .next id
  · refine .ite (.next id) (.next fun h => .resumeDue (.bumpCh ?_))
    split
    · exact h.modDie.upd
    · split
      · exact h.modDie.upd
      · split
        · exact h.modDie.upd
        · exact h.modDie.upd.readBlock

theorem Keeps.ldpcDecodeComplete {op corrected} : Keeps s (execLdpcDecodeComplete op corrected s) := by
  unfold execLdpcDecodeComplete
  split
  · exact .next id
  · split
    · exact .next id
    · split
      · exact .next id
      · refine .ite (.next id) (.granted fun u => ?_)
        extract_lets f s1 found a s2 s3
        have k1 (h : Kept u u) : Kept u s1 := h.bump
        have k3 (h : Kept u u) : Kept u s3 := .ite (k1 h).upd.bumpCh (k1 h).upd
        clear_value found
        split
        · exact .next fun h => (k1 h).dropOp.decoded
        · split
          · exact .done fun h => (k1 h).upd.ladderFails
          · extract_lets s4 o s5
            have k5 (h : Kept u u) : Kept u s5 := .modDie (.ite (k3 h).bumpCh (k3 h))
            exact .ite (.next fun h => (k5 h).startRecon) (.next k5)

theorem Keeps.reconstructionComplete {op ok} : Keeps s (execReconstructionComplete op ok s) := by
  unfold execReconstructionComplete
  split
  · exact .next id
  · split
    · exact .next fun h => h.dropOp
    · refine .ite ?_ (.ite (.next fun h => h.upd) (.done fun h => .ite h.upd.loseCw h.upd.loseCw.health))
      refine .ite (.next fun h => h.dropOp) ?_
      extract_lets
      split
      · exact .next fun h => h.dropOp.repairCw
      · exact .ite (.next fun h => h.dropOp.repairCw.capture) (.next fun h => h.dropOp.repairCw.health)

theorem Keeps.trackValley {die blk opt off} : Keeps s (execTrackValley die blk opt off s) := by
  unfold execTrackValley
  split
  · exact .next id
  · refine .ite (.next id) (.next fun h => .bumpCh ?_)
    split
    · exact h.modBlock.readBlock
    · exact h.modBlock.countReads

theorem Keeps.memberProgramStatus {band stripe mem st busyUs} : Keeps s (execMemberProgramStatus band stripe mem st busyUs s)
    := by
  unfold execMemberProgramStatus
  split
  · split
    · exact .next id
    · split
      · exact .next id
      · refine .ite (.next id) ?_
        extract_lets
        split
        · exact .ite (.done fun h => h.endOp.slowOp.modStripe.commitStripe.settle.settleRelease.gatherHost) (.next fun h =>
            h.endOp.slowOp.modStripe)
        · exact .done fun h => h.endOp.slowOp.capture.health.modBand.voidStripe.settle.settleRelease.gatherHost
  · exact .next id

theorem Keeps.memberOperationTimeout {die} : Keeps s (execMemberOperationTimeout die s) := by
  unfold execMemberOperationTimeout
  split
  · exact .next id
  · exact .ite (.done fun h => h.modDie.capture.failDie.settleRelease) (.next id)

theorem Keeps.dieResetTimeout {die} : Keeps s (execDieResetTimeout die s) := by
  unfold execDieResetTimeout
  split
  · exact .next id
  · exact .ite (.next id) (.done fun h => .settleRelease (.ite (.loseCarrier (.ite h.modDie.capture.failDie h.modDie)) (.ite
      h.modDie.capture.failDie h.modDie)))

theorem Keeps.zqPeriod {ch} : Keeps s (execZqPeriod ch s) := .ite (.next fun h => h.modChan) (.next id)

theorem Keeps.slowRecovery {die} : Keeps s (execSlowRecovery die s) := by
  unfold execSlowRecovery
  split
  · exact .next id
  · exact .ite (.next fun h => h.modDie.memberRec.capture) (.next id)

theorem Keeps.slowFail {die} : Keeps s (execSlowFail die s) := by
  unfold execSlowFail
  split
  · exact .next id
  · exact .ite (.done fun h => h.failDie.settleRelease) (.next id)

/-! ### Machine/ConnectCmds.lean -/

theorem Kept.authEvent (h : Kept s₀ s) {y t cause} : Kept s₀ (s.authEvent y t cause) := by
  unfold State.authEvent
  split
  · exact h.capture
  · exact h
  · exact h.capture

theorem Kept.postConnect (h : Kept s₀ s) {c status result} : Kept s₀ (s.postConnect c status result) := h.upd

theorem Kept.connectErr (h : Kept s₀ s) {c k status} : Kept s₀ (s.connectErr c k status) := h.recordErr

theorem Kept.refuseIo (h : Kept s₀ s) {c k status result} : Kept s₀ (s.refuseIo c k status result) := h.postConnect.connectErr

theorem Kept.connectAdmin (h : Kept s₀ s) {c y t} : Kept s₀ (s.connectAdmin c y t) := by
  unfold State.connectAdmin
  split
  · exact h.postConnect
  · refine .ite h.postConnect (.ite h.postConnect (.ite h (.evalTolerance (.postConnect ?_))))
    split
    · exact h.upd (by simp)
    · exact h.upd

theorem Kept.connectIo (h : Kept s₀ s) {c t} : Kept s₀ (s.connectIo c t) := by
  unfold State.connectIo
  split
  · exact h.postConnect
  · refine .ite h.refuseIo ?_
    split
    · exact .ite h.refuseIo.capture (.ite h h.upd.postConnect)
    · exact .ite h h.upd.postConnect

theorem Keeps.connect {c} : Keeps s (execConnect c s) := by
  unfold execConnect
  split
  · exact .next id
  · refine .ite (.next id) ?_
    extract_lets s1 refuse
    have k (h : Kept s s) : Kept s s1 := h.bump
    have r (h : Kept s s) (st : Nat) : Kept s (refuse st) := by
      unfold refuse
      split
      · exact (k h).postConnect
      · exact (k h).refuseIo
    clear_value refuse s1
    split
    · exact .next fun h => r h _
    · refine .ite (.next fun h => r h _) ?_
      split
      · exact .next fun h => (r h _).authEvent
      · exact .next fun h => .ite (k h).connectAdmin (k h).connectIo

theorem Kept.authCmd (h : Kept s₀ s) {e typ} {f : Cct → Ctrl → State → State} (hf : ∀ c k t, Kept s₀ t → Kept s₀ (f c k t)) :
    Kept s₀ (s.authCmd e typ f) := by
  unfold State.authCmd
  split
  · exact h
  · split
    · exact h
    · exact .ite (hf _ _ _ h) h

theorem Keeps.authenticationSend {e x} : Keeps s (execAuthenticationSend e x s) := by
  refine .done fun h => .authCmd h fun c _ u k => ?_
  extract_lets s1 conn
  have k1 : Kept s s1 := k.reply
  clear_value conn s1
  split
  · exact k1
  · exact .ite k1.authEvent.loseHost k1

theorem Keeps.authenticationReceive {e} : Keeps s (execAuthenticationReceive e s) :=
  .next fun h => .authCmd h fun _ _ _ k => k.finish

/-! ### Machine/Fabric.lean -/

theorem Kept.modMac (h : Kept s₀ s) {m f} : Kept s₀ (s.modMac m f) := h.upd (by simp)

theorem Keeps.linkFault {mac f} : Keeps s (execLinkFault mac f s) := by
  unfold execLinkFault
  split
  · exact .next id
  · exact .ite (.next fun h => .ite h.bump h) (.next fun h => .modMac (.ite h.bump h))

theorem Kept.anaMac (h : Kept s₀ s) {mac s0} : Kept s₀ (State.anaMac mac s0 s) := h.anaChange.capture

theorem Keeps.macDown {mac} : Keeps s (execMacDown mac s) := by
  unfold execMacDown
  split
  · exact .next id
  · refine .ite (.next id) ?_
    extract_lets none8 s1 fb conns qs cct l _ s2
    have h2 (h : Kept s s) : Kept s s2 := h.modMac.capture.upd
    exact .done fun h => (h2 h).anaMac

theorem Keeps.linkUp {mac p} : Keeps s (execLinkUp mac p s) := by
  unfold execLinkUp
  split
  · exact .next id
  · exact .ite (.next id) (.next fun h => h.modMac)

theorem Keeps.macUp {mac} : Keeps s (execMacUp mac s) := by
  unfold execMacUp
  split
  · exact .next id
  · refine .ite (.next id) ?_
    extract_lets s1
    have h1 (h : Kept s s) : Kept s s1 := h.modMac.capture
    exact .done fun h => (h1 h).anaMac

theorem Keeps.pauseFrameReceived {mac prio on} : Keeps s (execPauseFrameReceived mac prio on s) := by
  unfold execPauseFrameReceived
  split
  · exact .next id
  · exact .ite (.next id) (.next fun h => h.bump.modMac)

theorem Keeps.pauseLong {mac prio} : Keeps s (execPauseLong mac prio s) := by
  unfold execPauseLong
  split
  · exact .next id
  · split
    · exact .next id
    · exact .ite (.next id) (.done fun h => h.modMac.capture)

theorem Keeps.arpRequest {f ip} : Keeps s (execArpRequest f ip s) := by
  unfold execArpRequest
  split
  · exact .next id
  · exact .next fun h => .ite h.send h

theorem Keeps.neighborSolicitation {f ip} : Keeps s (execNeighborSolicitation f ip s) := by
  unfold execNeighborSolicitation
  split
  · exact .next id
  · exact .next fun h => .ite h.send h

theorem Kept.frameIn (h : Kept s₀ s) {x} : Kept s₀ (s.frameIn x) := .ite h.leaveTo.wakeXoff.smartCheck h

theorem Keeps.echoRequest {f q} : Keeps s (execEchoRequest f q s) := by
  unfold execEchoRequest
  split
  · exact .next id
  · exact .ite (.next id) (.done fun h => h.frameIn.send)

theorem Kept.modFlow (h : Kept s₀ s) {f g} : Kept s₀ (s.modFlow f g) := h.upd

theorem Keeps.ecnCeReceived {flow} : Keeps s (execEcnCeReceived flow s) := by
  unfold execEcnCeReceived
  split
  · exact .next id
  · exact .ite (.next id) (.done fun h => h.modFlow.send.bump)

theorem Kept.decrease (h : Kept s₀ s) {f} : Kept s₀ (s.decrease f) := .ite h h.modFlow

theorem Keeps.cnpReceived {flow} : Keeps s (execCnpReceived flow s) := by
  unfold execCnpReceived
  split
  · exact .next id
  · exact .ite (.next id) (.done fun h => h.bump.decrease)

theorem Kept.cutWindow (h : Kept s₀ s) {f} : Kept s₀ (s.cutWindow f) := h.drawFree.modFlow

theorem Keeps.tcpEceAck {flow} : Keeps s (execTcpEceAck flow s) := by
  unfold execTcpEceAck
  split
  · exact .next id
  · exact .ite (.next id) (.next fun h => h.decrease.cutWindow)

theorem Keeps.rateIncrease {flow} : Keeps s (execRateIncrease flow s) := by
  unfold execRateIncrease
  split
  · exact .next id
  · exact .ite (.next id) (.next fun h => h.modFlow)

theorem Kept.addConn (h : Kept s₀ s) {y} : Kept s₀ (s.addConn y) := h.upd

theorem Keeps.tcpConnectRequest {conn f q remote} : Keeps s (execTcpConnectRequest conn f q remote s) := by
  unfold execTcpConnectRequest
  extract_lets
  split
  · exact .next id
  · exact .ite (.next fun h => h.frameIn) (.ite (.next fun h => h.frameIn.send) (.next fun h => h.frameIn.addConn.send))

theorem Keeps.rdmaConnectRequest {conn r remote} : Keeps s (execRdmaConnectRequest conn r remote s) := by
  unfold execRdmaConnectRequest
  split
  · exact .next id
  · exact .ite (.next fun h => h.frameIn) (.ite (.next fun h => h.frameIn.send) (.next fun h => h.frameIn.addConn.send))

theorem Keeps.tlsHandshake {conn x} : Keeps s (execTlsHandshake conn x s) := by
  unfold execTlsHandshake
  split
  · exact .next id
  · refine .ite (.next id) ?_
    extract_lets s0
    have k (h : Kept s s) {p : Prop} {_ : Decidable p} {a b : Option Nat} : Kept s (if p then (a, s0.drawFree.2) else (b, s0)).2 := by
      split
      · exact h.drawFree
      · exact h
    split
    next s1 e =>
    have k1 (h : Kept s s) : Kept s s1 := (congrArg (Kept s ·.2) e).mp (k h)
    split
    · exact .next fun h => (k1 h).upd
    · exact .done fun h => (k1 h).endConn.capture

theorem Keeps.icreq {conn hdgst ddgst hpda} : Keeps s (execIcreq conn hdgst ddgst hpda s) := by
  unfold execIcreq
  split
  · exact .next id
  · exact .ite (.next id) (.next fun h => h.upd.send)

theorem Kept.modNb (h : Kept s₀ s) {n f} : Kept s₀ (s.modNb n f) := h.upd (by simp)

theorem Kept.openInit (h : Kept s₀ s) {nb mac} : Kept s₀ (s.openInit nb mac) := h.upd

theorem Keeps.ringAssociationUp {nb initiator port} : Keeps s (execRingAssociationUp nb initiator port s) := by
  unfold execRingAssociationUp
  split
  · exact .next id
  · refine .ite (.next id) ?_
    extract_lets both last s1 s2 s3 s4 s5 s6
    refine .done fun h => ?_
    have h3 : Kept s s3 := .capture (.ite h.modNb.openInit h.modNb)
    have h4 : Kept s s4 := .ite h3.capture h3
    have h5 : Kept s s5 := .ite (.foldl h4 fun _ _ k => k.peerBack) h4
    have h6 : Kept s s6 := .foldl h5 fun _ _ k => k.cutOver
    exact h6.evalTolerance

theorem Keeps.ringRetry {nb authFailed} : Keeps s (execRingRetry nb authFailed s) := by
  unfold execRingRetry
  split
  · exact .next id
  · exact .ite (.next id) (.ite (.done fun h => h.modNb.capture) (.next fun h => h.modNb))

theorem Keeps.ringPeerUnreachable {nb} : Keeps s (execRingPeerUnreachable nb s) := by
  unfold execRingPeerUnreachable
  split
  · exact .next id
  · split
    · exact .next id
    · exact .ite (.next id) (.done fun h => .migPeerLost (.ite (.foldl h.modNb.capture fun _ _ k => k.peerLost) h.modNb.capture))

theorem Keeps.ringKeepAliveExpiry {nb initiator} : Keeps s (execRingKeepAliveExpiry nb initiator s) := by
  unfold execRingKeepAliveExpiry
  split
  · exact .next id
  · exact .ite (.next id) (.done fun h => h.assocLost)

/-! ### Machine/Memory.lean -/

theorem Kept.setRank (h : Kept s₀ s) {c r st} : Kept s₀ (s.setRank c r st) := h.upd

theorem Kept.fitPages (h : Kept s₀ s) : Kept s₀ s.fitPages := h.upd

theorem Kept.retireBank (h : Kept s₀ s) {c rank bank} : Kept s₀ (s.retireBank c rank bank) :=
  .capture (.writeSettings (.fitPages (.ite h.upd.setRank h.upd)))

theorem Kept.dropRank (h : Kept s₀ s) {c rank} : Kept s₀ (s.dropRank c rank) := h.upd.setRank.fitPages.writeSettings.capture

theorem Kept.removeRank (h : Kept s₀ s) {c rank cause} : Kept s₀ (s.removeRank c rank cause) := by
  unfold State.removeRank
  extract_lets spare s1
  have k : Kept s₀ s1 := h.capture
  clear_value s1 spare
  split
  · exact k.upd.setRank.dropRank
  · split
    · exact k.dropRank
    · exact k.upd.setRank.setRank

theorem Kept.retirePage (h : Kept s₀ s) {c rank bank page} : Kept s₀ (s.retirePage c rank bank page) :=
  .ite h.upd.capture (.ite h.upd.fitPages.writeSettings.capture (.ite h.upd.fitPages.writeSettings.capture.removeRank
      h.upd.fitPages.writeSettings.capture.retireBank))

theorem Kept.checkDevice (h : Kept s₀ s) {c rank dev} : Kept s₀ (s.checkDevice c rank dev) :=
  .ite h (.ite h.upd.capture.removeRank h.upd.capture)

theorem Kept.corrected (h : Kept s₀ s) {c rank dev bank page} : Kept s₀ (s.corrected c rank dev bank page) :=
  .ite h.bump.capture.upd.checkDevice.retirePage h.bump.capture.upd.checkDevice

theorem Keeps.dramCorrectedError {c rank dev bank page} : Keeps s (execDramCorrectedError c rank dev bank page s) :=
  .ite (.next id) (.done fun h => h.corrected)

theorem Kept.connError (h : Kept s₀ s) {conn} : Kept s₀ (s.connError conn) := .foldl h.endConn fun _ _ k => k.loseHost

theorem Kept.recoverLine (h : Kept s₀ s) {o} : Kept s₀ (s.recoverLine o) := by
  unfold State.recoverLine
  extract_lets unit
  have k {u : State} (h : Kept s₀ u) {off : Nat} : Kept s₀ (unit off u) := by
    unfold unit
    split
    · exact h
    · exact .ite h.loseUnit h
  clear_value unit
  split
  · split
    · exact h
    · exact .ite h (k h)
  · exact k h
  · exact h
  · exact h
  · exact h
  · exact .foldl h fun _ _ k => k.connError

theorem Keeps.dramUncorrectable {c rank cause owner} : Keeps s (execDramUncorrectable c rank cause owner s) :=
  .ite (.next id) (.done fun h => .ite (.recoverLine (.ite h.bump.upd h.bump.upd.removeRank)) (.ite h.bump.upd
      h.bump.upd.removeRank))

theorem Keeps.rankMigratedToSpare {c ms} : Keeps s (execRankMigratedToSpare c ms s) := by
  unfold execRankMigratedToSpare
  split
  · exact .next id
  · exact .done fun h => h.upd.setRank.setRank.writeSettings.capture

theorem Kept.punRecover (h : Kept s₀ s) {p o} : Kept s₀ (s.punRecover p o) := by
  unfold State.punRecover
  split
  · split
    · exact h
    · exact h.modEntry
  · exact h.connError
  · split
    · exact h
    · exact h.modStream.send
  · split
    · exact h
    · exact h.giveLane
  · split
    · exact h
    · exact .giveLane (.ite h.freeFilling h)
  · exact h
  · exact h

theorem Keeps.punnetUncorrectable {p word owner} : Keeps s (execPunnetUncorrectable p word owner s) := by
  unfold execPunnetUncorrectable
  split
  · exact .next id
  · exact .ite (.next id) (.done fun h => h.bump.capture.punRecover)

theorem Keeps.tableCopyError {table idx} : Keeps s (execTableCopyError table idx s) :=
  .ite (.next id) (.done fun h => h.bump.capture)

theorem Keeps.sramScrubPass {fixed} : Keeps s (execSramScrubPass fixed s) :=
  .ite (.next id) (.done fun h => .foldl h fun _ _ k => k.bump.capture)

theorem Keeps.quinceRefresh {fixed bad} : Keeps s (execQuinceRefresh fixed bad s) := by
  unfold execQuinceRefresh
  refine .ite (.next id) (.done fun h => .capture (.upd ?_))
  split
  · exact .foldl h fun _ _ k => k.bump.capture
  · exact .quinceFail (.foldl h fun _ _ k => k.bump.capture)

theorem Keeps.dramRefresh {c rank queued} : Keeps s (execDramRefresh c rank queued s) :=
  .ite (.next id) (.ite (.done fun h => h.upd.bump) (.next fun h => h.upd))

theorem Keeps.dramMr4Poll {c rank hot} : Keeps s (execDramMr4Poll c rank hot s) :=
  .ite (.next id) (.ite (.done fun h => h.upd.capture) (.ite (.next fun h => h.upd) (.next id)))

theorem Keeps.dramRetrainStep {c ok ns} : Keeps s (execDramRetrainStep c ok ns s) :=
  .ite (.next id) (.ite (.done fun h => h.bump.upd.capture) (.next fun h => h.bump.upd))

theorem Keeps.dramScrub {c lines fixed} : Keeps s (execDramScrub c lines fixed s) :=
  .ite (.next id) (.ite (.done fun h => h.bump.upd.upd.capture) (.done fun h => h.bump.upd))

theorem Keeps.dramScrubLapWarn : Keeps s (execDramScrubLapWarn s) := .ite (.next id) (.done fun h => h.upd.capture)

theorem Kept.testResult (h : Kept s₀ s) {n} : Kept s₀ (s.testResult n).2 := by
  unfold State.testResult
  split
  · exact h
  · split
    · exact h
    · split
      · exact h
      · exact h.drawFree

theorem Kept.pnFlipWrite (h : Kept s₀ s) {v} : Kept s₀ (s.pnFlipWrite v) :=
  .ite h.setReg (.ite h.setReg.upd (.upd (.ite (.capture (.bump (.testResult (.ite h.setReg.setReg.setReg h.setReg)))) (.testResult
      (.ite h.setReg.setReg.setReg h.setReg)))))

theorem Keeps.pnFlipArm {v} : Keeps s (execPnFlipArm v s) := .done fun h => h.pnFlipWrite

theorem Keeps.pnFlipRun {v} : Keeps s (execPnFlipRun v s) := .done fun h => h.pnFlipWrite

theorem Keeps.qFlipArm {v} : Keeps s (execQFlipArm v s) := .next fun h => h.setReg

theorem Kept.dramFlipWrite (h : Kept s₀ s) {v} : Kept s₀ (s.dramFlipWrite v) :=
  .ite h.setReg (.ite (.upd (.testResult (.ite h.setReg.setReg.setReg h.setReg))) (.corrected (.drawFree (.upd (.testResult (.ite
      h.setReg.setReg.setReg h.setReg))))))

theorem Keeps.dramFlipArm {v} : Keeps s (execDramFlipArm v s) := .done fun h => h.dramFlipWrite

theorem Keeps.dramFlipRun {v} : Keeps s (execDramFlipRun v s) := .done fun h => h.dramFlipWrite

theorem Kept.retireCtl (h : Kept s₀ s) {v} : Kept s₀ (s.retireCtl v) := .ite h h.upd

theorem Keeps.clearRanks {v} : Keeps s (execClearRanks v s) := .next fun h => h.retireCtl

theorem Keeps.clearPages {v} : Keeps s (execClearPages v s) := .next fun h => h.retireCtl

/-! ### Machine/MediaUpkeep.lean -/

theorem Kept.mntCmd (h : Kept s₀ s) {v} : Kept s₀ (s.mntCmd v) := .ite (.predictAll (.ite h.newLap h)) (.ite h.newLap h)

theorem Keeps.lapNow {v} : Keeps s (execLapNow v s) := .done fun h => h.mntCmd

theorem Keeps.eolNow {v} : Keeps s (execEolNow v s) := .done fun h => h.mntCmd

theorem Kept.engage (h : Kept s₀ s) {eng job num} : Kept s₀ (s.engage eng job num) := h.upd (by simp)

theorem Keeps.maintenanceMoveStart {eng} : Keeps s (execMaintenanceMoveStart eng s) := by
  unfold execMaintenanceMoveStart
  refine .ite (.next id) (.granted fun _ => ?_)
  split
  · exact .done fun h => h.moveBand.settleRelease
  · split
    · exact .next id
    · exact .done fun h => h.engage.moveBand.settleRelease

theorem Kept.waitSpace (h : Kept s₀ s) : Kept s₀ s.waitSpace := .ite h h.upd.capture

theorem Keeps.rebuildStart {eng} : Keeps s (execRebuildStart eng s) := by
  unfold execRebuildStart
  refine .ite (.next id) (.granted fun _ => ?_)
  split
  · exact .ite (.next fun h => h.waitSpace) (.done fun h => h.moveBand.settleRelease)
  · split
    · exact .next id
    · exact .ite (.next fun h => h.waitSpace) (.done fun h => h.engage.moveBand.settleRelease)

theorem Kept.setBoundary (h : Kept s₀ s) {b} : Kept s₀ (s.setBoundary b) := by
  unfold State.setBoundary
  split
  · exact h
  · exact h.jsync.upd

theorem Kept.endReshape (h : Kept s₀ s) : Kept s₀ s.endReshape := by
  unfold State.endReshape
  split
  · exact h
  · exact h.jsync.upd.writeSettings.setPool.capture

theorem Keeps.reshapeBandStep : Keeps s (execReshapeBandStep s) := by
  unfold execReshapeBandStep
  split
  · exact .next id
  · refine .ite (.next id) (.ite (.next fun h => h.endReshape) (.granted fun _ => ?_))
    split
    · exact .next fun h => h.setBoundary
    · split
      · exact .next fun h => h.setBoundary.reformNew
      · refine .next fun h => .closeBand ?_
        split
        · exact .ite h.padStream h
        · exact h
      · exact .ite (.next id) (.next fun h => h.moveBand.settleRelease)
      · exact .ite (.next id) (.next fun h => h.moveBand.settleRelease)
      · exact .next fun h => h.setBoundary
      · exact .next fun h => h.setBoundary

theorem Keeps.eraseStart {band} : Keeps s (execEraseStart band s) := .ite (.done fun h => h.startErase.gatherHost) (.next id)

theorem Kept.eraseFailed (h : Kept s₀ s) {b pos m} : Kept s₀ (s.eraseFailed b pos m) := by
  unfold State.eraseFailed
  extract_lets
  split
  · exact h.capture.capture.health.retireBlock
  · exact .ite h.capture.capture.health.retireBlock h.capture.capture.health.retireBlock.jsync.modBand.enqueueOp

theorem Keeps.eraseStatus {band mem st busyUs} : Keeps s (execEraseStatus band mem st busyUs s) := by
  unfold execEraseStatus
  refine .ite (.done fun h => h.slowOp.admitErase) ?_
  split
  · exact .next id
  · split
    · exact .next id
    · split
      · exact .next id
      · refine .ite (.next id) ?_
        extract_lets
        split
        · exact .done fun h => .gatherHost (.levelWear (.finishErase (.endOfLife (.ite
            h.endOp.slowOp.modBlock.health.modBand.health h.endOp.slowOp.modBlock.health.modBand))))
        · exact .done fun h => h.endOp.slowOp.eraseFailed.finishErase.gatherHost

theorem Keeps.eraseStarved {band} : Keeps s (execEraseStarved band s) := by
  unfold execEraseStarved
  split
  · exact .next id
  · exact .ite (.next fun h => h.modBand.capture) (.next id)

theorem Keeps.eolPrediction : Keeps s (execEolPrediction s) := .done fun h => h.predictAll

theorem Kept.flagRefresh (h : Kept s₀ s) {b} : Kept s₀ (s.flagRefresh b) := .ite h h.request.health.upd

theorem Kept.judge (h : Kept s₀ s) {b m st mem cw r} : Kept s₀ (s.judge b m st mem cw r) := by
  unfold State.judge
  extract_lets f lim pct found
  clear_value found
  split
  · have k {p : Prop} {_ : Decidable p} : Kept s₀ (if p then s.modBlock m.die m.block (fun x => { x with track := true }) else s) :=
      .ite h.modBlock h
    exact .ite k.flagRefresh k
  · exact h.bumpCh.flagRefresh
  · exact .ite h.bumpCh.grownDefect.health.upd.repairCw.health (.ite h.bumpCh.grownDefect.health.upd.repairCw.health
      h.bumpCh.grownDefect.health.upd.loseCw.health)

theorem Kept.lapBand (h : Kept s₀ s) {n} : Kept s₀ (s.lapBand n) :=
  .ite h.upd (.newLap (.satField (h.upd.capture.health.upd (by simp [Upkeep.unshow]))))

theorem Keeps.patrolReadComplete {band stripe mem cw r} : Keeps s (execPatrolReadComplete band stripe mem cw r s) := by
  unfold execPatrolReadComplete
  split
  · exact .next id
  · split
    · exact .next id
    · refine .ite (.next id) (.granted fun u => ?_)
      extract_lets f s1 s2 v w s3 s4
      have k (h : Kept u u) : Kept u s4 := by
        have h2 : Kept u s2 := .health (.bump (.ite h.readBlock.bumpCh h))
        have h3 : Kept u s3 := h2.upd (by simp [w, v, show_lengths])
        exact h3.judge
      exact .done fun h => .ite (k h).lapBand (k h)

theorem Keeps.patrolLapOverrun : Keeps s (execPatrolLapOverrun s) := .ite (.next fun h => h.upd.capture) (.next id)

theorem Kept.retentionDue (h : Kept s₀ s) {b} : Kept s₀ (s.retentionDue b) := .ite h.request.health.capture h

theorem Keeps.retentionAgeUpdate : Keeps s (execRetentionAgeUpdate s) :=
  .next fun h => .foldl (h.upd (by simp)) fun _ _ k => k.retentionDue

/-! ### Machine/Loops.lean -/

theorem Kept.takeConvs (h : Kept s₀ s) {convs} : Kept s₀ (s.takeConvs convs) := by
  unfold State.takeConvs
  extract_lets l _ s1 _ s2
  have h1 : Kept s₀ s1 := h.upd (by simp [l, foldl_modNth_length])
  have h2 : Kept s₀ s2 := .ite h1.upd h1
  exact .ite h2.upd h2

theorem Kept.chargeRange (h : Kept s₀ s) : Kept s₀ s.chargeRange := .ite h.upd.capture (.ite h.upd.modSlot.capture h)

theorem Kept.holdMin (h : Kept s₀ s) {k i} : Kept s₀ (s.holdMin k i) := h.modSlot

theorem Kept.startDischarge (h : Kept s₀ s) : Kept s₀ s.startDischarge := h.holdMin.upd

theorem Kept.startTest (h : Kept s₀ s) {waiting auto} : Kept s₀ (s.startTest waiting auto) :=
  .ite h.upd.modSlot.startSlot.upd h.upd.startDischarge

theorem Kept.testFailed (h : Kept s₀ s) {cause} : Kept s₀ (s.testFailed cause) := h.upd.capture.answerEntry

theorem Kept.fault16 (h : Kept s₀ s) : Kept s₀ s.fault16 := .ite h.setEn.holdMin.modSlot.upd.testFailed h.setEn.holdMin.modSlot.upd

theorem Kept.faultCarrier (h : Kept s₀ s) {k} : Kept s₀ (s.faultCarrier k) :=
  .ite h.modSlot.loseCarrier.settleRelease (.ite h.modSlot.openSwitch.setDom.modCarrier.diesAbsent.settleDies.finishAdmit
      h.modSlot.openSwitch.setDom)

theorem Kept.faultSlot (h : Kept s₀ s) {k} : Kept s₀ (s.faultSlot k) :=
  .ite h.capture.faultCarrier (.ite h.capture.fault16 (.ite h.capture.modSlot h.capture.setEn.holdMin))

theorem Kept.rampedDown (h : Kept s₀ s) {k} : Kept s₀ (s.rampedDown k) := .ite h.openSwitch h

theorem Kept.runSlot (h : Kept s₀ s) {k} : Kept s₀ (s.runSlot k) :=
  .ite h.modSlot.faultSlot (.ite h.modSlot.rampedDown h.modSlot.capture.rampedDown)

theorem Kept.runCharger (h : Kept s₀ s) : Kept s₀ s.runCharger :=
  .ite h.chargeRange.setReg.holdMin (.ite (.ite h.chargeRange.setReg.runSlot.startDischarge h.chargeRange.setReg.runSlot)
      h.chargeRange.setReg)

theorem Keeps.loopSample {slot convs} : Keeps s (execLoopSample slot convs s) :=
  .ite (.next id) (.ite (.done fun h => .ite h.takeConvs.runCharger h.takeConvs.chargeRange) (.ite (.next fun h => h.takeConvs)
      (.ite (.next fun h => h.takeConvs) (.done fun h => h.takeConvs.runSlot))))

theorem Keeps.followingErrorTimeout {slot} : Keeps s (execFollowingErrorTimeout slot s) := by
  unfold execFollowingErrorTimeout
  split
  · exact .next id
  · exact .ite (.done fun h => h.modSlot.faultSlot) (.next id)

theorem Kept.loopFlags (h : Kept s₀ s) {k v raised} : Kept s₀ (s.loopFlags k v raised) := .ite h.modSlot.modSlot h.modSlot

theorem Keeps.loopFlagClear {slot v raised} : Keeps s (execLoopFlagClear slot v raised s) := .next fun h => h.loopFlags

theorem Kept.loopCtlWrite (h : Kept s₀ s) {k v} : Kept s₀ (s.loopCtlWrite k v) := .ite h.setReg.modSlot h.setReg

theorem Kept.loopWrite (h : Kept s₀ s) {k off v raised} : Kept s₀ (s.loopWrite k off v raised) := by
  unfold State.loopWrite
  refine .ite h ?_
  extract_lets
  split
  · exact h.loopCtlWrite
  · exact h.loopFlags
  · exact h.setReg
  · exact h.setReg
  · exact h.setReg
  · exact h.setReg
  · exact h.setReg
  · exact .ite h h.setReg.modSlot
  · exact .ite h h.setReg
  · exact .ite h h.setReg
  · exact h

theorem Keeps.loopCoeffWrite {slot off v} : Keeps s (execLoopCoeffWrite slot off v s) :=
  .ite (.next fun h => h.loopWrite) (.next id)

theorem Keeps.loopTargetWrite {slot off v} : Keeps s (execLoopTargetWrite slot off v s) :=
  .ite (.next fun h => h.loopWrite) (.next id)

theorem Keeps.dirtyLimitUpdate : Keeps s (execDirtyLimitUpdate s) :=
  .ite (.next id) (.ite (.next fun h => h.upd.capture) (.next fun h => h.upd))

theorem Keeps.holdUpTest {e} : Keeps s (execHoldUpTest e s) := by
  refine .next fun h => .withCmd h fun _ _ k => .ite k.reply ?_
  split
  · exact k.answer
  · exact k.waitCmd.startTest

theorem Keeps.holdupTestAuto : Keeps s (execHoldupTestAuto s) := .ite (.next fun h => h.startTest) (.next id)

theorem Kept.finishTest (h : Kept s₀ s) {c esr} : Kept s₀ (s.finishTest c esr) :=
  .answerEntry (.ite h.upd.startSlot.writeSettings.capture h.upd.startSlot.writeSettings.capture)

theorem Keeps.holdupDischargeEnd {v1 charge esr} : Keeps s (execHoldupDischargeEnd v1 charge esr s) :=
  .ite (.next id) (.ite (.ite (.done fun h => h.finishTest) (.done fun h => h.drawFree.finishTest)) (.ite (.done fun h =>
      h.startSlot.testFailed) (.next id)))

theorem Keeps.holdupRechargeTimeout : Keeps s (execHoldupRechargeTimeout s) := .ite (.done fun h => h.fault16) (.next id)

theorem Kept.hotter (h : Kept s₀ s) : Kept s₀ s.hotter := .ite (.capture (.upd (.ite h.upd.capture h))) (.ite h.upd.capture h)

theorem Kept.cooler (h : Kept s₀ s) : Kept s₀ s.cooler := .ite (.capture (.upd (.ite h.upd.capture h))) (.ite h.upd.capture h)

theorem Kept.minuteSample (h : Kept s₀ s) : Kept s₀ s.minuteSample := h.upd

theorem Keeps.thermalSample {tj} : Keeps s (execThermalSample tj s) :=
  .ite (.next id) (.done fun h => h.upd.hotter.cooler.upd.minuteSample)

theorem Kept.setLimitFrom (h : Kept s₀ s) {old n} : Kept s₀ (s.setLimitFrom old n) := .ite h.upd.upd h.upd.upd.setTarget

theorem Kept.setLimit (h : Kept s₀ s) {n} : Kept s₀ (s.setLimit n) := h.setLimitFrom

theorem Kept.stepDown (h : Kept s₀ s) {cause} : Kept s₀ (s.stepDown cause) := .ite h h.setLimit.upd.capture

theorem Keeps.thermalLimitStep : Keeps s (execThermalLimitStep s) :=
  .ite (.next id) (.ite (.next fun h => h.upd.stepDown) (.next id))

theorem Keeps.rorStep : Keeps s (execRorStep s) := by
  unfold execRorStep
  extract_lets
  split
  · exact .next id
  · exact .ite (.next fun h => h.upd.stepDown) (.next id)

theorem Keeps.thermalLimitRise : Keeps s (execThermalLimitRise s) := by
  unfold execThermalLimitRise
  extract_lets
  split
  · exact .next id
  · exact .ite (.ite (.next fun h => h.upd.setLimit.capture) (.next fun h => h.upd.setLimit)) (.next id)

theorem Kept.plimWrite (h : Kept s₀ s) {v} : Kept s₀ (s.plimWrite v) := h.setReg.setLimitFrom

theorem Keeps.pkgLimitWrite {v} : Keeps s (execPkgLimitWrite v s) := .next fun h => h.plimWrite

theorem Keeps.plimFloorWrite {v} : Keeps s (execPlimFloorWrite v s) := .next fun h => h.plimWrite

theorem Kept.offsetWrite (h : Kept s₀ s) {v} : Kept s₀ (s.offsetWrite v) := h.setReg.capture

theorem Keeps.thOffsetWrite {v} : Keeps s (execThOffsetWrite v s) := .next fun h => h.offsetWrite

theorem Kept.tempMinute (h : Kept s₀ s) : Kept s₀ s.tempMinute := .ite (.satEvent (.ite h.upd.satEvent h.upd)) (.ite h.upd.satEvent h.upd)

/-! ### Machine/PowerCmds.lean -/

theorem Keeps.powerStateEntry : Keeps s (execPowerStateEntry s) :=
  .ite (.next fun h => h.trackIdle.evalTolerance.enterState) (.next fun h => h.trackIdle.evalTolerance)

theorem Keeps.toleranceEvaluation : Keeps s (execToleranceEvaluation s) := by
  unfold execToleranceEvaluation
  extract_lets p s1 s2
  have h2 (h : Kept s s) : Kept s s2 := .evalTolerance (.trackIdle (.ite h.upd h))
  exact .ite (.next fun h => (h2 h).leaveTo) (.ite (.next fun h => (h2 h).leaveTo) (.next h2))

theorem Kept.framed (h : Kept s₀ s) : Kept s₀ s.framed := h.wakePort.wakeXoff

theorem Keeps.wakeEvent {src lateUs} : Keeps s (execWakeEvent src lateUs s) := by
  unfold execWakeEvent
  extract_lets
  split
  · exact .ite (.next fun h => h.leaveTo) (.ite (.next fun h => h.leaveTo.framed) (.next id))
  · exact .ite (.next fun h => h.leaveTo.framed) (.next id)
  · exact .next fun h => h.evalTolerance.leaveTo
  · exact .next fun h => h.leaveTo
  · exact .ite (.next fun h => h.leaveTo) (.next id)
  · exact .next fun h => .ite h h.upd.leaveTo
  · exact .ite (.next fun h => h.leaveTo) (.next id)
  · exact .next id
  · exact .next id

theorem Keeps.maintenanceWake : Keeps s (execMaintenanceWake s) := by
  unfold execMaintenanceWake
  split
  · exact .next id
  · exact .ite (.next fun h => h.leaveTo.upd.capture) (.next id)

theorem Keeps.apstTransition {cntl} : Keeps s (execApstTransition cntl s) := by
  unfold execApstTransition
  split
  · exact .next id
  · exact .ite (.next fun h => h.modCtrl.evalTolerance) (.next id)

theorem Keeps.seedHoursRead : Keeps s (execSeedHoursRead s) := .next fun h => h.upd

theorem Kept.rtcLo (h : Kept s₀ s) {v} : Kept s₀ (s.rtcLo v) := h.upd

theorem Keeps.seedRtcLoWrite {v} : Keeps s (execSeedRtcLoWrite v s) := .next fun h => h.rtcLo

theorem Kept.cmpMinute (h : Kept s₀ s) : Kept s₀ s.cmpMinute := h.upd

theorem Kept.minuteTick (h : Kept s₀ s) : Kept s₀ s.minuteTick := .ite h.upd h.upd.tempMinute.meterTick.cmpMinute.evSummaries

theorem Kept.rtcHi (h : Kept s₀ s) {v} : Kept s₀ (s.rtcHi v) := .capture (.ite h.upd.minuteTick h.upd)

theorem Keeps.seedRtcHiWrite {v} : Keeps s (execSeedRtcHiWrite v s) := .next fun h => h.rtcHi

theorem Keeps.minuteTick : Keeps s (execMinuteTick s) := .done fun h => h.minuteTick

theorem Keeps.meteringMsSum : Keeps s (execMeteringMsSum s) := .ite (.next id) (.next fun h => h.meterMs.upd)

theorem Keeps.seedHourRollover : Keeps s (execSeedHourRollover s) :=
  .ite (.next id) (.next fun h => .writeSettings (.ite h.upd.capture h.upd))

theorem Keeps.crystalStop : Keeps s (execCrystalStop s) :=
  .ite (.next id) (.ite (.next fun h => h.upd.capture) (.next fun h => h.upd.upd))

theorem Keeps.crystalRestore : Keeps s (execCrystalRestore s) := .ite (.next fun h => h.upd) (.next id)

theorem Kept.clrRc (h : Kept s₀ s) {v} : Kept s₀ (s.clrRc v) := .ite h.upd h

theorem Keeps.clrRc {v} : Keeps s (execClrRc v s) := .next fun h => h.clrRc

theorem Keeps.pllLockTimeout {pll} : Keeps s (execPllLockTimeout pll s) :=
  .ite (.next id) (.ite (.next fun h => h.upd.capture) (.next fun h => h.upd))

/-! ### Machine/Firmware.lean -/

theorem Kept.putSlot (h : Kept s₀ s) {k b bad} : Kept s₀ (s.putSlot k b bad) := h.upd

theorem Kept.norFailed (h : Kept s₀ s) {w} : Kept s₀ (s.norFailed w) := by
  unfold State.norFailed
  split
  · exact h.capture
  · exact h

theorem Kept.norWrite (h : Kept s₀ s) {o n} : Kept s₀ (s.norWrite o n) := h.bump.bump

theorem Kept.fwRefuse (h : Kept s₀ s) {c r} : Kept s₀ (s.fwRefuse c r) := h.upd.answer

theorem Kept.takePiece (h : Kept s₀ s) {c w} : Kept s₀ (s.takePiece c w) :=
  .ite (.upd (.putSlot (.upd (.norWrite (.norWrite (.ite h.dropStaging.upd h)))))) (.upd (.norWrite (.norWrite (.ite
      h.dropStaging.upd h))))

theorem Kept.endOffer (h : Kept s₀ s) {r} : Kept s₀ (s.endOffer r) := .ite h.dropStaging.upd h

theorem Keeps.firmwareImageDownload {e w} : Keeps s (execFirmwareImageDownload e w s) := by
  refine .next fun h => .withCmd h fun _ _ k => .ite k ?_
  split
  · exact k.endOffer.fwRefuse
  · exact .ite k.takePiece.norFailed k.takePiece.norFailed.reply

theorem Kept.loadSettings (h : Kept s₀ s) {x} : Kept s₀ (s.loadSettings x) := .upd (.foldl h fun _ _ k => k.endCtrls)

theorem Kept.unpin (h : Kept s₀ s) {g} : Kept s₀ (s.unpin g) := by
  unfold State.unpin
  split
  · exact h
  · exact h.upd.loadSettings

theorem Kept.noticeActivation (h : Kept s₀ s) : Kept s₀ s.noticeActivation := h.notifyAll

theorem Kept.redispatch (h : Kept s₀ s) : Kept s₀ s.redispatch := h.upd

theorem Kept.startProbation (h : Kept s₀ s) {slot b} : Kept s₀ (s.startProbation slot b) := h.upd

theorem Kept.activate (h : Kept s₀ s) {settingsOk} : Kept s₀ (s.activate settingsOk).2 := by
  unfold State.activate
  extract_lets k s1 pin s2 s3 s4 s5
  have h1 : Kept s₀ s1 := h.noticeActivation
  have h3 : Kept s₀ s3 := h1.upd.bump
  have h5 : Kept s₀ s5 := h3.dropStaging.upd
  clear_value s5 s4 s3 s2 pin s1
  split
  · exact h1
  · split
    · exact h1.capture
    · split
      · exact h5.redispatch.bump.capture
      · exact h3.redispatch.startProbation.capture

theorem Kept.revert (h : Kept s₀ s) {cause} : Kept s₀ (s.revert cause) := by
  unfold State.revert
  extract_lets s1 a k gens s2 s3 f old s4 s5
  have h2 : Kept s₀ s2 := h.noticeActivation.upd
  have h3 : Kept s₀ s3 := .ite h2 h2.unpin
  have h5 : Kept s₀ s5 := h3.upd.redispatch
  exact h5.bump.bump.capture

theorem Kept.burnFuse (h : Kept s₀ s) : Kept s₀ s.burnFuse := by
  unfold State.burnFuse
  extract_lets x old fu
  split
  · next lt =>
    have burnt : Kept s₀ { s with fuses := { fu with antiRollback := x } } := h.burn ⟨rfl, rfl, rfl, lt.le, fun _ => rfl⟩
    exact burnt.capture
  · exact h

theorem Kept.writeLoader (h : Kept s₀ s) {n l} : Kept s₀ (s.writeLoader n l) := h.upd.norWrite.capture

theorem Kept.updateLoader (h : Kept s₀ s) : Kept s₀ s.updateLoader := by
  unfold State.updateLoader
  split
  · exact h
  · exact .ite h h.upd.writeLoader.upd

theorem Kept.confirm (h : Kept s₀ s) {how} : Kept s₀ (s.confirm how) := h.upd.capture.burnFuse.updateLoader

theorem Kept.commitFw (h : Kept s₀ s) {c settingsOk} : Kept s₀ (s.commitFw c settingsOk) := by
  unfold State.commitFw
  extract_lets ca src k sv st s1 s2
  have h2 : Kept s₀ s2 := h.upd.capture
  clear_value s2
  refine .ite ?_ (.ite h2.reply.activate h2.reply)
  have h3 := h2.activate (settingsOk := settingsOk)
  split
  · next e => rw [e] at h3; exact h3.reply
  · next e => rw [e] at h3; exact h3.fwRefuse

theorem Keeps.firmwareCommit {e settingsOk} : Keeps s (execFirmwareCommit e settingsOk s) := by
  refine .next fun h => .withCmd h fun _ _ k => ?_
  split
  · exact k.fwRefuse
  · exact k.commitFw

theorem Keeps.firmwareConfirm {e} : Keeps s (execFirmwareConfirm e s) :=
  .next fun h => .withCmd h fun _ _ k => .ite k.reply (.ite k.fwRefuse (.ite k.revert.reply k.confirm.reply))

theorem Keeps.probationExpiry : Keeps s (execProbationExpiry s) := by
  unfold execProbationExpiry
  split
  · exact .next id
  · exact .ite (.next id) (.ite (.next fun h => h.revert) (.ite (.next fun h => h.revert) (.next fun h => h.confirm)))

theorem Kept.sendPiece (h : Kept s₀ s) {o b} : Kept s₀ (s.sendPiece o b) := h.upd.send

theorem Keeps.firmwareForward : Keeps s (execFirmwareForward s) := by
  unfold execFirmwareForward
  refine .ite (.next id) ?_
  split
  · exact .next id
  · exact .next fun h => h.upd.sendPiece

theorem Kept.fwdDone (h : Kept s₀ s) : Kept s₀ s.fwdDone := h.upd

theorem Keeps.forwardCompletionReceived {reason} : Keeps s (execForwardCompletionReceived reason s) := by
  unfold execForwardCompletionReceived
  refine .ite (.next id) ?_
  split
  · exact .next fun h => h.upd
  · exact .next fun h => h.fwdDone
  · exact .next fun h => h.upd.capture
  · split
    · exact .next id
    · exact .ite (.next fun h => h.fwdDone.bump.capture) (.ite (.next fun h => h.sendPiece) (.next fun h => h.upd.send))

theorem Keeps.forwardRetry : Keeps s (execForwardRetry s) := by
  unfold execForwardRetry
  refine .ite (.next id) ?_
  split
  · exact .next id
  · exact .next fun h => h.sendPiece

/-! ### Machine/PowerFail.lean -/

theorem Kept.unwear (h : Kept s₀ s) : Kept s₀ s.unwear := .foldl h fun _ _ k => .foldl k fun _ _ m => m.modBlock

/-- Power-off leaves every list of fixed length with its length. -/
theorem Kept.powerOff (h : Kept s₀ s) : Kept s₀ s.powerOff := by
  refine h.unwear.reshape fun k => ?_
  obtain ⟨-, -, -, -, cars, -⟩ := k
  exact ⟨rfl, rfl, rfl, rfl, by simpa using cars, rfl, rfl, rfl, rfl, rfl, rfl, rfl, rfl⟩

theorem Kept.abandonTest (h : Kept s₀ s) : Kept s₀ s.abandonTest := .ite h h.upd

theorem Kept.beginFlush (h : Kept s₀ s) {trigger} : Kept s₀ (s.beginFlush trigger) :=
  .upd (.foldl h.abandonTest.upd.jwrite fun _ _ k => k.post)

theorem Kept.resetProgs (h : Kept s₀ s) {t} : Kept s₀ (s.resetProgs t) := h.upd

theorem Kept.flushVoid (h : Kept s₀ s) {t} : Kept s₀ (s.flushVoid t) := h.jsync.onFlash.resetProgs.dropStripe.closeBand.capture.restage

theorem Kept.flushStripes (h : Kept s₀ s) {passed} : Kept s₀ (s.flushStripes passed) :=
  .foldl h fun _ _ k => .ite k.dropStripe.restage (.ite k.resetProgs.commitStripe k.flushVoid)

theorem Kept.voidLanding (h : Kept s₀ s) {t mem late} : Kept s₀ (s.voidLanding t mem late) := h.jsync.dropStripe.closeBand.capture

theorem Kept.landStripe (h : Kept s₀ s) {t items last} : Kept s₀ (s.landStripe t items last) :=
  .ite (.capture (.fillBand (.dropStripe (.onFlash (.foldl h.jsync fun _ _ k => k.commitBuf))))) (.fillBand (.dropStripe (.onFlash
      (.foldl h.jsync fun _ _ k => k.commitBuf))))

theorem Kept.landingRange (h : Kept s₀ s) : Kept s₀ s.landingRange := .foldl h fun _ _ k => .ite k.capture k

theorem Kept.landAll (h : Kept s₀ s) {fails n done_ l fuel} : Kept s₀ (s.landAll fails n done_ l fuel).2.2 := by
  induction fuel generalizing s n done_ l with
  | zero => exact h
  | succ m ih =>
    unfold State.landAll
    extract_lets
    split
    · exact h
    · extract_lets
      split
      · exact h
      · split
        · exact ih h.openStripe.voidLanding
        · exact ih h.openStripe.landStripe

theorem Kept.endFlush (h : Kept s₀ s) {trigger stop dirty ms stripes} : Kept s₀ (s.endFlush trigger stop dirty ms stripes) :=
  h.meterTick.writeSettings.jwrite.upd.capture.powerOff

theorem Kept.emergencyFlush (h : Kept s₀ s) {trigger stop f} : Kept s₀ (s.emergencyFlush trigger stop f) :=
  .ite (.endFlush (.landAll (.ite h.beginFlush.flushStripes h.beginFlush.flushStripes.landingRange))) (.landAll (.ite
      h.beginFlush.flushStripes h.beginFlush.flushStripes.landingRange))

theorem Kept.quietOff (h : Kept s₀ s) {cause} : Kept s₀ (s.quietOff cause) := h.powerOff.upd

theorem Kept.powerTrigger (h : Kept s₀ s) {trigger f} : Kept s₀ (s.powerTrigger trigger f) :=
  .ite h (.ite h.powerOff (.ite h.abandonTest.quietOff h.emergencyFlush))

theorem Keeps.pwrFailAssert {f} : Keeps s (execPwrFailAssert f s) := .next fun h => h.upd.powerTrigger

theorem Keeps.prsntNDeassert {f} : Keeps s (execPrsntNDeassert f s) := .next fun h => h.upd.powerTrigger

theorem Kept.cutOff (h : Kept s₀ s) : Kept s₀ s.cutOff := .powerOff (.ite h.upd h)

theorem Keeps.hubLowAssert : Keeps s (execHubLowAssert s) :=
  .ite (.next fun h => h.upd) (.ite (.next fun h => h.upd.cutOff) (.ite (.next fun h => h.upd.leaveTo) (.next fun h => h.upd)))

theorem Kept.cutRoot (h : Kept s₀ s) : Kept s₀ s.cutRoot := .ite h.drawFree.upd h

theorem Keeps.mainRailOutOfRange : Keeps s (execMainRailOutOfRange s) :=
  .ite (.next fun h => h.cutRoot.upd.cutOff) (.next fun h => h.cutRoot.upd)

theorem Keeps.mainRailsInRange : Keeps s (execMainRailsInRange s) := .ite (.next fun h => h.upd) (.next id)

theorem Keeps.sledPresenceAssert : Keeps s (execSledPresenceAssert s) := .next fun h => h.upd

theorem Keeps.overTemperatureTrip {f} : Keeps s (execOverTemperatureTrip f s) := by
  unfold execOverTemperatureTrip
  extract_lets x s1 t s2 s3 s4
  have h4 (h : Kept s s) : Kept s s4 := .capture (.ite h.upd.upd.satEvent h.upd.upd)
  exact .ite (.next id) (.ite (.next fun h => h.upd) (.ite (.next h4) (.ite (.next fun h => (h4 h).powerOff)
    (.ite (.next fun h => (h4 h).abandonTest.writeSettings.quietOff) (.next fun h => (h4 h).emergencyFlush)))))

theorem Keeps.vddSeedLoss : Keeps s (execVddSeedLoss s) := .next fun h => .upd (.ite h.cutRoot.powerOff h)

theorem Keeps.vddSeedReturn : Keeps s (execVddSeedReturn s) := .ite (.next id) (.next fun h => h.upd)

/-! ### Machine/ControlSpace.lean -/

theorem Kept.afterRead (h : Kept s₀ s) {off} : Kept s₀ (s.afterRead off) := .ite h.upd (.ite h.upd h)

theorem Kept.mgAuthWrite (h : Kept s₀ s) {v writer} : Kept s₀ (s.mgAuthWrite v writer) :=
  .ite h.setReg (.ite h.setReg.upd h.setReg.upd.writeSettings.capture)

theorem Kept.plainWrite (h : Kept s₀ s) {off v} : Kept s₀ (s.plainWrite off v) := by
  unfold State.plainWrite
  split
  · exact h
  · exact h.setReg

theorem Kept.nextOr (h : Kept s₀ s) {o} (ho : Keeps s o) : Kept s₀ (nextOr s o) := by
  obtain ⟨t, rfl, k⟩ := ho
  exact h.trans k

theorem Kept.checkedWrite (h : Kept s₀ s) {off v ok} : Kept s₀ (s.checkedWrite off v ok) := .ite h.plainWrite h

theorem Kept.ldpcFlipWrite (h : Kept s₀ s) {v} : Kept s₀ (s.ldpcFlipWrite v) := h.setReg

theorem Kept.huCfg0Write (h : Kept s₀ s) {v} : Kept s₀ (s.huCfg0Write v) := .ite h.plainWrite h.plainWrite.setTarget

theorem Kept.chanWrite (h : Kept s₀ s) {off v} : Kept s₀ (s.chanWrite off v) := by
  unfold State.chanWrite
  extract_lets
  split
  · exact h.checkedWrite
  · exact .nextOr h .chDieSelWrite
  · exact h.clearCounters
  · exact .ite h.clearCounters h
  · exact .ite h.ldpcFlipWrite h
  · exact h.plainWrite

theorem Kept.writeReg (h : Kept s₀ s) {off v writer} : Kept s₀ (s.writeReg off v writer) := by
  unfold State.writeReg
  refine .ite h (.ite h.loopWrite (.ite h.setReg (.ite h.upd (.ite h.checkedWrite (.ite h.chanWrite ?_)))))
  split
  · exact h.rtcLo
  · exact h.rtcHi
  · exact h.clrRc
  · exact h.clearCounters
  · exact h.checkedWrite
  · exact h.plimWrite
  · exact h.offsetWrite
  · exact h.huCfg0Write
  · exact h.checkedWrite
  · exact h.mgAuthWrite
  · exact h.pnFlipWrite
  · exact .nextOr h .qFlipArm
  · exact h.clearCounters
  · exact h.retireCtl
  · exact h.dramFlipWrite
  · exact h.clearCounters
  · exact h.clearCounters
  · exact h.checkedWrite
  · exact h.mntCmd
  · exact h.laneCfg
  · exact h.clearCounters
  · exact h.clearCounters
  · exact h.clearCounters
  · exact .nextOr h .ceCctSelWrite
  · exact h.clearCounters
  · exact h.clearCounters
  · exact h.clearCounters
  · exact h.plainWrite

theorem Keeps.registerWrite {off v} : Keeps s (execRegisterWrite off v s) := .ite (.done fun h => h.writeReg) (.next id)

theorem Keeps.ldpcFlipArm {v} : Keeps s (execLdpcFlipArm v s) := .next fun h => h.ldpcFlipWrite

theorem Keeps.portCntClr {p v} : Keeps s (execPortCntClr p v s) := .ite (.next id) (.next fun h => h.clearCounters)

theorem Keeps.ceCntClr {v} : Keeps s (execCeCntClr v s) := .next fun h => h.clearCounters

theorem Keeps.chCntClr {ch v} : Keeps s (execChCntClr ch v s) := .ite (.next id) (.next fun h => h.clearCounters)

theorem Keeps.ldpcCntClr {v} : Keeps s (execLdpcCntClr v s) := .next fun h => h.clearCounters

theorem Keeps.strCntClr {v} : Keeps s (execStrCntClr v s) := .next fun h => h.clearCounters

theorem Keeps.cmpCntClr {v} : Keeps s (execCmpCntClr v s) := .next fun h => h.clearCounters

theorem Keeps.pnCntClr {v} : Keeps s (execPnCntClr v s) := .next fun h => h.clearCounters

theorem Keeps.dramCntClr {v} : Keeps s (execDramCntClr v s) := .next fun h => h.clearCounters

theorem Keeps.psCntClr {v} : Keeps s (execPsCntClr v s) := .next fun h => h.clearCounters

theorem Keeps.norCntClr {v} : Keeps s (execNorCntClr v s) := .next fun h => h.clearCounters

theorem Keeps.fwCntClr {v} : Keeps s (execFwCntClr v s) := .next fun h => h.clearCounters

theorem Keeps.stickyClear {g v raised} : Keeps s (execStickyClear g v raised s) := .ite (.next id) (.next fun h => h.setReg)

theorem Keeps.mgAuthCommit {v writer} : Keeps s (execMgAuthCommit v writer s) := .done fun h => h.mgAuthWrite

theorem Keeps.eventCapture {code p0 p1 p2 p3} : Keeps s (execEventCapture code p0 p1 p2 p3 s) := .next fun h => h.capture

theorem Kept.ctlRead (h : Kept s₀ s) {offs} : Kept s₀ (s.ctlRead offs).2 :=
  foldl_keeps (fun r : List Byte × State => Kept s₀ r.2) _ _ _ h fun _ _ _ k => k.afterRead

theorem Kept.ctlWrite (h : Kept s₀ s) {c writer} : Kept s₀ (s.ctlWrite c writer) := .foldl h fun _ _ k => k.writeReg

theorem Keeps.controlRead {e} : Keeps s (execControlRead e s) :=
  .next fun h => .withCmd h fun _ _ k => .ite k (.ite k.reply k.ctlRead.finish)

theorem Keeps.controlWrite {e} : Keeps s (execControlWrite e s) :=
  .done fun h => .withCmd h fun _ _ k => .ite k (.ite k.reply (.ite k k.ctlWrite.reply))

theorem Kept.logClear (h : Kept s₀ s) {n} : Kept s₀ (s.logClear n) := h.upd.capture.upd

theorem Keeps.eventLogClear {e} : Keeps s (execEventLogClear e s) := by
  refine .next fun h => .withCmd h fun _ _ k => ?_
  split
  · exact k.answer
  · exact k.logClear.answer

/-! ### Machine/ConfigImage.lean -/

theorem Kept.putLive (h : Kept s₀ s) {r} : Kept s₀ (s.putLive r) := h.upd

theorem Kept.applyEntries (h : Kept s₀ s) {es writer} : Kept s₀ (s.applyEntries es writer) := .foldl h fun _ _ k => k.writeReg

theorem Kept.ringClose (h : Kept s₀ s) {nb} : Kept s₀ (s.ringClose nb) := .assocLost (.assocLost (.foldl h fun _ _ k => k.endConn))

theorem Kept.actLive (h : Kept s₀ s) {r writer} : Kept s₀ (s.actLive r writer) := by
  unfold State.actLive
  extract_lets
  split
  · exact h.upd
  · exact .ite h.upd h.upd.ringClose.ringClose
  · exact h.trimPslc
  · exact h.upd.writeSettings.ringClose.ringClose
  · exact h.applyEntries
  · exact h.upd
  · exact h

theorem Kept.applyRecord {x : Nat × State} (h : Kept s₀ x.2) {writer r} : Kept s₀ (State.applyRecord writer x r).2 := by
  unfold State.applyRecord
  obtain ⟨n, s⟩ := x
  dsimp only
  split
  · split
    · exact h.upd
    · exact h
  · split
    · exact h.upd
    · exact .actLive (.ite h h.putLive)

theorem Kept.applyLive (h : Kept s₀ s) {l writer} : Kept s₀ (s.applyLive l writer).2 :=
  foldl_keeps (fun x : Nat × State => Kept s₀ x.2) _ _ _ h fun _ _ _ k => k.applyRecord

theorem Kept.storeCopy (h : Kept s₀ s) {b len w} : Kept s₀ (s.storeCopy b len w).2 := by
  unfold State.storeCopy
  extract_lets n
  split
  · exact h
  · exact .ite h.upd.norWrite h.upd.norWrite.norFailed

theorem Kept.cfgRefuse (h : Kept s₀ s) {c status dw0} : Kept s₀ (s.cfgRefuse c status dw0) := h.answer.capture

theorem Kept.applyConfig (h : Kept s₀ s) {c b w} : Kept s₀ (s.applyConfig c b w) := by
  unfold State.applyConfig
  extract_lets l apply store fixed
  have h1 : Kept s₀ (if apply then s.applyLive l c.cntl else (0, s)).2 := by
    split
    · exact h.applyLive
    · exact h
  split
  next n s1 e =>
  rw [e] at h1
  have h2 : Kept s₀ (if store then s1.storeCopy b c.cap.dw11.toNat w else (false, s1)).2 := by
    split
    · exact h1.storeCopy
    · exact h1
  split
  next stored s2 e2 =>
  rw [e2] at h2
  exact .ite h2.upd h2.upd.answer.capture

theorem Keeps.applyConfiguration {e w} : Keeps s (execApplyConfiguration e w s) := by
  refine .done fun h => .withCmd h fun _ _ k => .ite k.cfgRefuse (.ite k.cfgRefuse (.ite k ?_))
  extract_lets
  split
  · exact k.upd.cfgRefuse
  · exact k.applyConfig

theorem Kept.closeIface (h : Kept s₀ s) {i} : Kept s₀ (s.closeIface i) :=
  .foldl (.foldl (.foldl h fun _ _ k => k.loseHost) fun _ _ k => .ite k.endConn k) fun _ _ k => k.ringClose

theorem Kept.actAddressing (h : Kept s₀ s) {r} : Kept s₀ (s.actAddressing r) := by
  unfold State.actAddressing
  extract_lets fb
  split
  · exact h.upd (by simp [fb])
  · exact h.upd
  · exact h.upd
  · exact h.ringClose.upd (by simp)
  · exact h

theorem Keeps.configAddressingApply : Keeps s (execConfigAddressingApply s) :=
  .ite (.next id) (.done fun h => .upd (.foldl (.foldl h fun _ _ k => k.closeIface) fun _ _ k => k.actAddressing.putLive))

/-! ### Machine/Recovery.lean -/

theorem Kept.replayMap (h : Kept s₀ s) : Kept s₀ s.replayMap := h.upd

theorem Kept.voidOpen (h : Kept s₀ s) : Kept s₀ s.voidOpen.2 := by
  unfold State.voidOpen
  extract_lets l reloc n s1
  have h1 : Kept s₀ s1 := .foldl h fun _ _ k => k.jwrite
  exact .ite h1 h1.health.capture

theorem Kept.loseBuffered (h : Kept s₀ s) {c} : Kept s₀ (s.loseBuffered c) := by
  unfold State.loseBuffered
  extract_lets
  split
  · exact .capture (.foldl h fun _ _ k => k.loseUnit)
  · exact .capture (.foldl h fun _ _ k => k.loseUnit)
  · exact .foldl h fun _ _ k => k.loseUnit

theorem Kept.recoverBands (h : Kept s₀ s) : Kept s₀ s.recoverBands := .ite h.upd h.upd.capture

theorem Kept.resetOffsets (h : Kept s₀ s) : Kept s₀ s.resetOffsets := h.upd

theorem Kept.addReads (h : Kept s₀ s) : Kept s₀ s.addReads := .capture (.upd (.foldl h fun _ _ k => k.readBlock))

theorem Kept.ageOff (h : Kept s₀ s) {lost restored} : Kept s₀ (s.ageOff lost restored) := by
  unfold State.ageOff
  refine .ite (.ite h h.newLap.upd.capture) ?_
  split
  · exact h
  · exact h.upd

theorem Kept.recoverSlices (h : Kept s₀ s) : Kept s₀ s.recoverSlices := .ite h.upd h.upd.capture

theorem Kept.recoverL4 (h : Kept s₀ s) : Kept s₀ s.recoverL4 := by
  unfold State.recoverL4
  refine .ite h ?_
  split
  · exact .ite h.l4Minutes h.l4Minutes.capture
  · exact h

theorem Kept.discardPartial (h : Kept s₀ s) : Kept s₀ s.discardPartial := .foldl h fun _ _ k => k.discardCopy.capture

theorem Kept.takeMapUnit (h : Kept s₀ s) : Kept s₀ s.takeMapUnit := .ite h (.ite h.upd h.capture)

theorem Kept.bootPool (h : Kept s₀ s) : Kept s₀ s.bootPool := by
  unfold State.bootPool
  extract_lets
  split
  · exact h.setPool
  · exact .ite h.setPool.capture h.setPool

theorem Kept.startLanding (h : Kept s₀ s) : Kept s₀ s.startLanding := .ite h.upd h

theorem Kept.spendStops (h : Kept s₀ s) : Kept s₀ s.spendStops := h.upd

theorem Kept.recover (h : Kept s₀ s) {lost restored} : Kept s₀ (s.recover lost restored) := by
  unfold State.recover
  extract_lets c n j s1 s2 v s3 s4 s5 s6 s7 s8 ms
  have h2 : Kept s₀ s2 := h.upd.recoverSlices.recoverL4
  have h4 : Kept s₀ s4 := h2.voidOpen.loseBuffered.spendStops.recoverBands.resetOffsets.ageOff
  have h5 : Kept s₀ s5 := .ite h4.addReads h4
  have h8 : Kept s₀ s8 := h5.takeMapUnit.discardPartial.settle.settleRelease.bootPool.fitPages.startLanding
  exact h8.drawFree.capture

/-! ### Machine/Boot.lean -/

theorem Kept.bootStart (h : Kept s₀ s) : Kept s₀ s.bootStart := by
  unfold State.bootStart
  extract_lets sv x pc new x2 l sd s1 s2 s3 s4
  have now : sd.now = s.seed.now := by
    simp only [sd, x2, x, sv]
    split <;> rfl
  have h1 : Kept s₀ s1 := by
    refine h.reshape (fun k => ?_) now
    obtain ⟨macs, nbs, lanes, loops, cars, chans, jobs, moving, groups, sense, -, -, pace⟩ := k
    exact ⟨macs, nbs, lanes, loops, cars, chans, jobs, moving, groups, sense, rfl, rfl, pace⟩
  have h4 : Kept s₀ s4 := .captureLatched (.ite h1.putDoms.capture h1.putDoms)
  clear_value s4 sv
  split
  · exact h4.capture
  · exact h4

theorem Kept.enterHold (h : Kept s₀ s) {step cause} : Kept s₀ (s.enterHold step cause) := h.capture.putDoms.upd

theorem Kept.takeNor (h : Kept s₀ s) {n} : Kept s₀ (s.takeNor n) := by
  unfold State.takeNor
  split
  · exact h
  · exact h.upd

theorem Kept.bootFrom (h : Kept s₀ s) {n f} : Kept s₀ (s.bootFrom n f) := .ite h.upd h.upd.capture

theorem Kept.flushBoot (h : Kept s₀ s) : Kept s₀ s.flushBoot := .foldl h.upd fun _ _ k => k.evWrite

theorem Kept.settleRecord (h : Kept s₀ s) : Kept s₀ s.settleRecord :=
  .ite h.dropStaging.upd.capture (.ite (.capture (.bump (.upd (.dropStaging (.upd (.ite h h.unpin)))))) h)

theorem Kept.takeSettings (h : Kept s₀ s) : Kept s₀ s.takeSettings.2 := by
  unfold State.takeSettings
  split
  · exact h
  · refine .loadSettings ?_
    split
    · exact h.upd.capture
    · exact h.upd

theorem Kept.checkCopy (h : Kept s₀ s) {n} : Kept s₀ (s.checkCopy n).2 := by
  unfold State.checkCopy
  split
  · exact h.capture
  · split
    · exact h
    · exact h.capture

theorem Kept.takeImage (h : Kept s₀ s) : Kept s₀ s.takeImage.2 := by
  unfold State.takeImage
  extract_lets a b s1 pick
  have h1 : Kept s₀ s1 := h.checkCopy.checkCopy
  clear_value pick s1
  split
  · exact h1
  · exact h1.upd

theorem Kept.bootEntry (h : Kept s₀ s) {e} : Kept s₀ (s.bootEntry e) := .ite h.loopWrite (.ite h.setReg h)

theorem Kept.bootRegisters (h : Kept s₀ s) : Kept s₀ s.bootRegisters := by
  refine .foldl h fun _ _ k => ?_
  split
  · exact .foldl k fun _ _ m => m.bootEntry
  · exact k.upd
  · exact k

theorem Kept.bootLoops (h : Kept s₀ s) : Kept s₀ s.bootLoops := by
  unfold State.bootLoops
  extract_lets
  split
  · exact h.upd.startSlot.startSlot
  · exact h.upd.startSlot.startSlot.upd.capture

theorem Kept.bootRemove (h : Kept s₀ s) {c r} : Kept s₀ (s.bootRemove c r).2 := by
  unfold State.bootRemove
  extract_lets sp used s1
  have h1 : Kept s₀ s1 := h.setRank
  clear_value sp s1
  split
  · split
    · exact h1.setRank
    · exact h1
  · exact h1

theorem Kept.applyTable (h : Kept s₀ s) : Kept s₀ s.applyTable := by
  unfold State.applyTable
  extract_lets m t rk ch m2 s1 s2 s3
  have h2 : Kept s₀ s2 := .foldl h.upd fun _ _ k => .ite k k.bootRemove
  have h3 : Kept s₀ s3 := .foldl h2 fun _ _ k => .ite k.setRank k
  exact .ite h3.writeSettings h3

theorem Kept.rankFailed (h : Kept s₀ s) {x} : Kept s₀ (s.rankFailed x) := .ite h h.bootRemove.upd.writeSettings.capture

theorem Kept.bootDram (h : Kept s₀ s) {f} : Kept s₀ (s.bootDram f) := .upd (.foldl h.putDoms.applyTable fun _ _ k => k.rankFailed)

theorem Kept.bootSlot (h : Kept s₀ s) {f k} : Kept s₀ (s.bootSlot f k).2 := by
  unfold State.bootSlot
  split
  · exact h
  · split
    · exact h
    · exact h.capture

theorem Kept.runImage (h : Kept s₀ s) {k b} : Kept s₀ (s.runImage k b) := h.upd

theorem Kept.bootConfirmed (h : Kept s₀ s) {f} : Kept s₀ (s.bootConfirmed f).2 := by
  unfold State.bootConfirmed
  extract_lets k r q
  have h1 : Kept s₀ r.2 := h.bootSlot
  have h2 : Kept s₀ q.2 := h1.bootSlot
  split
  · exact h1.runImage
  · split
    · exact h1
    · split
      · exact h2.runImage.bump.capture
      · exact h2

theorem Kept.bootFirmware (h : Kept s₀ s) {f} : Kept s₀ (s.bootFirmware f).2 := by
  unfold State.bootFirmware
  split
  · exact h.bootConfirmed
  · extract_lets
    split
    · exact h.bootSlot.upd.runImage.bump.capture
    · exact h.bootSlot.upd.dropStaging.capture.bootConfirmed

theorem Kept.bootCores (h : Kept s₀ s) {fail} : Kept s₀ (s.bootCores fail) := .foldl h.upd fun _ _ k => k.capture

theorem Kept.bootPorts (h : Kept s₀ s) : Kept s₀ s.bootPorts := by
  refine h.reshape fun k => ?_
  obtain ⟨-, -, k⟩ := k
  exact ⟨by simp, rfl, k⟩

theorem Kept.bootPower (h : Kept s₀ s) {k f} : Kept s₀ (s.bootPower k f) := h.startSlot.modCarrier.setDom

theorem Kept.bootMember (h : Kept s₀ s) {releasing k} : Kept s₀ (s.bootMember releasing k) := by
  unfold State.bootMember
  split
  · exact h
  · exact .settleCarrier (.foldl (.ite h.bootPower.upd.calibrate.modCarrier h.bootPower.upd.calibrate.modCarrier.writeRec) fun _ _
      k => k.failDie.modDie)

theorem Kept.bootOther (h : Kept s₀ s) {k c} : Kept s₀ (s.bootOther k c) := by
  unfold State.bootOther
  split
  · exact h
  · extract_lets
    split
    · exact h
    · exact h
    · exact h.refuseCarrier
    · exact .ite h.bootPower.identify.openSwitch.setDom.refuseCarrier h.bootPower.identify.modCarrier.capture
    · exact .ite h.capture.bootPower.identify.openSwitch.setDom.refuseCarrier h.capture.bootPower.identify.modCarrier.capture
    · exact h.bootPower.identify.startAdmit

theorem Kept.autoAdmit (h : Kept s₀ s) {k} : Kept s₀ (s.autoAdmit k) := .ite h.startAdmit h

theorem Kept.bootCarriers (h : Kept s₀ s) {releasing} : Kept s₀ (s.bootCarriers releasing) :=
  .upd (.finishAdmit (.foldl (.foldl (.foldl (.foldl h fun _ _ k => .ite k.bootMember k) fun _ _ k => k.loseMember) fun _ _ k =>
      k.bootOther) fun _ _ k => k.autoAdmit))

theorem Kept.fuseOwner (h : Kept s₀ s) : Kept s₀ s.fuseOwner := by
  unfold State.fuseOwner
  extract_lets fu
  split
  · exact h
  · next blank =>
    have fused : Kept s₀ { s with fuses := { fu with ownerKeyHash := some s.cfg.signer } } :=
      h.burn ⟨rfl, rfl, rfl, Nat.le_refl _, fun o => absurd o blank⟩
    exact fused.capture

theorem Kept.settleLoader (h : Kept s₀ s) : Kept s₀ s.settleLoader :=
  .ite h.updateLoader.upd (.ite h.upd.writeLoader.upd (.ite h.writeLoader.upd.capture (.ite h.writeLoader.upd h)))

theorem Kept.bootReady (h : Kept s₀ s) {f unsafe_} : Kept s₀ (s.bootReady f unsafe_) :=
  .trackIdle (.evalTolerance (.upd (.ite h.upd.capture.fuseOwner.settleLoader.startProbation h.upd.capture.fuseOwner.settleLoader)))

theorem Kept.bootRest (h : Kept s₀ s) {f lost restored releasing} : Kept s₀ (s.bootRest f lost restored releasing) :=
  h.burnFuse.putDoms.bootCores.bootPorts.replayMap.bootCarriers.upd.recover.upd.bootReady

theorem Kept.bootLoaded (h : Kept s₀ s) {f lost restored} : Kept s₀ (s.bootLoaded f lost restored) := by
  unfold State.bootLoaded
  extract_lets bad s1 r i s2 b
  have hi : Kept s₀ i.2 := .takeImage (.takeSettings (.settleRecord (.flushBoot (.foldl h fun _ _ k => k.quinceFail))))
  have h2 : Kept s₀ s2 := hi.bootRegisters.bootLoops.bootDram
  have hb : Kept s₀ b.2 := h2.bootFirmware
  exact .ite hi.enterHold (.ite h2.enterHold (.ite hb.bootRest hb.enterHold))

theorem Keeps.coldBoot {f} : Keeps s (execColdBoot f s) := by
  unfold execColdBoot
  refine .ite (.next id) ?_
  extract_lets
  split
  · exact .next fun h => h.bootStart.takeNor.enterHold
  · exact .done fun h => h.bootStart.takeNor.bootFrom.bootLoaded

/-! ### Machine/RomCalls.lean -/

theorem Kept.romEnd (h : Kept s₀ s) {op st c} : Kept s₀ (s.romEnd op st c) := .ite (.ite h.upd.bump h.upd) (.capture (.ite h.upd.bump
    h.upd))

theorem Kept.endErase (h : Kept s₀ s) : Kept s₀ s.endErase := h.upd

theorem Kept.norTouched (h : Kept s₀ s) {n a len} : Kept s₀ (s.norTouched n a len) := h.upd

theorem Keeps.romRead {c} : Keeps s (execRomRead c s) := .ite (.next id) (.next fun h => .romEnd (.ite h.bump h))

theorem Keeps.romProgram {c} : Keeps s (execRomProgram c s) :=
  .ite (.next id) (.next fun h => .romEnd (.ite (.bump (.upd (.ite h.endErase.norTouched h.endErase))) (.ite h.endErase.norTouched
      h.endErase)))

theorem Keeps.romEraseSector {c} : Keeps s (execRomEraseSector c s) :=
  .ite (.next id) (.next fun h => .romEnd (.ite (.bump (.upd (.ite h.endErase.norTouched h.endErase))) (.ite h.endErase.norTouched
      h.endErase)))

end Sys2Proof
end

section
/-! PROOFS. What every command keeps, and the idle step (O6). -/

namespace Sys2Proof

open Sys2Proof.Machine

variable {s : State}

theorem exec_keeps (c : Instr) : Keeps s (exec c s) := by
  cases c with
  | controlRead => exact .controlRead
  | controlWrite => exact .controlWrite
  | registerWrite => exact .registerWrite
  | seedHoursRead => exact .seedHoursRead
  | seedRtcLoWrite => exact .seedRtcLoWrite
  | seedRtcHiWrite => exact .seedRtcHiWrite
  | clrRc => exact .clrRc
  | lapNow => exact .lapNow
  | eolNow => exact .eolNow
  | ceCctSelWrite => exact .ceCctSelWrite
  | chDieSelWrite => exact .chDieSelWrite
  | ldpcFlipArm => exact .ldpcFlipArm
  | pnFlipArm => exact .pnFlipArm
  | pnFlipRun => exact .pnFlipRun
  | qFlipArm => exact .qFlipArm
  | dramFlipArm => exact .dramFlipArm
  | dramFlipRun => exact .dramFlipRun
  | clearRanks => exact .clearRanks
  | clearPages => exact .clearPages
  | portCntClr => exact .portCntClr
  | ceCntClr => exact .ceCntClr
  | chCntClr => exact .chCntClr
  | ldpcCntClr => exact .ldpcCntClr
  | strCntClr => exact .strCntClr
  | cmpCntClr => exact .cmpCntClr
  | pnCntClr => exact .pnCntClr
  | dramCntClr => exact .dramCntClr
  | psCntClr => exact .psCntClr
  | norCntClr => exact .norCntClr
  | fwCntClr => exact .fwCntClr
  | stickyClear => exact .stickyClear
  | mgAuthCommit => exact .mgAuthCommit
  | loopFlagClear => exact .loopFlagClear
  | loopCoeffWrite => exact .loopCoeffWrite
  | loopTargetWrite => exact .loopTargetWrite
  | thOffsetWrite => exact .thOffsetWrite
  | pkgLimitWrite => exact .pkgLimitWrite
  | plimFloorWrite => exact .plimFloorWrite
  | laneEnWrite => exact .laneEnWrite
  | linkFault => exact .linkFault
  | macDown => exact .macDown
  | linkUp => exact .linkUp
  | macUp => exact .macUp
  | pauseFrameReceived => exact .pauseFrameReceived
  | pauseLong => exact .pauseLong
  | arpRequest => exact .arpRequest
  | neighborSolicitation => exact .neighborSolicitation
  | echoRequest => exact .echoRequest
  | ecnCeReceived => exact .ecnCeReceived
  | cnpReceived => exact .cnpReceived
  | tcpEceAck => exact .tcpEceAck
  | rateIncrease => exact .rateIncrease
  | tcpConnectRequest _ _ _ remote => exact .tcpConnectRequest (remote := remote)
  | rdmaConnectRequest => exact .rdmaConnectRequest
  | tlsHandshake => exact .tlsHandshake
  | icreq => exact .icreq
  | capsuleReceived => exact .capsuleReceived
  | capsuleIntakeResume => exact .capsuleIntakeResume
  | h2cDataReceived => exact .h2cDataReceived
  | rdmaReadCompletion => exact .rdmaReadCompletion
  | ringAssociationUp => exact .ringAssociationUp
  | ringRetry => exact .ringRetry
  | ringPeerUnreachable => exact .ringPeerUnreachable
  | ringKeepAliveExpiry => exact .ringKeepAliveExpiry
  | admitCapsule => exact .admitCapsule
  | tokenRefill => exact .tokenRefill
  | releasePass => exact .releasePass
  | orderingPoint => exact .orderingPoint
  | commandComplete => exact .commandComplete
  | holdWarn => exact .holdWarn
  | shadowCheckerFault => exact .shadowCheckerFault
  | ccEnClear => exact .ccEnClear
  | ccEnSet => exact .ccEnSet
  | ccShnTenant => exact .ccShnTenant
  | shutdownAbortTimeout => exact .shutdownAbortTimeout
  | ccShnDevice => exact .ccShnDevice
  | shutdownStopRecord => exact .shutdownStopRecord
  | shutdownResume => exact .shutdownResume
  | keepAliveExpiry => exact .keepAliveExpiry
  | propertyGet => exact .propertyGet
  | propertySet => exact .propertySet
  | connect => exact .connect
  | authenticationSend => exact .authenticationSend
  | authenticationReceive => exact .authenticationReceive
  | flush => exact .flush
  | write => exact .write
  | read => exact .read
  | compare => exact .compare
  | writeZeroes => exact .writeZeroes
  | datasetManagement => exact .datasetManagement
  | verify => exact .verify
  | reservationRegister => exact .reservationRegister
  | reservationReport => exact .reservationReport
  | reservationAcquire => exact .reservationAcquire
  | reservationRelease => exact .reservationRelease
  | copy => exact .copy
  | getLogPage => exact .getLogPage
  | identify => exact .identify
  | abort => exact .abort
  | setFeatures => exact .setFeatures
  | getFeatures => exact .getFeatures
  | asynchronousEventRequest => exact .asynchronousEventRequest
  | namespaceManagement => exact .namespaceManagement
  | namespaceAttachment => exact .namespaceAttachment
  | keepAlive => exact .keepAlive
  | formatNvm => exact .formatNvm
  | sanitize => exact .sanitize
  | sanitizeComplete => exact .sanitizeComplete
  | firmwareImageDownload => exact .firmwareImageDownload
  | firmwareCommit => exact .firmwareCommit
  | firmwareConfirm => exact .firmwareConfirm
  | probationExpiry => exact .probationExpiry
  | firmwareForward => exact .firmwareForward
  | forwardRetry => exact .forwardRetry
  | sliceCreate => exact .sliceCreate
  | sliceDelete => exact .sliceDelete
  | sliceQuiesce => exact .sliceQuiesce
  | sliceQuiesced => exact .sliceQuiesced
  | sliceResume => exact .sliceResume
  | sliceFreeze => exact .sliceFreeze
  | sliceSave => exact .sliceSave
  | sliceRestore => exact .sliceRestore
  | replicationPairing => exact .replicationPairing
  | forwardedChangeReceived => exact .forwardedChangeReceived
  | replicaAck => exact .replicaAck
  | lostUnitReport => exact .lostUnitReport
  | peerRepairComplete => exact .peerRepairComplete
  | replicaDetachReceived => exact .replicaDetachReceived
  | precopyPassComplete => exact .precopyPassComplete
  | migrationDataReceived => exact .migrationDataReceived
  | migrationCommitReceived => exact .migrationCommitReceived
  | migrationCommitAck => exact .migrationCommitAck
  | streamChunkReceived => exact .streamChunkReceived
  | streamRestartRequest => exact .streamRestartRequest
  | apstTransition => exact .apstTransition
  | carrierRelease => exact .carrierRelease
  | carrierAdmit => exact .carrierAdmit
  | reshape => exact .reshape
  | reshapeBandStep => exact .reshapeBandStep
  | applyConfiguration => exact .applyConfiguration
  | configAddressingApply => exact .configAddressingApply
  | eventLogClear => exact .eventLogClear
  | holdUpTest => exact .holdUpTest
  | holdupTestAuto => exact .holdupTestAuto
  | writeBufferAllocate => exact .writeBufferAllocate
  | laneUnitComplete => exact .laneUnitComplete
  | stagingDurable => exact .stagingDurable
  | punnetGrant => exact .punnetGrant
  | punnetRelease => exact .punnetRelease
  | punnetWaitWarn => exact .punnetWaitWarn
  | stripeFlush => exact .stripeFlush
  | stripePadIdle => exact .stripePadIdle
  | l3PadFlush => exact .l3PadFlush
  | memberProgramStatus => exact .memberProgramStatus
  | mapPageWrite => exact .mapPageWrite
  | mapRootWrite => exact .mapRootWrite
  | journalTruncate => exact .journalTruncate
  | pwrFailAssert => exact .pwrFailAssert
  | prsntNDeassert => exact .prsntNDeassert
  | hubLowAssert => exact .hubLowAssert
  | mainRailOutOfRange => exact .mainRailOutOfRange
  | mainRailsInRange => exact .mainRailsInRange
  | sledPresenceAssert => exact .sledPresenceAssert
  | coldBoot => exact .coldBoot
  | romRead => exact .romRead
  | romProgram => exact .romProgram
  | romEraseSector => exact .romEraseSector
  | maintenanceMoveStart => exact .maintenanceMoveStart
  | eraseStart => exact .eraseStart
  | eraseStatus => exact .eraseStatus
  | eraseStarved => exact .eraseStarved
  | eolPrediction => exact .eolPrediction
  | patrolReadComplete => exact .patrolReadComplete
  | patrolLapOverrun => exact .patrolLapOverrun
  | retentionAgeUpdate => exact .retentionAgeUpdate
  | dieReadRequest => exact .dieReadRequest
  | reconWaitExpiry => exact .reconWaitExpiry
  | operationAgePromotion => exact .operationAgePromotion
  | dieOperationStart => exact .dieOperationStart
  | readSenseComplete => exact .readSenseComplete
  | ldpcDecodeComplete => exact .ldpcDecodeComplete
  | reconstructionComplete => exact .reconstructionComplete
  | trackValley => exact .trackValley
  | memberOperationTimeout => exact .memberOperationTimeout
  | dieResetTimeout => exact .dieResetTimeout
  | zqPeriod => exact .zqPeriod
  | carrierTempSample => exact .carrierTempSample
  | carrierSensorTimeout => exact .carrierSensorTimeout
  | i2cStretchTimeout => exact .i2cStretchTimeout
  | carrierDomainWake => exact .carrierDomainWake
  | carrierDomainGate => exact .carrierDomainGate
  | carrierInsert => exact .carrierInsert
  | carrierPowerGood => exact .carrierPowerGood
  | carrierPowerGoodTimeout => exact .carrierPowerGoodTimeout
  | carrierRemove => exact .carrierRemove
  | rebuildDelayExpiry => exact .rebuildDelayExpiry
  | rebuildStart => exact .rebuildStart
  | slowRecovery => exact .slowRecovery
  | slowFail => exact .slowFail
  | quinceDieFailure => exact .quinceDieFailure
  | journalAreaFull => exact .journalAreaFull
  | dramCorrectedError => exact .dramCorrectedError
  | dramUncorrectable => exact .dramUncorrectable
  | punnetUncorrectable => exact .punnetUncorrectable
  | tableCopyError => exact .tableCopyError
  | dramRefresh => exact .dramRefresh
  | dramMr4Poll => exact .dramMr4Poll
  | dramRetrainStep => exact .dramRetrainStep
  | dramScrub => exact .dramScrub
  | dramScrubLapWarn => exact .dramScrubLapWarn
  | sramScrubPass => exact .sramScrubPass
  | quinceRefresh => exact .quinceRefresh
  | powerStateEntry => exact .powerStateEntry
  | toleranceEvaluation => exact .toleranceEvaluation
  | wakeEvent => exact .wakeEvent
  | maintenanceWake => exact .maintenanceWake
  | minuteTick => exact .minuteTick
  | seedHourRollover => exact .seedHourRollover
  | crystalStop => exact .crystalStop
  | crystalRestore => exact .crystalRestore
  | pllLockTimeout => exact .pllLockTimeout
  | loopSample => exact .loopSample
  | followingErrorTimeout => exact .followingErrorTimeout
  | dirtyLimitUpdate => exact .dirtyLimitUpdate
  | thermalSample => exact .thermalSample
  | thermalLimitStep => exact .thermalLimitStep
  | rorStep => exact .rorStep
  | thermalLimitRise => exact .thermalLimitRise
  | overTemperatureTrip => exact .overTemperatureTrip
  | eventCapture => exact .eventCapture
  | journalGroupTimeout => exact .journalGroupTimeout
  | holdupDischargeEnd => exact .holdupDischargeEnd
  | holdupRechargeTimeout => exact .holdupRechargeTimeout
  | rankMigratedToSpare => exact .rankMigratedToSpare
  | keyEraseCompleted => exact .keyEraseCompleted
  | migrationAcceptReceived => exact .migrationAcceptReceived
  | migrationCancelReceived => exact .migrationCancelReceived
  | forwardCompletionReceived => exact .forwardCompletionReceived
  | meteringMsSum => exact .meteringMsSum
  | vddSeedLoss => exact .vddSeedLoss
  | vddSeedReturn => exact .vddSeedReturn
  | transportConnectionClosed => exact .transportConnectionClosed

/-- Settles O6: a command that waits is run and keeps the fixed shape with the rest that `Kept` names; an empty queue lets time pass, which
changes the Seed island and two times alone. -/
theorem everyStepKeepsTheFixedShape : Obligations.EveryStepKeepsTheFixedShape := by
  intro s t h e
  unfold step at e
  split at e
  · next c rest _ =>
    obtain ⟨u, hu, k⟩ := exec_keeps (s := { s with pending := rest }) c
    rw [hu] at e
    cases e
    exact k.shape h
  · cases e
    exact h

end Sys2Proof
end

section
/-! PROOFS. Counter clears (O13). -/

namespace Sys2Proof

open Sys2Proof.Machine

variable {s : State}

/-- The registers set to zero read zero, and every other stored word stays. -/
theorem foldl_setReg_zero (h : Safe s) (base n : Nat) :
    let t := (List.range n).foldl (fun s i => s.setReg (base + 4 * i) 0) s
    t = { s with regs := t.regs } ∧ Safe t ∧ (∀ i, i < n → t.reg (base + 4 * i) = 0) ∧
      ∀ off, (∀ i, i < n → off ≠ base + 4 * i) → t.reg off = s.reg off := by
  induction n with
  | zero => exact ⟨rfl, h, fun i hi => absurd hi (Nat.not_lt_zero i), fun _ _ => rfl⟩
  | succ n ih =>
    obtain ⟨rest, safe, zero, kept⟩ := ih
    simp only [List.range_succ, List.foldl_append, List.foldl_cons, List.foldl_nil] at *
    refine ⟨by rw [rest]; rfl, safe.setReg, fun i hi => ?_, fun off ho => ?_⟩
    · rw [State.reg_setReg safe]
      split
      · rfl
      · exact zero i (by omega)
    · rw [State.reg_setReg_ne _ _ (ho n (Nat.lt_succ_self n))]
      exact kept off fun i hi => ho i (Nat.lt_succ_of_lt hi)

/-- A command that clears counters where bit 0 is 1 (R298) does that alone. -/
theorem clearsCounters {c : Instr} (h : Safe s) {v : Word} {base n : Nat} (e : exec c s = .next (s.clearCounters base n v)) :
    ClearsCounters c s v base n := by
  refine ⟨_, e, ?_⟩
  have bit : v.getLsbD 0 = decide (v.toNat % 2 = 1) := Nat.testBit_zero _
  unfold State.clearCounters
  split
  · next odd =>
    obtain ⟨rest, -, zero, kept⟩ := foldl_setReg_zero h base n
    refine ⟨rest, fun i hi _ => zero i hi, fun off ho => kept off (ho.resolve_left ?_)⟩
    rw [bit, decide_eq_true odd]
    exact Bool.noConfusion
  · next even =>
    refine ⟨rfl, fun i _ hv => ?_, fun _ _ => rfl⟩
    exact absurd (of_decide_eq_true (bit ▸ hv)) even

/-- Settles O13: each of the commands clears the counters of its block. -/
theorem counterClearsZeroTheirBlockAtOnce : Obligations.CounterClearsZeroTheirBlockAtOnce := by
  intro s v h
  exact ⟨fun p hp => clearsCounters h (if_neg (Nat.not_le.mpr hp)), clearsCounters h rfl,
    fun ch hc => clearsCounters h (if_neg (Nat.not_le.mpr hc)), clearsCounters h rfl, clearsCounters h rfl, clearsCounters h rfl,
    clearsCounters h rfl, clearsCounters h rfl, clearsCounters h rfl, clearsCounters h rfl, clearsCounters h rfl⟩

end Sys2Proof
end

section
/-! PROOFS. A MAC that goes down (O33). -/

namespace Sys2Proof

open Sys2Proof.Machine

/-- The MAC that goes down: up, with a fault that has lasted DOWN_HOLD. -/
def failingMac : Mac := { present := true, up := true, fault := true }

/-- An Asynchronous Event Request that waits for a notice. -/
def waitingAer : Cct := { idx := 0, st := .heldResource, slice := 0, queue := 8192, cntl := 1, cap := { opc := 0x0C, cid := 0 } }

/-- MAC 0 is failing, and the link partner of MAC 1 has paused every priority. A connection on each has the number 5, and the dead admin
queue of number 5 has an event request alone left. -/
def sharedNumber : State :=
  { fabric := {
      macs := failingMac :: { present := true, up := true, paused := List.replicate 8 (some 0) } :: List.replicate 6 {}
      conns := [{ id := 5, iface := 0, mac := 1, tcp := true }, { id := 5, iface := 0, mac := 0, tcp := true }] }
    eng := {
      ctrls := [{ id := 1, slice := 0, mac := 1, iface := 0, aers := [0] }]
      queues := [{ idx := 8192, cntl := 1, qid := 0, conn := 5, size := 32, dead := true }]
      cct := [waitingAer] }
    seed := { now := 1000 } }

/-- Whether the entries of a queue are marked for discarding in the state a meaning answers. -/
def discards (q : Nat) : Out → Bool
  | .next t => t.eng.cct.all (fun c => c.queue != q || c.discard)
  | _ => true

/-- Event 0x01 of MAC 0 answers the event request. The first connection of that number, on MAC 1, is paused, so the completion waits in the
table; the dead queue is freed with the entry, before DOWN_HOLD's step looks for queues whose commands to mark. -/
theorem macDown_sharedNumber : discards 8192 (exec (.macDown 0) sharedNumber) = false := by decide +kernel

/-- Refutes O33: in `sharedNumber` the end of DOWN_HOLD leaves an entry of a connection of the MAC whose completion is not discarded. -/
theorem not_linksGoDownAndUpAfterTheirHolds : ¬ Obligations.LinksGoDownAndUpAfterTheirHolds := by
  intro h
  obtain ⟨-, -, down, -⟩ := h sharedNumber 0 failingMac rfl (by unfold Shape; decide) rfl
  obtain ⟨t, ht, -, -, -, -, -, discarded, -⟩ := down rfl rfl (by decide +kernel)
  have all : discards 8192 (exec (.macDown 0) sharedNumber) = true := by
    rw [ht]
    refine List.all_eq_true.mpr fun c hc => ?_
    by_cases hq : c.queue = 8192
    · have onMac := discarded c hc ⟨_, List.mem_singleton_self _, hq.symm, _, List.mem_cons_of_mem _ (List.mem_singleton_self _), rfl, rfl⟩
      simp [onMac]
    · simp [hq]
  rw [macDown_sharedNumber] at all
  cases all

end Sys2Proof
end
section
/-! PROOFS. Connect and the authentication commands (O36). -/

namespace Sys2Proof

open Sys2Proof.Machine

variable {s : State} {c : ConnectReq} {y : Conn} {g : ConnTarget} {k : Ctrl} {n : Nat}

/-- A counter that stays below its limit takes the sum, and no event is recorded (R564). -/
theorem bump_one_below {off : Nat} (h : (s.reg off).toNat < 0xFFFFFFFE) : s.bump off 1 = s.setReg off (s.reg off + 1) := by
  have hmin : min ((s.reg off).toNat + 1) 0xFFFFFFFF = (s.reg off).toNat + 1 := by omega
  have hsum : BitVec.ofNat 32 ((s.reg off).toNat + 1) = s.reg off + 1 := by
    apply BitVec.eq_of_toNat_eq
    simp
  have hfull : ¬ ((s.reg off).toNat + 1 = 0xFFFFFFFF ∧ (s.reg off).toNat ≠ (s.reg off).toNat + 1) := by omega
  simp only [State.bump, hmin, hsum, if_neg hfull]

/-- The state in which a Connect has counted as admitted (R105, R134). -/
def admitted (s : State) : State := s.setReg Reg.CE_CNT_ADMIT (s.reg Reg.CE_CNT_ADMIT + 1)

/-- A Connect refused with a status: on the controller it names, or on none. -/
def refuseConnect (c : ConnectReq) (status : Nat) (s : State) : State :=
  match s.ioCtrl c with
  | none => s.postConnect c status 0
  | some k => s.refuseIo c k status 0

/-- What a Connect to a subsystem that the device has on the connection comes to once it has counted as admitted. -/
def connectTo (c : ConnectReq) (y : Conn) (g : ConnTarget) (s : State) : State :=
  if !s.mayConnect y g then refuseConnect c St.connectInvalidHost s
  else
    match s.authCause y g (authRun y.ring.isSome c.authHash c.authDh c.auth) (c.qid != 0) with
    | some cause => (refuseConnect c St.connectInvalidHost s).authEvent y g cause
    | none => if c.qid = 0 then s.connectAdmin c y g else s.connectIo c g

/-- A Connect that the device takes up goes on to its subsystem (R58, R66). -/
theorem exec_connect (hconn : s.fabric.conns.find? (·.id == c.conn) = some y) (hready : s.glb.state = .ready)
    (hflush : s.store.flush = none) (hic : y.tcp = true → y.icDone = true) (hpaused : s.connPaused y = false)
    (htarget : s.target y c.subnqn = some g) (hroom : (s.reg Reg.CE_CNT_ADMIT).toNat < 0xFFFFFFFE) :
    exec (.connect c) s = .next (connectTo c y g (admitted s)) := by
  have htcp : (y.tcp && !y.icDone) = false := by
    cases ht : y.tcp with
    | false => rfl
    | true => simp [hic ht]
  have ht : (s.setReg Reg.CE_CNT_ADMIT (s.reg Reg.CE_CNT_ADMIT + 1)).target y c.subnqn = some g := htarget
  show execConnect c s = _
  simp only [execConnect, hconn, hready, hflush, htcp, hpaused, bump_one_below hroom, ht]
  cases hmay : (admitted s).mayConnect y g with
  | false =>
    simp only [admitted] at hmay
    simp only [connectTo, admitted, hmay]
    rfl
  | true =>
    simp only [admitted] at hmay
    cases hauth : (admitted s).authCause y g (authRun y.ring.isSome c.authHash c.authDh c.auth) (c.qid != 0) <;>
    · simp only [admitted] at hauth
      simp only [connectTo, admitted, hmay, hauth]
      rfl

theorem connectTo_of_barred {t : State} (h : t.mayConnect y g = false) :
    connectTo c y g t = refuseConnect c St.connectInvalidHost t := by
  simp [connectTo, h]

theorem connectTo_of_unauthenticated {t : State} {cause : Nat} (h : t.mayConnect y g = true)
    (ha : t.authCause y g (authRun y.ring.isSome c.authHash c.authDh c.auth) (c.qid != 0) = some cause) :
    connectTo c y g t = (refuseConnect c St.connectInvalidHost t).authEvent y g cause := by
  simp [connectTo, h, ha]

theorem connectTo_of_authenticated {t : State} (h : t.mayConnect y g = true)
    (ha : t.authCause y g (authRun y.ring.isSome c.authHash c.authDh c.auth) (c.qid != 0) = none) :
    connectTo c y g t = if c.qid = 0 then t.connectAdmin c y g else t.connectIo c g := by
  simp [connectTo, h, ha]

/-- The controller that an admin Connect to a slice creates (R66, R138). -/
def newCtrl (s : State) (c : ConnectReq) (y : Conn) (n kato : Nat) : Ctrl :=
  let k : Ctrl :=
    { id := c.newCntlid, slice := n, mac := y.mac, iface := y.iface, hostNqn := c.hostNqn, hostId := c.hostId, kato := kato,
      kaAt := s.seed.now, tUnder := if s.fuses.grade = 2 then 248 else 263 }
  { k with warn := s.critWarn k }

/-- The device with a new controller and its admin queue (R66). -/
def withCtrl (c : ConnectReq) (k : Ctrl) (s : State) : State :=
  { s with eng := { s.eng with ctrls := s.eng.ctrls ++ [k], queues := s.eng.queues ++ [connQueue c k.id] } }

/-- An admin Connect that meets the rules of R66, to a slice, creates its controller. -/
theorem connectAdmin_slice {kato : Nat} (hkato : katoOf c.kato = some kato) (hsize : sizeOk (.slice n) false c.sqsize = true)
    (hroom : s.ctrlRoom (.slice n) = true) (hlo : 1 ≤ c.newCntlid) (hhi : c.newCntlid ≤ 0x800) (hctrl : s.ctrl c.newCntlid = none)
    (hqueue : s.queueFree (.slice n) false c.newQueue = true) :
    s.connectAdmin c y (.slice n) =
      ((withCtrl c (newCtrl s c y n kato) s).postConnect c St.ok (BitVec.ofNat 32 c.newCntlid)).evalTolerance := by
  simp [State.connectAdmin, hkato, hsize, hroom, hlo, hhi, hctrl, hqueue, withCtrl, newCtrl, ConnTarget.num]
  rfl

theorem ctrl_withCtrl (h : s.ctrl k.id = none) : (withCtrl c k s).ctrl k.id = some k := by
  simp only [State.ctrl] at h
  simp [State.ctrl, withCtrl, List.find?_append, h]

theorem queue_withCtrl (h : s.queue c.newQueue = none) : (withCtrl c k s).queue c.newQueue = some (connQueue c k.id) := by
  simp only [State.queue] at h
  simp [State.queue, withCtrl, List.find?_append, h, connQueue]

/-- An I/O Connect that meets the rules of R67, to a tenant slice, creates a queue. -/
theorem connectIo_slice {x : SliceS} (hn : n ≠ 0) (hjoins : s.joins (.slice n) c = some k) (hslice : s.slice n = some x)
    (hqid : s.eng.queues.any (fun q => q.cntl == k.id && q.qid == c.qid) = false)
    (hmost : (s.eng.queues.filter (fun q => q.cntl == k.id && q.qid != 0)).length < 128)
    (hsize : sizeOk (.slice n) true c.sqsize = true) (hpairs : s.usedPairs x.num < x.desc.qpairs)
    (hqueue : s.queueFree (.slice n) true c.newQueue = true) :
    s.connectIo c (.slice n) =
      ({ s with eng := { s.eng with queues := s.eng.queues ++ [connQueue c k.id] } } : State).postConnect c St.ok
        (BitVec.ofNat 32 k.id) := by
  have hmine : (s.eng.queues.filter (fun q => q.cntl == k.id && q.qid != 0)).any (·.qid == c.qid) = false := by
    simp only [List.any_eq_false, List.mem_filter] at hqid ⊢
    rintro q ⟨hq, hown⟩ hsame
    exact hqid q hq (by simp_all)
  have hslice0 : (ConnTarget.slice n == .slice 0) = false := by simp [hn]
  simp [State.connectIo, hjoins, hslice, hmine, hslice0, hsize, hqueue, Nat.not_le.2 hmost, Nat.not_le.2 hpairs]

/-- An exchange that did not fail leaves the association as it is (R123). -/
theorem exec_authenticationSend {e hash dh : Nat} {x : Cct} {o : AuthOutcome} (he : s.entry e = some x) (hk : s.ctrl x.cntl = some k)
    (hst : x.st = .dispatched) (hopc : x.cap.opc = 0x7F) (hfab : x.cap.fabrics = 5)
    (hrun : authRun k.ring.isSome hash dh o ≠ .failed) :
    exec (.authenticationSend e ⟨hash, dh, o⟩) s = .next (s.finish e St.ok 0 .none).smartCheck := by
  have hid : x.idx = e := by simpa using List.find?_some he
  have hok : (authRun k.ring.isSome hash dh o == .failed) = false := by simpa using hrun
  show execAuthenticationSend e ⟨hash, dh, o⟩ s = _
  simp only [execAuthenticationSend, State.authCmd, he, hk, hst, hopc, hfab, State.reply, State.answer, hid, hok]
  cases ((s.finish e St.ok 0 .none).queue x.queue).bind
    (fun q => (s.finish e St.ok 0 .none).fabric.conns.find? (·.id == q.conn)) <;> rfl

theorem exec_authenticationReceive {e : Nat} {x : Cct} (he : s.entry e = some x) (hk : s.ctrl x.cntl = some k)
    (hst : x.st = .dispatched) (hopc : x.cap.opc = 0x7F) (hfab : x.cap.fabrics = 6) :
    exec (.authenticationReceive e) s = .next (s.finish e St.ok 0 (.page 0 x.cap.dw11.toNat [])) := by
  show execAuthenticationReceive e s = _
  simp [execAuthenticationReceive, State.authCmd, he, hk, hst, hopc, hfab]

/-- Settles O36: a Connect that is admitted goes on to its subsystem (`exec_connect`), which bars it, misses its authentication, or
creates the controller or the queue. -/
theorem connectCreatesControllersAndQueues : Obligations.ConnectCreatesControllersAndQueues := by
  unfold Obligations.ConnectCreatesControllersAndQueues
  rintro s c y g hconn hready hflush hic hpaused htarget hroom u a rfl rfl
  have hexec := exec_connect hconn hready hflush hic hpaused htarget hroom
  refine ⟨fun hbar => ?_, ?_, ?_, ?_, fun e x k he hk hst hopc => ⟨fun hfab hash dh o hrun => ?_, fun hfab => ?_⟩⟩
  · rw [hexec, connectTo_of_barred (t := admitted s) hbar]
    rfl
  · rintro n cause rfl hmay hcause
    rw [hexec, connectTo_of_unauthenticated (t := admitted s) (g := .slice n) hmay hcause]
    rfl
  · rintro n kato rfl hmay hauth hqid hkato hsize hctrlRoom hlo hhi hctrl hqueue
    have hnone : s.queue c.newQueue = none := Option.isNone_iff_eq_none.1 (Bool.and_eq_true_iff.1 hqueue).1
    refine ⟨_, hexec, ?_⟩
    rw [connectTo_of_authenticated (t := admitted s) (g := .slice n) hmay hauth, if_pos hqid,
      connectAdmin_slice (s := admitted s) hkato hsize hctrlRoom hlo hhi hctrl hqueue]
    exact ⟨⟨_, ctrl_withCtrl (s := admitted s) (c := c) (k := newCtrl (admitted s) c y n kato) hctrl, rfl, rfl, rfl, rfl, rfl, rfl, rfl⟩,
      queue_withCtrl (s := admitted s) hnone, rfl, rfl⟩
  · rintro n k x rfl hn hmay hauth hqid hjoins hslice hany hmost hsize hpairs hqueue
    rw [hexec, connectTo_of_authenticated (t := admitted s) (g := .slice n) hmay hauth, if_neg hqid,
      connectIo_slice (s := admitted s) hn hjoins hslice hany hmost hsize hpairs hqueue]
    rfl
  · exact exec_authenticationSend he hk hst hopc hfab hrun
  · exact exec_authenticationReceive he hk hst hopc hfab

end Sys2Proof
end
section
/-! PROOFS. Address resolution, echoes and rate control (O34). -/

namespace Sys2Proof

open Sys2Proof.Machine

variable {s t : State} {fl i : Nat} {f : Flow} {x : Iface} {tag : Option Nat}

/-! ### What counting leaves -/

theorem Aside.flow (h : Aside s t) (fl : Nat) : t.flow fl = s.flow fl := by
  unfold State.flow
  rw [h.recorded.fabric]

/-- The capture that a full counter asks for leaves the words outside the sticky status (R564). -/
theorem bump_reg {off n o : Nat} (ho : o < Reg.STICKY ∨ Reg.STICKY + 144 ≤ o) :
    (s.bump off n).reg o = (s.setReg off (BitVec.ofNat 32 (min ((s.reg off).toNat + n) 0xFFFFFFFF))).reg o := by
  simp only [State.bump]
  split
  · exact (aside_capture ..).regs o ho
  · rfl

theorem bump_reg_ne {off n o : Nat} (ho : o < Reg.STICKY ∨ Reg.STICKY + 144 ≤ o) (hne : o ≠ off) : (s.bump off n).reg o = s.reg o := by
  rw [bump_reg ho, State.reg_setReg_ne _ _ hne]

theorem bump_reg_self (h : Safe s) {off n : Nat} (ho : off < Reg.STICKY ∨ Reg.STICKY + 144 ≤ off) :
    ((s.bump off n).reg off).toNat = min ((s.reg off).toNat + n) 0xFFFFFFFF := by
  rw [bump_reg ho, State.reg_setReg h, if_pos rfl, BitVec.toNat_ofNat, Nat.mod_eq_of_lt (by omega)]

/-- The registers of the ports lie above the sticky words. -/
theorem portReg_above {p off : Nat} (h : Reg.STICKY + 144 ≤ off) : portReg p off < Reg.STICKY ∨ Reg.STICKY + 144 ≤ portReg p off := by
  unfold portReg
  omega

/-- Counting in one register of a port leaves the fields of another (R82, R83). -/
theorem portFld_bump {mac off cnt n hi lo : Nat} (h : Reg.STICKY + 144 ≤ off) (hne : off ≠ cnt) :
    (s.bump (portReg (macPort mac) cnt) n).portFld mac off hi lo = s.portFld mac off hi lo := by
  unfold State.portFld State.fld
  rw [bump_reg_ne (portReg_above h) (by unfold portReg; omega)]

/-! ### Addresses -/

theorem ifaceIn_of_tag (hx : s.liveIface i = some x) : s.ifaceIn i tag = if tagOk x tag then some x else none := by
  unfold State.ifaceIn
  rw [hx]
  rfl

/-- An echo request that the device takes is answered in frames within the MTU (R51, R54). -/
theorem exec_echoRequest {len : Nat} {v6 : Bool} (hx : s.ifaceIn i tag = some x) (h6 : v6 = true → x.ip6 ≠ []) (hlen : len ≤ 9000) :
    exec (.echoRequest ⟨i, tag⟩ ⟨len, v6⟩) s =
      .next ((s.frameIn x).send (.echoReply i len (framesOf x.mtu len v6))).smartCheck := by
  have hno6 : (v6 && x.ip6.isEmpty) = false := by
    cases v6 with
    | false => rfl
    | true => simpa using h6 rfl
  have hfits : ¬ maxPayload < len := by
    unfold maxPayload
    omega
  show execEchoRequest ⟨i, tag⟩ ⟨len, v6⟩ s = _
  simp [execEchoRequest, hx, hno6, hfits, State.done]

/-! ### Rate control -/

theorem flow_id (h : s.flow fl = some f) : f.id = fl := by simpa using List.find?_some h

/-- The flow that was changed, where the change keeps its number. -/
theorem flow_modFlow {g : Flow → Flow} (h : s.flow fl = some f) (hg : ∀ y, (g y).id = y.id) : (s.modFlow fl g).flow fl = some (g f) := by
  unfold State.flow at h ⊢
  simp [State.modFlow, modFirst_find?_self, hg, h]

/-- A flow after the rate rule: as it was with DEC 0 or within DEC_GAP, else at the decreased rate (R60, R82). -/
def slowed (s : State) (f : Flow) : Flow :=
  if s.portFld f.mac Reg.RC_CFG0 31 24 = 0 ∨ s.gapOk f.lastDec (s.portFld f.mac Reg.RC_CFG0 15 8) = false then f
  else { f with rc := s.rcDown f, lastDec := some s.seed.now }

/-- The rate rule changes the flow alone. -/
theorem flow_decrease (h : s.flow fl = some f) : (s.decrease f).flow fl = some (slowed s f) := by
  obtain rfl := flow_id h
  unfold State.decrease slowed
  by_cases hheld : s.portFld f.mac Reg.RC_CFG0 31 24 = 0 ∨ s.gapOk f.lastDec (s.portFld f.mac Reg.RC_CFG0 15 8) = false
  · rw [if_pos (by simpa using hheld), if_pos hheld, h]
  · rw [if_neg (by simpa using hheld), if_neg hheld]
    exact flow_modFlow h fun _ => rfl

theorem gapOk_of_seed (h : t.seed = s.seed) {at_ : Option Nat} {us : Nat} : t.gapOk at_ us = s.gapOk at_ us := by
  unfold State.gapOk State.since
  rw [h]

/-- Counting a CNP leaves what the rate rule looks at (R82, R83). -/
theorem slowed_bump {n : Nat} : slowed (s.bump (portReg (macPort f.mac) Reg.PORT_CNT_CNP_RX) n) f = slowed s f := by
  have h0 {hi lo : Nat} := portFld_bump (s := s) (mac := f.mac) (off := Reg.RC_CFG0) (cnt := Reg.PORT_CNT_CNP_RX) (n := n) (hi := hi)
    (lo := lo) (by decide) (by decide)
  have h1 {hi lo : Nat} := portFld_bump (s := s) (mac := f.mac) (off := Reg.RC_CFG1) (cnt := Reg.PORT_CNT_CNP_RX) (n := n) (hi := hi)
    (lo := lo) (by decide) (by decide)
  apply if_congr _ rfl
  · simp only [State.rcDown, State.rcRmin, h0, h1, (recorded_bump ..).seed]
  · rw [h0, h0, gapOk_of_seed (recorded_bump ..).seed]

theorem decrease_rest (s : State) (f : Flow) :
    s.decrease f = { s with fabric := { s.fabric with flows := (s.decrease f).fabric.flows } } := by
  unfold State.decrease
  split <;> rfl

/-- The window a flow falls to: half of what is in flight, which is a free value, or two segments (R61). -/
def cutTo (s : State) (f : Flow) : Nat := max (min f.cwnd s.drawFree.1.toNat / 2) (2 * s.smss f.id)

/-- The size of a segment depends on the connections and interfaces alone (R51). -/
theorem cutTo_decrease (s : State) (f : Flow) : cutTo (s.decrease f) f = cutTo s f := by
  rw [decrease_rest]
  rfl

theorem cutTo_bounds (hf : s.flow fl = some f) : 2 * s.smss fl ≤ cutTo s f ∧ cutTo s f ≤ max (f.cwnd / 2) (2 * s.smss fl) := by
  obtain rfl := flow_id hf
  unfold cutTo
  omega

/-- Both rules of an ACK with ECE on the flow: the rate, then the window (R60, R61). -/
theorem flow_cutWindow_decrease (h : s.flow fl = some f) : ((s.decrease f).cutWindow f).flow fl =
    some { slowed s f with cwnd := cutTo s f, ssthresh := some (cutTo s f) } := by
  obtain rfl := flow_id h
  rw [← cutTo_decrease]
  exact flow_modFlow (s := (s.decrease f).drawFree.2) (flow_decrease h) fun _ => rfl

theorem cutWindow_decrease_rest (s : State) (f : Flow) : (s.decrease f).cutWindow f =
    { s with fabric := { s.fabric with flows := ((s.decrease f).cutWindow f).fabric.flows }, free := s.free + 1 } := by
  rw [decrease_rest]
  rfl

theorem exec_tcpEceAck {y : Conn} (h : s.flow fl = some f) (htcp : f.tcp = true) (hy : s.fabric.conns.find? (·.id == fl) = some y)
    (hecn : y.ecn = true) : exec (.tcpEceAck fl) s = .next ((s.decrease f).cutWindow f) := by
  show execTcpEceAck fl s = _
  simp [execTcpEceAck, h, htcp, hy, hecn]

/-- Settles O34: the answers are `exec_echoRequest` and the model's own branches, the counts `bump_reg_self`, and the rates
`flow_decrease`. -/
theorem addressesAreAnsweredAndRatesFollowCongestion : Obligations.AddressesAreAnsweredAndRatesFollowCongestion := by
  unfold Obligations.AddressesAreAnsweredAndRatesFollowCongestion
  intro s hsafe _
  refine ⟨fun i tag x hx => ⟨fun htag => ?_, fun htag => ?_⟩, fun fl f hf htcp => ⟨fun hgap => ?_, fun hgap => ?_, ?_⟩,
    fun fl f y hf htcp hy => ⟨fun hecn => ?_, fun hecn => ?_⟩, fun fl f hf hdec hinc => ?_⟩
  · have hin : s.ifaceIn i tag = none := by simp [ifaceIn_of_tag hx, htag]
    intro ip ip6 len v6
    refine ⟨?_, ?_, ?_⟩
    · show execArpRequest ⟨i, tag⟩ ip s = _
      simp [execArpRequest, hin]
    · show execNeighborSolicitation ⟨i, tag⟩ ip6 s = _
      simp [execNeighborSolicitation, hin]
    · show execEchoRequest ⟨i, tag⟩ ⟨len, v6⟩ s = _
      simp [execEchoRequest, hin]
  · have hin : s.ifaceIn i tag = some x := by simp [ifaceIn_of_tag hx, htag]
    refine ⟨fun ip => ?_, fun ip => ?_, fun len v6 h6 hlen => ⟨fun hawake => ?_, fun hasleep => ?_⟩⟩
    · show execArpRequest ⟨i, tag⟩ ip s = _
      simp [execArpRequest, hin]
    · show execNeighborSolicitation ⟨i, tag⟩ ip s = _
      simp [execNeighborSolicitation, hin]
    · rw [exec_echoRequest hin h6 hlen, frameIn_awake x hawake]
    · refine ⟨_, exec_echoRequest hin h6 hlen, ?_, ?_⟩
      · rw [(aside_smartCheck _).recorded.power]
        exact (frameIn_asleep x hasleep).1
      · rw [(aside_smartCheck _).recorded.fabric]
        exact mem_sent_send ..
  · show execEcnCeReceived fl s = _
    simp [execEcnCeReceived, hf, hgap]
  · refine ⟨(((s.modFlow fl (fun f => { f with lastCnp := some s.seed.now })).send (.cnp fl)).bump
      (portReg (macPort f.mac) Reg.PORT_CNT_CNP_TX) 1).smartCheck, ?_, ?_, ?_, ?_⟩
    · show execEcnCeReceived fl s = _
      simp [execEcnCeReceived, hf, htcp, hgap, State.done]
    · rw [(aside_smartCheck _).flow, State.flow, (recorded_bump ..).fabric]
      exact flow_modFlow hf fun _ => rfl
    · rw [(aside_smartCheck _).recorded.fabric, (recorded_bump ..).fabric]
      rfl
    · rw [State.reg, smartCheck_regs]
      exact bump_reg_self (s := (s.modFlow fl _).send _) hsafe (portReg_above (by decide))
  · refine ⟨((s.bump (portReg (macPort f.mac) Reg.PORT_CNT_CNP_RX) 1).decrease f).smartCheck, ?_, ?_, ?_⟩
    · show execCnpReceived fl s = _
      simp [execCnpReceived, hf, htcp, State.done]
    · rw [State.reg, smartCheck_regs, decrease_rest]
      exact bump_reg_self hsafe (portReg_above (by decide))
    · have hcount : (s.bump (portReg (macPort f.mac) Reg.PORT_CNT_CNP_RX) 1).flow fl = some f := by
        rw [State.flow, (recorded_bump ..).fabric]
        exact hf
      rw [(aside_smartCheck _).flow, flow_decrease hcount, slowed_bump]
      rfl
  · refine ⟨_, exec_tcpEceAck hf htcp hy hecn, cutTo s f, (cutTo_bounds hf).1, (cutTo_bounds hf).2, ?_, ?_⟩
    · rw [flow_cutWindow_decrease hf, slowed]
      split <;> rfl
    · rw [cutWindow_decrease_rest]
  · show execTcpEceAck fl s = _
    simp [execTcpEceAck, hf, hy, hecn]
  · show execRateIncrease fl s = _
    simp [execRateIncrease, hf, hdec, Nat.not_lt.2 hinc]

end Sys2Proof
end
section
/-! PROOFS. What the staging and forwarding of units keep (O38, O51). -/

namespace Sys2Proof

open Sys2Proof.Machine

variable {s t u : State} {P : State → Prop}

/-- Kept too where the command engine and the slices change, frames are sent, and jobs end. -/
structure KeptByForwarding (P : State → Prop) : Prop extends KeptByWritePath P where
  eng : ∀ {t : State} (x : Engine), P t → P { t with eng := x }
  slices : ∀ {t : State} (x : Slices), P t → P { t with slices := x }
  sent : ∀ {t : State} (l : List Sent), P t → P { t with fabric := { t.fabric with sent := l } }
  drop : ∀ {t : State} (q : UnitJob → Bool), P t → P { t with store := { t.store with jobs := t.store.jobs.filter q } }

namespace KeptByForwarding

theorem send (k : KeptByForwarding P) {x : Sent} (h : P s) : P (s.send x) := k.sent _ h

theorem sendAll (k : KeptByForwarding P) {sl : Nat} {l : List PeerChange} (h : P s) : P (s.sendAll sl l) :=
  foldl_keeps P _ _ s h fun _ _ _ hx => k.send hx

theorem modEntry (k : KeptByForwarding P) {e : Nat} {f : Cct → Cct} (h : P s) : P (s.modEntry e f) := k.eng _ h

theorem modSlice (k : KeptByForwarding P) {n : Nat} {f : SliceS → SliceS} (h : P s) : P (s.modSlice n f) := k.slices _ h

/-- Freeing an entry takes what it holds with it (R94, R185). -/
theorem freeEntry (k : KeptByForwarding P) {x : Cct} (h : P s) : P (s.freeEntry x) :=
  let u := s.freeEntry x
  k.upkeep u.upkeep (k.mem u.mem (k.buf u.store.buf (k.drop (·.entry != some x.idx) (k.eng u.eng h))))

theorem peerFree (k : KeptByForwarding P) {e : Nat} (h : P s) : P (s.peerFree e) := by
  unfold State.peerFree
  split
  · exact h
  · exact k.freeEntry h

theorem smartCheck (k : KeptByForwarding P) (h : P s) : P s.smartCheck := k.toKeptByRecorder.smartCheck (fun _ _ hx => k.eng _ hx) h

/-! ### Forwarding (R156, R157) -/

theorem sendRun (k : KeptByForwarding P) {sl : Nat} {r : Nat × Nat × Nat × Option Nat} (h : P s) : P (s.sendRun sl r) := by
  unfold State.sendRun
  refine k.modSlice ?_
  split
  · exact k.modEntry (k.send h)
  · exact k.modSlice (k.send h)

theorem sendOrQueue (k : KeptByForwarding P) {sl : Nat} {r : Nat × Nat × Nat × Option Nat} (h : P s) : P (s.sendOrQueue sl r) := by
  unfold State.sendOrQueue
  split
  · exact h
  · exact ite_keeps P (k.modSlice h) (k.sendRun h)

theorem waitPeer (k : KeptByForwarding P) {e : Option Nat} (h : P s) : P (s.waitPeer e) := by
  cases e with
  | none => exact h
  | some i => exact k.modEntry h

theorem setResync (k : KeptByForwarding P) {sl : Nat} {l : List (Nat × Nat)} (h : P s) : P (s.setResync sl l) := k.modSlice (k.journal _ rfl h)

theorem markRun (k : KeptByForwarding P) {sl ns mu n : Nat} (h : P s) : P (s.markRun sl ns mu n) := by
  unfold State.markRun
  split
  · exact h
  · exact k.setResync h

theorem forward (k : KeptByForwarding P) {sl : Nat} {r : Nat × Nat × Nat × Option Nat} (h : P s) : P (s.forward sl r) := by
  unfold State.forward
  split
  · exact h
  · refine ite_keeps P h ?_
    split
    · exact k.waitPeer (k.sendOrQueue h)
    · exact k.waitPeer (k.sendOrQueue h)
    · exact k.markRun h
    · exact k.waitPeer (k.modSlice h)
    · exact h

/-! ### Chains (R384, R386) -/

/-- A request for punnets that neither a job nor a command makes. -/
theorem requestPun (k : KeptByForwarding P) {cls n : Nat} (h : P s) : P (s.requestPun cls n none none) :=
  ite_keeps P h (ite_keeps P (k.mem _ h) (k.count (.inr (by decide)) (k.mem _ h)))

theorem shareChain (k : KeptByForwarding P) {cls : Nat} {l : List Nat} (h : P s) : P (s.shareChain cls l) := k.requestPun (k.mem _ h)

/-! ### Staging (R194) -/

theorem writeDone (k : KeptByForwarding P) {e : Nat} (h : P s) : P (s.writeDone e) := by
  unfold State.writeDone
  split
  · exact h
  · exact ite_keeps P (k.modEntry h) h

theorem countStored (k : KeptByForwarding P) {sl n : Nat} {e : Option Nat} (h : P s) : P (s.countStored sl e n) := by
  cases e with
  | none => exact k.modSlice h
  | some i => exact k.modEntry h

end KeptByForwarding

/-! ### Properties that are kept -/

/-- The map stays as it is. -/
theorem keptByForwarding_map {m : List MapCell} : KeptByForwarding (·.store.map = m) where
  toKeptByWritePath := keptByWritePath_map
  eng := fun _ h => h
  slices := fun _ h => h
  sent := fun _ h => h
  drop := fun _ h => h

/-- The jobs of map units are among those of `l`: none is added. -/
def JobsIn (l : List UnitJob) (t : State) : Prop := t.store.jobs ⊆ l

namespace JobsIn

variable {l : List UnitJob}

theorem of_jobs (h : JobsIn l s) (e : t.store.jobs = s.store.jobs) : JobsIn l t := by
  unfold JobsIn
  rw [e]
  exact h

theorem drop (h : JobsIn l s) (q : UnitJob → Bool) : JobsIn l { s with store := { s.store with jobs := s.store.jobs.filter q } } :=
  fun _ hj => h (List.mem_of_mem_filter hj)

theorem freeEntry {x : Cct} (h : JobsIn l s) : JobsIn l (s.freeEntry x) := h.drop (·.entry != some x.idx)

theorem sendCqe {x : Cct} {st : Nat} {r : Word} (h : JobsIn l s) : JobsIn l (s.sendCqe x st r) :=
  ite_keeps (JobsIn l) h.freeEntry (ite_keeps (JobsIn l) h.freeEntry (freeEntry (s := s.postCqe x st r) h))

theorem post {x : Cct} {st : Nat} {r : Word} (h : JobsIn l s) : JobsIn l (s.post x st r) := by
  obtain ⟨y, hm, hy⟩ := post_eq s x st r
  rw [hy]
  exact (h.of_jobs (congrArg (·.store.jobs) hm.rest)).sendCqe

theorem reportNotice {c : Nat} (h : JobsIn l s) : JobsIn l (s.reportNotice c) := by
  unfold State.reportNotice
  split
  · exact h
  · split
    · split
      · exact h
      · exact post (s := State.modCtrl _ _ s) h
    · exact h

end JobsIn

theorem keptByForwarding_jobsIn {l : List UnitJob} : KeptByForwarding (JobsIn l) where
  sticky := fun _ _ h => h
  events := fun _ h => h
  prob := fun _ h => h
  notify := fun _ _ h => ite_keeps (JobsIn l) h (JobsIn.reportNotice (s := State.modCtrl _ _ _) h)
  reg := fun _ _ _ h => h
  journal := fun _ _ h => h
  upkeep := fun _ h => h
  mem := fun _ h => h
  buf := fun _ h => h
  again := fun _ h => h
  opened := fun _ h => h
  grown := fun _ _ _ _ h => h
  array := fun _ h => h
  pslc := fun _ h => h
  flash := fun _ h => h
  ended := fun _ h => h
  power := fun _ h => h
  loops := fun _ h => h
  fw := fun _ h => h
  eng := fun _ h => h
  slices := fun _ h => h
  sent := fun _ h => h
  drop := fun q h => h.drop q

end Sys2Proof
end
section
/-! PROOFS. Units whose staging record is durable (O51): the map names them at their buffer offsets, and their jobs end. -/

namespace Sys2Proof

open Sys2Proof.Machine

variable {s t u : State} {P : State → Prop} {id : Nat} {j z : UnitJob} {x : Extent}

/-! ### The run a record takes (R209) -/

/-- The units of a run are consecutive ones of the job's namespace. -/
theorem runFrom_unit {n i : Nat} (h : (s.runFrom j n)[i]? = some z) : z.slice = j.slice ∧ z.nsid = j.nsid ∧ z.mu = j.mu + i := by
  induction n generalizing i j with
  | zero =>
    obtain ⟨rfl, rfl⟩ : i = 0 ∧ j = z := by
      rw [State.runFrom, List.getElem?_singleton] at h
      split at h
      · next h0 => exact ⟨h0, Option.some.inj h⟩
      · cases h
    exact ⟨rfl, rfl, rfl⟩
  | succ n ih =>
    rw [State.runFrom] at h
    split at h
    · obtain ⟨rfl, rfl⟩ : i = 0 ∧ j = z := by
        rw [List.getElem?_singleton] at h
        split at h
        · next h0 => exact ⟨h0, Option.some.inj h⟩
        · cases h
      exact ⟨rfl, rfl, rfl⟩
    · next y hy =>
      cases i with
      | zero =>
        obtain rfl : j = z := Option.some.inj h
        exact ⟨rfl, rfl, rfl⟩
      | succ i =>
        have next_ := List.find?_some hy
        simp only [Bool.and_eq_true, beq_iff_eq] at next_
        obtain ⟨⟨⟨⟨⟨⟨-, hsl⟩, hns⟩, hmu⟩, -⟩, -⟩, -⟩ := next_
        obtain ⟨h1, h2, h3⟩ := ih h
        exact ⟨h1.trans hsl, h2.trans hns, by omega⟩

theorem runFrom_head (s : State) (j : UnitJob) (n : Nat) : (s.runFrom j n)[0]? = some j := by
  cases n with
  | zero => rfl
  | succ n =>
    rw [State.runFrom]
    split <;> rfl

/-! ### The map takes the run (R187, R209) -/

/-- Entries staged one after the other, for consecutive units. -/
theorem entryAt_stageEntries (s : State) (sl ns first : Nat) (es : List MapEntry) (off : Nat → Nat) (n i : Nat) :
    ((List.range n).foldl (fun s i => (s.stageEntry sl ns (first + i) (es.getD i {})).fillToStaged (off i)) s).entryAt sl ns (first + i) =
      if i < n then es.getD i {} else s.entryAt sl ns (first + i) := by
  induction n with
  | zero => simp
  | succ n ih =>
    rw [List.range_succ, List.foldl_append, List.foldl_cons, List.foldl_nil]
    refine (entryAt_stageEntry ..).trans ?_
    rw [ih]
    by_cases h : i = n
    · subst h
      simp
    · have apart : ¬ (sl = sl ∧ ns = ns ∧ first + i = first + n) := by omega
      have order : i < n + 1 ↔ i < n := by omega
      rw [if_neg apart]
      simp only [order]

/-- Each unit of a run is named at its buffer offset, compressed or raw as its extent is. -/
theorem entryAt_stageRun {sl ns first : Nat} {l : List (Nat × Extent × List Nat)} {entry : Option Nat} {i off : Nat} {x : Extent}
    {w : List Nat} (hi : l[i]? = some (off, x, w)) :
    ((s.stageRun sl ns first l entry).entryAt sl ns (first + i)).loc = .buffered off ∧
      ((s.stageRun sl ns first l entry).entryAt sl ns (first + i)).comp = x.compressed := by
  obtain ⟨hlt, hget⟩ := List.getElem?_eq_some_iff.mp hi
  unfold State.stageRun
  dsimp only
  rw [entryAt_stageEntries, if_pos hlt]
  simp [hlt, hget]

/-! ### What follows for each unit (R156, R167, R386) -/

/-- A staged unit shares its chain where it is forwarded, and its bytes are counted. -/
def countUnit (j : UnitJob) (s : State) : State :=
  let s := if s.forwards j.slice then s.shareChain 6 j.chain else s
  s.countStored j.slice (if j.peer then none else j.entry) (j.x.elim 0 extBytes)

/-- A unit whose job has ended is marked and forwarded, and a peer's is acknowledged. -/
def passOn (j : UnitJob) (s : State) : State :=
  let s := (s.markMig j.slice j.nsid j.mu).forward j.slice (j.nsid, j.mu, 1, j.entry)
  if j.peer then (s.send (.peerAck j.slice)).peerFree (j.entry.getD 0) else s

theorem unitStaged_eq (j : UnitJob) (s : State) : s.unitStaged j = passOn j ((countUnit j s).dropJob j.id) := rfl

namespace KeptByForwarding

theorem countUnit (k : KeptByForwarding P) (h : P s) : P (countUnit j s) := k.countStored (ite_keeps P (k.shareChain h) h)

theorem passOn (k : KeptByForwarding P) (h : P s) : P (passOn j s) := by
  have marked : P (s.markMig j.slice j.nsid j.mu) := k.modSlice h
  have forwarded := k.forward (sl := j.slice) (r := (j.nsid, j.mu, 1, j.entry)) marked
  exact ite_keeps P (k.peerFree (k.send forwarded)) forwarded

theorem unitStaged (k : KeptByForwarding P) (h : P s) : P (s.unitStaged j) := by
  rw [unitStaged_eq]
  exact k.passOn (k.drop _ (k.countUnit h))

end KeptByForwarding

/-- No job has a number. -/
def NoJob (id : Nat) (s : State) : Prop := ∀ y ∈ s.store.jobs, y.id ≠ id

/-- What adds no job keeps a number unused. -/
theorem NoJob.kept (h : NoJob id s) (k : JobsIn s.store.jobs t) : NoJob id t := fun y hy => h y (k hy)

theorem jobsIn_self (s : State) : JobsIn s.store.jobs s := fun _ h => h

theorem noJob_dropJob (id : Nat) (s : State) : NoJob id (s.dropJob id) := fun y hy => by simpa using (List.mem_filter.mp hy).2

/-- The job of a staged unit has ended. -/
theorem noJob_unitStaged (j : UnitJob) (s : State) : NoJob j.id (s.unitStaged j) := by
  rw [unitStaged_eq]
  exact (noJob_dropJob _ _).kept (keptByForwarding_jobsIn.passOn (jobsIn_self _))

theorem noJob_staged {l : List UnitJob} (h : z ∈ l) : NoJob z.id (l.foldl (fun s y => s.unitStaged y) s) := by
  induction l generalizing s with
  | nil => cases h
  | cons y l ih =>
    rw [List.foldl_cons]
    rcases List.mem_cons.mp h with rfl | h
    · refine (noJob_unitStaged z s).kept ?_
      exact foldl_keeps (JobsIn _) _ l _ (jobsIn_self _) fun _ _ _ hx => keptByForwarding_jobsIn.unitStaged hx
    · exact ih h

/-! ### STAGING_DURABLE -/

/-- The command of a unit passes its no-return point as the first of its units is staged (R105). -/
def beginStaging (j : UnitJob) (n : Nat) (s : State) : State :=
  match j.entry with
  | none => s
  | some e => (s.unholdRes (some e)).modEntry e (fun c => { c with gate := .committed, left := c.left - n, durable := c.durable + n })

/-- The end of a staging: bands settle, extents are gathered, and a write is done with its last unit (R194). -/
def endStaging (j : UnitJob) (before : List Band) (s : State) : State :=
  let s := (s.settle before).gatherHost
  (match j.entry with
   | none => s
   | some e => s.writeDone e).smartCheck

/-- The staging of a run. -/
def stageUnits (j : UnitJob) (x : Extent) (l : List UnitJob) (s : State) : State :=
  let all := List.range (s.unitLbas (s.lbafOf j.slice j.nsid))
  s.stageRun j.slice j.nsid j.mu (l.map (fun y => (y.buf, y.x.getD x, if y.peer then all else y.wrote))) j.entry

theorem entryAt_stageUnits {l : List UnitJob} {i : Nat} (hz : l[i]? = some z) :
    ((stageUnits j x l s).entryAt j.slice j.nsid (j.mu + i)).loc = .buffered z.buf ∧
      ((stageUnits j x l s).entryAt j.slice j.nsid (j.mu + i)).comp = (z.x.getD x).compressed := by
  unfold stageUnits
  apply entryAt_stageRun
  rw [List.getElem?_map, hz]
  rfl

theorem KeptByForwarding.endStaging (k : KeptByForwarding P) {before : List Band} (h : P s) : P (endStaging j before s) := by
  have gathered := k.gatherHost (k.settle (before := before) h)
  refine k.smartCheck ?_
  split
  · exact gathered
  · exact k.writeDone gathered

/-- A durable unit whose content is what was formed is staged with its run. -/
theorem exec_stagingDurable (hj : s.job id = some j) (hx : j.x = some x) (h2 : j.stage = 2) (hr : j.reading = false)
    (hf : s.store.flush = none) (hl : s.journalHolds = false) (hm : j.peer = true ∨ s.merged j = x.orig) :
    ∃ before, exec (.stagingDurable id) s = .next (endStaging j before ((s.runFrom j 255).foldl (fun s y => s.unitStaged y)
      (stageUnits j x (s.runFrom j 255) (beginStaging j (s.runFrom j 255).length s)))) := by
  have same : (!j.peer && s.merged j != x.orig) = false := by
    rcases hm with hm | hm <;> simp [hm]
  refine ⟨(beginStaging j (s.runFrom j 255).length s).rebuildSet, ?_⟩
  show execStagingDurable id s = _
  simp only [execStagingDurable, hj, hx, h2, hr, hf, hl, same]
  cases he : j.entry <;> simp [endStaging, stageUnits, beginStaging, he, State.done]

/-- The staged units are named by the map, and their jobs have ended. -/
theorem stagingDurable_stages (hj : s.job id = some j) (hx : j.x = some x) (h2 : j.stage = 2) (hr : j.reading = false)
    (hf : s.store.flush = none) (hl : s.journalHolds = false) (hm : j.peer = true ∨ s.merged j = x.orig) :
    Completes (.stagingDurable id) s (fun t => (t.entryAt j.slice j.nsid j.mu).comp = x.compressed ∧
      ∀ z ∈ s.runFrom j 255, (t.entryAt z.slice z.nsid z.mu).loc = .buffered z.buf ∧ NoJob z.id t) := by
  obtain ⟨before, hexec⟩ := exec_stagingDurable hj hx h2 hr hf hl hm
  refine ⟨_, hexec, ?_⟩
  generalize hv : stageUnits j x (s.runFrom j 255) (beginStaging j (s.runFrom j 255).length s) = v
  have hmap : (endStaging j before ((s.runFrom j 255).foldl (fun s y => s.unitStaged y) v)).store.map = v.store.map :=
    keptByForwarding_map.endStaging (foldl_keeps (·.store.map = v.store.map) _ _ v rfl fun _ _ _ h => keptByForwarding_map.unitStaged h)
  have named {i : Nat} {y : UnitJob} (hy : (s.runFrom j 255)[i]? = some y) := entryAt_stageUnits (j := j) (x := x)
    (s := beginStaging j (s.runFrom j 255).length s) hy
  rw [hv] at named
  refine ⟨?_, fun z hz => ⟨?_, ?_⟩⟩
  · rw [entryAt_congr hmap, ← Nat.add_zero j.mu, (named (runFrom_head s j 255)).2, hx]
    rfl
  · obtain ⟨i, hi⟩ := List.getElem?_of_mem hz
    obtain ⟨h1, h2, h3⟩ := runFrom_unit hi
    rw [entryAt_congr hmap, h1, h2, h3, (named hi).1]
  · exact (noJob_staged hz).kept (keptByForwarding_jobsIn.endStaging (jobsIn_self _))

end Sys2Proof
end
section
/-! PROOFS. Units in the lanes (O51): what a lane formed stays with its job while counts saturate and lanes fail. -/

namespace Sys2Proof

open Sys2Proof.Machine

variable {s t u : State} {id lane : Nat} {j y : UnitJob} {x : Extent} {p : List Byte} {Q : UnitJob → Prop}

/-- The limiter changes the share of a kind of work alone (R472). -/
theorem paced_rest (k : Paced) (s : State) : ∃ th, (s.paced k).2 = { s with thermal := th } := by
  unfold State.paced
  split
  · exact ⟨s.thermal, rfl⟩
  · exact ⟨_, rfl⟩

theorem job_id (h : s.job id = some j) : j.id = id := by simpa using List.find?_some h

theorem job_modJob {f : UnitJob → UnitJob} (hf : ∀ y, (f y).id = y.id) (h : s.job id = some j) : (s.modJob id f).job id = some (f j) := by
  unfold State.job at h ⊢
  simp [State.modJob, modFirst_find?_self, hf, h]

/-! ### A job that notices leave -/

/-- The job of a number has a property, and no controller answers a notice with its command. -/
def JobHeld (id : Nat) (Q : UnitJob → Prop) (s : State) : Prop :=
  ∃ y, s.job id = some y ∧ Q y ∧ ∀ k ∈ s.eng.ctrls, ∀ i, y.entry = some i → i ∉ k.aers

namespace JobHeld

theorem congr (h : JobHeld id Q s) (hj : t.store.jobs = s.store.jobs)
    (hk : t.eng.ctrls.map (fun k => (k.id, k.aers)) = s.eng.ctrls.map (fun k => (k.id, k.aers))) : JobHeld id Q t := by
  obtain ⟨y, hy, hq, ha⟩ := h
  refine ⟨y, ?_, hq, fun k hm => ?_⟩
  · rw [State.job, hj]
    exact hy
  · have : (k.id, k.aers) ∈ s.eng.ctrls.map (fun k => (k.id, k.aers)) := hk ▸ List.mem_map_of_mem hm
    obtain ⟨k', hk', e⟩ := List.mem_map.mp this
    rw [← (Prod.mk.inj e).2]
    exact ha k' hk'

/-- A change of controllers that gives them no more outstanding requests. -/
theorem modCtrl (h : JobHeld id Q s) {i : Nat} {f : Ctrl → Ctrl} (hf : ∀ k, (f k).aers ⊆ k.aers) : JobHeld id Q (s.modCtrl i f) := by
  obtain ⟨y, hy, hq, ha⟩ := h
  refine ⟨y, hy, hq, fun k hk e he => ?_⟩
  rcases modFirst_mem hk with hk | ⟨k', hk', -, rfl⟩
  · exact ha k hk e he
  · exact fun hm => ha k' hk' e he (hf k' hm)

theorem freeEntry (h : JobHeld id Q s) {c : Cct} (hc : ∀ y, s.job id = some y → y.entry ≠ some c.idx) : JobHeld id Q (s.freeEntry c) := by
  obtain ⟨y, hy, hq, ha⟩ := h
  refine ⟨y, ?_, hq, fun k hk e he hm => ?_⟩
  · have first := List.find?_eq_some_iff_append.mp hy
    obtain ⟨hid, a, b, hl, hne⟩ := first
    have kept : (y.entry != some c.idx) = true := by simpa using hc y hy
    refine List.find?_eq_some_iff_append.mpr ⟨hid, a.filter (·.entry != some c.idx), b.filter (·.entry != some c.idx), ?_, ?_⟩
    · show s.store.jobs.filter _ = _
      rw [hl, List.filter_append, List.filter_cons_of_pos (p := fun z : UnitJob => z.entry != some c.idx) kept]
    · exact fun z hz => hne z (List.mem_of_mem_filter hz)
  · rcases modFirst_mem hk with hk | ⟨k', hk', -, rfl⟩
    · exact ha k hk e he hm
    · exact ha k' hk' e he (List.mem_of_mem_filter hm)

theorem sendCqe (h : JobHeld id Q s) {c : Cct} {st : Nat} {r : Word} (hc : ∀ y, s.job id = some y → y.entry ≠ some c.idx) :
    JobHeld id Q (s.sendCqe c st r) := by
  refine ite_keeps (JobHeld id Q) (h.freeEntry hc) (ite_keeps (JobHeld id Q) ?_ ?_)
  · exact (h.freeEntry hc).congr rfl rfl
  · exact (h.congr (t := s.postCqe c st r) rfl rfl).freeEntry hc

theorem post (h : JobHeld id Q s) {c : Cct} {st : Nat} {r : Word} (hc : ∀ y, s.job id = some y → y.entry ≠ some c.idx) :
    JobHeld id Q (s.post c st r) := by
  obtain ⟨v, hm, hv⟩ := post_eq s c st r
  have hjobs : v.store.jobs = s.store.jobs := congrArg (·.store.jobs) hm.rest
  rw [hv]
  refine (h.congr hjobs hm.ctrls).sendCqe fun y hy => hc y ?_
  rw [State.job, ← hjobs]
  exact hy

theorem reportNotice (h : JobHeld id Q s) {c : Nat} : JobHeld id Q (s.reportNotice c) := by
  unfold State.reportNotice
  split
  · exact h
  next k hk =>
    split
    · next n a rest _ hka =>
      split
      · exact h
      next e he =>
        have hae : e.idx = a := entry_idx he
        obtain ⟨y, hy, hq, ha⟩ := h
        have own : ∀ z, s.job id = some z → z.entry ≠ some e.idx := by
          intro z hz hze
          obtain rfl : z = y := Option.some.inj (hz.symm.trans hy)
          exact ha k (List.mem_of_find?_eq_some hk) e.idx hze (by rw [hka, hae]; exact List.mem_cons_self ..)
        refine post (s := s.modCtrl c _) ⟨y, hy, hq, fun k' hk' i hi => ?_⟩ own
        rcases modFirst_mem hk' with hk' | ⟨k'', hk'', hid, rfl⟩
        · exact ha k' hk' i hi
        · have hrest : i ∉ a :: rest := by
            rw [← hka]
            exact ha k (List.mem_of_find?_eq_some hk) i hi
          exact fun hm => hrest (List.mem_cons_of_mem _ hm)
    · exact h

end JobHeld

theorem keptByCounts_jobHeld : KeptByCounts (JobHeld id Q) where
  sticky := fun _ _ h => h
  events := fun _ h => h
  prob := fun _ h => h
  notify := fun i n h => by
    refine ite_keeps (JobHeld id Q) h (JobHeld.reportNotice (h.modCtrl fun k => ?_))
    split
    · exact List.Subset.refl _
    · exact List.Subset.refl _
  reg := fun _ _ _ h => h

/-- A change of a job that keeps its number, its command and the property. -/
theorem JobHeld.modJob (h : JobHeld id Q s) {i : Nat} {f : UnitJob → UnitJob} (hf : ∀ y, (f y).id = y.id ∧ (f y).entry = y.entry)
    (hq : ∀ y, Q y → Q (f y)) : JobHeld id Q (s.modJob i f) := by
  obtain ⟨y, hy, hqy, ha⟩ := h
  by_cases hi : i = id
  · subst hi
    refine ⟨f y, job_modJob (fun y => (hf y).1) hy, hq y hqy, ?_⟩
    rw [(hf y).2]
    exact ha
  · refine ⟨y, ?_, hqy, ha⟩
    refine (modFirst_find?_ne _ _ _ _ fun z hz => ?_).trans hy
    have : z.id = i := by simpa using hz
    simp [(hf z).1, this, hi]

end Sys2Proof
end
section
/-! PROOFS. How a lane's work ends (O51). -/

namespace Sys2Proof

open Sys2Proof.Machine

variable {s t u : State} {id lane : Nat} {j y : UnitJob} {x : Extent} {p : List Byte} {P : State → Prop}

/-- No controller answers a notice with the command of a job. -/
def Unasked (s : State) (j : UnitJob) : Prop := ∀ k ∈ s.eng.ctrls, ∀ i, j.entry = some i → i ∉ k.aers

/-- The job of a unit a lane has formed: the extent `x` waits for buffer space. -/
def formed (x : Extent) (y : UnitJob) : Prop := y.stage = 1 ∧ y.x = some x

/-- The extent a lane forms of a unit with a payload, or raw (R361, R363). -/
def extentFor (s : State) (j : UnitJob) (payload : Option (List Byte)) : Extent :=
  s.mkExtent (s.lbafOf j.slice j.nsid) ((s.slice j.slice).elim 0 (·.key)) j.nsid j.mu (s.merged j) payload

theorem KeptByCounts.laneBytes (k : KeptByCounts P) (hc : ∀ {t : State} (x : Comp), P t → P { t with comp := x }) {orig stored gran : Nat}
    (h : P s) : P (s.laneBytes orig stored gran) := k.count (.inr (by decide)) (k.count (.inr (by decide)) (hc _ h))

/-- A unit that a lane forms has its extent. -/
theorem jobHeld_formExtent {payload : Option (List Byte)} (hj : s.job id = some j) (ha : Unasked s j) :
    JobHeld id (formed (extentFor s j payload)) (s.formExtent j payload) := by
  obtain rfl := job_id hj
  refine keptByCounts_jobHeld.laneBytes (fun _ h => h) ?_
  exact ⟨_, job_modJob (fun _ => rfl) hj, ⟨rfl, rfl⟩, ha⟩

theorem JobHeld.found {Q : UnitJob → Prop} (h : JobHeld id Q s) : ∃ y, s.job id = some y ∧ Q y := by
  obtain ⟨y, hy, hq, -⟩ := h
  exact ⟨y, hy, hq⟩

/-- A failure charged to a lane moves work between lanes and leaves what is formed (R364, R375). -/
theorem jobHeld_laneFail (h : JobHeld id (formed x) s) : JobHeld id (formed x) (s.laneFail lane) := by
  have moved {v : State} {keep : Nat} (hv : JobHeld id (formed x) v) : JobHeld id (formed x) (v.moveQueued lane keep) :=
    foldl_keeps (JobHeld id (formed x)) _ _ v hv fun _ _ _ hw => hw.modJob (fun _ => ⟨rfl, rfl⟩) fun _ hq => hq
  exact ite_keeps (JobHeld id (formed x)) h (keptByCounts_jobHeld.capture (moved h))

theorem Marked.formExtent {g b : Nat} {payload : Option (List Byte)} (hg : g < 36) (h : Marked g b s) : Marked g b (s.formExtent j payload) :=
  (keptByWritePath_marked hg).laneBytes (fun _ hx => hx.of_regs rfl) (h.of_regs rfl)

theorem Marked.laneFail {g b : Nat} (hg : g < 36) (h : Marked g b s) : Marked g b (s.laneFail lane) := by
  have moved {v : State} {keep : Nat} (hv : Marked g b v) : Marked g b (v.moveQueued lane keep) :=
    foldl_keeps (Marked g b) _ _ v hv fun _ _ _ hw => hw.of_regs rfl
  exact ite_keeps (Marked g b) (h.of_regs rfl) ((keptByWritePath_marked hg).capture (moved (h.of_regs rfl)))

/-- A unit whose verify fails is formed raw, and the failure is recorded as 0x0B01 (R364). -/
theorem verifyFails_forms (hs : Safe s) (hj : s.job id = some j) (ha : Unasked s j) :
    (∃ y x, (s.verifyFails lane j).job id = some y ∧ y.stage = 1 ∧ y.x = some x ∧ x.compressed = false) ∧
      ((s.verifyFails lane j).sticky 11).getLsbD 1 = true := by
  let v := ((s.bump Reg.CMP_CNT_RAW 1).bump Reg.CMP_CNT_VERIFY 1).capture 0x0B01 [lane, j.slice, j.nsid, j.mu]
  have kept : JobHeld id (· = j) v := by
    refine keptByCounts_jobHeld.capture (keptByCounts_jobHeld.count (.inr (by decide)) (keptByCounts_jobHeld.count (.inr (by decide)) ?_))
    exact ⟨j, hj, rfl, ha⟩
  obtain ⟨z, hz, rfl, hza⟩ := kept
  constructor
  · obtain ⟨y, hy, h1, hx⟩ := (jobHeld_laneFail (lane := lane) (jobHeld_formExtent (payload := none) hz hza)).found
    exact ⟨y, _, hy, h1, hx, rfl⟩
  · have listed : (severity 0x0B01).isSome = true := by decide +kernel
    obtain ⟨sev, hsev⟩ := Option.isSome_iff_exists.mp listed
    have marked : Marked 11 1 v := marked_capture (code := 0x0B01) (Safe.bump (Safe.bump hs)) hsev (by decide)
    exact ((marked.formExtent (by decide)).laneFail (by decide)).2

/-- A payload within the limit that inflates to the unit becomes its extent (R361, R363, R364). -/
theorem laneCompressed_forms {ks : List Nat} (hlo : 16 ≤ p.length) (hhi : 16 + p.length ≤ 512 * s.compLimit (s.lbafOf j.slice j.nsid))
    (hin : inflate false [] (s.origLen (s.lbafOf j.slice j.nsid)) p = .ok (origBytes (s.lbafOf j.slice j.nsid) (s.merged j), ks))
    (hks : ∀ k ∈ ks, k = 1 ∨ k = 2) : s.laneCompressed lane j p = s.formExtent j (some p) := by
  have kinds : ks.all (fun k => k == 1 || k == 2) = true := by simpa using hks
  simp [State.laneCompressed, hin, kinds, Nat.not_lt.2 hlo, Nat.not_lt.2 hhi]

end Sys2Proof
end
section
/-! PROOFS. Units, buffer space and punnets (O51). -/

namespace Sys2Proof

open Sys2Proof.Machine

variable {s t u : State} {id lane off : Nat} {j y : UnitJob} {x : Extent} {p : List Byte} {r : LaneResult}

/-! ### LANE_UNIT_COMPLETE (R184 to R187, R364, R370) -/

@[simp] theorem paced_jobFault {k : Paced} : (s.paced k).2.jobFault j = s.jobFault j := by
  obtain ⟨th, h⟩ := paced_rest k s
  rw [h]
  rfl

@[simp] theorem paced_badStep {k : Paced} : (s.paced k).2.badStep j = s.badStep j := by
  obtain ⟨th, h⟩ := paced_rest k s
  rw [h]
  rfl

@[simp] theorem paced_jobRaw {k : Paced} : (s.paced k).2.jobRaw j = s.jobRaw j := by
  obtain ⟨th, h⟩ := paced_rest k s
  rw [h]
  rfl

@[simp] theorem paced_reg {k : Paced} {off : Nat} : (s.paced k).2.reg off = s.reg off := by
  obtain ⟨th, h⟩ := paced_rest k s
  rw [h]
  rfl

/-- A unit is at a lane, its output chain granted, and no flush runs. -/
structure AtLane (s : State) (lane id : Nat) (j : UnitJob) : Prop where
  job : s.job id = some j
  stage : j.stage = 0
  lane : j.lane = lane
  chain : j.chain ≠ []
  flush : s.store.flush = none

namespace AtLane

/-- A unit whose start waits for its grant is not done (R472). -/
theorem exec_waits (h : AtLane s lane id j) (hp : (s.paced .lane).1 = false) :
    exec (.laneUnitComplete lane id r) s = .next (s.paced .lane).2 := by
  obtain ⟨hj, h0, hl, hc, hf⟩ := h
  show execLaneUnitComplete lane id r s = _
  simp [execLaneUnitComplete, hj, h0, hl, hc, hf, State.granted, hp]

/-- A read whose extent passes every check ends (R362). -/
theorem exec_decompressed (h : AtLane s lane id j) (hp : (s.paced .lane).1 = true) (hr : j.reading = true) (hn : s.jobFault j = none) :
    exec (.laneUnitComplete lane id .decompressed) s =
      .next (((s.paced .lane).2.markChain j.chain (j.x.elim 0 (·.origLen))).endRead j).smartCheck := by
  obtain ⟨hj, h0, hl, hc, hf⟩ := h
  show execLaneUnitComplete lane id .decompressed s = _
  simp [execLaneUnitComplete, hj, h0, hl, hc, hf, State.granted, hp, hr, hn, State.done]

/-- One that fails a check goes through recovery (R370). -/
theorem exec_undecodable (h : AtLane s lane id j) (hp : (s.paced .lane).1 = true) (hr : j.reading = true) {f : DecErr}
    (hn : s.jobFault j = some f) : exec (.laneUnitComplete lane id .decompressed) s =
      .next ((s.paced .lane).2.readFails lane j f.code (s.badStep j)).smartCheck := by
  obtain ⟨hj, h0, hl, hc, hf⟩ := h
  show execLaneUnitComplete lane id .decompressed s = _
  simp [execLaneUnitComplete, hj, h0, hl, hc, hf, State.granted, hp, hr, hn, State.done]

/-- What a write's unit comes to where its merge has met no failure. -/
theorem exec_written (h : AtLane s lane id j) (hp : (s.paced .lane).1 = true) (hr : j.reading = false) (hn : s.jobFault j = none) :
    exec (.laneUnitComplete lane id (.compressed p)) s =
        .next (if s.jobRaw j then (s.paced .lane).2.formExtent j none else (s.paced .lane).2.laneCompressed lane j p) ∧
      exec (.laneUnitComplete lane id .overLimit) s =
        .next ((if s.jobRaw j then (s.paced .lane).2 else (s.paced .lane).2.bump Reg.CMP_CNT_RAW 1).formExtent j none) ∧
      (s.jobRaw j = false → s.fld Reg.CMP_CFG 4 4 = 1 →
        exec (.laneUnitComplete lane id .verifyFailed) s = .next ((s.paced .lane).2.verifyFails lane j)) := by
  obtain ⟨hj, h0, hl, hc, hf⟩ := h
  refine ⟨?_, ?_, fun hraw hver => ?_⟩
  · show execLaneUnitComplete lane id (.compressed p) s = _
    simp [execLaneUnitComplete, hj, h0, hl, hc, hf, State.granted, hp, hr, hn]
  · show execLaneUnitComplete lane id .overLimit s = _
    simp [execLaneUnitComplete, hj, h0, hl, hc, hf, State.granted, hp, hr, hn]
  · have verify : (s.paced .lane).2.fld Reg.CMP_CFG 4 4 = 1 := by
      rw [State.fld, paced_reg]
      exact hver
    show execLaneUnitComplete lane id .verifyFailed s = _
    simp [execLaneUnitComplete, hj, h0, hl, hc, hf, State.granted, hp, hr, hn, hraw, verify]

end AtLane

/-! ### WRITE_BUFFER_ALLOCATE (R184, R185) -/

/-- The unit's extent enters FILLING, and its command goes on. -/
def fillAt (id off : Nat) (j : UnitJob) (x : Extent) (s : State) : State :=
  let s := s.modJob id (fun y => { y with stage := 2, buf := off })
  ({ s with store := { s.store with
    buf := s.store.buf ++ [{ off := off, len := extGran x, slice := j.slice, nsid := j.nsid, mu := j.mu, x := x }] } } : State).unholdRes j.entry

theorem fillAt_rest : fillAt id off j x s = { s with
    eng := { s.eng with cct := (fillAt id off j x s).eng.cct }
    store := { s.store with buf := (fillAt id off j x s).store.buf, jobs := (fillAt id off j x s).store.jobs } } := by
  unfold fillAt
  cases j.entry <;> rfl

theorem fillAt_store : (fillAt id off j x s).store = { s.store with
    jobs := modFirst s.store.jobs (·.id == id) (fun y => { y with stage := 2, buf := off })
    buf := s.store.buf ++ [{ off := off, len := extGran x, slice := j.slice, nsid := j.nsid, mu := j.mu, x := x }] } := by
  unfold fillAt
  cases j.entry <;> rfl

theorem exec_writeBufferAllocate (hj : s.job id = some j) (hx : j.x = some x) (h1 : j.stage = 1) (hr : j.reading = false)
    (hf : s.store.flush = none) :
    exec (.writeBufferAllocate id off) s = .next (if s.dirtyLimit < s.dirty + extGran x ∨ s.bufFree off (extGran x) = false then
      s.holdRes j.entry else fillAt id off j x s) := by
  show execWriteBufferAllocate id off s = _
  simp only [execWriteBufferAllocate, hj, hx, h1, hr, hf]
  by_cases h : s.dirtyLimit < s.dirty + extGran x ∨ s.bufFree off (extGran x) = false
  · rw [if_pos h, if_neg (by simp), if_pos (by simpa using h)]
  · rw [if_neg h, if_neg (by simp), if_neg (by simpa using h)]
    rfl

/-! ### PUNNET_GRANT (R62, R385) -/

/-- The state with a request granted: its punnets are linked, and its chain is the job's or the command's. -/
def grantPun (r : PunReq) (l : List Nat) (s : State) : State :=
  (({ s with mem := { s.mem with reqs := s.mem.reqs.filter (·.id != r.id) } } : State).enterChain r.cls l).giveChain r.job r.entry l

theorem exec_punnetGrant {q : PunReq} {l : List Nat} (hq : s.mem.reqs.find? (·.id == q.id) = some q) (ht : s.punTurn q = true)
    (hn : l.length = q.n) (hd : l.Nodup) (hfree : ∀ n ∈ l, n < punnetCount ∧ ∀ x ∈ s.mem.punnets, x.num ≠ n) :
    exec (.punnetGrant q.id l) s = .next (match q.entry with
      | none => grantPun q l s
      | some e => if (grantPun q l s).waitsPun e then grantPun q l s else
          (((grantPun q l s).unholdRes (some e)).fetchData e).readDone e) := by
  have free : l.all (fun p => decide (p < punnetCount) && !s.mem.punnets.any (·.num == p)) = true := by
    simp only [List.all_eq_true, Bool.and_eq_true, decide_eq_true_eq, Bool.not_eq_true', List.any_eq_false, beq_iff_eq]
    exact hfree
  have dedup : (l.dedup.length == q.n) = true := by
    rw [List.dedup_eq_self.mpr hd]
    simpa using hn
  have length : (l.length == q.n) = true := by simpa using hn
  show execPunnetGrant q.id l s = _
  simp only [execPunnetGrant, hq, ht, length, dedup, free]
  rfl

theorem grantPun_mem {q : PunReq} {l : List Nat} : (grantPun q l s).mem.reqs = s.mem.reqs.filter (·.id != q.id) ∧
    (grantPun q l s).mem.punnets.map (fun x => (x.num, x.cls)) =
      s.mem.punnets.map (fun x => (x.num, x.cls)) ++ l.map (fun n => (n, q.cls)) := by
  have chain : (grantPun q l s).mem = { s.mem with
      reqs := s.mem.reqs.filter (·.id != q.id)
      punnets := s.mem.punnets ++
        (List.range l.length).map (fun i => ({ num := l.getD i 0, next := l[i + 1]?, cls := q.cls } : Punnet)) } := by
    unfold grantPun State.giveChain
    cases q.job <;> cases q.entry <;> rfl
  rw [chain]
  refine ⟨rfl, ?_⟩
  rw [List.map_append, List.map_map]
  congr 1
  refine List.ext_getElem (by simp) fun i hi _ => ?_
  have hl : i < l.length := by simpa using hi
  simp [hl]

/-- A granted job has its chain. -/
theorem grantPun_job {q : PunReq} {l : List Nat} {i : Nat} {y : UnitJob} (hq : q.job = some i) (hy : s.job i = some y) :
    (grantPun q l s).job i = some { y with chain := l } := by
  unfold grantPun State.giveChain
  rw [hq]
  exact job_modJob (s := State.enterChain _ _ _) (fun _ => rfl) hy

/-- A command's chain goes on with the punnets granted. -/
def chained (l : List Nat) (c : Cct) : Cct := { c with chain := c.chain ++ l }

/-- What of an entry says how much data it is due (R62). -/
def dueKey (c : Cct) : Nat × Nat × Capsule := (c.slice, c.queue, c.cap)

theorem bytesDue_congr {c d : Cct} (h : dueKey c = dueKey d) : s.bytesDue c = s.bytesDue d := by
  simp only [dueKey, Prod.mk.injEq] at h
  obtain ⟨h1, h2, h3⟩ := h
  have io : c.isIo = d.isIo := by rw [Cct.isIo, Cct.isIo, h2]
  unfold State.bytesDue
  rw [io, h1, h3]

/-- The entry a granted command goes on with. -/
theorem entry_granted {q : PunReq} {l : List Nat} {e : Nat} {d : Cct} (hq : q.entry = some e)
    (hd : ((grantPun q l s).unholdRes (some e)).entry e = some d) : ∃ c, s.entry e = some c ∧ dueKey d = dueKey c := by
  have unheld : ((grantPun q l s).entry e).map (fun c => if c.st == .heldResource && !c.parked then { c with st := .dispatched } else c) =
      some d := by
    rw [← hd]
    exact (modFirst_find?_self _ _ _ fun c => by split <;> rfl).symm
  obtain ⟨b, hb, rfl⟩ := Option.map_eq_some_iff.mp unheld
  have key : dueKey (if b.st == .heldResource && !b.parked then { b with st := .dispatched } else b) = dueKey b := by
    split <;> rfl
  rw [key]
  unfold grantPun State.giveChain at hb
  cases hj : q.job with
  | some i =>
    rw [hj] at hb
    exact ⟨b, hb, rfl⟩
  | none =>
    rw [hj, hq] at hb
    change (State.modEntry e (chained l) _).entry e = some b at hb
    rw [State.entry_modEntry _ _ _ (chained l) fun _ => rfl, if_pos rfl] at hb
    obtain ⟨c, hc, rfl⟩ := Option.map_eq_some_iff.mp hb
    exact ⟨c, hc, rfl⟩

/-- A command whose data is there asks for none. -/
theorem fetchData_none {e : Nat} (h : ∀ c, s.entry e = some c → s.bytesDue c = 0) : s.fetchData e = s := by
  unfold State.fetchData
  split
  · rfl
  · next c hc => simp [h c hc]

/-- A read that is done changes its entry alone. -/
theorem readDone_rest (e : Nat) : s.readDone e = { s with eng := (s.readDone e).eng } := by
  unfold State.readDone
  split
  · rfl
  · split
    · rfl
    · split <;> rfl

theorem grantPun_slices {q : PunReq} {l : List Nat} {e : Option Nat} : ((grantPun q l s).unholdRes e).slices = s.slices := by
  unfold grantPun State.giveChain
  cases q.job <;> cases q.entry <;> cases e <;> rfl

theorem unholdRes_rest (e : Option Nat) : s.unholdRes e = { s with eng := (s.unholdRes e).eng } := by
  cases e <;> rfl

/-- A grant to a job, or to a command whose data is there (R385). -/
theorem punnetGrant_grants {q : PunReq} {l : List Nat} (hq : s.mem.reqs.find? (·.id == q.id) = some q) (ht : s.punTurn q = true)
    (hn : l.length = q.n) (hd : l.Nodup) (hfree : ∀ n ∈ l, n < punnetCount ∧ ∀ x ∈ s.mem.punnets, x.num ≠ n)
    (hdue : ∀ e c, q.entry = some e → s.entry e = some c → s.bytesDue c = 0) :
    Completes (.punnetGrant q.id l) s (fun t => t.mem = (grantPun q l s).mem ∧ t.store = (grantPun q l s).store) := by
  refine ⟨_, exec_punnetGrant hq ht hn hd hfree, ?_⟩
  split
  · exact ⟨rfl, rfl⟩
  · next e he =>
    split
    · exact ⟨rfl, rfl⟩
    · have due : ∀ d, ((grantPun q l s).unholdRes (some e)).entry e = some d →
          ((grantPun q l s).unholdRes (some e)).bytesDue d = 0 := by
        intro d hd
        obtain ⟨c, hc, hk⟩ := entry_granted he hd
        have same : ((grantPun q l s).unholdRes (some e)).bytesDue d = s.bytesDue d := by
          simp only [State.bytesDue, State.nsOf, State.slice, grantPun_slices]
        rw [same, bytesDue_congr hk]
        exact hdue e c he hc
      rw [fetchData_none due, readDone_rest, unholdRes_rest]
      exact ⟨rfl, rfl⟩

/-- A command on TCP whose chain is there asks for its data by one R2T (R62). -/
theorem fetchData_r2t {e : Nat} {c : Cct} {y : Conn} (he : s.entry e = some c) (hdue : s.bytesDue c ≠ 0) (hst : c.st = .dispatched)
    (hch : c.chain ≠ []) (hw : s.waitsPun e = false) (hy : s.connOf c = some y) (htcp : y.tcp = true) (hr : c.r2t = 0) :
    s.fetchData e = (s.modEntry e (fun c => { c with r2t := s.bytesDue c })).send (.r2t e (s.bytesDue c)) := by
  have may : c.mayFetch = true := by simp [Cct.mayFetch, hst]
  have chain : c.chain.isEmpty = false := by simpa using hch
  have there : s.recvChain c = s := by simp [State.recvChain, chain]
  simp [State.fetchData, he, hdue, may, there, hw, hy, htcp, hr]

/-- A command that has not begun reads on no further. -/
theorem readDone_idle {e : Nat} (h : ∀ c, s.entry e = some c → c.step = 0) : s.readDone e = s := by
  unfold State.readDone
  split
  · rfl
  · next c hc => simp [h c hc]

/-- The entry of a command that was held for its punnets, once they are granted (R33, R385). -/
def regained (l : List Nat) (c : Cct) : Cct := { c with st := .dispatched, chain := c.chain ++ l }

/-- A grant to a command that waited for it alone: it asks for its data (R62, R385). -/
theorem punnetGrant_fetches {q : PunReq} {l : List Nat} {e : Nat} {c : Cct} {y : Conn} (hq : s.mem.reqs.find? (·.id == q.id) = some q)
    (ht : s.punTurn q = true) (hn : l.length = q.n) (hd : l.Nodup)
    (hfree : ∀ n ∈ l, n < punnetCount ∧ ∀ x ∈ s.mem.punnets, x.num ≠ n) (hjob : q.job = none) (hent : q.entry = some e)
    (he : s.entry e = some c) (hl : l ≠ []) (honly : ∀ x ∈ s.mem.reqs, x.entry = some e → x.id = q.id) (hdue : s.bytesDue c ≠ 0)
    (hst : c.st = .heldResource) (hp : c.parked = false) (h0 : c.step = 0) (hy : s.connOf c = some y) (htcp : y.tcp = true) (hr : c.r2t = 0) :
    Completes (.punnetGrant q.id l) s (fun t => t.fabric.sent = s.fabric.sent ++ [.r2t e (s.bytesDue c)] ∧
      (t.entry e).map (fun x => (x.st, x.r2t, x.chain)) = some (.dispatched, s.bytesDue c, c.chain ++ l)) := by
  let g : State := (({ s with mem := { s.mem with reqs := s.mem.reqs.filter (·.id != q.id) } } : State).enterChain q.cls l).modEntry e (chained l)
  have granted : grantPun q l s = g := by
    unfold grantPun State.giveChain
    rw [hjob, hent]
    rfl
  have alone : g.waitsPun e = false := by
    show (s.mem.reqs.filter (·.id != q.id)).any (·.entry == some e) = false
    simp only [List.any_eq_false, List.mem_filter, beq_iff_eq, bne_iff_ne]
    rintro x ⟨hx, hne⟩ hxe
    exact hne (honly x hx hxe)
  let v : State := g.unholdRes (some e)
  have held : g.entry e = some (chained l c) := by
    rw [State.entry_modEntry _ _ _ (chained l) fun _ => rfl, if_pos rfl]
    exact congrArg (Option.map (chained l)) he
  have back : v.entry e = some (regained l c) := by
    have := State.entry_modEntry g e e (fun c => if c.st == .heldResource && !c.parked then { c with st := .dispatched } else c)
      fun c => by split <;> rfl
    rw [if_pos rfl, held] at this
    refine this.trans ?_
    simp [chained, regained, hst, hp]
  have due : v.bytesDue (regained l c) = s.bytesDue c := bytesDue_congr (s := s) (c := regained l c) (d := c) rfl
  have asked : v.fetchData e = (v.modEntry e (fun c => { c with r2t := v.bytesDue c })).send (.r2t e (s.bytesDue c)) := by
    rw [← due]
    exact fetchData_r2t back (due ▸ hdue) rfl (by simp [regained, hl]) alone hy htcp hr
  have found : (v.fetchData e).entry e = some { regained l c with r2t := s.bytesDue c } := by
    rw [asked, ← due]
    have := State.entry_modEntry v e e (fun c => { c with r2t := v.bytesDue c }) fun _ => rfl
    rw [if_pos rfl, back] at this
    exact this
  refine ⟨v.fetchData e, ?_, ?_, ?_⟩
  · rw [exec_punnetGrant hq ht hn hd hfree, hent, granted]
    dsimp only
    rw [alone]
    exact congrArg Host.Outcome.next (readDone_idle fun d hd => by
      obtain rfl := Option.some.inj (found.symm.trans hd)
      exact h0)
  · rw [asked]
    rfl
  · rw [found]
    rfl

/-! ### PUNNET_WAIT_WARN and PUNNET_RELEASE (R385, R386) -/

/-- A wait beyond PN_WAIT_WARN_MS is recorded as 0x0C04. -/
theorem punnetWaitWarn_records {q : PunReq} (hs : Safe s) (hq : s.mem.reqs.find? (·.id == q.id) = some q) (hw : q.warned = false)
    (hms : s.fld Reg.PN_CFG 31 16 ≠ 0) (hlong : s.fld Reg.PN_CFG 31 16 * 1000 < s.since q.at_) :
    Completes (.punnetWaitWarn q.id) s (fun t => (t.sticky 12).getLsbD 4 = true) := by
  have listed : (severity 0x0C04).isSome = true := by decide +kernel
  obtain ⟨sev, hsev⟩ := Option.isSome_iff_exists.mp listed
  let v : State := { s with mem := { s.mem with reqs := modFirst s.mem.reqs (·.id == q.id) (fun y => { y with warned := true }) } }
  have noted : Marked 12 4 (v.capture 0x0C04 [q.cls, q.n, s.since q.at_ / 1000]) := marked_capture (code := 0x0C04) (s := v) hs hsev (by decide)
  refine ⟨_, ?_, noted.2⟩
  show execPunnetWaitWarn q.id s = _
  simp [execPunnetWaitWarn, hq, hms, hw, Nat.not_le.2 hlong, v]

theorem exec_punnetWaitWarn_idle {q : PunReq} (hq : s.mem.reqs.find? (·.id == q.id) = some q)
    (h : q.warned = true ∨ s.fld Reg.PN_CFG 31 16 = 0) : exec (.punnetWaitWarn q.id) s = .next s := by
  show execPunnetWaitWarn q.id s = _
  simp only [execPunnetWaitWarn, hq]
  rcases h with h | h <;> simp [h]

theorem exec_punnetRelease {n : Nat} {x : Punnet} (hx : s.mem.punnets.find? (·.num == n) = some x) :
    exec (.punnetRelease n) s = .next (if 1 < x.ref then
        { s with mem := { s.mem with punnets := modFirst s.mem.punnets (·.num == n) (fun y => { y with ref := y.ref - 1 }) } }
      else if s.punHeld n then s
      else { s with mem := { s.mem with punnets := s.mem.punnets.filter (·.num != n) } }) := by
  show execPunnetRelease n s = _
  simp only [execPunnetRelease, hx]
  split
  · rfl
  · split <;> rfl

/-! ### The clauses together -/

/-- A write's unit that a lane has finished is formed compressed, raw beyond the limit, or raw where the verify fails. -/
theorem laneUnit_forms (hs : Safe s) (h : AtLane s lane id j) (ha : Unasked s j) (hp : (s.paced .lane).1 = true) (hr : j.reading = false)
    (hn : s.jobFault j = none) :
    (∀ p ks, s.jobRaw j = false → 16 ≤ p.length → 16 + p.length ≤ 512 * s.compLimit (s.lbafOf j.slice j.nsid) →
      inflate false [] (s.origLen (s.lbafOf j.slice j.nsid)) p = .ok (origBytes (s.lbafOf j.slice j.nsid) (s.merged j), ks) →
      (∀ k ∈ ks, k = 1 ∨ k = 2) → Completes (.laneUnitComplete lane id (.compressed p)) s (fun t => ∃ (y : UnitJob) (x : Extent),
        t.job id = some y ∧ y.stage = 1 ∧ y.x = some x ∧ x.orig = s.merged j ∧ x.compressed = true ∧ x.payload = p)) ∧
    ((s.reg Reg.CMP_CNT_RAW).toNat < 0xFFFFFFFE → Completes (.laneUnitComplete lane id .overLimit) s (fun t =>
      ∃ (y : UnitJob) (x : Extent), t.job id = some y ∧ y.stage = 1 ∧ y.x = some x ∧ x.orig = s.merged j ∧ x.compressed = false)) ∧
    (s.jobRaw j = false → s.fld Reg.CMP_CFG 4 4 = 1 → Completes (.laneUnitComplete lane id .verifyFailed) s (fun t =>
      ∃ (y : UnitJob) (x : Extent), t.job id = some y ∧ y.stage = 1 ∧ y.x = some x ∧ x.compressed = false ∧
        (t.sticky 11).getLsbD 1 = true)) := by
  obtain ⟨-, hover, hver⟩ := h.exec_written (p := []) hp hr hn
  have hj := h.job
  obtain ⟨th, hth⟩ := paced_rest .lane s
  rw [hth] at hover hver
  refine ⟨fun p ks hraw hlo hhi hin hks => ?_, fun hroom => ?_, fun hraw hv => ?_⟩
  · obtain ⟨hcomp, -, -⟩ := h.exec_written (p := p) hp hr hn
    rw [hth, hraw] at hcomp
    refine ⟨_, hcomp, ?_⟩
    rw [if_neg (by decide), laneCompressed_forms (s := { s with thermal := th }) hlo hhi hin hks]
    obtain ⟨y, hy, h1, hx⟩ := (jobHeld_formExtent (s := { s with thermal := th }) (payload := some p) hj ha).found
    exact ⟨y, _, hy, h1, hx, rfl, rfl, rfl⟩
  · refine ⟨_, hover, ?_⟩
    split
    · obtain ⟨y, hy, h1, hx⟩ := (jobHeld_formExtent (s := { s with thermal := th }) (payload := none) hj ha).found
      exact ⟨y, _, hy, h1, hx, rfl, rfl⟩
    · rw [bump_one_below (s := { s with thermal := th }) hroom]
      obtain ⟨y, hy, h1, hx⟩ := (jobHeld_formExtent (s := State.setReg { s with thermal := th } Reg.CMP_CNT_RAW _) (payload := none) hj ha).found
      exact ⟨y, _, hy, h1, hx, rfl, rfl⟩
  · obtain ⟨⟨y, x, hy, h1, hx, hc⟩, hmark⟩ := verifyFails_forms (lane := lane) (s := { s with thermal := th }) hs hj ha
    exact ⟨_, hver hraw hv, y, x, hy, h1, hx, hc, hmark⟩

/-- Settles O51, instruction by instruction. -/
theorem unitsGoThroughLanesBufferAndPunnets : Obligations.UnitsGoThroughLanesBufferAndPunnets := by
  unfold Obligations.UnitsGoThroughLanesBufferAndPunnets
  intro s hs _
  refine ⟨fun lane id j hj h0 hl hc hf ha => ?_, fun id off j x hj hx h1 hr hf => ⟨fun hdirty hfree => ?_, fun hno => ?_⟩,
    fun id j x hj hx h2 hr hf => ⟨fun hfull => ?_, fun hfits hp hm => ?_, fun hfits hm => stagingDurable_stages hj hx h2 hr hf hfits hm⟩,
    fun req l r hreq => ?_, fun n x hx => ⟨fun h1 => ?_, fun h1 hh => ?_⟩⟩
  · have at_ : AtLane s lane id j := ⟨hj, h0, hl, hc, hf⟩
    refine ⟨fun hp r => at_.exec_waits hp, fun hp hr hn => laneUnit_forms hs at_ ha hp hr hn, fun hp hr =>
      ⟨fun hn => at_.exec_decompressed hp hr hn, fun f hn => at_.exec_undecodable hp hr hn⟩⟩
  · refine ⟨_, exec_writeBufferAllocate hj hx h1 hr hf, ?_⟩
    rw [if_neg (by simp [hfree]; omega)]
    refine ⟨⟨{ off := off, len := extGran x, slice := j.slice, nsid := j.nsid, mu := j.mu, x := x }, ?_, rfl, rfl, rfl, rfl, rfl, rfl, rfl⟩,
      ?_, fillAt_rest⟩
    · rw [fillAt_store]
    · have := job_modJob (s := s) (f := fun y => { y with stage := 2, buf := off }) (fun _ => rfl) hj
      rw [State.job, fillAt_store]
      exact congrArg (Option.map fun y : UnitJob => (y.stage, y.buf)) this
  · rw [exec_writeBufferAllocate hj hx h1 hr hf, if_pos hno]
  · show execStagingDurable id s = _
    simp [execStagingDurable, hj, hx, h2, hr, hf, hfull]
  · show execStagingDurable id s = _
    simp [execStagingDurable, hj, hx, h2, hr, hf, hfits, hp, hm]
  · obtain rfl : r.id = req := by simpa using List.find?_some hreq
    refine ⟨fun ht hn hd hfree => ⟨fun hdue => ?_, fun e c y hjob hent he hl honly hdue hst hp h0 hy htcp hr =>
        punnetGrant_fetches hreq ht hn hd hfree hjob hent he hl honly hdue hst hp h0 hy htcp hr⟩, fun ht => ?_,
      fun hw hms hlong => punnetWaitWarn_records hs hreq hw hms hlong, fun h => exec_punnetWaitWarn_idle hreq h⟩
    · obtain ⟨t, ht, hmem, hstore⟩ := punnetGrant_grants hreq ht hn hd hfree hdue
      refine ⟨t, ht, ?_, ?_, fun i y hjob hy => ?_⟩
      · rw [hmem, grantPun_mem.1]
      · rw [hmem, grantPun_mem.2]
      · rw [State.job, hstore, ← State.job, grantPun_job hjob hy]
        rfl
    · show execPunnetGrant r.id l s = _
      simp [execPunnetGrant, hreq, ht]
  · rw [exec_punnetRelease hx, if_pos h1]
  · rw [exec_punnetRelease hx, if_neg (by omega), hh]
    rfl

end Sys2Proof
end
section
/-! PROOFS. What the coming and going of peers keeps (O38). -/

namespace Sys2Proof

open Sys2Proof.Machine

variable {s t u : State} {P : State → Prop}

/-! ### A peer that returns (R157, R158, R165) -/

namespace KeptByForwarding

theorem syncDone (k : KeptByForwarding P) {sl : Nat} (h : P s) : P (s.syncDone sl) := by
  unfold State.syncDone
  split
  · exact h
  · exact ite_keeps P (k.capture (k.modSlice h)) h

theorem syncRegion (k : KeptByForwarding P) {sl ns reg : Nat} (h : P s) : P (s.syncRegion sl ns reg) := by
  unfold State.syncRegion
  split
  · exact h
  · exact ite_keeps P h (k.syncDone (k.modSlice (k.setResync h)))

theorem copyRegion (k : KeptByForwarding P) {sl ns reg : Nat} (h : P s) : P (s.copyRegion sl ns reg) := by
  unfold State.copyRegion
  split
  · exact k.syncRegion h
  · exact k.syncRegion (foldl_keeps P _ _ s h fun _ _ _ hx => k.sendOrQueue hx)

theorem pumpQueued (k : KeptByForwarding P) {sl : Nat} (h : P s) : P (s.pumpQueued sl) := by
  unfold State.pumpQueued
  split
  · exact h
  · exact foldl_keeps P _ _ _ (k.modSlice h) fun _ _ _ hx => k.sendOrQueue hx

theorem startSync (k : KeptByForwarding P) {sl : Nat} (h : P s) : P (s.startSync sl) := by
  unfold State.startSync
  split
  · exact h
  · refine k.syncDone (k.pumpQueued (foldl_keeps P _ _ _ (k.modSlice ?_) fun _ _ _ hx => k.copyRegion hx))
    exact ite_keeps P (k.sendAll (k.sendAll (k.send (k.sendAll h)))) (k.sendAll h)

theorem peerBack (k : KeptByForwarding P) {sl : Nat} (h : P s) : P (s.peerBack sl) := by
  unfold State.peerBack
  split
  · exact h
  · exact ite_keeps P (k.startSync h) h

theorem copyMarked (k : KeptByForwarding P) {sl : Nat} (h : P s) : P (s.copyMarked sl) := by
  unfold State.copyMarked
  split
  · exact h
  · refine foldl_keeps P _ _ _ (k.modSlice h) fun x _ _ hx => ?_
    split
    · exact hx
    · exact foldl_keeps P _ _ x hx fun _ _ _ hy => k.modSlice (k.send hy)

theorem sendCommit (k : KeptByForwarding P) {x : SliceS} (h : P s) : P (s.sendCommit x) := k.send (k.sendAll (k.sendAll h))

theorem cutOver (k : KeptByForwarding P) {n : Nat} (h : P s) : P (s.cutOver n) := by
  unfold State.cutOver
  split
  · exact h
  · split
    · exact h
    · exact ite_keeps P h (k.sendCommit (k.modSlice (k.copyMarked h)))

theorem evalTolerance (k : KeptByForwarding P) (h : P s) : P s.evalTolerance := k.power _ h

end KeptByForwarding

/-! ### A peer that is lost (R77, R157, R166) -/

/-- Kept too where the write buffer and the map, the lanes' jobs, the NOR and, but for the neighbours, the fabric change. -/
structure KeptByPeers (P : State → Prop) : Prop extends KeptByForwarding P where
  store : ∀ {t : State} (x : Store), P t → P { t with store := x }
  comp : ∀ {t : State} (x : Comp), P t → P { t with comp := x }
  nor : ∀ {t : State} (x : Nor), P t → P { t with nor := x }
  fabric : ∀ {t : State} (x : Fabric), x.nbs = t.fabric.nbs → P t → P { t with fabric := x }

namespace KeptByPeers

theorem wakeHeld (k : KeptByPeers P) (h : P s) : P s.wakeHeld := k.eng _ h

theorem dropRepairs (k : KeptByPeers P) {sl cause : Nat} {q : LostRange → Bool} (h : P s) : P (s.dropRepairs sl cause q) :=
  ite_keeps P h (k.wakeHeld (foldl_keeps P _ _ _ (k.store _ h) fun _ _ _ hx => k.capture hx))

theorem peerDone (k : KeptByPeers P) {sl e : Nat} (h : P s) : P (s.peerDone sl e) := by
  unfold State.peerDone
  split
  · exact h
  · exact ite_keeps P h (k.writeDone (k.modEntry h))

theorem peerLost (k : KeptByPeers P) {sl : Nat} (h : P s) : P (s.peerLost sl) := by
  unfold State.peerLost
  split
  · exact h
  · have dropped := k.dropRepairs (sl := sl) (cause := 1) (q := fun _ => true) h
    refine ite_keeps P h (ite_keeps P (k.capture (k.modSlice dropped)) ?_)
    refine foldl_keeps P _ _ _ (k.capture ?_) fun _ _ _ hx => k.peerDone hx
    exact foldl_keeps P _ _ _ (k.modSlice dropped) fun _ _ _ hx => k.markRun hx

theorem endPeer (k : KeptByPeers P) {sl : Nat} (h : P s) : P (s.endPeer sl) := foldl_keeps P _ _ s h fun _ _ _ hx => k.peerFree hx

theorem lostSpill (k : KeptByPeers P) (h : P s) : P s.lostSpill := ite_keeps P (ite_keeps P h (k.capture (k.store _ h))) (k.store _ h)

theorem removeLost (k : KeptByPeers P) {sl ns a n : Nat} (h : P s) : P (s.removeLost sl ns a n) := ite_keeps P h (k.lostSpill (k.store _ h))

theorem stageEntry (k : KeptByPeers P) {sl ns mu : Nat} {e : MapEntry} (h : P s) : P (s.stageEntry sl ns mu e) := by
  refine k.store _ ?_
  unfold State.supersede
  split
  · exact k.store _ h
  · exact h

theorem deallocUnit (k : KeptByPeers P) {sl ns mu : Nat} (h : P s) : P (s.deallocUnit sl ns mu) :=
  k.stageEntry (ite_keeps P (k.removeLost h) h)

theorem deallocRun (k : KeptByPeers P) {sl cct : Nat} {n : Ns} {seq : Word} {r : Nat × Nat} (h : P s) : P (s.deallocRun sl n cct seq r) :=
  ite_keeps P h (foldl_keeps P _ _ _ (k.jsync h) fun _ _ _ hx => k.deallocUnit hx)

theorem wipeSlice (k : KeptByPeers P) {sl : Nat} (h : P s) : P (s.wipeSlice sl) := by
  unfold State.wipeSlice
  split
  · exact h
  · exact k.gatherHost (k.settle (foldl_keeps P _ _ s h fun _ _ _ hx => k.drop _ (k.deallocRun hx)))

theorem endStream (k : KeptByPeers P) {sender : Bool} {nb m : Nat} (h : P s) : P (s.endStream sender nb m) := k.comp _ h

theorem openStream (k : KeptByPeers P) {sender : Bool} {nb m : Nat} (h : P s) : P (s.openStream sender nb m) := k.comp _ h

theorem discardCopy (k : KeptByPeers P) {x : SliceS} (h : P s) : P (s.discardCopy x) :=
  k.openStream (k.endStream (k.modSlice (k.drop _ (k.wipeSlice (k.endPeer h)))))

theorem answerEntry (k : KeptByPeers P) {e : Option Nat} {st : Nat} {r : Word} (h : P s) : P (s.answerEntry e st r) := by
  unfold State.answerEntry
  split
  · exact h
  · split
    · exact h
    · exact k.modEntry h

theorem cancelMig (k : KeptByPeers P) {sl cause : Nat} (h : P s) : P (s.cancelMig sl cause) := by
  unfold State.cancelMig
  split
  · exact h
  · split
    · exact h
    · exact ite_keeps P h (k.capture (k.send (k.answerEntry (k.endStream (k.modSlice h)))))

theorem anaChange (k : KeptByPeers P) {q : SliceS → Bool} (h : P s) : P (s.anaChange q) := k.notifyAll (k.fabric _ rfl h)

theorem migPeerLost (k : KeptByPeers P) {nb : Nat} (h : P s) : P (s.migPeerLost nb) := by
  refine foldl_keeps P _ _ s h fun y x _ hy => ?_
  dsimp only
  split
  · exact ite_keeps P (k.capture (k.discardCopy hy)) hy
  · refine ite_keeps P hy (ite_keeps P ?_ (ite_keeps P ?_ (k.cancelMig hy)))
    · exact k.capture (k.answerEntry (k.anaChange (k.writeSettings (k.modSlice (k.endStream hy)))))
    · exact k.capture (k.send (k.answerEntry (k.writeSettings (k.modSlice (k.endStream hy)))))

/-! ### An association that is lost (R76, R113, R117, R533) -/

theorem dropStaging (k : KeptByPeers P) (h : P s) : P s.dropStaging :=
  k.fw s.dropStaging.fw (k.nor s.dropStaging.nor h)

theorem fwAssocLost (k : KeptByPeers P) {nb : Nat} {init : Bool} (h : P s) : P (s.fwAssocLost nb init) :=
  ite_keeps P (k.capture (k.fw _ (k.dropStaging h))) (ite_keeps P (k.fw _ h) h)

theorem clearRing (k : KeptByPeers P) {q : Queue} (h : P s) : P (s.clearRing q) := k.eng _ (k.eng _ h)

theorem modCtrl (k : KeptByPeers P) {c : Nat} {f : Ctrl → Ctrl} (h : P s) : P (s.modCtrl c f) := k.eng _ h

theorem endConn (k : KeptByPeers P) {conn : Nat} (h : P s) : P (s.endConn conn) :=
  k.send (k.fabric _ rfl (k.eng _ (foldl_keeps P _ _ s h fun _ _ _ hx => k.clearRing hx)))

theorem endIoQueues (k : KeptByPeers P) {c : Nat} (h : P s) : P (s.endIoQueues c) := foldl_keeps P _ _ s h fun _ _ _ hx => k.endConn hx

theorem freeCtrl (k : KeptByPeers P) {c : Nat} (h : P s) : P (s.freeCtrl c) := by
  have ended : P (((s.eng.queues.filter (·.cntl == c)).map (·.conn)).dedup.foldl (fun s x => s.endConn x) s) :=
    foldl_keeps P _ _ s h fun _ _ _ hx => k.endConn hx
  exact k.slices (s.freeCtrl c).slices (k.eng (s.freeCtrl c).eng ended)

theorem settleDisable (k : KeptByPeers P) {c : Nat} (h : P s) : P (s.settleDisable c) := by
  unfold State.settleDisable
  split
  · exact h
  next y _ =>
    split
    · exact h
    next n a _ =>
      refine ite_keeps P h ?_
      have off := k.modCtrl (c := c) (f := fun k => { k with rdy := false, stopped := false, dis := none, shst := 0 })
        (k.endIoQueues (c := c) (k.eng { s.eng with
          cct := s.eng.cct.map fun x => if x.cntl == c && x.heldLate then { x with discard := true } else x } h))
      have told := ite_keeps P (p := 0 < n + a) (k.capture (code := 0x0504) (ps := [y.slice, c, n, a]) off) off
      exact ite_keeps P (k.freeCtrl told) told

theorem sendCqe (k : KeptByPeers P) {x : Cct} {st : Nat} {r : Word} (h : P s) : P (s.sendCqe x st r) :=
  ite_keeps P (k.freeEntry h) (ite_keeps P (k.eng _ (k.freeEntry h)) (k.freeEntry (k.eng _ h)))

theorem post (k : KeptByPeers P) {x : Cct} {st : Nat} {r : Word} (h : P s) : P (s.post x st r) := by
  obtain ⟨y, hm, hy⟩ := post_eq s x st r
  rw [hy]
  refine k.sendCqe ?_
  rw [hm.rest]
  exact k.slices y.slices (k.eng { s.eng with ctrls := y.eng.ctrls } h)

theorem abortList (k : KeptByPeers P) {l : List Cct} {st : Nat} {d : Bool} (h : P s) : P (s.abortList l st d) := by
  refine foldl_keeps P _ _ s h fun y c _ hy => ?_
  split
  · exact hy
  · exact ite_keeps P (k.post hy) hy

theorem loseHost (k : KeptByPeers P) {c : Nat} (h : P s) : P (s.loseHost c) :=
  k.settleDisable (k.eng _ (k.abortList (k.modCtrl (foldl_keeps P _ _ s h fun _ _ _ hx => k.clearRing hx))))

end KeptByPeers

/-! ### Properties that are kept -/

/-- The neighbours stay as they are. -/
theorem keptByPeers_nbs {l : List Neighbour} : KeptByPeers (·.fabric.nbs = l) where
  toKeptByRecorder := keptByRecorder_of_aside fun a h => (congrArg Fabric.nbs a.recorded.fabric).trans h
  reg := fun _ _ _ h => h
  journal := fun _ _ h => h
  upkeep := fun _ h => h
  mem := fun _ h => h
  buf := fun _ h => h
  again := fun _ h => h
  opened := fun _ h => h
  grown := fun _ _ _ _ h => h
  array := fun _ h => h
  pslc := fun _ h => h
  flash := fun _ h => h
  ended := fun _ h => h
  power := fun _ h => h
  loops := fun _ h => h
  fw := fun _ h => h
  eng := fun _ h => h
  slices := fun _ h => h
  sent := fun _ h => h
  drop := fun _ h => h
  store := fun _ h => h
  comp := fun _ h => h
  nor := fun _ h => h
  fabric := fun _ hx h => hx.trans h

/-- The flows stay as they are while frames are sent. -/
theorem keptByForwarding_flows {l : List Machine.Flow} : KeptByForwarding (·.fabric.flows = l) where
  toKeptByRecorder := keptByRecorder_of_aside fun a h => (congrArg Fabric.flows a.recorded.fabric).trans h
  reg := fun _ _ _ h => h
  journal := fun _ _ h => h
  upkeep := fun _ h => h
  mem := fun _ h => h
  buf := fun _ h => h
  again := fun _ h => h
  opened := fun _ h => h
  grown := fun _ _ _ _ h => h
  array := fun _ h => h
  pslc := fun _ h => h
  flash := fun _ h => h
  ended := fun _ h => h
  power := fun _ h => h
  loops := fun _ h => h
  fw := fun _ h => h
  eng := fun _ h => h
  slices := fun _ h => h
  sent := fun _ h => h
  drop := fun _ h => h

theorem keptByPeers_marked {g b : Nat} (hg : g < 36) : KeptByPeers (Marked g b) where
  toKeptByWritePath := keptByWritePath_marked hg
  eng := fun _ h => h.of_regs rfl
  slices := fun _ h => h.of_regs rfl
  sent := fun _ h => h.of_regs rfl
  drop := fun _ h => h.of_regs rfl
  store := fun _ h => h.of_regs rfl
  comp := fun _ h => h.of_regs rfl
  nor := fun _ h => h.of_regs rfl
  fabric := fun _ _ h => h.of_regs rfl

end Sys2Proof
end
section
/-! PROOFS. Ring associations (O38). -/

namespace Sys2Proof

open Sys2Proof.Machine

variable {s t u : State} {nb port : Nat} {n : Neighbour} {init : Bool}

/-- The neighbours a change of one leaves. -/
theorem nb_of_nbs {f : Neighbour → Neighbour} (h : t.fabric.nbs = modNth s.fabric.nbs nb f) (hn : s.nb nb = some n) :
    t.nb nb = some (f n) ∧ ∀ j, j ≠ nb → t.nb j = s.nb j := by
  unfold State.nb at hn ⊢
  rw [h]
  refine ⟨?_, fun j hj => ?_⟩
  · rw [modNth_getElem?, if_pos rfl, hn]
    rfl
  · rw [modNth_getElem?, if_neg hj]

/-- The capture of a listed code of the device's group 3 sets its bit. -/
theorem marked_group3 {code : Nat} {ps : List Nat} (hs : Safe s) (hc : (severity code).isSome = true) (hg : code / 256 = 3)
    (hb : code % 256 < 32) : Marked 3 (code % 256) (s.capture code ps) := by
  obtain ⟨sev, hsev⟩ := Option.isSome_iff_exists.mp hc
  have := marked_capture (ps := ps) hs hsev hb
  rwa [hg] at this

/-! ### An association that comes up (R74 to R77, R84) -/

/-- The neighbour with an association up on a port. -/
def associated (s : State) (nb : Nat) (init : Bool) (port : Nat) (both : Bool) (n : Neighbour) : Neighbour :=
  { n with
    assocInit := n.assocInit || init, assocTarget := n.assocTarget || !init, port := port
    lastPortI := if init then some port else n.lastPortI, lastPortT := if init then n.lastPortT else some port
    heardI := if init then s.seed.now else n.heardI, heardT := if init then n.heardT else s.seed.now
    initQps := if init then ringQps nb else n.initQps, state := if both then 3 else 1, lostAt := none }

/-- The association and, where the device initiates it, its queue pairs. -/
def raised (nb port : Nat) (n : Neighbour) (init : Bool) (s : State) : State :=
  let s := s.modNb nb (associated s nb init port (if init then n.assocTarget else n.assocInit))
  if init then s.openInit nb (s.ringMac n port) else s

/-- What the return of a peer starts again (R157, R158, R165). -/
def resumed (nb : Nat) (s : State) : State :=
  let s := if nb = 1 then s.slices.list.foldl (fun s x => s.peerBack x.num) s else s
  (s.slices.list.foldl (fun s x => s.cutOver x.num) s).evalTolerance.smartCheck

/-- The association is recorded, and so is a move to the other port (R77). -/
def announced (nb port : Nat) (last : Option Nat) (s : State) : State :=
  let s := s.capture 0x0310 [nb, port]
  if last.elim false (· != port) then s.capture 0x0312 [nb, port] else s

theorem exec_ringAssociationUp (hn : s.nb nb = some n) (hc : n.configured = true) (hport : port ≤ 1)
    (hdown : (if init then n.assocInit else n.assocTarget) = false) (htry : init = true → n.tryPort = port) (hs : s.services = true)
    (hsec : s.fabric.ringSecret ≠ []) : exec (.ringAssociationUp nb init port) s =
      .next (resumed nb (announced nb port (if init then n.lastPortI else n.lastPortT) (raised nb port n init s))) := by
  have goes : (!n.configured || decide (1 < port) || (if init then n.assocInit || n.tryPort != port else n.assocTarget) || !s.services ||
      s.fabric.ringSecret.isEmpty) = false := by
    cases init <;> simp_all
  show execRingAssociationUp nb init port s = _
  simp only [execRingAssociationUp, hn, goes]
  rfl

theorem KeptByForwarding.resumed {P : State → Prop} (k : KeptByForwarding P) (h : P s) : P (resumed nb s) := by
  have back : P (if nb = 1 then s.slices.list.foldl (fun s x => s.peerBack x.num) s else s) :=
    ite_keeps P (foldl_keeps P _ _ s h fun _ _ _ hx => k.peerBack hx) h
  exact k.smartCheck (k.evalTolerance (foldl_keeps P _ _ _ back fun _ _ _ hx => k.cutOver hx))

theorem KeptByForwarding.announced {P : State → Prop} (k : KeptByForwarding P) {last : Option Nat} (h : P s) :
    P (announced nb port last s) := ite_keeps P (k.capture (k.capture h)) (k.capture h)

theorem raised_nbs : (raised nb port n init s).fabric.nbs =
    modNth s.fabric.nbs nb (associated s nb init port (if init then n.assocTarget else n.assocInit)) := by
  cases init <;> rfl

theorem raised_regs : (raised nb port n init s).regs = s.regs := by
  cases init <;> rfl

/-- The queue pairs of the association the device initiates are flows at the line rate of their MAC (R60, R75). -/
theorem raised_flows {q : Nat × Nat × Nat} (hq : q ∈ ringQps nb) :
    ∃ f ∈ (raised nb port n true s).fabric.flows, f.id = q.2.2 ∧ f.tcp = false ∧ f.rc = s.lineRate (s.ringMac n port) :=
  ⟨_, List.mem_append_right _ (List.mem_map_of_mem hq), rfl, rfl, rfl⟩

/-! ### An association that is lost (R76) -/

/-- The neighbour without one of its associations, with the other or without. -/
def parted (s : State) (init other : Bool) (n : Neighbour) : Neighbour :=
  { n with
    assocInit := n.assocInit && !init, assocTarget := n.assocTarget && init, state := 1
    initQps := if init then [] else n.initQps, lostAt := if other then none else some s.seed.now, retryAt := s.seed.now }

/-- What follows an association that is lost leaves the neighbours as the loss left them. -/
theorem assocLost_nbs (hn : s.nb nb = some n) (hup : (if init then n.assocInit else n.assocTarget) = true) :
    (s.assocLost nb init).fabric.nbs = modNth s.fabric.nbs nb (parted s init (if init then n.assocTarget else n.assocInit)) := by
  have k (l : List Neighbour) : KeptByPeers (·.fabric.nbs = l) := keptByPeers_nbs
  have hn' : s.fabric.nbs[nb]? = some n := hn
  have hup' : (!(if init then n.assocInit else n.assocTarget)) = false := by rw [hup]; rfl
  unfold State.assocLost
  simp only [hn', hup']
  refine (k _).evalTolerance ?_
  cases init with
  | true => exact (k _).fwAssocLost rfl
  | false =>
    refine foldl_keeps (fun t : State => t.fabric.nbs = modNth s.fabric.nbs nb (parted s false n.assocInit)) _ _ _ ?_ fun _ _ _ hx =>
      (k _).loseHost hx
    exact (k _).fwAssocLost rfl

/-- An association without a sign of its peer for 100 ms is lost (R76). -/
theorem exec_ringKeepAliveExpiry (hn : s.nb nb = some n) (hlong : 100000 ≤ s.since (if init then n.heardI else n.heardT)) :
    exec (.ringKeepAliveExpiry nb init) s = .next (s.assocLost nb init).smartCheck := by
  show execRingKeepAliveExpiry nb init s = _
  simp only [execRingKeepAliveExpiry, hn, if_neg (Nat.not_lt.2 hlong)]
  rfl

/-! ### Retries and the end of them (R76, R77) -/

theorem exec_ringRetry {authFailed : Bool} (hn : s.nb nb = some n) (hc : n.configured = true) (hi : n.assocInit = false)
    (hdue : s.retryUs n ≤ s.since n.retryAt) : exec (.ringRetry nb authFailed) s =
      let v := s.modNb nb (fun n => { n with tryPort := 1 - n.tryPort, retryAt := s.seed.now })
      .next (if authFailed then (v.capture 0x0313 [nb, n.tryPort]).smartCheck else v) := by
  show execRingRetry nb authFailed s = _
  simp only [execRingRetry, hn, hc, hi, Nat.not_lt.2 hdue]
  cases authFailed <;> rfl

/-- The peer is declared unreachable, which is recorded (R77). -/
def unreachable (nb : Nat) (s : State) : State :=
  (s.modNb nb (fun n => { n with state := 4, retryAt := s.seed.now })).capture 0x0311 [nb]

/-- What waits for a peer that is unreachable goes on (R157, R166). -/
def givenUp (nb : Nat) (s : State) : State :=
  let s := if nb = 1 then s.slices.list.foldl (fun s x => s.peerLost x.num) s else s
  (s.migPeerLost nb).smartCheck

theorem exec_ringPeerUnreachable {t0 : Nat} (hn : s.nb nb = some n) (hc : n.configured = true) (ht : n.lostAt = some t0) (h4 : n.state ≠ 4)
    (hi : n.assocInit = false) (hg : n.assocTarget = false) (hlong : max 1 (s.fld Reg.RING_TIMERS 31 16) * 1000 ≤ s.since t0) :
    exec (.ringPeerUnreachable nb) s = .next (givenUp nb (unreachable nb s)) := by
  show execRingPeerUnreachable nb s = _
  simp only [execRingPeerUnreachable, hn, hc, ht, h4, hi, hg, Nat.not_lt.2 hlong]
  rfl

theorem KeptByPeers.givenUp {P : State → Prop} (k : KeptByPeers P) (h : P s) : P (givenUp nb s) :=
  k.smartCheck (k.migPeerLost (ite_keeps P (foldl_keeps P _ _ s h fun _ _ _ hx => k.peerLost hx) h))

/-! ### The clauses together -/

theorem ringAssociationUp_raises (hs : Safe s) (hn : s.nb nb = some n) (hc : n.configured = true) (hport : port ≤ 1)
    (hdown : (if init then n.assocInit else n.assocTarget) = false) (htry : init = true → n.tryPort = port) (hserv : s.services = true)
    (hsec : s.fabric.ringSecret ≠ []) : Completes (.ringAssociationUp nb init port) s (fun t =>
      t.nb nb = some (associated s nb init port (if init then n.assocTarget else n.assocInit) n) ∧ (∀ j, j ≠ nb → t.nb j = s.nb j) ∧
      (init = true → ∀ q ∈ ringQps nb, ∃ f ∈ t.fabric.flows, f.id = q.2.2 ∧ f.tcp = false ∧ f.rc = s.lineRate (s.ringMac n port)) ∧
      (t.sticky 3).getLsbD 0x10 = true ∧
      (∀ p, (if init then n.lastPortI else n.lastPortT) = some p → p ≠ port → (t.sticky 3).getLsbD 0x12 = true)) := by
  refine ⟨_, exec_ringAssociationUp hn hc hport hdown htry hserv hsec, ?_⟩
  have safe : Safe (raised nb port n init s) := hs.of_regs raised_regs
  have k {b : Nat} : KeptByForwarding (Marked 3 b) := (keptByPeers_marked (by decide)).toKeptByForwarding
  have up : Marked 3 0x10 ((raised nb port n init s).capture 0x0310 [nb, port]) :=
    marked_group3 (code := 0x0310) safe (by decide +kernel) (by decide) (by decide)
  have same := nb_of_nbs (keptByPeers_nbs.resumed (nb := nb) (keptByPeers_nbs.announced (nb := nb) (port := port)
    (last := if init then n.lastPortI else n.lastPortT) (raised_nbs (n := n) (port := port) (init := init)))) hn
  refine ⟨same.1, same.2, fun hi q hq => ?_, ?_, fun p hp hne => ?_⟩
  · subst hi
    rw [keptByForwarding_flows.resumed (keptByForwarding_flows.announced (s := raised nb port n true s) rfl)]
    exact raised_flows hq
  · exact (k.resumed (ite_keeps (Marked 3 0x10) (k.capture up) up)).2
  · have moved : Marked 3 0x12 (announced nb port (if init then n.lastPortI else n.lastPortT) (raised nb port n init s)) := by
      have elsewhere : (some p : Option Nat).elim false (· != port) = true := by simpa using hne
      rw [hp, announced, if_pos elsewhere]
      exact marked_group3 (code := 0x0312) up.1 (by decide +kernel) (by decide) (by decide)
    exact (k.resumed moved).2

/-- Settles O38, instruction by instruction. -/
theorem ringAssociationsComeAndGo : Obligations.RingAssociationsComeAndGo := by
  unfold Obligations.RingAssociationsComeAndGo
  intro s nb n hs _ hn hc
  refine ⟨fun init port hport hdown htry hserv hsec => ringAssociationUp_raises hs hn hc hport hdown htry hserv hsec,
    fun init hup hlong => ?_, fun hi hdue => ?_, fun t0 ht h4 hi hg hlong => ?_⟩
  · refine ⟨_, exec_ringKeepAliveExpiry hn hlong, ?_⟩
    dsimp only
    rw [(nb_of_nbs (keptByPeers_nbs.smartCheck (assocLost_nbs hn hup)) hn).1]
    rfl
  · refine ⟨?_, ?_⟩
    · rw [exec_ringRetry hn hc hi hdue]
      rfl
    · rw [exec_ringRetry hn hc hi hdue]
      rfl
  · refine ⟨_, exec_ringPeerUnreachable hn hc ht h4 hi hg hlong, ?_, ?_⟩
    · have lost : (unreachable nb s).fabric.nbs = modNth s.fabric.nbs nb (fun n => { n with state := 4, retryAt := s.seed.now }) :=
        keptByPeers_nbs.capture (s := s.modNb nb _) rfl
      rw [(nb_of_nbs (keptByPeers_nbs.givenUp (nb := nb) lost) hn).1]
      rfl
    · have recorded : Marked 3 0x11 (unreachable nb s) :=
        marked_group3 (code := 0x0311) (s := s.modNb nb _) hs (by decide +kernel) (by decide) (by decide)
      exact ((keptByPeers_marked (by decide)).givenUp recorded).2

end Sys2Proof
end

section
/-! PROOFS. Selection writes, the maintenance command and the lanes' configuration (O22). -/

namespace Sys2Proof

open Sys2Proof.Machine

variable {s t : State} {v : Word}

/-! ### CE_CCT_SEL (R92, R133) -/

/-- The sixteen captured words are implemented registers, and read what was captured. -/
theorem readReg_cctData {i : Nat} (h : i < 16) : s.readReg (0xD0040 + 4 * i) = s.eng.capture.getD i 0 := by
  have implemented : ∀ i < 16, (regRow (0xD0040 + 4 * i)).isNone = false ∧ (0xD0040 + 4 * i) / 0x10000 = 0xD := by decide +kernel
  obtain ⟨row, block⟩ := implemented i h
  have index : (0xD0040 + 4 * i - 0xD0040) / 4 = i := by omega
  have range : (decide (0xD0040 ≤ 0xD0040 + 4 * i) && decide (0xD0040 + 4 * i < 0xD0080)) = true := by
    simp only [Bool.and_eq_true, decide_eq_true_eq]
    omega
  unfold State.readReg
  rw [row, block]
  simp only [Bool.false_eq_true, if_false, State.readEng, range, if_true, index]

theorem ceCctSelWrite_captures (s : State) (v : Word) : Completes (.ceCctSelWrite v) s (fun t =>
    t = { s.setReg Reg.CE_CCT_SEL (BitVec.ofNat 32 (bits v 16 0)) with eng := { s.eng with capture := t.eng.capture } } ∧
    (s.entry (bits v 16 0) = none → ∀ i, i < 16 → t.readReg (0xD0040 + 4 * i) = 0) ∧
    (∀ c, s.entry (bits v 16 0) = some c → ∀ i, i < 16 → t.readReg (0xD0040 + 4 * i) =
      ((s.setReg Reg.CE_CCT_SEL (BitVec.ofNat 32 (bits v 16 0))).cctWords c).getD i 0)) := by
  refine ⟨_, rfl, rfl, fun h i hi => ?_, fun c h i hi => ?_⟩
  · have free : (s.setReg Reg.CE_CCT_SEL (BitVec.ofNat 32 (bits v 16 0))).entry (bits v 16 0) = none := h
    rw [readReg_cctData hi]
    simp only [free]
    exact List.getD_replicate _ hi
  · have held : (s.setReg Reg.CE_CCT_SEL (BitVec.ofNat 32 (bits v 16 0))).entry (bits v 16 0) = some c := h
    rw [readReg_cctData hi]
    simp only [held]

/-! ### CH_DIE_SEL (R297) -/

theorem chDieSelWrite_captures {ch : Nat} (h : ch < 32) (hc : ch < s.array.chans.length) : Completes (.chDieSelWrite ch v) s (fun t =>
    (∀ k, k ≠ ch → t.chan k = s.chan k) ∧
    (s.die (64 * ch + bits v 5 0) = none → (t.chan ch).data0 = 0 ∧ (t.chan ch).data1 = 0 ∧ (t.chan ch).data2 = 0) ∧
    t = { s.setReg (Reg.CH_DIE_SEL + 0x1000 * ch) (BitVec.ofNat 32 (bits v 5 0)) with array := { s.array with chans := t.array.chans } }) := by
  refine ⟨_, if_neg (Nat.not_le.mpr h), fun k hk => ?_, fun hd => ?_, rfl⟩
  · exact modNth_getD_ne _ _ _ hk
  · have absent : (s.setReg (Reg.CH_DIE_SEL + 0x1000 * ch) (BitVec.ofNat 32 (bits v 5 0))).die (64 * ch + bits v 5 0) = none := hd
    simp only [State.chan, State.modChan, absent]
    rw [State.setReg_array, modNth_getD _ _ _ _ _ hc, if_pos rfl]
    exact ⟨rfl, rfl, rfl⟩

/-! ### CMP_CFG (R365, R376, R377) -/

/-- `t` differs from `s` at most in the lane and the held mode of jobs. -/
structure Relaned (s t : State) : Prop where
  rest : t = { s with store := { s.store with jobs := t.store.jobs } }
  jobs : t.store.jobs.map (fun j => (j.id, j.stage, j.slice, j.mu)) = s.store.jobs.map (fun j => (j.id, j.stage, j.slice, j.mu))

theorem Relaned.refl (s : State) : Relaned s s := ⟨rfl, rfl⟩

theorem Relaned.modJob (h : Relaned s t) (id : Nat) {f : UnitJob → UnitJob}
    (hf : ∀ j, ((f j).id, (f j).stage, (f j).slice, (f j).mu) = (j.id, j.stage, j.slice, j.mu)) : Relaned s (t.modJob id f) := by
  obtain ⟨rest, jobs⟩ := h
  refine ⟨?_, (modFirst_map _ _ _ _ hf).trans jobs⟩
  rw [rest]
  rfl

theorem Relaned.keepModes (h : Relaned s t) : Relaned s t.keepModes := by
  refine foldl_keeps (Relaned s) _ _ t h fun x _ _ hx => ?_
  split
  · exact hx
  · exact ite_keeps (Relaned s) hx (hx.modJob _ fun _ => rfl)

theorem Relaned.setReg (h : Relaned s t) {off : Nat} {w : Word} : Relaned (s.setReg off w) (t.setReg off w) := by
  obtain ⟨rest, jobs⟩ := h
  refine ⟨?_, jobs⟩
  rw [rest]
  rfl

theorem Relaned.moveQueued (h : Relaned s t) {l keep : Nat} : Relaned s (t.moveQueued l keep) :=
  foldl_keeps (Relaned s) _ _ t h fun _ _ _ hx => hx.modJob _ fun _ => rfl

/-- A new CMP_CFG is stored, and only units change their lanes. -/
theorem laneCfg_relaned (s : State) (v : Word) : Relaned (s.setReg Reg.CMP_CFG (v &&& 0x00FFFF13)) (s.laneCfg v) :=
  foldl_keeps (Relaned _) _ _ _ (Relaned.refl s).keepModes.setReg fun _ _ _ hx => hx.moveQueued

/-! ### MNT_CMD (R245, R256) -/

theorem mntCmd_neither (h0 : bits v 0 0 = 0) (h1 : bits v 1 1 = 0) : s.mntCmd v = s := by
  simp [State.mntCmd, h0, h1]

theorem mntCmd_newLap (h0 : bits v 0 0 = 1) (h1 : bits v 1 1 = 0) : s.mntCmd v = s.newLap := by
  simp [State.mntCmd, h0, h1]

theorem mntCmd_predictAll (h0 : bits v 0 0 = 0) (h1 : bits v 1 1 = 1) : s.mntCmd v = s.predictAll := by
  simp [State.mntCmd, h0, h1]

/-- Settles O22, register by register. -/
theorem selectionWritesCaptureOneEntryAndOneDie : Obligations.SelectionWritesCaptureOneEntryAndOneDie := by
  intro s v
  refine ⟨ceCctSelWrite_captures s v, fun ch h hc => chDieSelWrite_captures h hc, fun h1 => ⟨rfl, fun h0 => ?_⟩, fun h1 h0 => ?_,
    fun h0 h1 => mntCmd_neither h0 h1, fun u hu => ?_⟩
  · rw [mntCmd_newLap h0 h1]
    exact ⟨rfl, rfl, rfl, rfl, rfl, rfl⟩
  · rw [← mntCmd_predictAll h0 h1]
    rfl
  · obtain ⟨rest, jobs⟩ := laneCfg_relaned s v
    subst hu
    exact ⟨rfl, rest, jobs⟩

end Sys2Proof
end

section
/-! PROOFS. Reservations (O42): the holder stays registered, and a command acts under the host's key alone. -/

namespace Sys2Proof

open Sys2Proof.Machine

variable {s : State} {c : Capsule} {h : BitVec 128} {r : Resv}

/-! ### The holder is registered -/

/-- A reservation's holder, if it has one, is registered. -/
def HolderRegistered (r : Resv) : Prop := ∀ x, r.holder = some x → (r.keyOf x).isSome = true

theorem keyOf_isSome {x : BitVec 128} : (r.keyOf x).isSome = true ↔ ∃ p ∈ r.regs, p.1 = x := by
  simp [Resv.keyOf, List.find?_isSome]

theorem holderRegistered_none (hn : r.holder = none) : HolderRegistered r := fun x hx => by
  rw [hn] at hx
  cases hx

theorem holderRegistered_free : HolderRegistered r.free := holderRegistered_none rfl

/-- It depends on the registrants and the holder alone. -/
theorem HolderRegistered.congr (hr : HolderRegistered r) {q : Resv} (hh : q.holder = r.holder)
    (hk : ∀ p ∈ r.regs, ∃ p' ∈ q.regs, p'.1 = p.1) : HolderRegistered q := by
  intro x hx
  obtain ⟨p, hp, rfl⟩ := keyOf_isSome.mp (hr x (hh ▸ hx))
  exact keyOf_isSome.mpr (hk p hp)

/-- Where registrations end the reservation ends with its holder, or passes to one that stays. -/
theorem HolderRegistered.drop (hr : HolderRegistered r) (p : BitVec 128 × BitVec 64 → Bool) : HolderRegistered (r.drop p) := by
  unfold Resv.drop
  dsimp only
  split
  · split
    · exact holderRegistered_free
    next a l hl =>
      intro x hx
      cases hx
      exact keyOf_isSome.mpr ⟨a, hl ▸ List.mem_cons_self .., rfl⟩
  · split
    · exact holderRegistered_free
    next hgone =>
      intro x hx
      obtain ⟨q, hq, rfl⟩ := keyOf_isSome.mp (hr x hx)
      refine keyOf_isSome.mpr ⟨q, List.mem_filter.mpr ⟨hq, ?_⟩, rfl⟩
      have stays : ∀ y ∈ r.regs, p y = true → r.holder ≠ some y.1 := by simpa using hgone
      cases hp : p q with
      | false => rfl
      | true => exact absurd hx (stays q hq hp)

/-- The reservation a command leaves has a registered holder. -/
def LeavesRegistered (o : ResvOut) : Prop := HolderRegistered o.2.1

theorem leavesRegistered_register (hr : HolderRegistered r) : LeavesRegistered (resvRegister c h r) := by
  have fails {st : Nat} : LeavesRegistered (resvFail r st) := hr
  unfold resvRegister
  extract_lets
  generalize dwBits c.dw10 2 0 = op
  rcases op with _ | _ | _ | op <;> cases r.keyOf h
  case zero.none =>
    exact ite_keeps LeavesRegistered fails (hr.congr rfl fun p hp => ⟨p, List.mem_append_left _ hp, rfl⟩)
  case zero.some =>
    exact ite_keeps LeavesRegistered fails (ite_keeps LeavesRegistered (hr.congr rfl fun p hp => ⟨p, hp, rfl⟩) fails)
  case succ.zero.some =>
    refine ite_keeps LeavesRegistered fails (ite_keeps LeavesRegistered fails ?_)
    exact (hr.drop (·.1 == h)).congr rfl fun p hp => ⟨p, hp, rfl⟩
  case succ.succ.zero.some =>
    refine ite_keeps LeavesRegistered fails (ite_keeps LeavesRegistered fails (hr.congr rfl fun p hp => ⟨_, List.mem_map_of_mem hp, ?_⟩))
    split
    · next e => exact e.symm
    · rfl
  all_goals exact fails

theorem leavesRegistered_preempt (hk : (r.keyOf h).isSome = true) (hr : HolderRegistered r) (abort : Bool) :
    LeavesRegistered (resvPreempt c h r abort) := by
  have fails {st : Nat} : LeavesRegistered (resvFail r st) := hr
  refine ite_keeps LeavesRegistered fails (ite_keeps LeavesRegistered fails (ite_keeps LeavesRegistered ?_ ?_))
  · intro x hx
    cases hx
    obtain ⟨p, hp, e⟩ := keyOf_isSome.mp hk
    exact keyOf_isSome.mpr ⟨p, List.mem_filter.mpr ⟨hp, by simp [e]⟩, e⟩
  · exact (hr.drop _).congr rfl fun p hp => ⟨p, hp, rfl⟩

theorem leavesRegistered_acquire (hr : HolderRegistered r) : LeavesRegistered (resvAcquire c h r) := by
  have fails {st : Nat} : LeavesRegistered (resvFail r st) := hr
  unfold resvAcquire
  extract_lets
  split
  · exact fails
  split
  · exact fails
  next hkey =>
  have key : r.keyOf h = some (crkey c) := by simpa using hkey
  have registered : (r.keyOf h).isSome = true := by rw [key]; rfl
  split
  · refine ite_keeps LeavesRegistered (fun x hx => ?_) (ite_keeps LeavesRegistered hr fails)
    cases hx
    exact registered
  · exact leavesRegistered_preempt registered hr false
  · exact leavesRegistered_preempt registered hr true
  · exact fails

theorem leavesRegistered_release (hr : HolderRegistered r) : LeavesRegistered (resvRelease c h r) := by
  have fails {st : Nat} : LeavesRegistered (resvFail r st) := hr
  have cleared : LeavesRegistered (St.ok, { r.free with regs := [], gen := r.gen + 1 }, [(3, r.others h)], []) :=
    holderRegistered_none rfl
  exact ite_keeps LeavesRegistered fails (ite_keeps LeavesRegistered fails (ite_keeps LeavesRegistered cleared
    (ite_keeps LeavesRegistered hr (ite_keeps LeavesRegistered fails holderRegistered_free))))

/-! ### The host's key -/

theorem resvFail_spec {st : Nat} (hst : st ≠ St.ok) : (resvFail r st).1 ≠ St.ok ∧ (resvFail r st).2.1 = r := ⟨hst, rfl⟩

theorem acquire_otherKey (hk : r.keyOf h ≠ some (crkey c)) : (resvAcquire c h r).1 ≠ St.ok ∧ (resvAcquire c h r).2.1 = r := by
  unfold resvAcquire
  dsimp only
  split
  · exact resvFail_spec (by decide)
  · rw [if_pos (by simpa using hk)]
    exact resvFail_spec (by decide)

theorem release_otherKey (hk : r.keyOf h ≠ some (crkey c)) : (resvRelease c h r).1 ≠ St.ok ∧ (resvRelease c h r).2.1 = r := by
  unfold resvRelease
  split
  · exact resvFail_spec (by decide)
  · rw [if_pos (by simpa using hk)]
    exact resvFail_spec (by decide)

theorem register_first (hk : r.keyOf h = none) (h0 : dwBits c.dw10 2 0 = 0) (hp : dwBits c.dw10 31 30 ≠ 1) :
    (resvRegister c h r).1 = St.ok ∧ (resvRegister c h r).2.1.keyOf h = some (nrkey c) ∧ (resvRegister c h r).2.1.gen = r.gen + 1 := by
  have new : resvRegister c h r =
      (St.ok, { r with regs := r.regs ++ [(h, nrkey c)], gen := r.gen + 1, ptpl := cptplOf c r.ptpl }, [], []) := by
    unfold resvRegister
    rw [h0, hk]
    exact if_neg hp
  have absent : r.regs.find? (·.1 == h) = none := by simpa [Resv.keyOf] using hk
  rw [new]
  refine ⟨rfl, ?_, rfl⟩
  simp [Resv.keyOf, List.find?_append, absent]

theorem acquire_free (hk : r.keyOf h = some (crkey c)) (ht : r.rtype = 0) (h0 : dwBits c.dw10 2 0 = 0) (h3 : c.dw10.getLsbD 3 = false)
    (h1 : 1 ≤ dwBits c.dw10 15 8) (h6 : dwBits c.dw10 15 8 ≤ 6) :
    resvAcquire c h r = (St.ok, { r with holder := some h, rtype := dwBits c.dw10 15 8 }, [], []) := by
  have type : (c.dw10.getLsbD 3 || decide (dwBits c.dw10 15 8 = 0) || decide (6 < dwBits c.dw10 15 8)) = false := by
    rw [h3]
    simp [Nat.ne_of_gt h1, Nat.not_lt.mpr h6]
  simp only [resvAcquire, type, hk, h0, ht, bne_self_eq_false, Bool.false_eq_true, if_false, if_true]

/-! ### The commands -/

/-- What a reservation command answers once its data has arrived, and the reservation it leaves. -/
theorem resvCmd_answers {e opc bytes : Nat} {f : Cct → Ctrl → Ns → ResvOut} {x : Cct} {k : Ctrl} {n : Ns} (hk : s.ctrl x.cntl = some k)
    (hn : s.nsOf x.slice x.cap.nsid = some n) (he : OnEntry s e opc true x) (hd : bytes ≤ x.cap.data.length) :
    ((f x k n).1 ≠ St.ok → s.resvCmd e opc bytes f = .next (s.finish e (f x k n).1 0 .none)) ∧
    ((f x k n).1 = St.ok → (f x k n).2.2.1 = [] → (f x k n).2.2.2 = [] → s.resvCmd e opc bytes f =
      .next ((if (f x k n).2.1 = n.resv then s else s.putResv x.slice n (f x k n).2.1).finish e St.ok 0 .none)) := by
  unfold State.resvCmd
  rw [withCmd_onEntry he]
  simp only [hk, hn, if_neg (Nat.not_lt.mpr hd), State.reply, State.answer, he.idx]
  refine ⟨fun hst => ?_, fun hst hnotes hhosts => ?_⟩
  · rw [if_pos (bne_iff_ne.mpr hst)]
  · have none (p : Cct → Bool) (o : Cct → Option Ctrl) (l : List Cct) :
        l.filter (fun y => p y && (o y).elim false fun k => ([] : List (BitVec 128)).contains k.hostId) = [] := by
      refine List.filter_eq_nil_iff.mpr fun y _ => ?_
      cases o y <;> simp
    rw [if_neg (by simp [hst]), hnotes, hhosts, none]
    rfl

theorem exec_reservationReport {e : Nat} {x : Cct} {n : Ns} (hn : s.nsOf x.slice x.cap.nsid = some n) (he : OnEntry s e 0x0E true x)
    (h0 : x.step = 0) (heds : x.cap.dw11.getLsbD 0 = true) :
    exec (.reservationReport e) s = .next (s.finish e St.ok 0 (s.resvReport x.slice n (4 * (x.cap.dw10.toNat + 1)))) := by
  show execReservationReport e s = _
  simp [execReservationReport, State.withNs, withCmd_onEntry he, hn, h0, heds]

/-- Settles O42, from what each command does to a reservation. -/
theorem reservationsFollowTheirHolders : Obligations.ReservationsFollowTheirHolders := by
  refine ⟨fun c h r hr => ⟨leavesRegistered_register hr, leavesRegistered_acquire hr, leavesRegistered_release hr⟩, fun c h r hk => ?_,
    fun c h r => register_first, fun c h r => acquire_free, fun s e c k n hk hn => ⟨fun p hp he hd => ?_, exec_reservationReport hn⟩⟩
  · obtain ⟨hst, hsame⟩ := acquire_otherKey hk
    exact ⟨hst, hsame, release_otherKey hk⟩
  · simp only [List.mem_cons, List.not_mem_nil, or_false] at hp
    rcases hp with rfl | rfl | rfl
    · exact resvCmd_answers (f := fun c k n => resvRegister c.cap k.hostId n.resv) hk hn he hd
    · exact resvCmd_answers (f := fun c k n => resvAcquire c.cap k.hostId n.resv) hk hn he hd
    · exact resvCmd_answers (f := fun c k n => resvRelease c.cap k.hostId n.resv) hk hn he hd

end Sys2Proof
end

section
/-! PROOFS. Admin commands (O43): pages, structures and features are answered, aborts close an open gate, event requests wait. -/

namespace Sys2Proof

open Sys2Proof.Machine

variable {s : State} {e : Nat} {c : Cct} {k : Ctrl}

theorem ctrl_id {i : Nat} (h : s.ctrl i = some k) : k.id = i := by
  simpa using List.find?_some h

/-! ### Get Log Page and Identify (R119, R121, R122) -/

theorem exec_getLogPage_unknown (hk : s.ctrl c.cntl = some k) (h : OnEntry s e 0x02 false c)
    (hl : (logPages k).contains (lidOf c.cap) = false) : exec (.getLogPage e) s = .next (s.finish e St.invalidLogPage 0 .none) := by
  show execGetLogPage e s = _
  simp only [execGetLogPage, withCmd_onEntry h, hk, hl, Bool.not_false, if_true, State.reply, State.answer, h.idx]

/-- A page read with RAE set is answered from its offset, and nothing is marked as read. -/
theorem exec_getLogPage_retained {len : Nat} {f : Fields} (hk : s.ctrl c.cntl = some k) (h : OnEntry s e 0x02 false c)
    (hl : (logPages k).contains (lidOf c.cap) = true) (hc3 : lidOf c.cap ≠ 0xC3) (hrae : raeOf c.cap = true)
    (hp : (if lidOf c.cap = 0xC1 then c.page else s.pageFor k (lidOf c.cap) (lspOf c.cap) (lsiOf c.cap)) = some (len, f))
    (hoff : logOff c.cap ≤ len) :
    exec (.getLogPage e) s = .next (s.finish e St.ok 0 (.page (logOff c.cap) (logBytes c.cap) f)) := by
  show execGetLogPage e s = _
  simp only [execGetLogPage, withCmd_onEntry h, hk, hl, hc3, hp, hrae, Nat.not_lt.mpr hoff, Bool.not_true, Bool.false_eq_true, decide_false,
    Bool.false_and, if_false, if_true]

theorem exec_identify (hk : s.ctrl c.cntl = some k) (h : OnEntry s e 0x06 false c) (h0 : dwBits c.cap.dw11 31 24 = 0) :
    exec (.identify e) s = .next (match s.identify_ k c.cap with
      | none => s.finish e St.invalidField 0 .none
      | some f => s.finish e St.ok 0 (.page 0 4096 f)) := by
  show execIdentify e s = _
  cases hi : s.identify_ k c.cap <;>
    simp only [execIdentify, withCmd_onEntry h, hk, h0, hi, if_true, State.reply, State.answer, h.idx]

/-! ### Abort (R106, R107) -/

theorem exec_abort (h : OnEntry s e 0x08 false c) (h4 : s.before c.cntl 0x08 e < 4) :
    (s.abortTarget c.cntl c.cap = none → exec (.abort e) s = .next ((s.bump Reg.CE_CNT_ABORT_NOT 1).finish e St.ok 1 .none)) ∧
    (∀ x, s.abortTarget c.cntl c.cap = some x → x.gate = .open → exec (.abort e) s = .next
      ((((s.modEntry x.idx (fun y => { y with abortReq := true })).post { x with abortReq := true } St.abortRequested 0).bump
        Reg.CE_CNT_ABORT_DONE 1).finish e St.ok 0 .none)) ∧
    (∀ x, s.abortTarget c.cntl c.cap = some x → x.gate ≠ .open → exec (.abort e) s = .next
      (((s.modEntry x.idx (fun y => { y with abortReq := true })).bump Reg.CE_CNT_ABORT_NOT 1).finish e St.ok 1 .none)) := by
  refine ⟨fun ht => ?_, fun x ht hx => ?_, fun x ht hx => ?_⟩ <;> show execAbort e s = _ <;>
    simp only [execAbort, withCmd_onEntry h, Nat.not_le.mpr h4, ht, State.answer, h.idx, if_false]
  · rw [if_pos (beq_iff_eq.mpr hx)]
    rfl
  · rw [if_neg (by simpa using hx)]

/-! ### Features (R120, R433, R589) -/

theorem exec_setFeatures (hk : s.ctrl c.cntl = some k) (h : OnEntry s e 0x09 false c)
    (hf : [0x01, 0x02, 0x04, 0x07, 0x0B, 0x0C, 0x0F, 0x81, 0x82, 0x83, 0xC0].contains (dwBits c.cap.dw10 7 0) = true) :
    (c.cap.dw10.getLsbD 31 = true → exec (.setFeatures e) s = .next (s.finish e St.notSaveable 0 .none).smartCheck) ∧
    (c.cap.dw10.getLsbD 31 = false → featBytes (dwBits c.cap.dw10 7 0) ≤ c.cap.data.length → exec (.setFeatures e) s =
      .next ((s.setFeature k c.cap).2.2.finish e (s.setFeature k c.cap).1 (s.setFeature k c.cap).2.1 .none).smartCheck) := by
  refine ⟨fun hsv => ?_, fun hsv hd => ?_⟩ <;> show execSetFeatures e s = _ <;>
    simp only [execSetFeatures, withCmd_onEntry h, hk, hf, hsv, State.reply, State.answer, h.idx, State.done]
  · rfl
  · simp only [Bool.and_false, Bool.false_eq_true, if_false, Nat.not_lt.mpr hd]

theorem exec_getFeatures (hk : s.ctrl c.cntl = some k) (h : OnEntry s e 0x0A false c) (h0 : dwBits c.cap.dw10 10 8 = 0) {v : Nat}
    {d : List Byte} (hv : s.getFeature k c.cap false = some (v, d)) :
    exec (.getFeatures e) s = .next (s.finish e St.ok (BitVec.ofNat 32 v) (if d.isEmpty then .none else .bytes d)) := by
  have current : s.getFeature k c.cap (0 == 1) = some (v, d) := hv
  show execGetFeatures e s = _
  simp only [execGetFeatures, withCmd_onEntry h, hk, h0, current]
  rfl

/-- The features of a controller that are one value of its own: the value set is the value read. -/
theorem getFeature_setFeature {d g : Capsule} {fid : Nat} {j : Ctrl} (hk : s.ctrl k.id = some k)
    (hfid : fid ∈ [0x01, 0x02, 0x0B, 0x0F, 0xC0]) (hd : dwBits d.dw10 7 0 = fid) (hg : dwBits g.dw10 7 0 = fid)
    (hok : (s.setFeature k d).1 = St.ok) (hj : (s.setFeature k d).2.2.ctrl k.id = some j) :
    (s.setFeature k d).2.2.getFeature j g false = some (if fid = 0x01 then dwBits d.dw11 2 0 else if fid = 0x02 then dwBits d.dw11 4 0
      else if fid = 0x0F then (katoOf d.dw11.toNat).getD 0 else d.dw11.toNat, []) := by
  have changed {f : Ctrl → Ctrl} (h : (s.modCtrl k.id f).ctrl k.id = some j) (hf : ∀ y, (f y).id = y.id) : j = f k := by
    rw [State.ctrl_modCtrl s _ _ f hf, if_pos rfl, hk] at h
    exact (Option.some.inj h).symm
  simp only [List.mem_cons, List.not_mem_nil, or_false] at hfid
  unfold State.setFeature at hok hj ⊢
  unfold State.getFeature
  rcases hfid with rfl | rfl | rfl | rfl | rfl <;> simp only [hd, hg] at hok hj ⊢
  case inl =>
    rw [changed hj fun _ => rfl]
    rfl
  case inr.inl =>
    split at hok
    · cases hok
    next hle =>
    rw [if_neg hle] at hj
    have set : (s.modCtrl k.id fun y => { y with ps := dwBits d.dw11 4 0 }).ctrl k.id = some j := hj
    rw [changed set fun _ => rfl]
    rfl
  case inr.inr.inl =>
    rw [changed hj fun _ => rfl]
    rfl
  case inr.inr.inr.inl =>
    cases hn : katoOf d.dw11.toNat with
    | none =>
      rw [hn] at hok
      cases hok
    | some n =>
      rw [hn] at hj
      have set : (s.modCtrl k.id fun y => { y with kato := n, kaAt := s.seed.now }).ctrl k.id = some j := hj
      rw [changed set fun _ => rfl]
      rfl
  case inr.inr.inr.inr =>
    have set : (s.modCtrl k.id fun y => { y with lt := d.dw11 }).ctrl k.id = some j := hj
    rw [changed set fun _ => rfl]
    rfl

/-! ### Asynchronous Event Request (R108, R560) -/

theorem exec_asynchronousEventRequest_ninth (hk : s.ctrl c.cntl = some k) (h : OnEntry s e 0x0C false c) (h8 : 8 ≤ k.aers.length) :
    exec (.asynchronousEventRequest e) s = .next (s.finish e St.aerLimit 0 .none) := by
  show execAsynchronousEventRequest e s = _
  simp only [execAsynchronousEventRequest, withCmd_onEntry h, hk, h8, if_true, State.reply, State.answer, h.idx]

/-- A controller without a pending notice reports none. -/
theorem reportNotice_none {i : Nat} (hk : s.ctrl i = some k) (hp : k.pendingN = []) : s.reportNotice i = s := by
  simp [State.reportNotice, hk, hp]

/-- The entry of an event request that waits. -/
def waitsForEvent (now : Nat) (x : Cct) : Cct := { x with st := .heldResource, waitsOwn := true, step := 1, heldAt := now }

/-- The controller with one outstanding request more. -/
def outstandingReq (e : Nat) (y : Ctrl) : Ctrl := { y with aers := y.aers ++ [e] }

theorem asynchronousEventRequest_waits (hk : s.ctrl c.cntl = some k) (h : OnEntry s e 0x0C false c) (h8 : k.aers.length < 8)
    (hp : k.pendingN = []) : Completes (.asynchronousEventRequest e) s (fun t =>
      (t.entry e).map (fun x => (x.st, x.waitsOwn)) = some (.heldResource, true) ∧ (t.ctrl k.id).map (·.aers) = some (k.aers ++ [e]) ∧
      t = { s with eng := { s.eng with cct := t.eng.cct, ctrls := t.eng.ctrls } }) := by
  have hid := ctrl_id hk
  have outstanding : ((s.modEntry e (waitsForEvent s.seed.now)).modCtrl k.id (outstandingReq e)).ctrl k.id = some (outstandingReq e k) := by
    rw [State.ctrl_modCtrl _ _ _ (outstandingReq e) fun _ => rfl, if_pos rfl, hid]
    exact congrArg (Option.map (outstandingReq e)) hk
  refine ⟨(s.modEntry e (waitsForEvent s.seed.now)).modCtrl k.id (outstandingReq e), ?_, ?_, ?_, rfl⟩
  · show execAsynchronousEventRequest e s = _
    simp only [execAsynchronousEventRequest, withCmd_onEntry h, hk, Nat.not_le.mpr h8, if_false]
    exact congrArg Host.Outcome.next (reportNotice_none outstanding hp)
  · show (((s.modEntry e (waitsForEvent s.seed.now)).entry e).map fun x => (x.st, x.waitsOwn)) = _
    rw [State.entry_modEntry _ _ _ (waitsForEvent s.seed.now) fun _ => rfl, if_pos rfl, h.1]
    rfl
  · rw [outstanding]
    rfl

/-! ### Keep Alive (R117, R589) -/

/-- The controller with its keep-alive time restarted. -/
def restarted (now : Nat) (y : Ctrl) : Ctrl := { y with kaAt := now }

theorem keepAlive_restarts (hk : s.ctrl c.cntl = some k) (h : OnEntry s e 0x18 false c) :
    (k.ring = none → exec (.keepAlive e) s =
      .next ((s.modCtrl c.cntl (fun k => { k with kaAt := s.seed.now })).finish e St.ok 0 .none)) ∧
    (∀ nb m, k.ring = some nb → s.nb nb = some m → Completes (.keepAlive e) s (fun t =>
      t.nb nb = some { m with heardT := s.seed.now } ∧ (t.ctrl c.cntl).map (·.kaAt) = some s.seed.now)) := by
  have runs : exec (.keepAlive e) s = execKeepAlive e s := rfl
  unfold Completes
  rw [runs]
  simp only [execKeepAlive, withCmd_onEntry h, hk, State.reply, State.answer, h.idx]
  refine ⟨fun hr => ?_, fun nb m hr hm => ⟨_, rfl, ?_, ?_⟩⟩
  · simp only [hr, Option.bind_some]
  · simp only [hr, Option.bind_some]
    show (modNth s.fabric.nbs nb _)[nb]? = _
    rw [modNth_getElem?, if_pos rfl, show s.fabric.nbs[nb]? = some m from hm]
    rfl
  · simp only [hr, Option.bind_some]
    show ((s.modCtrl c.cntl (restarted s.seed.now)).ctrl c.cntl).map (·.kaAt) = _
    rw [State.ctrl_modCtrl _ _ _ (restarted s.seed.now) fun _ => rfl, if_pos rfl, hk]
    rfl

/-- Settles O43, command by command. -/
theorem adminCommandsAnswerAndSet : Obligations.AdminCommandsAnswerAndSet := by
  intro s e c k hk
  refine ⟨fun h => ⟨exec_getLogPage_unknown hk h, fun len f => exec_getLogPage_retained hk h⟩, exec_identify hk, exec_abort, exec_setFeatures hk,
    fun d g fid j hfid hd hg hid => getFeature_setFeature (by rw [hid]; exact hk) hfid hd hg, fun h h0 v d => exec_getFeatures hk h h0,
    fun h => ⟨exec_asynchronousEventRequest_ninth hk h, asynchronousEventRequest_waits hk h⟩, keepAlive_restarts hk⟩

end Sys2Proof
end

section
/-! PROOFS. What a slice holds, its namespaces, its key and its erase, and the steps that leave it (O44). -/

namespace Sys2Proof

open Sys2Proof.Machine

variable {s t u : State} {sl : Nat}

/-- What a closed entry is metered by: counters, and the bytes of its slice. -/
theorem meterClosed_keeps {P : State → Prop} {e : Cct} {st : Nat} (add : ∀ {x : State} (i v : Nat), P x → P (x.meterAdd e.slice i v))
    (bytes : ∀ {x : State} (rd wr : Nat), P x →
      P (x.modSlice e.slice fun y => { y with readBytes := y.readBytes + rd, writeBytes := y.writeBytes + wr }))
    (h : P s) : P (s.meterClosed e st) := by
  have timed {x : State} {p q : Bool} {us : Nat} (h : P x) :
      P (if p then x.meterAdd e.slice 9 us else if q then x.meterAdd e.slice 10 us else x) :=
    ite_keeps P (add _ _ h) (ite_keeps P (add _ _ h) h)
  have failed {x : State} (h : P x) : P (if st != St.ok then x.meterAdd e.slice 12 1 else x) := ite_keeps P (add _ _ h) h
  exact failed (bytes _ _ (add _ _ (add _ _ (add _ _ (add _ _ (add _ _ (add _ _ (timed (add _ _ h)))))))))

/-- What of a slice a host made or erases: its namespaces, its key, and the erase under way. -/
def heldKey (x : SliceS) : Nat × List Ns × Nat × Option EraseJob × Nat := (x.num, x.nss, x.key, x.erase, x.sanStat)

/-- The slices hold the same in both states, and no key has been drawn. -/
structure HoldSame (s t : State) : Prop where
  keys : t.slices.list.map heldKey = s.slices.list.map heldKey
  gen : t.slices.keyGen = s.slices.keyGen

namespace HoldSame

theorem refl (s : State) : HoldSame s s := ⟨rfl, rfl⟩

/-- What leaves the slices keeps what they hold. -/
theorem of_slices (h : HoldSame s t) (e : u.slices = t.slices) : HoldSame s u := ⟨by rw [e]; exact h.keys, by rw [e]; exact h.gen⟩

theorem eng (h : HoldSame s t) (x : Engine) : HoldSame s { t with eng := x } := ⟨h.keys, h.gen⟩

theorem store (h : HoldSame s t) (x : Store) : HoldSame s { t with store := x } := ⟨h.keys, h.gen⟩

theorem modSlice (h : HoldSame s t) {n : Nat} {f : SliceS → SliceS} (hf : ∀ x, heldKey (f x) = heldKey x) : HoldSame s (t.modSlice n f) :=
  ⟨(modFirst_map _ _ _ _ hf).trans h.keys, h.gen⟩

/-- What a slice holds. -/
theorem slice (h : HoldSame s t) (n : Nat) : (t.slice n).map heldKey = (s.slice n).map heldKey := by
  have found (x : State) : (x.slice n).map heldKey = (x.slices.list.map heldKey).find? (fun k => k.1 == n) := by
    rw [List.find?_map]
    rfl
  rw [found, found, h.keys]

/-- A part of what a slice holds. -/
theorem part {α : Type} (h : HoldSame s t) {g : SliceS → α} (p : Nat × List Ns × Nat × Option EraseJob × Nat → α)
    (hp : ∀ x, p (heldKey x) = g x) (n : Nat) : (t.slice n).map g = (s.slice n).map g := by
  have e := congrArg (Option.map p) (h.slice n)
  simpa only [Option.map_map, Function.comp_def, hp] using e

theorem nsOf (h : HoldSame s t) (n i : Nat) : t.nsOf n i = s.nsOf n i := by
  have nss := h.part (g := (·.nss)) (·.2.1) (fun _ => rfl) n
  have found (x : State) : x.nsOf n i = ((x.slice n).map (·.nss)).bind (fun l => l.find? (·.nsid == i)) := by
    rw [Option.bind_map]
    rfl
  rw [found, found, nss]

/-! ### Completions and notices -/

theorem meterAdd (h : HoldSame s t) {n i v : Nat} : HoldSame s (t.meterAdd n i v) := h.modSlice fun _ => rfl

theorem meterClosed (h : HoldSame s t) {e : Cct} {st : Nat} : HoldSame s (t.meterClosed e st) :=
  meterClosed_keeps (fun _ _ hx => hx.meterAdd)
    (fun rd wr hx => modSlice (f := fun y => { y with readBytes := y.readBytes + rd, writeBytes := y.writeBytes + wr }) hx fun _ => rfl) h

theorem countErr (h : HoldSame s t) {n : Nat} : HoldSame s (t.countErr n) :=
  ite_keeps (HoldSame s) ⟨h.keys, h.gen⟩ (h.modSlice fun _ => rfl)

theorem sendCqe (h : HoldSame s t) {e : Cct} {st : Nat} {r : Word} : HoldSame s (t.sendCqe e st r) :=
  ite_keeps (HoldSame s) (h.of_slices rfl) (ite_keeps (HoldSame s) (h.of_slices rfl) (h.of_slices rfl))

theorem post (h : HoldSame s t) {e : Cct} {st : Nat} {r : Word} : HoldSame s (t.post e st r) := by
  have closed : HoldSame s (if e.queue < 8192 then t.meterClosed e st
      else if st != St.ok && e.slice != 0 then t.meterAdd e.slice 12 1 else t) :=
    ite_keeps (HoldSame s) h.meterClosed (ite_keeps (HoldSame s) h.meterAdd h)
  exact sendCqe (ite_keeps (HoldSame s) (p := statusNoEntry st = true) closed (closed.countErr.eng _))

theorem reportNotice (h : HoldSame s t) {c : Nat} : HoldSame s (t.reportNotice c) := by
  unfold State.reportNotice
  split
  · exact h
  · split
    · split
      · exact h
      · exact post (t := State.modCtrl _ _ t) (h.eng _)
    · exact h

theorem notify (h : HoldSame s t) {c : Nat} {n : Notice} : HoldSame s (t.notify c n) :=
  ite_keeps (HoldSame s) h (reportNotice (t := State.modCtrl _ _ t) (h.eng _))

end HoldSame

theorem keptByWritePath_holdSame : KeptByWritePath (HoldSame s) where
  sticky := fun _ _ h => h.of_slices rfl
  events := fun _ h => h.of_slices rfl
  prob := fun _ h => h.of_slices rfl
  notify := fun _ _ h => h.notify
  reg := fun _ _ _ h => h.of_slices rfl
  journal := fun _ _ h => h.of_slices rfl
  upkeep := fun _ h => h.of_slices rfl
  mem := fun _ h => h.of_slices rfl
  buf := fun _ h => h.of_slices rfl
  again := fun _ h => h.of_slices rfl
  opened := fun _ h => h.of_slices rfl
  grown := fun _ _ _ _ h => h.of_slices rfl
  array := fun _ h => h.of_slices rfl
  pslc := fun _ h => h.of_slices rfl
  flash := fun _ h => h.of_slices rfl
  ended := fun _ h => h.of_slices rfl
  power := fun _ h => h.of_slices rfl
  loops := fun _ h => h.of_slices rfl
  fw := fun _ h => h.of_slices rfl

namespace HoldSame

theorem capture (h : HoldSame s t) {code : Nat} {ps : List Nat} : HoldSame s (t.capture code ps) := keptByWritePath_holdSame.capture h

theorem notifyAll (h : HoldSame s t) {p : Ctrl → Bool} {n : Notice} : HoldSame s (t.notifyAll p n) := keptByWritePath_holdSame.notifyAll h

theorem smartCheck (h : HoldSame s t) : HoldSame s t.smartCheck :=
  keptByWritePath_holdSame.toKeptByRecorder.smartCheck (fun _ _ hx => hx.of_slices rfl) h

theorem writeSettings (h : HoldSame s t) : HoldSame s t.writeSettings := keptByWritePath_holdSame.writeSettings h

theorem nsChanged (h : HoldSame s t) {n : Nat} : HoldSame s (t.nsChanged sl n) :=
  foldl_keeps (HoldSame s) _ _ t h fun x _ _ hx => ite_keeps (HoldSame s) (notify (t := State.modCtrl _ _ x) (hx.eng _)) (hx.eng _)

/-! ### What is forwarded to a peer (R156, R158) -/

theorem forwardChange (h : HoldSame s t) {c : PeerChange} : HoldSame s (t.forwardChange sl c) := by
  unfold State.forwardChange
  split
  · exact h
  · refine ite_keeps (HoldSame s) h (ite_keeps (HoldSame s) (h.of_slices rfl) (ite_keeps (HoldSame s) ?_ h))
    split <;> exact h.modSlice fun _ => rfl

theorem setResync (h : HoldSame s t) {l : List (Nat × Nat)} : HoldSame s (t.setResync sl l) := by
  refine modSlice (f := fun x => { x with resync := l }) ?_ fun _ => rfl
  exact h.of_slices rfl

theorem answerEntry (h : HoldSame s t) {e : Option Nat} {st : Nat} {r : Word} : HoldSame s (t.answerEntry e st r) := by
  unfold State.answerEntry
  split
  · exact h
  · split
    · exact h
    · exact h.of_slices rfl

theorem cancelMig (h : HoldSame s t) {cause : Nat} : HoldSame s (t.cancelMig sl cause) := by
  unfold State.cancelMig
  split
  · exact h
  · split
    · exact h
    next m _ =>
      refine ite_keeps (HoldSame s) h (capture ?_)
      have ended : HoldSame s ((t.modSlice sl fun x => { x with mig := none, migState := 0 }).endStream true m.nb m.id) :=
        of_slices (modSlice (f := fun x => { x with mig := none, migState := 0 }) h fun _ => rfl) rfl
      exact ended.answerEntry.of_slices rfl

/-! ### Units that are deallocated (R199, R200) -/

theorem lostSpill (h : HoldSame s t) : HoldSame s t.lostSpill :=
  ite_keeps (HoldSame s) (ite_keeps (HoldSame s) h (capture (h.store _))) (h.store _)

theorem removeLost (h : HoldSame s t) {ns a n : Nat} : HoldSame s (t.removeLost sl ns a n) :=
  ite_keeps (HoldSame s) h (lostSpill (h.store _))

theorem stageEntry (h : HoldSame s t) {ns mu : Nat} {e : MapEntry} : HoldSame s (t.stageEntry sl ns mu e) := by
  have superseded : HoldSame s (t.supersede (t.entryAt sl ns mu)) := by
    unfold State.supersede
    split
    · exact h.of_slices rfl
    · exact h
  exact superseded.of_slices rfl

theorem deallocRun (h : HoldSame s t) {cct : Nat} {n : Ns} {seq : Word} {r : Nat × Nat} : HoldSame s (t.deallocRun sl n cct seq r) :=
  ite_keeps (HoldSame s) h (foldl_keeps (HoldSame s) _ _ _ (keptByWritePath_holdSame.jsync h) fun _ _ _ hx =>
    stageEntry (ite_keeps (HoldSame s) hx.removeLost hx))

theorem wipeNs (h : HoldSame s t) {n : Ns} : HoldSame s (t.wipeNs sl n) := h.deallocRun.of_slices rfl

theorem settled (h : HoldSame s t) {before : List Band} : HoldSame s (t.settle before).gatherHost :=
  keptByWritePath_holdSame.gatherHost (keptByWritePath_holdSame.settle h)

theorem wipeSlice (h : HoldSame s t) : HoldSame s (t.wipeSlice sl) := by
  unfold State.wipeSlice
  split
  · exact h
  · exact settled (foldl_keeps (HoldSame s) _ _ t h fun _ _ _ hx => hx.wipeNs)

/-! ### Units in the lanes that an erase gives up (R153) -/

theorem readDone (h : HoldSame s t) {e : Nat} : HoldSame s (t.readDone e) := h.of_slices (by rw [readDone_rest])

theorem endRead (h : HoldSame s t) {j : UnitJob} : HoldSame s (t.endRead j) := by
  unfold State.endRead
  split
  · exact h.of_slices rfl
  · exact readDone (t := State.modEntry _ _ (State.dropJob _ t)) (h.of_slices rfl)

theorem giveChain (h : HoldSame s t) {job e : Option Nat} {l : List Nat} : HoldSame s (t.giveChain job e l) := by
  cases job with
  | some i => exact h.store _
  | none =>
    cases e with
    | some i => exact h.eng _
    | none => exact h

theorem holdRes (h : HoldSame s t) {e : Option Nat} : HoldSame s (t.holdRes e) := by
  cases e
  · exact h
  · exact h.eng _

theorem requestPun (h : HoldSame s t) {cls n : Nat} {job e : Option Nat} : HoldSame s (t.requestPun cls n job e) := by
  have granted (l : List Nat) : HoldSame s (t.enterChain cls l) := h.of_slices rfl
  refine ite_keeps (HoldSame s) h (ite_keeps (HoldSame s) (granted _).giveChain (holdRes ?_))
  exact keptByWritePath_holdSame.count (.inr (by decide)) (h.of_slices rfl)

theorem giveLane (h : HoldSame s t) {id : Nat} : HoldSame s (t.giveLane id) := by
  unfold State.giveLane
  dsimp only
  split
  · exact h.of_slices rfl
  · exact requestPun (t := State.modJob _ _ t) (h.store _)

theorem eraseJobs (h : HoldSame s t) : HoldSame s (t.eraseJobs sl) :=
  foldl_keeps (HoldSame s) _ _ _ (foldl_keeps (HoldSame s) _ _ t h fun _ _ _ hx => hx.endRead) fun _ _ _ hx => giveLane (t := State.modJob _ _ _) (hx.store _)

end HoldSame

/-! ### Slices and namespaces that change -/

/-- What is read of a slice after a change of it. -/
theorem slice_modSlice_map {α : Type} {f : SliceS → SliceS} (hf : ∀ x, (f x).num = x.num) (g : SliceS → α) :
    ((s.modSlice sl f).slice sl).map g = (s.slice sl).map fun x => g (f x) := by
  rw [State.slice_modSlice s sl sl f hf, if_pos rfl, Option.map_map]
  rfl

/-- A namespace after a change of its slice. -/
theorem nsOf_modSlice {i : Nat} {f : SliceS → SliceS} (hf : ∀ x, (f x).num = x.num) :
    (s.modSlice sl f).nsOf sl i = (s.slice sl).bind fun x => (f x).nss.find? (·.nsid == i) := by
  rw [State.nsOf, State.slice_modSlice s sl sl f hf, if_pos rfl, Option.bind_map]
  rfl

/-- A namespace after a change of it. -/
theorem nsOf_modNs {ns : Nat} {f : Ns → Ns} (hf : ∀ n, (f n).nsid = n.nsid) : (s.modNs sl ns f).nsOf sl ns = (s.nsOf sl ns).map f := by
  refine (nsOf_modSlice (f := fun x => { x with nss := modFirst x.nss (·.nsid == ns) f }) fun _ => rfl).trans ?_
  rw [State.nsOf, Option.map_bind]
  exact Option.bind_congr fun x _ => modFirst_find?_self _ _ _ fun n => by rw [hf]

/-- A namespace of a slice that is there. -/
theorem nsOf_eq {x : SliceS} (h : s.slice sl = some x) (ns : Nat) : s.nsOf sl ns = x.nss.find? (·.nsid == ns) := by
  rw [State.nsOf, h]
  rfl

theorem nsOf_nsid {ns : Nat} {n : Ns} (h : s.nsOf sl ns = some n) : n.nsid = ns := by
  obtain ⟨x, -, hn⟩ := Option.bind_eq_some_iff.mp h
  simpa using List.find?_some hn

end Sys2Proof
end

section
/-! PROOFS. Namespaces and erases (O44): what each step makes of a slice. -/

namespace Sys2Proof

open Sys2Proof.Machine

variable {s t : State} {sl e : Nat} {c : Cct} {n : Ns} {k : Ctrl}

/-! ### Namespace Management (R119, R125, R174) -/

/-- A create takes a number that no namespace of the slice has, and the slice is there. -/
theorem nsCreateStatus_ok {d : List Byte} {id : Nat} (h : s.nsCreateStatus k d = (St.ok, id)) :
    ∃ x, s.slice k.slice = some x ∧ s.nsOf k.slice id = none := by
  unfold State.nsCreateStatus at h
  simp only at h
  split at h
  · cases h
  split at h
  · cases h
  split at h
  · cases h
  split at h
  · cases h
  split at h
  · cases h
  next i hi =>
  cases h
  have free := List.find?_some hi
  have below := List.mem_range.mp (List.mem_of_find?_eq_some hi)
  cases hx : s.slice k.slice with
  | none => simp [State.nsRoom, hx] at below
  | some x =>
    refine ⟨x, rfl, ?_⟩
    rw [nsOf_eq hx, List.find?_eq_none]
    simpa [State.nsRoom, hx] using free

theorem nsOf_putNs {x : SliceS} (hx : s.slice sl = some x) : (s.putNs sl n).nsOf sl n.nsid = some n := by
  have gone : (x.nss.filter (·.nsid != n.nsid)).find? (·.nsid == n.nsid) = none := by
    simp [List.find?_eq_none]
  refine (nsOf_modSlice (f := fun x => { x with nss := x.nss.filter (·.nsid != n.nsid) ++ [n] }) fun _ => rfl).trans ?_
  rw [hx, Option.bind_some, List.find?_append, gone]
  simp

theorem writeSettings_gen : s.writeSettings.journal.gen = s.journal.gen + 1 :=
  ite_keeps (fun t : State => t.journal.gen = s.journal.gen + 1) rfl rfl

theorem writeSettings_store : s.writeSettings.store = s.store := ite_keeps (fun t : State => t.store = s.store) rfl rfl

/-- A change that is forwarded leaves the journal and the store. -/
theorem forwardChange_leaves {ch : PeerChange} : (s.forwardChange sl ch).journal = s.journal ∧ (s.forwardChange sl ch).store = s.store := by
  unfold State.forwardChange
  split
  · exact ⟨rfl, rfl⟩
  · refine ite_keeps (fun t : State => t.journal = s.journal ∧ t.store = s.store) ⟨rfl, rfl⟩
      (ite_keeps (fun t : State => t.journal = s.journal ∧ t.store = s.store) ⟨rfl, rfl⟩
        (ite_keeps (fun t : State => t.journal = s.journal ∧ t.store = s.store) ?_ ⟨rfl, rfl⟩))
    split <;> exact ⟨rfl, rfl⟩

theorem Aside.journal (h : Aside s t) : t.journal = s.journal := (congrArg State.journal h.rest :)

theorem Aside.lost (h : Aside s t) : t.store.lost = s.store.lost := (congrArg (·.store.lost) h.rest :)

/-- The changed lists of controllers and their notices are aside. -/
theorem aside_nsChanged {i : Nat} : Aside s (s.nsChanged sl i) :=
  foldl_keeps (Aside s ·) _ _ s (.refl s) fun _ _ _ hx =>
    hx.trans (aside_ite _ ((aside_modCtrl ..).trans (aside_notify ..)) (aside_modCtrl ..))

theorem namespaceManagement_creates {id : Nat} (h : OnEntry s e 0x0D false c) (hk : s.ctrl c.cntl = some k) (h0 : dwBits c.cap.dw10 3 0 = 0)
    (hd : 4096 ≤ c.cap.data.length) (hcsi : dwBits c.cap.dw11 31 24 = 0) (hok : s.nsCreateStatus k c.cap.data = (St.ok, id)) :
    ∃ u : State, exec (.namespaceManagement e) s = .next (u.finish e St.ok (BitVec.ofNat 32 id) .none).smartCheck ∧
      s.nsOf k.slice id = none ∧ u.journal.gen = s.journal.gen + 1 ∧
      u.nsOf k.slice id = some { nsid := id, nsze := fieldAt c.cap.data 0 8, lbaf := fieldAt c.cap.data 26 1 % 16, pi := fieldAt c.cap.data 29 1 % 8 } := by
  obtain ⟨x, hx, hfree⟩ := nsCreateStatus_ok hok
  let n : Ns := { nsid := id, nsze := fieldAt c.cap.data 0 8, lbaf := fieldAt c.cap.data 26 1 % 16, pi := fieldAt c.cap.data 29 1 % 8 }
  let ch : PeerChange := .nsCreate id n.nsze n.lbaf n.pi
  refine ⟨(((s.putNs k.slice n).forwardChange k.slice ch).writeSettings).nsChanged k.slice id, ?_, hfree, ?_, ?_⟩
  · show execNamespaceManagement e s = _
    simp only [execNamespaceManagement, withCmd_onEntry h, hk, h0, hcsi, hok, Nat.not_lt.mpr hd, bne_self_eq_false, Bool.false_eq_true, if_false,
      State.answer, h.idx]
    rfl
  · rw [aside_nsChanged.journal, writeSettings_gen, forwardChange_leaves.1]
    rfl
  · have same : HoldSame (s.putNs k.slice n) _ :=
      ((HoldSame.refl (s.putNs k.slice n)).forwardChange (sl := k.slice) (c := ch)).writeSettings.nsChanged (sl := k.slice) (n := id)
    rw [same.nsOf]
    exact nsOf_putNs (n := n) hx

/-- A namespace deleted is no longer of its slice, and no lost range names it. -/
theorem deleteNs_gone : (s.deleteNs sl n).nsOf sl n.nsid = none ∧
    ∀ r ∈ (s.deleteNs sl n).store.lost, ¬ (r.slice = sl ∧ r.nsid = n.nsid) := by
  unfold State.deleteNs
  extract_lets l a before b lost store d f
  have same : HoldSame f (((f.forwardChange sl (.nsDelete n.nsid)).writeSettings).nsChanged sl n.nsid) :=
    (HoldSame.refl f).forwardChange.writeSettings.nsChanged
  constructor
  · rw [same.nsOf]
    refine (nsOf_modSlice (f := fun x => { x with nss := x.nss.filter (·.nsid != n.nsid) }) fun _ => rfl).trans ?_
    refine Option.bind_eq_none_iff.mpr fun x _ => ?_
    simp [List.find?_eq_none]
  · rw [aside_nsChanged.lost, writeSettings_store, forwardChange_leaves.2]
    intro r hr
    have kept := (List.mem_filter.mp hr).2
    simp only [Bool.not_eq_true', Bool.and_eq_false_iff, beq_eq_false_iff_ne] at kept
    tauto

theorem namespaceManagement_deletes (h : OnEntry s e 0x0D false c) (hk : s.ctrl c.cntl = some k) (h1 : dwBits c.cap.dw10 3 0 = 1)
    (hn : s.nsOf k.slice c.cap.nsid = some n) :
    ∃ u : State, exec (.namespaceManagement e) s = .next (u.finish e St.ok 0 .none).smartCheck ∧ u.nsOf k.slice c.cap.nsid = none ∧
      (∀ r ∈ u.store.lost, ¬ (r.slice = k.slice ∧ r.nsid = c.cap.nsid)) := by
  refine ⟨s.deleteNs k.slice n, ?_, ?_⟩
  · show execNamespaceManagement e s = _
    simp only [execNamespaceManagement, withCmd_onEntry h, hk, h1, hn, State.reply, State.answer, h.idx]
    rfl
  · rw [← nsOf_nsid hn]
    exact deleteNs_gone

/-! ### Namespace Attachment (R119) -/

/-- The namespace with the controllers of a list attached, or detached. -/
def attachedBy (op : Nat) (l : List Nat) (n : Ns) : Ns :=
  { n with attached := if op = 0 then n.attached ++ l.dedup else n.attached.filter (fun i => !l.contains i) }

/-- An attachment or detachment that each controller of the list allows. -/
theorem namespaceAttachment_takes (h : OnEntry s e 0x15 false c) (hn : s.nsOf c.slice c.cap.nsid = some n) (hd : 4096 ≤ c.cap.data.length)
    (hl : (ctrlListOf c.cap.data).length ≤ 2047)
    (hc : ∀ i ∈ ctrlListOf c.cap.data, ∃ k, s.ctrl i = some k ∧ k.isTenant = true ∧ k.slice = c.slice)
    (hop : dwBits c.cap.dw10 3 0 = 0 ∧ (∀ i ∈ ctrlListOf c.cap.data, i ∉ n.attached) ∨
      dwBits c.cap.dw10 3 0 = 1 ∧ ∀ i ∈ ctrlListOf c.cap.data, i ∈ n.attached) :
    ∃ u : State, exec (.namespaceAttachment e) s = .next (u.finish e St.ok 0 .none) ∧
      u.nsOf c.slice c.cap.nsid = some (attachedBy (dwBits c.cap.dw10 3 0) (ctrlListOf c.cap.data) n) := by
  have hid := nsOf_nsid hn
  refine ⟨(s.modNs c.slice n.nsid (attachedBy (dwBits c.cap.dw10 3 0) (ctrlListOf c.cap.data))).nsChanged c.slice n.nsid, ?_, ?_⟩
  · have ours : (ctrlListOf c.cap.data).all (fun i => (s.ctrl i).elim false fun k => k.isTenant && k.slice == c.slice) = true := by
      rw [List.all_eq_true]
      intro i hi
      obtain ⟨k, hk, ht, hs⟩ := hc i hi
      simp [hk, ht, hs]
    show execNamespaceAttachment e s = _
    simp only [execNamespaceAttachment, withCmd_onEntry h, hn, Nat.not_lt.mpr hd, ours, Nat.not_lt.mpr hl, State.reply, State.answer, h.idx]
    rcases hop with ⟨hop, hin⟩ | ⟨hop, hin⟩
    · have free : (ctrlListOf c.cap.data).any n.attached.contains = false := by simpa using hin
      simp only [hop, free]
      rfl
    · have held : (ctrlListOf c.cap.data).any (fun i => !n.attached.contains i) = false := by simpa using hin
      simp only [hop, held]
      rfl
  · have same : HoldSame (s.modNs c.slice n.nsid (attachedBy (dwBits c.cap.dw10 3 0) (ctrlListOf c.cap.data))) _ :=
      (HoldSame.refl _).nsChanged (sl := c.slice) (n := n.nsid)
    rw [same.nsOf, ← hid, nsOf_modNs (f := attachedBy _ _) fun _ => rfl, hid, hn]
    rfl

/-! ### Format NVM (R119, R125) -/

/-- The namespace with its new format, and the LBAs its bytes make. -/
def formatted (lbaf pi : Nat) (n m : Ns) : Ns := { m with lbaf := lbaf, pi := pi, nsze := n.nsze * lbaSize n.lbaf / lbaSize lbaf }

/-- A format wipes, changes the namespace, and tells of it. -/
theorem formatNs_steps (s : State) (sl : Nat) (n : Ns) (lbaf pi : Nat) :
    ∃ a, HoldSame s a ∧ HoldSame (a.modNs sl n.nsid (formatted lbaf pi n)) (s.formatNs sl n lbaf pi) := by
  refine ⟨((s.wipeNs sl n).settle s.rebuildSet).gatherHost, (HoldSame.refl s).wipeNs.settled, ?_⟩
  exact HoldSame.nsChanged (HoldSame.writeSettings (((HoldSame.refl _).forwardChange).store _))

theorem nsOf_formatNs {lbaf pi : Nat} : (s.formatNs sl n lbaf pi).nsOf sl n.nsid = (s.nsOf sl n.nsid).map (formatted lbaf pi n) := by
  obtain ⟨a, before, after⟩ := formatNs_steps s sl n lbaf pi
  rw [after.nsOf, nsOf_modNs (f := formatted lbaf pi n) fun _ => rfl, before.nsOf]

theorem key_formatNs {lbaf pi : Nat} : ((s.formatNs sl n lbaf pi).slice sl).map (·.key) = (s.slice sl).map (·.key) := by
  obtain ⟨a, before, after⟩ := formatNs_steps s sl n lbaf pi
  have key {x y : State} (h : HoldSame x y) : (y.slice sl).map (·.key) = (x.slice sl).map (·.key) := h.part (·.2.2.1) (fun _ => rfl) sl
  rw [key after, State.modNs, slice_modSlice_map (f := fun x => { x with nss := modFirst x.nss (·.nsid == n.nsid) (formatted lbaf pi n) }) fun _ => rfl,
    ← key before]

theorem formatNvm_formats {x : SliceS} (h : OnEntry s e 0x80 false c) (hx : s.slice c.slice = some x) (hall : c.cap.nsid ≠ 0xFFFFFFFF)
    (hn : x.nss.filter (fun n => n.nsid == c.cap.nsid) = [n]) (hf : dwBits c.cap.dw10 3 0 ≤ 1) (hp : dwBits c.cap.dw10 7 5 = 0)
    (hs : dwBits c.cap.dw10 11 9 = 0) :
    ∃ u : State, exec (.formatNvm e) s = .next (u.finish e St.ok 0 .none).smartCheck ∧
      (u.nsOf c.slice c.cap.nsid).map (fun m => (m.lbaf, m.pi, m.nsze)) =
        some (dwBits c.cap.dw10 3 0, 0, n.nsze * lbaSize n.lbaf / lbaSize (dwBits c.cap.dw10 3 0)) := by
  have found : s.nsOf c.slice c.cap.nsid = some n := by
    rw [nsOf_eq hx, ← List.head?_filter, hn]
    rfl
  have hid := nsOf_nsid found
  refine ⟨(s.cancelMig c.slice 4).formatNs c.slice n (dwBits c.cap.dw10 3 0) 0, ?_, ?_⟩
  · show execFormatNvm e s = _
    have two : ¬ 2 < dwBits c.cap.dw10 3 0 := by omega
    have split : ¬ dwBits c.cap.dw10 3 0 = 2 := by omega
    have one : (c.cap.nsid == 0xFFFFFFFF) = false := by simpa using hall
    simp only [execFormatNvm, withCmd_onEntry h, hx, one, Bool.false_or, hn, two, split, hp, hs, decide_false, Bool.false_and, Nat.not_lt_zero,
      bne_self_eq_false, Bool.false_eq_true, if_false, List.foldl_cons, List.foldl_nil, State.done, State.reply, State.answer, h.idx]
  · rw [← hid, nsOf_formatNs, (HoldSame.refl s).cancelMig.nsOf, hid, found]
    rfl

/-! ### The erase of a slice (R153, R154) -/

/-- The key of a slice after its erase is the one drawn. -/
theorem keyErase_key {x : SliceS} (hx : s.slice sl = some x) :
    ((s.keyErase sl).slice sl).map (·.key) = some (Config.drbg (drawKey 64 (s.slices.keyGen + 1))).toNat := by
  have cancelled : HoldSame s (s.cancelMig sl 4) := (HoldSame.refl s).cancelMig
  have drawn : (((s.cancelMig sl 4).newKey sl).slice sl).map (·.key) = some (Config.drbg (drawKey 64 (s.slices.keyGen + 1))).toNat := by
    rw [← cancelled.gen]
    obtain ⟨y, hy, -⟩ := Option.map_eq_some_iff.mp ((cancelled.slice sl).trans (congrArg (Option.map heldKey) hx))
    refine (slice_modSlice_map (f := fun x => { x with key := (Config.drbg (drawKey 64 ((s.cancelMig sl 4).slices.keyGen + 1))).toNat })
      (fun _ => rfl) _).trans ?_
    show ((s.cancelMig sl 4).slice sl).map _ = _
    rw [hy]
    rfl
  have kept : HoldSame ((s.cancelMig sl 4).newKey sl) (s.keyErase sl) := by
    have old : HoldSame ((s.cancelMig sl 4).newKey sl) (((s.cancelMig sl 4).newKey sl).eraseOldKey sl) :=
      (HoldSame.refl _).writeSettings.of_slices rfl
    unfold State.keyErase
    extract_lets a b d
    have erased : HoldSame ((s.cancelMig sl 4).newKey sl) a := old.forwardChange
    have told : HoldSame ((s.cancelMig sl 4).newKey sl) b := by
      simp only [b]
      split
      · exact erased
      · exact erased.forwardChange
    have marked : HoldSame ((s.cancelMig sl 4).newKey sl) d := by
      simp only [d]
      split
      · exact told
      next x _ =>
        exact ite_keeps (HoldSame _) (HoldSame.modSlice (f := fun y => { y with keySend := true }) told.setResync fun _ => rfl) told
    exact marked.wipeSlice.eraseJobs
  rw [kept.part (g := (·.key)) (·.2.2.1) (fun _ => rfl) sl, drawn]

/-- A slice that a Format NVM erases, its entry waiting. -/
def formatErasing (e : Nat) (y : SliceS) : SliceS := { y with erase := some { sanitize := false, block := false, waiting := some e } }

theorem formatNvm_erases {x : SliceS} (h : OnEntry s e 0x80 false c) (hx : s.slice c.slice = some x) (hall : c.cap.nsid = 0xFFFFFFFF)
    (hf : dwBits c.cap.dw10 3 0 ≤ 1) (hp : dwBits c.cap.dw10 7 5 = 0) (hs : dwBits c.cap.dw10 11 9 = 2) :
    ∃ u : State, exec (.formatNvm e) s = .next u.smartCheck ∧ (u.slice c.slice).map (fun y => (y.key, y.erase)) =
      some ((Config.drbg (drawKey 64 (s.slices.keyGen + 1))).toNat, some { sanitize := false, block := false, waiting := some e }) := by
  let a := x.nss.foldl (fun s n => s.formatNs c.slice n (dwBits c.cap.dw10 3 0) 0) (s.keyErase c.slice)
  refine ⟨(a.modSlice c.slice (formatErasing e)).waitCmd c, ?_, ?_⟩
  · show execFormatNvm e s = _
    have two : ¬ 2 < dwBits c.cap.dw10 3 0 := by omega
    have split : ¬ dwBits c.cap.dw10 3 0 = 2 := by omega
    have all : (c.cap.nsid == 0xFFFFFFFF) = true := by simpa using hall
    simp only [execFormatNvm, withCmd_onEntry h, hx, all, two, split, hp, hs, decide_false, Bool.false_and, Bool.false_or, Bool.not_true,
      Nat.not_lt_zero, bne_self_eq_false, Bool.false_eq_true, if_false, State.done]
    rfl
  · have key : (a.slice c.slice).map (·.key) = some (Config.drbg (drawKey 64 (s.slices.keyGen + 1))).toNat :=
      foldl_keeps (fun t : State => (t.slice c.slice).map (·.key) = some (Config.drbg (drawKey 64 (s.slices.keyGen + 1))).toNat) _ _ _
        (keyErase_key hx) fun _ _ _ ht => key_formatNs.trans ht
    obtain ⟨y, hy, hkey⟩ := Option.map_eq_some_iff.mp key
    refine (slice_modSlice_map (s := a) (f := formatErasing e) (fun _ => rfl) _).trans ?_
    rw [hy, ← hkey]
    rfl

/-! ### Sanitize (R154) -/

/-- What a Sanitize under way shows of a slice. -/
def sanitizing (y : SliceS) : Nat × Option (Bool × Bool × Option Nat) × Nat :=
  (y.key, y.erase.map fun j => (j.sanitize, j.block, j.waiting), y.sanStat)

/-- The slice with the bands that its Sanitize moves out of. -/
def bandsListed (l : List Nat) (y : SliceS) : SliceS := { y with erase := y.erase.map fun j => { j with bands := l } }

/-- The slice with a Sanitize begun. -/
def sanitizeBegun (c : Capsule) (y : SliceS) : SliceS :=
  { y with erase := some { sanitize := true, block := dwBits c.dw10 2 0 == 2, waiting := none }, sanStat := 2, sanDw10 := c.dw10 }

theorem moveOutOf_sanitizing : ((s.moveOutOf sl).slice sl).map sanitizing = (s.slice sl).map sanitizing := by
  have moved : HoldSame (s.modSlice sl (bandsListed (s.sliceBands sl))) (s.moveOutOf sl) :=
    foldl_keeps (HoldSame _) _ _ _ (.refl _) fun _ _ _ hx =>
      HoldSame.of_slices (keptByWritePath_holdSame.closeBand hx) rfl
  refine (moved.part (g := sanitizing) (fun k => (k.2.2.1, k.2.2.2.1.map fun j => (j.sanitize, j.block, j.waiting), k.2.2.2.2))
    (fun _ => rfl) sl).trans ?_
  rw [slice_modSlice_map (f := bandsListed (s.sliceBands sl)) fun _ => rfl]
  congr 1
  funext y
  simp only [sanitizing, bandsListed, Option.map_map]
  rfl

theorem sanitize_starts {x : SliceS} (h : OnEntry s e 0x84 false c) (hx : s.slice c.slice = some x) (he : x.erase = none)
    (hact : dwBits c.cap.dw10 2 0 = 2 ∨ dwBits c.cap.dw10 2 0 = 4) :
    ∃ u : State, exec (.sanitize e) s = .next (u.finish e St.ok 0 .none).smartCheck ∧ (u.slice c.slice).map sanitizing =
      some ((Config.drbg (drawKey 64 (s.slices.keyGen + 1))).toNat, some (true, dwBits c.cap.dw10 2 0 == 2, none), 2) := by
  let a := (s.keyErase c.slice).modSlice c.slice (sanitizeBegun c.cap)
  have shown : (a.slice c.slice).map sanitizing =
      some ((Config.drbg (drawKey 64 (s.slices.keyGen + 1))).toNat, some (true, dwBits c.cap.dw10 2 0 == 2, none), 2) := by
    obtain ⟨y, hy, hkey⟩ := Option.map_eq_some_iff.mp (keyErase_key hx)
    refine (slice_modSlice_map (f := sanitizeBegun c.cap) (fun _ => rfl) _).trans ?_
    rw [hy, ← hkey]
    rfl
  refine ⟨if dwBits c.cap.dw10 2 0 = 2 then a.moveOutOf c.slice else a, ?_, ?_⟩
  · have known : (dwBits c.cap.dw10 2 0 != 2 && dwBits c.cap.dw10 2 0 != 4) = false := by
      rcases hact with hact | hact <;> rw [hact] <;> rfl
    show execSanitize e s = _
    simp only [execSanitize, withCmd_onEntry h, hx, he, known, Bool.false_eq_true, if_false, State.done, State.reply, State.answer, h.idx]
    rfl
  · exact ite_keeps (fun t : State => (t.slice c.slice).map sanitizing = _) (moveOutOf_sanitizing.trans shown) shown

/-! ### The end of an erase (R153, R154, R560) -/

/-- What the end of an erase does first: the mark goes, and event 0x060B is recorded. -/
def eraseEnds (sl : Nat) (ps : List Nat) (s : State) : State := (s.modSlice sl (fun x => { x with erase := none })).capture 0x060B ps

theorem eraseEnds_marked {ps : List Nat} (hs : Safe s) : Marked 6 0x0B (eraseEnds sl ps s) := by
  obtain ⟨sev, hsev⟩ := Option.isSome_iff_exists.mp (show (severity 0x060B).isSome = true by decide +kernel)
  exact marked_capture (s := s.modSlice sl fun x => { x with erase := none }) hs hsev (by decide)

theorem eraseEnds_erase {ps : List Nat} {x : SliceS} (hx : s.slice sl = some x) :
    ((eraseEnds sl ps s).slice sl).map (·.erase) = some none := by
  have recorded : HoldSame (s.modSlice sl fun x => { x with erase := none }) (eraseEnds sl ps s) := (HoldSame.refl _).capture
  rw [recorded.part (g := (·.erase)) (·.2.2.2.1) (fun _ => rfl) sl, slice_modSlice_map (f := fun x => { x with erase := none }) fun _ => rfl, hx]
  rfl

theorem sanitized_marked {g b : Nat} (hg : g < 36) (h : Marked g b s) : Marked g b (s.sanitized sl) :=
  (keptByPeers_marked hg).notifyAll ((keptByPeers_marked hg).modSlice h)

/-- A Sanitize that has ended shows so, and nothing else of the slice changes. -/
theorem sanitized_shows : ((s.sanitized sl).slice sl).map (fun y => (y.erase, y.sanStat)) = (s.slice sl).map fun y => (y.erase, 1) := by
  have told : HoldSame (s.modSlice sl fun x => { x with sanStat := 1 }) (s.sanitized sl) := (HoldSame.refl _).notifyAll
  rw [told.part (g := fun y => (y.erase, y.sanStat)) (fun k => (k.2.2.2.1, k.2.2.2.2)) (fun _ => rfl) sl,
    slice_modSlice_map (f := fun x => { x with sanStat := 1 }) fun _ => rfl]

/-- The examination of the warnings leaves what a slice shows of its erase. -/
theorem smartCheck_shows : (s.smartCheck.slice sl).map (fun y => (y.erase, y.sanStat)) = (s.slice sl).map fun y => (y.erase, y.sanStat) :=
  (HoldSame.refl s).smartCheck.part (fun k => (k.2.2.2.1, k.2.2.2.2)) (fun _ => rfl) sl

theorem keyEraseCompleted_ends {ms : Nat} {x : SliceS} {j : EraseJob} (hs : Safe s) (hx : s.slice sl = some x) (hj : x.erase = some j)
    (hb : j.block = false) : Completes (.keyEraseCompleted sl ms) s (fun t => (t.slice sl).map (·.erase) = some none ∧
      (j.sanitize = true → (t.slice sl).map (·.sanStat) = some 1) ∧ (t.sticky 6).getLsbD 0x0B = true) := by
  let a := (eraseEnds sl [sl, 1, ms] s).answerEntry j.waiting St.ok 0
  let u := if j.sanitize then a.sanitized sl else a
  have marked : Marked 6 0x0B a := (keptByPeers_marked (by decide)).answerEntry (eraseEnds_marked hs)
  have ended : (a.slice sl).map (·.erase) = some none :=
    ((HoldSame.refl (eraseEnds sl [sl, 1, ms] s)).answerEntry.part (·.2.2.2.1) (fun _ => rfl) sl).trans (eraseEnds_erase hx)
  obtain ⟨y, hy, he⟩ := Option.map_eq_some_iff.mp ended
  have shown : (u.smartCheck.slice sl).map (fun y => (y.erase, y.sanStat)) = some (none, if j.sanitize then 1 else y.sanStat) := by
    rw [smartCheck_shows]
    cases hsan : j.sanitize with
    | true =>
      simp only [u, hsan, if_true]
      rw [sanitized_shows, hy, Option.map_some, he]
    | false =>
      simp only [u, hsan, Bool.false_eq_true, if_false]
      rw [hy, Option.map_some, he]
  obtain ⟨z, hz, hshown⟩ := Option.map_eq_some_iff.mp shown
  obtain ⟨hnone, hstat⟩ := Prod.mk.inj hshown
  refine ⟨u.smartCheck, ?_, ?_, fun hsan => ?_, ?_⟩
  · show execKeyEraseCompleted sl ms s = _
    simp only [execKeyEraseCompleted, hx, hj, hb, Bool.false_eq_true, if_false]
    rfl
  · rw [hz, Option.map_some, hnone]
  · rw [hz, Option.map_some, hstat, if_pos hsan]
  · exact ((keptByPeers_marked (by decide)).smartCheck (ite_keeps (Marked 6 0x0B) (sanitized_marked (by decide) marked) marked)).2

theorem sanitizeComplete_ends {ms : Nat} {x : SliceS} {j : EraseJob} (hs : Safe s) (hx : s.slice sl = some x) (hj : x.erase = some j)
    (hb : j.block = true) (hbands : ∀ n ∈ j.bands, s.band n = none) (hplaced : ∀ p ∈ s.store.placed, p.slice ≠ sl) :
    Completes (.sanitizeComplete sl ms) s (fun t =>
      (t.slice sl).map (fun y => (y.erase, y.sanStat)) = some (none, 1) ∧ (t.sticky 6).getLsbD 0x0B = true) := by
  have marked := sanitized_marked (sl := sl) (by decide) (eraseEnds_marked (sl := sl) (ps := [sl, 2, ms]) hs)
  obtain ⟨y, hy, he⟩ := Option.map_eq_some_iff.mp (eraseEnds_erase (ps := [sl, 2, ms]) hx)
  refine ⟨((eraseEnds sl [sl, 2, ms] s).sanitized sl).smartCheck, ?_, ?_, ((keptByPeers_marked (by decide)).smartCheck marked).2⟩
  · have erased : (!j.block || j.bands.any (fun n => (s.band n).isSome) || s.store.placed.any (·.slice == sl)) = false := by
      simp only [hb, Bool.not_true, Bool.false_or, Bool.or_eq_false_iff, List.any_eq_false, beq_iff_eq]
      exact ⟨fun n hn => by simp [hbands n hn], hplaced⟩
    show execSanitizeComplete sl ms s = _
    simp only [execSanitizeComplete, hx, hj, erased, Bool.false_eq_true, if_false]
    rfl
  · rw [smartCheck_shows, sanitized_shows, hy, Option.map_some, he]

/-- Settles O44, command by command. -/
theorem namespacesAreMadeAttachedAndErased : Obligations.NamespacesAreMadeAttachedAndErased := by
  intro s e c hs _
  refine ⟨fun k id h hk h0 hd hcsi => namespaceManagement_creates h hk h0 hd hcsi, fun k n => namespaceManagement_deletes,
    fun n h hn hd hl hc => ⟨fun h0 hin => ?_, fun h1 hin => ?_⟩, fun x n => formatNvm_formats, fun x => formatNvm_erases,
    fun x => sanitize_starts, fun sl ms x j hx hj => ⟨keyEraseCompleted_ends hs hx hj, sanitizeComplete_ends hs hx hj⟩⟩
  · obtain ⟨u, hu, hat⟩ := namespaceAttachment_takes h hn hd hl hc (.inl ⟨h0, hin⟩)
    refine ⟨u, hu, ?_⟩
    rw [hat, h0]
    rfl
  · obtain ⟨u, hu, hat⟩ := namespaceAttachment_takes h hn hd hl hc (.inr ⟨h1, hin⟩)
    refine ⟨u, hu, ?_⟩
    rw [hat, h1]
    rfl

end Sys2Proof
end

section
/-! PROOFS. Gates and controllers (O40): which entries stay open while others close, and what of a controller the recorder leaves. -/

namespace Sys2Proof

open Sys2Proof.Machine

variable {s t u : State} {x : Cct}

/-! ### Open gates (R106, R107) -/

/-- Each entry whose gate is open satisfies `q`, of its index, controller and capsule. -/
def OpenOnly (q : Nat → Nat → Capsule → Prop) (s : State) : Prop := ∀ x ∈ s.eng.cct, x.gate = .open → q x.idx x.cntl x.cap

namespace OpenOnly

variable {q r : Nat → Nat → Capsule → Prop}

theorem of_cct (h : OpenOnly q s) (e : t.eng.cct = s.eng.cct) : OpenOnly q t := fun y hy => h y (e ▸ hy)

theorem mono (h : OpenOnly q s) (hq : ∀ i k c, q i k c → r i k c) : OpenOnly r s := fun y hy ho => hq _ _ _ (h y hy ho)

/-- Entries changed in what `q` does not look at. -/
theorem of_map (h : OpenOnly q s) {f : Cct → Cct} (hf : ∀ y, ((f y).idx, (f y).cntl, (f y).cap, (f y).gate) = (y.idx, y.cntl, y.cap, y.gate))
    (e : t.eng.cct = s.eng.cct.map f) : OpenOnly q t := by
  intro y hy ho
  rw [e] at hy
  obtain ⟨z, hz, rfl⟩ := List.mem_map.mp hy
  have same := hf z
  simp only [Prod.mk.injEq] at same
  obtain ⟨h1, h2, h3, h4⟩ := same
  rw [h1, h2, h3]
  exact h z hz (h4 ▸ ho)

/-- The freed entry is open no longer. -/
theorem freeEntry (h : OpenOnly q s) : OpenOnly (fun i k c => q i k c ∧ i ≠ x.idx) (s.freeEntry x) := by
  have left : OpenOnly (fun i k c => q i k c ∧ i ≠ x.idx) { s with eng := { s.eng with cct := s.eng.cct.filter (·.idx != x.idx) } } := by
    intro y hy ho
    obtain ⟨hy, hne⟩ := List.mem_filter.mp hy
    exact ⟨h y hy ho, by simpa using hne⟩
  by_cases hd : x.orderDone = true
  · exact left.of_cct ((freeEntry_cct s x).trans (if_pos hd))
  · refine left.of_map ?_ ((freeEntry_cct s x).trans (if_neg hd))
    intro y
    split
    · split <;> rfl
    · rfl

/-- An entry that waits for its connection is closed. -/
theorem park (h : OpenOnly q s) {st : Nat} {w : Word} : OpenOnly q (s.park x st w) := by
  intro y hy ho
  rcases List.mem_append.mp hy with hy | hy
  · exact h y hy ho
  · rw [List.mem_singleton.mp hy] at ho
    dsimp only at ho
    split at ho <;> cases ho

/-- A closed entry is open no longer. -/
theorem post (h : OpenOnly q s) {st : Nat} {w : Word} : OpenOnly (fun i k c => q i k c ∧ i ≠ x.idx) (s.post x st w) := by
  obtain ⟨y, hm, hy⟩ := post_eq s x st w
  have same : OpenOnly q y := h.of_cct (congrArg (·.eng.cct) hm.rest :)
  rw [hy]
  unfold State.sendCqe
  split
  · exact same.freeEntry
  · split
    · exact same.freeEntry.park
    · exact freeEntry (s := y.postCqe x st w) (same.of_cct rfl)

theorem reportNotice (h : OpenOnly q s) (i : Nat) : OpenOnly q (s.reportNotice i) := by
  unfold State.reportNotice
  split
  · exact h
  · split
    · split
      · exact h
      · exact (post (s := State.modCtrl _ _ s) h).mono fun _ _ _ => And.left
    · exact h

end OpenOnly

theorem keptByRecorder_openOnly {q : Nat → Nat → Capsule → Prop} : KeptByRecorder (OpenOnly q) where
  sticky := fun _ _ h => h
  events := fun _ h => h
  prob := fun _ h => h
  notify := fun i _ h => ite_keeps (OpenOnly q) h (OpenOnly.reportNotice (s := State.modCtrl _ _ _) h i)

/-! ### Entries that close aborted (R107, R113, R115) -/

/-- The indices in the table stay different while entries leave it. -/
theorem post_nodup {st : Nat} {w : Word} (h : (s.eng.cct.map (·.idx)).Nodup) : ((s.post x st w).eng.cct.map (·.idx)).Nodup := by
  have freed {y : State} (hy : (y.eng.cct.map (·.idx)).Nodup) : ((y.freeEntry x).eng.cct.map (·.idx)).Nodup := by
    rw [freeEntry_idx]
    exact hy.sublist (List.filter_sublist.map _)
  obtain ⟨y, hm, hy⟩ := post_eq s x st w
  have same : y.eng.cct = s.eng.cct := (congrArg (·.eng.cct) hm.rest :)
  rw [← same] at h
  rw [hy]
  unfold State.sendCqe
  split
  · exact freed h
  · split
    · have keys : ((y.freeEntry x).park x st w).eng.cct.map (·.idx) = (y.freeEntry x).eng.cct.map (·.idx) ++ [x.idx] := by simp [State.park]
      rw [keys, List.nodup_append]
      refine ⟨freed h, by simp, fun a ha b hb => ?_⟩
      obtain ⟨z, hz, rfl⟩ := List.mem_map.mp ha
      rw [List.mem_singleton.mp hb]
      exact freeEntry_gone y x z hz
    · exact freed (y := y.postCqe x st w) h

/-- One entry closes aborted, if it is there and open. -/
def abortOne (st : Nat) (d : Bool) (s : State) (c : Cct) : State :=
  match s.entry c.idx with
  | none => s
  | some x => if x.gate == .open then s.postAborted { x with discard := x.discard || d } st else s

theorem abortList_cons (c : Cct) (l : List Cct) (st : Nat) (d : Bool) (s : State) :
    s.abortList (c :: l) st d = (abortOne st d s c).abortList l st d := rfl

/-- With indices all different, an entry is open no longer once it is aborted. -/
theorem abortOne_closes {q : Nat → Nat → Capsule → Prop} {st : Nat} {d : Bool} {c : Cct} (hn : (s.eng.cct.map (·.idx)).Nodup)
    (h : OpenOnly q s) : OpenOnly (fun i k c' => q i k c' ∧ i ≠ c.idx) (abortOne st d s c) ∧ ((abortOne st d s c).eng.cct.map (·.idx)).Nodup := by
  unfold abortOne
  split
  next hc =>
    have absent := List.find?_eq_none.mp hc
    exact ⟨fun y hy ho => ⟨h y hy ho, by simpa using absent y hy⟩, hn⟩
  next x hx =>
    split
    · exact ⟨(h.post (x := { x with discard := x.discard || d })).mono fun _ _ _ hq => ⟨hq.1, entry_idx hx ▸ hq.2⟩, post_nodup hn⟩
    next hg =>
      refine ⟨fun y hy ho => ⟨h y hy ho, fun he => hg ?_⟩, hn⟩
      have same : y = x := List.inj_on_of_nodup_map hn hy (List.mem_of_find?_eq_some hx) (he.trans (entry_idx hx).symm)
      rw [← same, ho]
      rfl

/-- With indices all different, the entries a list names are open no longer once they are aborted. -/
theorem abortList_closes {q : Nat → Nat → Capsule → Prop} {st : Nat} {d : Bool} (l : List Cct) (hn : (s.eng.cct.map (·.idx)).Nodup)
    (h : OpenOnly q s) : OpenOnly (fun i k c => q i k c ∧ i ∉ l.map (·.idx)) (s.abortList l st d) := by
  induction l generalizing s q with
  | nil => exact h.mono fun _ _ _ hq => ⟨hq, List.not_mem_nil⟩
  | cons c l ih =>
    obtain ⟨closed, distinct⟩ := abortOne_closes (st := st) (d := d) (c := c) hn h
    rw [abortList_cons]
    refine (ih distinct closed).mono fun i k c' hq => ⟨hq.1.1, ?_⟩
    rw [List.map_cons, List.mem_cons, not_or]
    exact ⟨hq.1.2, hq.2⟩

/-- Aborting every open entry of a kind leaves none of it open. -/
theorem abortList_leaves {p : Nat → Capsule → Prop} {l : List Cct} {st : Nat} {d : Bool} (hn : (s.eng.cct.map (·.idx)).Nodup)
    (hl : ∀ y ∈ s.eng.cct, y.gate = .open → p y.cntl y.cap → y ∈ l) : OpenOnly (fun _ k c => ¬ p k c) (s.abortList l st d) := by
  have named : OpenOnly (fun i k c => p k c → i ∈ l.map (·.idx)) s := fun y hy ho hp => List.mem_map_of_mem (hl y hy ho hp)
  exact (abortList_closes l hn named).mono fun _ _ _ hq hp => hq.2 (hq.1 hp)

/-! ### What the recorder leaves of controllers -/

/-- What of a controller only its host, a disable and a shutdown change. -/
def ctlKey (k : Ctrl) : Nat × Bool × Bool × Nat := (k.id, k.en, k.dying, k.shst)

/-- The controllers are the same but for their notices, errors and features, and so is the shutdown of the device. -/
structure SameCtrls (s t : State) : Prop where
  keys : t.eng.ctrls.map ctlKey = s.eng.ctrls.map ctlKey
  shutdown : t.eng.shutdown = s.eng.shutdown
  done : t.eng.shutDone = s.eng.shutDone

namespace SameCtrls

theorem refl (s : State) : SameCtrls s s := ⟨rfl, rfl, rfl⟩

theorem of_eng (h : SameCtrls s t) (e : u.eng = t.eng) : SameCtrls s u := by
  obtain ⟨h1, h2, h3⟩ := h
  constructor <;> rw [e] <;> assumption

theorem modCtrl (h : SameCtrls s t) {i : Nat} {f : Ctrl → Ctrl} (hf : ∀ k, ctlKey (f k) = ctlKey k) : SameCtrls s (t.modCtrl i f) :=
  ⟨(modFirst_map _ _ _ _ hf).trans h.keys, h.shutdown, h.done⟩

/-- A part of a controller that is left. -/
theorem part {α : Type} (h : SameCtrls s t) {g : Ctrl → α} (p : Nat × Bool × Bool × Nat → α) (hp : ∀ k, p (ctlKey k) = g k) (i : Nat) :
    (t.ctrl i).map g = (s.ctrl i).map g := by
  have found (y : State) : (y.ctrl i).map g = ((y.eng.ctrls.map ctlKey).find? (fun k => k.1 == i)).map p := by
    rw [List.find?_map, Option.map_map]
    exact congrArg (Option.map · _) (funext fun k => (hp k).symm)
  rw [found, found, h.keys]

theorem meterClosed (h : SameCtrls s t) {st : Nat} : SameCtrls s (t.meterClosed x st) :=
  meterClosed_keeps (fun _ _ hx => hx.of_eng rfl) (fun _ _ hx => hx.of_eng rfl) h

theorem freeEntry (h : SameCtrls s t) : SameCtrls s (t.freeEntry x) := by
  refine ⟨Eq.trans ?_ h.keys, h.shutdown, h.done⟩
  exact modFirst_map _ _ _ _ fun _ => rfl

theorem sendCqe (h : SameCtrls s t) {st : Nat} {w : Word} : SameCtrls s (t.sendCqe x st w) := by
  refine ite_keeps (SameCtrls s) h.freeEntry (ite_keeps (SameCtrls s) ?_ ?_)
  · obtain ⟨h1, h2, h3⟩ := h.freeEntry (x := x)
    exact ⟨h1, h2, h3⟩
  · exact freeEntry (t := t.postCqe x st w) ⟨h.keys, h.shutdown, h.done⟩

theorem post (h : SameCtrls s t) {st : Nat} {w : Word} : SameCtrls s (t.post x st w) := by
  have closed : SameCtrls s (if x.queue < 8192 then t.meterClosed x st
      else if st != St.ok && x.slice != 0 then t.meterAdd x.slice 12 1 else t) :=
    ite_keeps (SameCtrls s) h.meterClosed (ite_keeps (SameCtrls s) (h.of_eng rfl) h)
  have counted {y : State} (hy : SameCtrls s y) : SameCtrls s (y.recordErr x st) :=
    modCtrl (t := y.countErr x.slice) (ite_keeps (SameCtrls s) (hy.of_eng rfl) (hy.of_eng rfl)) fun _ => rfl
  exact sendCqe (ite_keeps (SameCtrls s) (p := statusNoEntry st = true) closed (counted closed))

theorem reportNotice (h : SameCtrls s t) {i : Nat} : SameCtrls s (t.reportNotice i) := by
  unfold State.reportNotice
  split
  · exact h
  · split
    next n a rest _ _ =>
      split
      · exact h
      · exact post (t := State.modCtrl _ _ t) (modCtrl (f := fun k =>
          { k with aers := rest, pendingN := k.pendingN.filter (fun m => !(m.same n)), maskedN := n :: k.maskedN }) h fun _ => rfl)
    · exact h

theorem notify (h : SameCtrls s t) {i : Nat} {n : Notice} : SameCtrls s (t.notify i n) := by
  refine ite_keeps (SameCtrls s) h (reportNotice (t := State.modCtrl _ _ t) (modCtrl (f := fun k =>
    if k.pendingN.any (·.same n) then k else { k with pendingN := k.pendingN ++ [n] }) h fun k => ?_))
  split <;> rfl

end SameCtrls

theorem keptBySettling_sameCtrls : KeptBySettling (SameCtrls s) where
  sticky := fun _ _ h => h.of_eng rfl
  events := fun _ h => h.of_eng rfl
  prob := fun _ h => h.of_eng rfl
  notify := fun _ _ h => h.notify
  reg := fun _ _ _ h => h.of_eng rfl
  journal := fun _ _ h => h.of_eng rfl
  upkeep := fun _ h => h.of_eng rfl
  mem := fun _ h => h.of_eng rfl
  buf := fun _ h => h.of_eng rfl
  again := fun _ h => h.of_eng rfl
  opened := fun _ h => h.of_eng rfl
  grown := fun _ _ _ _ h => h.of_eng rfl
  array := fun _ h => h.of_eng rfl
  pslc := fun _ h => h.of_eng rfl

namespace SameCtrls

theorem smartCheck (h : SameCtrls s t) : SameCtrls s t.smartCheck :=
  keptBySettling_sameCtrls.toKeptByRecorder.smartCheck (fun _ w hx => modCtrl (f := fun k => { k with warn := w }) hx fun _ => rfl) h

theorem abortList (h : SameCtrls s t) {l : List Cct} {st : Nat} {d : Bool} : SameCtrls s (t.abortList l st d) := by
  refine foldl_keeps (SameCtrls s) _ _ t h fun y c _ hy => ?_
  split
  · exact hy
  · exact ite_keeps (SameCtrls s) hy.post hy

theorem clearRings (h : SameCtrls s t) {l : List Queue} : SameCtrls s (l.foldl (fun s q => s.clearRing q) t) :=
  foldl_keeps (SameCtrls s) _ _ t h fun _ _ _ hx => ⟨hx.keys, hx.shutdown, hx.done⟩

theorem endConn (h : SameCtrls s t) {conn : Nat} : SameCtrls s (t.endConn conn) := by
  rw [endConn_eq]
  exact ⟨h.keys, h.shutdown, h.done⟩

theorem endIoQueues (h : SameCtrls s t) {i : Nat} : SameCtrls s (t.endIoQueues i) :=
  foldl_keeps (SameCtrls s) _ _ t h fun _ _ _ hx => hx.endConn

end SameCtrls

/-- What is read of a controller after a change of it. -/
theorem ctrl_modCtrl_map {α : Type} {i : Nat} {f : Ctrl → Ctrl} (hf : ∀ k, (f k).id = k.id) (g : Ctrl → α) :
    ((s.modCtrl i f).ctrl i).map g = (s.ctrl i).map fun k => g (f k) := by
  rw [State.ctrl_modCtrl s i i f hf, if_pos rfl, Option.map_map]
  rfl

end Sys2Proof
end

section
/-! PROOFS. Controllers are enabled, disabled and shut down (O40). -/

namespace Sys2Proof

open Sys2Proof.Machine

variable {s t : State} {e i : Nat} {c : Cct} {k : Ctrl} {q : Nat → Nat → Capsule → Prop}

/-! ### Disables (R113, R117) -/

namespace OpenOnly

theorem endConn (h : OpenOnly q s) {conn : Nat} : OpenOnly q (s.endConn conn) := by
  refine h.of_map ?_ (congrArg (·.eng.cct) (endConn_eq conn s))
  intro y
  split <;> rfl

theorem freeCtrl (h : OpenOnly q s) : OpenOnly q (s.freeCtrl i) :=
  of_cct (foldl_keeps (OpenOnly q) _ _ s h fun _ _ _ hx => hx.endConn) rfl

theorem settleDisable (h : OpenOnly q s) : OpenOnly q (s.settleDisable i) := by
  unfold State.settleDisable
  split
  · exact h
  next y _ =>
    split
    · exact h
    next n a _ =>
      split
      · exact h
      · extract_lets f _ u v w
        have unseen : OpenOnly q { s with eng := { s.eng with cct := s.eng.cct.map f } } := by
          refine h.of_map (f := f) (fun x => ?_) rfl
          simp only [f]
          split <;> rfl
        have ended : OpenOnly q u := foldl_keeps (OpenOnly q) _ _ _ unseen fun _ _ _ hx => hx.endConn
        have told : OpenOnly q w := ite_keeps (OpenOnly q) (keptByRecorder_openOnly.capture (s := v) ended) ended
        exact ite_keeps (OpenOnly q) told.freeCtrl told

end OpenOnly

theorem clearRings_cct {l : List Queue} : (l.foldl (fun s q => s.clearRing q) s).eng.cct = s.eng.cct := by
  rw [clearRings_eq]

/-- A disable closes every open entry of its controller but property commands. -/
theorem startDisable_closes {discard dying : Bool} (hn : (s.eng.cct.map (·.idx)).Nodup) :
    OpenOnly (fun _ n cap => n = i → isProperty cap = true) (s.startDisable i discard dying) := by
  unfold State.startDisable
  extract_lets mine opened comm a b d f _
  have table : b.eng.cct = s.eng.cct := clearRings_cct
  have closed : OpenOnly (fun _ n cap => ¬ (n = i ∧ isProperty cap = false)) d := by
    refine abortList_leaves (by rw [table]; exact hn) fun y hy ho hp => ?_
    rw [table] at hy
    simp [opened, mine, hy, ho, hp]
  have marked : OpenOnly (fun _ n cap => ¬ (n = i ∧ isProperty cap = false)) { d with eng := { d.eng with cct := d.eng.cct.map f } } := by
    refine closed.of_map (f := f) (fun y => ?_) rfl
    simp only [f]
    split <;> rfl
  refine marked.settleDisable.mono fun _ n cap hp hi => ?_
  by_contra hno
  exact hp ⟨hi, by simpa using hno⟩

/-- A controller that is disabled and stays does not run. -/
theorem settleDisable_en (h : (s.ctrl i).map (fun k => (k.en, k.dying)) = some (false, false)) :
    ((s.settleDisable i).ctrl i).map (·.en) = some false := by
  obtain ⟨k, hk, hp⟩ := Option.map_eq_some_iff.mp h
  obtain ⟨hen, hdy⟩ := Prod.mk.inj hp
  have off : (s.ctrl i).map (·.en) = some false := by rw [hk, Option.map_some, hen]
  unfold State.settleDisable
  split
  · exact off
  next y hy =>
    cases hk.symm.trans hy
    split
    · exact off
    next n a _ =>
      split
      · exact off
      · extract_lets f _ u v w
        have unseen : SameCtrls s { s with eng := { s.eng with cct := s.eng.cct.map f } } := ⟨rfl, rfl, rfl⟩
        have ended : SameCtrls s u := unseen.endIoQueues
        have down : (v.ctrl i).map (·.en) = some false := by
          refine (ctrl_modCtrl_map (s := u) (f := fun k => { k with rdy := false, stopped := false, dis := none, shst := 0 }) (fun _ => rfl) _).trans ?_
          exact (ended.part (g := (·.en)) (·.2.1) (fun _ => rfl) i).trans off
        have told (ps : List Nat) : ((v.capture 0x0504 ps).ctrl i).map (·.en) = some false :=
          ((keptBySettling_sameCtrls.capture (.refl v)).part (g := (·.en)) (·.2.1) (fun _ => rfl) i).trans down
        rw [hdy, if_neg (by simp)]
        exact ite_keeps (fun t : State => (t.ctrl i).map (·.en) = some false) (told _) down

theorem startDisable_en {discard : Bool} (hk : s.ctrl i = some k) (hd : k.dying = false) :
    ((s.startDisable i discard false).ctrl i).map (·.en) = some false := by
  unfold State.startDisable
  extract_lets mine opened comm a b d f _
  refine settleDisable_en ?_
  have cleared : SameCtrls s a := (SameCtrls.refl s).clearRings
  have stopped : (b.ctrl i).map (fun k => (k.en, k.dying)) = some (false, false) := by
    refine (ctrl_modCtrl_map (s := a) (f := fun k => { k with
      en := false, stopped := true, holdList := [], dis := some (comm.length, opened.length), dying := k.dying || false })
      (fun _ => rfl) _).trans ?_
    have dying := cleared.part (g := (·.dying)) (·.2.2.1) (fun _ => rfl) i
    rw [hk] at dying
    obtain ⟨y, hy, hyd⟩ := Option.map_eq_some_iff.mp (dying.trans (congrArg some hd))
    rw [hy]
    simp [hyd]
  have aborted : SameCtrls b d := (SameCtrls.refl b).abortList
  exact (aborted.part (g := fun k => (k.en, k.dying)) (fun p => (p.2.1, p.2.2.1)) (fun _ => rfl) i).trans stopped

/-! ### Property Sets of CC (R113 to R116) -/

theorem ccWrite_onCc {kind : Nat} {f : Cct → Ctrl → Word → State → State} (h : OnCc s e kind c k) :
    s.ccWrite e kind f = .next (f c k c.cap.dw12 s).smartCheck := by
  obtain ⟨he, hk, hst, hopc, hfab, hoff, hkind⟩ := h
  simp [State.ccWrite, he, hk, hst, isProperty, hopc, hfab, propOff, hoff, hkind, State.done]

/-- CC is stored, and the Property Set answered. -/
def ccTaken (e : Nat) (c : Cct) (k : Ctrl) (s : State) : State := (s.setCc k.id c.cap.dw12).finish e St.ok 0 .none

theorem OnCc.idx {kind : Nat} (h : OnCc s e kind c k) : c.idx = e := entry_idx h.1

theorem OnCc.ctrl {kind : Nat} (h : OnCc s e kind c k) : s.ctrl k.id = some k := by
  obtain ⟨-, hk, -⟩ := h
  rw [ctrl_id hk]
  exact hk

/-- CC and CC.SHN as they are stored in a controller. -/
def withCc (v : Word) (k : Ctrl) : Ctrl := { k with cc := v, shn := dwBits v 15 14 }

theorem ccTaken_ctrl (hk : s.ctrl k.id = some k) : (ccTaken e c k s).ctrl k.id = some (withCc c.cap.dw12 k) := by
  have stored := State.ctrl_modCtrl s k.id k.id (withCc c.cap.dw12) fun _ => rfl
  rw [if_pos rfl, hk] at stored
  exact stored

theorem ccTaken_nodup (hn : (s.eng.cct.map (·.idx)).Nodup) : ((ccTaken e c k s).eng.cct.map (·.idx)).Nodup := by
  have keys : (ccTaken e c k s).eng.cct.map (·.idx) = s.eng.cct.map (·.idx) := modFirst_map _ _ _ _ fun _ => rfl
  rw [keys]
  exact hn

theorem ccEnClear_disables (hn : (s.eng.cct.map (·.idx)).Nodup) (h : OnCc s e 1 c k) (hd : k.dying = false) :
    ∃ u : State, exec (.ccEnClear e) s = .next u.smartCheck ∧ (u.ctrl k.id).map (·.en) = some false ∧
      (∀ x ∈ u.eng.cct, x.cntl = k.id → isProperty x.cap = true ∨ x.gate ≠ .open) := by
  refine ⟨(ccTaken e c k s).startDisable k.id false false, ?_, startDisable_en (ccTaken_ctrl h.ctrl) hd, fun x hx hi => ?_⟩
  · show execCcEnClear e s = _
    unfold execCcEnClear
    rw [ccWrite_onCc h, State.reply, State.answer, h.idx]
    rfl
  · by_contra hno
    rw [not_or, not_not] at hno
    exact hno.1 (startDisable_closes (ccTaken_nodup hn) x hx hno.2 hi)

/-- A shutdown that may complete changes CSTS.SHST of its controller alone. -/
theorem settleShutdown_cases (s : State) (i : Nat) :
    s.settleShutdown i = s ∨ s.settleShutdown i = s.modCtrl i (fun k => { k with shst := 2, shnAt := none }) := by
  unfold State.settleShutdown
  split
  · exact .inl rfl
  · split
    · exact .inr rfl
    · exact .inl rfl

/-- The rings of a controller's queues are empty once they are cleared. -/
theorem clearRings_ring (hn : (s.eng.queues.map (·.idx)).Nodup) :
    ∀ y ∈ ((s.eng.queues.filter (·.cntl == i)).foldl (fun s q => s.clearRing q) s).eng.queues, y.cntl = i → y.ring = [] := by
  intro y hy hi
  rw [clearRings_eq] at hy
  dsimp only at hy
  rw [clearedQueues_eq_map _ hn] at hy
  obtain ⟨z, hz, rfl⟩ := List.mem_map.mp hy
  have hzi : z.cntl = i := by
    split at hi
    · exact hi
    · exact hi
  rw [if_pos (List.mem_map_of_mem (List.mem_filter.mpr ⟨hz, by simp [hzi]⟩))]
  rfl

/-- The controller of a tenant whose shutdown is asked for. -/
def shutting (now : Nat) (k : Ctrl) : Ctrl := { k with stopped := true, holdList := [], shst := 1, shnAt := some now }

theorem ccShnTenant_stops (h : OnCc s e 3 c k) : ∃ u : State, exec (.ccShnTenant e) s = .next u.smartCheck ∧
    (u.ctrl k.id).map (fun k => (k.stopped, k.holdList)) = some (true, []) ∧
    (∀ q ∈ u.eng.queues, q.cntl = k.id → (s.eng.queues.map (·.idx)).Nodup → q.ring = []) := by
  let a := ((ccTaken e c k s).eng.queues.filter (·.cntl == k.id)).foldl (fun s q => s.clearRing q) (ccTaken e c k s)
  let b := a.modCtrl k.id (shutting s.seed.now)
  have there : a.ctrl k.id = some (withCc c.cap.dw12 k) := by
    rw [State.ctrl, show a.eng.ctrls = (ccTaken e c k s).eng.ctrls by simp only [a]; rw [clearRings_eq]]
    exact ccTaken_ctrl h.ctrl
  have stopped : (b.ctrl k.id).map (fun k => (k.stopped, k.holdList)) = some (true, []) := by
    refine (ctrl_modCtrl_map (f := shutting s.seed.now) (fun _ => rfl) _).trans ?_
    rw [there]
    rfl
  have settled : ((b.settleShutdown k.id).ctrl k.id).map (fun k => (k.stopped, k.holdList)) = some (true, []) ∧
      (b.settleShutdown k.id).eng.queues = a.eng.queues := by
    rcases settleShutdown_cases b k.id with same | done
    · rw [same]
      exact ⟨stopped, rfl⟩
    · rw [done, ctrl_modCtrl_map (f := fun k => { k with shst := 2, shnAt := none }) fun _ => rfl]
      exact ⟨stopped, rfl⟩
  refine ⟨b.settleShutdown k.id, ?_, settled.1, fun y hy hi hn => ?_⟩
  · show execCcShnTenant e s = _
    unfold execCcShnTenant
    rw [ccWrite_onCc h]
    simp only [State.reply, State.answer, h.idx]
    have now : s.seed.now = a.seed.now := by
      simp only [a]
      rw [clearRings_eq]
      rfl
    simp only [b, now]
    rfl
  · rw [settled.2] at hy
    exact clearRings_ring (s := ccTaken e c k s) hn y hy hi

/-- The shutdown of the device is noted, with the dirty amount of that time (R116). -/
def shutdownBegun (k : Ctrl) (s : State) : State :=
  let s := s.modCtrl k.id (fun k => { k with shst := 1, shnAt := some s.seed.now })
  let n := (s.store.stripes.filter (fun t => !t.flushing && 0 < t.fill && 0 < s.stripeRoom t)).length
  { s with eng := { s.eng with shutdown := some (k.id, s.dirtyKib, s.seed.now), shutDone := false, shutPads := n } }

theorem ccShnDevice_begins (h : OnCc s e 4 c k) (hs : s.eng.shutdown = none) : Completes (.ccShnDevice e) s (fun t =>
    t.eng.shutdown = some (k.id, s.dirtyKib, s.seed.now) ∧ (t.ctrl k.id).map (·.shst) = some 1) := by
  let a := shutdownBegun k (ccTaken e c k s)
  have begun : (a.ctrl k.id).map (·.shst) = some 1 := by
    refine (ctrl_modCtrl_map (s := ccTaken e c k s) (f := fun k => { k with shst := 1, shnAt := some s.seed.now }) (fun _ => rfl) _).trans ?_
    rw [ccTaken_ctrl h.ctrl]
    rfl
  have pads := keptBySettling_sameCtrls (s := a)
  have kept : SameCtrls a a.padAll.gatherHost.smartCheck :=
    (pads.gatherHost (pads.padFlush (pads.padFlush (pads.padFlush (pads.padFlush (.refl a)))))).smartCheck
  refine ⟨_, ?_, kept.shutdown, (kept.part (g := (·.shst)) (·.2.2.2) (fun _ => rfl) k.id).trans begun⟩
  show execCcShnDevice e s = _
  unfold execCcShnDevice
  rw [ccWrite_onCc h, if_neg (by rw [hs]; simp), State.reply, State.answer, h.idx]
  rfl

/-! ### The end of a shutdown (R115, R116) -/

theorem shutdownAbortTimeout_controller {t0 : Nat} (hn : (s.eng.cct.map (·.idx)).Nodup) (hk : s.ctrl i = some k) (ht : k.shnAt = some t0)
    (hlong : 9000 ≤ s.since t0) (h1 : k.shst = 1) (hother : ∀ p, s.eng.shutdown = some p → p.1 ≠ i) :
    ∃ u : State, exec (.shutdownAbortTimeout i) s = .next u.smartCheck ∧ ∀ x ∈ u.eng.cct, x.cntl = i → x.gate ≠ .open := by
  let l := s.eng.cct.filter (fun c => c.cntl == i && c.gate == .open)
  have closed : OpenOnly (fun _ n _ => n ≠ i) (s.abortList l St.abortedSqDeletion false) :=
    abortList_leaves (p := fun n _ => n = i) hn fun y hy ho hp => List.mem_filter.mpr ⟨hy, by simp [ho, hp]⟩
  have settled : OpenOnly (fun _ n _ => n ≠ i) ((s.abortList l St.abortedSqDeletion false).settleShutdown i) := by
    rcases settleShutdown_cases (s.abortList l St.abortedSqDeletion false) i with same | done
    · rw [same]
      exact closed
    · rw [done]
      exact closed
  refine ⟨_, ?_, fun x hx hi ho => settled x hx ho hi⟩
  have others : s.eng.shutdown.filter (fun p => p.1 == i) = none := by
    cases hp : s.eng.shutdown with
    | none => rfl
    | some p => simp [Option.filter, hother p hp]
  show execShutdownAbortTimeout i s = _
  simp only [execShutdownAbortTimeout, others, hk, Option.bind_some, h1, if_true, ht, Nat.not_lt.mpr hlong, if_false]
  rfl

theorem shutdownAbortTimeout_device {kib t0 : Nat} (hn : (s.eng.cct.map (·.idx)).Nodup) (hs : s.eng.shutdown = some (i, kib, t0))
    (hlong : 9000 ≤ s.since t0) (hd : s.eng.shutDone = false) :
    ∃ u : State, exec (.shutdownAbortTimeout i) s = .next u.smartCheck ∧ ∀ x ∈ u.eng.cct, x.gate ≠ .open := by
  have closed : OpenOnly (fun _ _ _ => False) (s.abortList (s.eng.cct.filter (·.gate == .open)) St.abortedSqDeletion false) :=
    (abortList_leaves (p := fun _ _ => True) hn fun y hy ho _ => List.mem_filter.mpr ⟨hy, by simp [ho]⟩).mono fun _ _ _ h => h trivial
  refine ⟨_, ?_, fun x hx ho => closed x hx ho⟩
  have ours : s.eng.shutdown.filter (fun p => p.1 == i) = some (i, kib, t0) := by simp [hs, Option.filter]
  show execShutdownAbortTimeout i s = _
  simp only [execShutdownAbortTimeout, ours, hd, Nat.not_lt.mpr hlong, decide_false, Bool.or_false, Bool.false_eq_true, if_false]
  rfl

theorem jwrite_journal (s : State) (b : RecBody) : (s.jwrite b).journal = recWritten s b := by
  have kept : KeptByRecorder (fun t : State => t.journal = recWritten s b) := keptByRecorder_of_aside fun a h => a.journal.trans h
  exact ite_keeps (fun t : State => t.journal = recWritten s b)
    (ite_keeps (fun t : State => t.journal = recWritten s b) rfl (kept.capture (kept.bump fun _ => rfl))) rfl

/-- A record of that content is in the journal. -/
def Recs (b : RecBody) (j : Journal) : Prop := ∃ r ∈ j.recs, r.body = b

theorem Recs.groupDone {b : RecBody} {j : Journal} (h : Recs b j) : Recs b j.groupDone := by
  obtain ⟨r, hr, hb⟩ := h
  exact ⟨{ r with durable := true }, List.mem_map_of_mem hr, hb⟩

/-- A record written is in the journal. -/
theorem jsync_recs (s : State) (b : RecBody) : Recs b (s.jsync b).journal := by
  have full {j : Journal} (h : Recs b j) : Recs b (if j.group ≥ 16384 then j.groupDone else j) := ite_keeps (Recs b) h.groupDone h
  have last (j : Journal) (d : Bool) : Recs b { j with recs := j.recs ++ [{ jseq := j.nextSeq, durable := d, body := b }] } :=
    ⟨_, List.mem_append_right _ (List.mem_singleton_self _), rfl⟩
  have written : Recs b (s.jwrite b).journal := by
    rw [jwrite_journal]
    exact full (ite_keeps (Recs b) (last s.journal _) (last s.journal _))
  exact ite_keeps (fun t : State => Recs b t.journal) written.groupDone written

/-- The meters switch banks, and the totals are written. -/
theorem sameCtrls_meterTick {part : Bool} {ago : Nat} : SameCtrls s (s.meterTick part ago) := by
  unfold State.meterTick
  extract_lets t l _ a b j
  have switched : SameCtrls s a := (SameCtrls.refl s).of_eng rfl
  have written : SameCtrls s b := keptBySettling_sameCtrls.jwrite switched
  exact written.of_eng rfl

theorem shutdownStopRecord_stops {kib t0 : Nat} (hs : s.eng.shutdown = some (i, kib, t0)) (hd : s.eng.shutDone = false) (hz : s.dirty = 0)
    (hk : s.ctrl i = some k) (ho : s.eng.cct.any (fun x => !isProperty x.cap && x.st != .heldResource && !x.peerWait) = false) :
    Completes .shutdownStopRecord s (fun t => (t.ctrl i).map (·.shst) = some 2 ∧ t.eng.shutDone = true ∧
      (∃ r ∈ t.journal.recs, r.body = .stop 2 kib)) := by
  let a := (s.meterTick true 0).jsync (.stop 2 kib)
  let b := a.modCtrl i (fun k => { k with shst := 2, shnAt := none })
  let w : State := { b with eng := { b.eng with shutDone := true } }
  let ps := [kib, w.since t0 / 1000, w.eng.shutPads]
  have recorded : SameCtrls s a := keptBySettling_sameCtrls.jsync sameCtrls_meterTick
  have stopped : (w.ctrl i).map (·.shst) = some 2 := by
    refine (ctrl_modCtrl_map (s := a) (f := fun k => { k with shst := 2, shnAt := none }) (fun _ => rfl) _).trans ?_
    obtain ⟨y, hy, -⟩ := Option.map_eq_some_iff.mp ((recorded.part id (fun _ => rfl) i).trans (congrArg (Option.map ctlKey) hk))
    rw [hy]
    rfl
  have told : SameCtrls w (w.capture 0x0508 ps).smartCheck := (keptBySettling_sameCtrls.capture (.refl w)).smartCheck
  have journal : (w.capture 0x0508 ps).smartCheck.journal = a.journal :=
    (aside_smartCheck _).journal.trans (aside_capture w 0x0508 ps).journal
  refine ⟨(w.capture 0x0508 ps).smartCheck, ?_, (told.part (g := (·.shst)) (·.2.2.2) (fun _ => rfl) i).trans stopped, told.done, ?_⟩
  · show execShutdownStopRecord s = _
    unfold execShutdownStopRecord
    rw [hs]
    exact if_neg (by rw [hz, ho, hd]; decide)
  · rw [journal]
    exact jsync_recs ..

theorem shutdownResume_resumes (h : OnCc s e 5 c k) : ∃ u : State, exec (.shutdownResume e) s = .next u.smartCheck ∧ u.eng.shutdown = none ∧
    (u.ctrl k.id).map (fun k => (k.en, k.rdy, k.shst)) = some (true, true, 0) := by
  let a := (ccTaken e c k s).modCtrl k.id (fun k => { k with en := true, rdy := true, shst := 0, shnAt := none })
  refine ⟨{ a with eng := { a.eng with shutdown := none, shutDone := false } }, ?_, rfl, ?_⟩
  · show execShutdownResume e s = _
    unfold execShutdownResume
    rw [ccWrite_onCc h, State.reply, State.answer, h.idx]
    rfl
  · refine (ctrl_modCtrl_map (s := ccTaken e c k s) (f := fun k => { k with en := true, rdy := true, shst := 0, shnAt := none })
      (fun _ => rfl) _).trans ?_
    rw [ccTaken_ctrl h.ctrl]
    rfl

theorem ccEnSet_enables (h : OnCc s e 2 c k) (hd : k.dis = none) :
    exec (.ccEnSet e) s = .next ((s.setCc k.id c.cap.dw12).finish e St.ok 0 .none |>.modCtrl k.id
      (fun k => { k with en := true, rdy := true, stopped := false, shst := 0, shnAt := none })).smartCheck := by
  show execCcEnSet e s = _
  unfold execCcEnSet
  rw [ccWrite_onCc h, if_neg (by rw [hd]; simp), State.reply, State.answer, h.idx]

/-! ### Keep-alive (R117) and the other properties (R123) -/

theorem exec_keepAliveExpiry (hk : s.ctrl i = some k) (hr : k.ring = none) (hlong : k.kato * 1000 ≤ s.since k.kaAt) :
    exec (.keepAliveExpiry i) s = .next (s.startDisable i true true).smartCheck := by
  show execKeepAliveExpiry i s = _
  simp only [execKeepAliveExpiry, hk, hr, Option.isSome_none, Nat.not_lt.mpr hlong, decide_false, Bool.or_self, Bool.false_eq_true, if_false]
  rfl

theorem exec_propertyGet (he : s.entry e = some c) (hk : s.ctrl c.cntl = some k) (hst : c.st = .dispatched) (hopc : c.cap.opc = 0x7F)
    (hfab : c.cap.fabrics = 4) : exec (.propertyGet e) s = .next (match propVal k c.cap.dw11.toNat with
      | none => s.finish e St.invalidField 0 .none
      | some v => s.finish e St.ok (BitVec.ofNat 32 (v % 2 ^ 32)) (.bytes (natBytes 8 v))) := by
  show execPropertyGet e s = _
  cases hv : propVal k c.cap.dw11.toNat <;>
    simp [execPropertyGet, he, hk, hst, hopc, hfab, propOff, hv, State.reply, State.answer, entry_idx he]

/-- A Property Set of NSSR has no effect, and one of CC that asks for nothing stores it. -/
theorem exec_propertySet (he : s.entry e = some c) (hk : s.ctrl c.cntl = some k) (hst : c.st = .dispatched) (hopc : c.cap.opc = 0x7F)
    (hfab : c.cap.fabrics = 0) :
    (c.cap.dw11.toNat = 0x20 → exec (.propertySet e) s = .next (s.finish e St.ok 0 .none)) ∧
    (c.cap.dw11.toNat = 0x14 → s.ccKind k c.cap.dw12 = 0 → exec (.propertySet e) s =
      .next ((s.modCtrl k.id (fun k => { k with cc := c.cap.dw12, shn := dwBits c.cap.dw12 15 14 })).finish e St.ok 0 .none)) := by
  refine ⟨fun hoff => ?_, fun hoff hkind => ?_⟩
  · show execPropertySet e s = _
    simp [execPropertySet, he, hk, hst, hopc, hfab, propOff, hoff, State.reply, State.answer, entry_idx he]
  · show execPropertySet e s = _
    simp [execPropertySet, he, hk, hst, hopc, hfab, propOff, hoff, hkind, State.setCc, State.reply, State.answer, entry_idx he]

/-- Settles O40, request by request. -/
theorem controllersAreEnabledDisabledAndShutDown : Obligations.ControllersAreEnabledDisabledAndShutDown := by
  intro s hn
  refine ⟨fun e c k => ccEnSet_enables, fun e c k => ccEnClear_disables hn, fun e c k => ccShnTenant_stops, fun e c k => ccShnDevice_begins,
    fun i k t0 => shutdownAbortTimeout_controller hn, fun i kib t0 => shutdownAbortTimeout_device hn,
    fun i k kib t0 => shutdownStopRecord_stops, fun e c k => shutdownResume_resumes, fun i k => exec_keepAliveExpiry,
    fun e c k he hk hst hopc => ⟨exec_propertyGet he hk hst hopc, fun hfab => (exec_propertySet he hk hst hopc hfab).1,
      fun hfab => (exec_propertySet he hk hst hopc hfab).2⟩⟩

end Sys2Proof
end

section
/-! PROOFS. The millisecond sums of the meters (O19). -/

namespace Sys2Proof

open Sys2Proof.Machine

variable {s t : State}

/-! ### The slices one after the other -/

/-- Two changes of the element found by a key that the first keeps. -/
theorem modFirst_modFirst {α : Type} (l : List α) (p : α → Bool) (f g : α → α) (h : ∀ a, p (f a) = p a) :
    modFirst (modFirst l p f) p g = modFirst l p (fun a => g (f a)) := by
  induction l with
  | nil => rfl
  | cons a l ih =>
    simp only [modFirst]
    by_cases e : p a = true
    · simp [modFirst, e, h]
    · simp [modFirst, e, ih]

theorem modSlice_modSlice (s : State) (n : Nat) (f g : SliceS → SliceS) (hf : ∀ x, (f x).num = x.num) :
    (s.modSlice n f).modSlice n g = s.modSlice n fun x => g (f x) := by
  unfold State.modSlice
  rw [modFirst_modFirst _ _ _ _ fun x => by rw [hf]]

/-- The first element that satisfies the predicate, behind others that do not. -/
theorem modFirst_append_cons {α : Type} {l m : List α} {a : α} {p : α → Bool} (f : α → α) (h : ∀ b ∈ l, p b = false) (ha : p a = true) :
    modFirst (l ++ a :: m) p f = l ++ f a :: m := by
  induction l with
  | nil => simp [modFirst, ha]
  | cons b l ih => simp [modFirst, h b (List.mem_cons_self ..), ih fun c hc => h c (List.mem_cons_of_mem _ hc)]

/-- With numbers all different, changing each slice by its number changes each one once. -/
theorem foldl_modFirst_nums {f : SliceS → SliceS → SliceS} (hf : ∀ x y, (f x y).num = y.num) (done l : List SliceS)
    (hn : ((done ++ l).map (·.num)).Nodup) :
    l.foldl (fun acc x => modFirst acc (·.num == x.num) (f x)) (done ++ l) = done ++ l.map fun x => f x x := by
  induction l generalizing done with
  | nil => simp
  | cons x l ih =>
    have apart : ∀ y ∈ done, (y.num == x.num) = false := by
      intro y hy
      rw [List.map_append, List.nodup_append] at hn
      simpa using hn.2.2 y.num (List.mem_map_of_mem hy) x.num (by simp)
    have keep : (((done ++ [f x x]) ++ l).map (·.num)).Nodup := by simpa [hf] using hn
    rw [List.foldl_cons, modFirst_append_cons (f x) apart (by simp)]
    simpa using ih (done ++ [f x x]) keep

/-! ### The sums (R167) -/

/-- A slice with `v` more in counter `i` of the bank in use. -/
def counted (i v : Nat) (x : SliceS) : SliceS :=
  { x with meter := if x.meter.sel then { x.meter with bank1 := modNth x.meter.bank1 i (· + v) }
                    else { x.meter with bank0 := modNth x.meter.bank0 i (· + v) } }

theorem meterAdd_eq (s : State) (n i v : Nat) : s.meterAdd n i v = s.modSlice n (counted i v) := rfl

/-- The bank in use, and the other. -/
def bankInUse (x : SliceS) : List Nat := if x.meter.sel then x.meter.bank1 else x.meter.bank0
def bankAside (x : SliceS) : List Nat := if x.meter.sel then x.meter.bank0 else x.meter.bank1

theorem banks_counted (i v : Nat) (x : SliceS) :
    bankInUse (counted i v x) = modNth (bankInUse x) i (· + v) ∧ bankAside (counted i v x) = bankAside x := by
  unfold counted bankInUse bankAside
  cases hsel : x.meter.sel <;> simp [hsel]

/-- A slice with the granules and controllers of `x` added for one millisecond. -/
def msCounted (s : State) (x y : SliceS) : SliceS :=
  counted 14 (1 * s.ctrlCount x.num) (counted 8 (1 * provGran x) (counted 7 (1 * s.allocGran x.num) y))

/-- What is counted of a slice rests on the map, the namespaces and the controllers, not on the meters. -/
theorem allocGran_modSlice {f : SliceS → SliceS} {n : Nat} (hf : ∀ x, heldKey (f x) = heldKey x) (i : Nat) :
    (s.modSlice n f).allocGran i = s.allocGran i := by
  have same : HoldSame s (s.modSlice n f) := (HoldSame.refl s).modSlice hf
  have lbaf (sl ns : Nat) : (s.modSlice n f).lbafOf sl ns = s.lbafOf sl ns := by rw [State.lbafOf, same.nsOf, State.lbafOf]
  unfold State.allocGran
  simp only [lbaf]
  rfl

/-- The sums of a millisecond change each slice by what was counted of it at the start. -/
theorem meterMs_fold (l : List SliceS) (same : ∀ i, t.allocGran i = s.allocGran i ∧ t.ctrlCount i = s.ctrlCount i) :
    l.foldl (fun s x => ((s.meterAdd x.num 7 (1 * s.allocGran x.num)).meterAdd x.num 8 (1 * provGran x)).meterAdd x.num 14
      (1 * s.ctrlCount x.num)) t =
    { t with slices := { t.slices with
      list := l.foldl (fun acc x => modFirst acc (·.num == x.num) (msCounted s x)) t.slices.list } } := by
  induction l generalizing t with
  | nil => rfl
  | cons x l ih =>
    have one : ((t.meterAdd x.num 7 (1 * t.allocGran x.num)).meterAdd x.num 8 (1 * provGran x)).meterAdd x.num 14 (1 * t.ctrlCount x.num) =
        t.modSlice x.num (msCounted s x) := by
      obtain ⟨halloc, hctrl⟩ := same x.num
      rw [halloc, hctrl, meterAdd_eq, meterAdd_eq, meterAdd_eq, modSlice_modSlice _ _ (counted 7 _) _ fun _ => rfl,
        modSlice_modSlice _ _ (fun y => counted 8 _ (counted 7 _ y)) _ fun _ => rfl]
      rfl
    have unchanged (i : Nat) : (t.modSlice x.num (msCounted s x)).allocGran i = s.allocGran i ∧
        (t.modSlice x.num (msCounted s x)).ctrlCount i = s.ctrlCount i :=
      ⟨(allocGran_modSlice (f := msCounted s x) (fun _ => rfl) i).trans (same i).1, (same i).2⟩
    rw [List.foldl_cons, one, ih unchanged]
    rfl

theorem meterMs_one (hn : (s.slices.list.map (·.num)).Nodup) :
    s.meterMs 1 = { s with slices := { s.slices with list := s.slices.list.map fun x => msCounted s x x } } := by
  refine (meterMs_fold s.slices.list fun _ => ⟨rfl, rfl⟩).trans ?_
  have each := foldl_modFirst_nums (f := msCounted s) (fun _ _ => rfl) [] s.slices.list hn
  simp only [List.nil_append] at each
  rw [each]

theorem banks_msCounted (x : SliceS) : bankInUse (msCounted s x x) =
      modNth (modNth (modNth (bankInUse x) 7 (· + s.allocGran x.num)) 8 (· + provGran x)) 14 (· + s.ctrlCount x.num) ∧
    bankAside (msCounted s x x) = bankAside x := by
  simp only [msCounted, banks_counted, Nat.one_mul, and_self]

/-- A slice with a millisecond more of commands in the table. -/
def busyCounted (s : State) (x : SliceS) : SliceS :=
  if s.eng.cct.any (fun e => e.slice == x.num) then { x with busyMs := x.busyMs + 1 } else x

/-- The number of a slice and its two banks. -/
def meterKey (x : SliceS) : Nat × List Nat × List Nat := (x.num, bankInUse x, bankAside x)

theorem meterKey_busyCounted (x : SliceS) : meterKey (busyCounted s x) = meterKey x := by
  unfold busyCounted
  split <;> rfl

/-- Settles O19: the sums take each slice by its number, and what follows them counts busy milliseconds alone. -/
theorem millisecondSumsMeterEverySlice : Obligations.MillisecondSumsMeterEverySlice := by
  intro s hp hl4 hn
  have runs : (!s.glb.powered || s.power.state == .l4) = false := by simp [hp, hl4]
  refine ⟨{ s with slices := { s.slices with list := (s.slices.list.map fun x => msCounted s x x).map (busyCounted s) } }, ?_, rfl, ?_⟩
  · show execMeteringMsSum s = _
    simp only [execMeteringMsSum, runs, meterMs_one hn]
    rfl
  · show ((s.slices.list.map fun x => msCounted s x x).map (busyCounted s)).map meterKey = _
    rw [List.map_map, List.map_map]
    refine List.map_congr_left fun x _ => ?_
    obtain ⟨inUse, aside⟩ := banks_msCounted (s := s) x
    refine (meterKey_busyCounted _).trans ?_
    rw [meterKey, inUse, aside]
    rfl

end Sys2Proof
end

section
/-! PROOFS. What of the slices outlasts the recorder, settings, and units that are deallocated (O46, O47). -/

namespace Sys2Proof

open Sys2Proof.Machine

variable {s t u : State} {P : State → Prop} {sl n : Nat}

/-! ### Kinds of change that leave the slices -/

/-- A property that looks at the slices alone, and that notices keep, is kept along the write path. -/
theorem keptByWritePath_of_slices (rest : ∀ {x y : State}, P x → y.slices = x.slices → P y)
    (notify : ∀ {x : State} (c : Nat) (n : Notice), P x → P (x.notify c n)) : KeptByWritePath P where
  sticky := fun _ _ h => rest h rfl
  events := fun _ h => rest h rfl
  prob := fun _ h => rest h rfl
  notify := notify
  reg := fun _ _ _ h => rest h rfl
  journal := fun _ _ h => rest h rfl
  upkeep := fun _ h => rest h rfl
  mem := fun _ h => rest h rfl
  buf := fun _ h => rest h rfl
  again := fun _ h => rest h rfl
  opened := fun _ h => rest h rfl
  grown := fun _ _ _ _ h => rest h rfl
  array := fun _ h => rest h rfl
  pslc := fun _ h => rest h rfl
  flash := fun _ h => rest h rfl
  ended := fun _ h => rest h rfl
  power := fun _ h => rest h rfl
  loops := fun _ h => rest h rfl
  fw := fun _ h => rest h rfl

/-- Kept too where the command engine, the write buffer and the map change. -/
structure KeptByUnits (P : State → Prop) : Prop extends KeptByWritePath P where
  eng : ∀ {t : State} (x : Engine), P t → P { t with eng := x }
  store : ∀ {t : State} (x : Store), P t → P { t with store := x }

namespace KeptByUnits

theorem freeEntry (k : KeptByUnits P) {x : Cct} (h : P s) : P (s.freeEntry x) :=
  let u := s.freeEntry x
  k.upkeep u.upkeep (k.mem u.mem (k.store u.store (k.eng u.eng h)))

theorem peerFree (k : KeptByUnits P) {e : Nat} (h : P s) : P (s.peerFree e) := by
  unfold State.peerFree
  split
  · exact h
  · exact k.freeEntry h

theorem endPeer (k : KeptByUnits P) (h : P s) : P (s.endPeer sl) := foldl_keeps P _ _ s h fun _ _ _ hx => k.peerFree hx

theorem answerEntry (k : KeptByUnits P) {e : Option Nat} {st : Nat} {r : Word} (h : P s) : P (s.answerEntry e st r) := by
  unfold State.answerEntry
  split
  · exact h
  · split
    · exact h
    · exact k.eng _ h

/-- Repairs that are awaited no longer are recorded, and what waited for them goes on (R159). -/
theorem dropRepairs (k : KeptByUnits P) {cause : Nat} {q : LostRange → Bool} (h : P s) : P (s.dropRepairs sl cause q) :=
  ite_keeps P h (k.eng _ (foldl_keeps P _ _ _ (k.store _ h) fun _ _ _ hx => k.capture hx))

theorem smartCheck (k : KeptByUnits P) (h : P s) : P s.smartCheck := k.toKeptByRecorder.smartCheck (fun _ _ hx => k.eng _ hx) h

/-! ### Units that are deallocated (R199, R200, R202) -/

theorem lostSpill (k : KeptByUnits P) (h : P s) : P s.lostSpill := ite_keeps P (ite_keeps P h (k.capture (k.store _ h))) (k.store _ h)

theorem removeLost (k : KeptByUnits P) {ns a m : Nat} (h : P s) : P (s.removeLost sl ns a m) := ite_keeps P h (k.lostSpill (k.store _ h))

theorem stageEntry (k : KeptByUnits P) {ns mu : Nat} {e : MapEntry} (h : P s) : P (s.stageEntry sl ns mu e) := by
  refine k.store _ ?_
  unfold State.supersede
  split
  · exact k.store _ h
  · exact h

theorem deallocRun (k : KeptByUnits P) {cct : Nat} {x : Ns} {seq : Word} {r : Nat × Nat} (h : P s) : P (s.deallocRun sl x cct seq r) :=
  ite_keeps P h (foldl_keeps P _ _ _ (k.jsync h) fun _ _ _ hx => k.stageEntry (ite_keeps P (k.removeLost hx) hx))

theorem wipeSlice (k : KeptByUnits P) (h : P s) : P (s.wipeSlice sl) := by
  unfold State.wipeSlice
  split
  · exact h
  · exact k.gatherHost (k.settle (foldl_keeps P _ _ s h fun _ _ _ hx => k.store _ (k.deallocRun hx)))

end KeptByUnits

/-! ### What of a slice outlasts them -/

/-- A slice without what closed commands and their errors are counted in. -/
def lasting (x : SliceS) : SliceS :=
  { x with meter := { x.meter with bank0 := [], bank1 := [] }, readBytes := 0, writeBytes := 0, errCount := 0 }

/-- The slices and the key slots are the same, but for counts of commands and errors. -/
structure SlicesLast (s t : State) : Prop where
  list : t.slices.list.map lasting = s.slices.list.map lasting
  keys : t.slices.keySlots = s.slices.keySlots

namespace SlicesLast

theorem refl (s : State) : SlicesLast s s := ⟨rfl, rfl⟩

/-- The later of two steps is named first. -/
theorem after (k : SlicesLast t u) (h : SlicesLast s t) : SlicesLast s u := ⟨k.list.trans h.list, k.keys.trans h.keys⟩

theorem of_slices (h : SlicesLast s t) (e : u.slices = t.slices) : SlicesLast s u := ⟨by rw [e]; exact h.list, by rw [e]; exact h.keys⟩

theorem modSlice (h : SlicesLast s t) {f : SliceS → SliceS} (hf : ∀ x, lasting (f x) = lasting x) : SlicesLast s (t.modSlice n f) :=
  ⟨(modFirst_map _ _ _ _ hf).trans h.list, h.keys⟩

/-- What is read of a slice, where no count of commands or errors is. -/
theorem part {α : Type} (h : SlicesLast s t) {g : SliceS → α} (hg : ∀ x, g (lasting x) = g x) (n : Nat) :
    (t.slice n).map g = (s.slice n).map g := by
  have found (x : State) : (x.slice n).map g = ((x.slices.list.map lasting).find? (·.num == n)).map g := by
    rw [List.find?_map, Option.map_map]
    exact congrArg (Option.map · _) (funext fun y => (hg y).symm)
  rw [found, found, h.list]

theorem slice_none (h : SlicesLast s t) (hn : s.slice n = none) : t.slice n = none := by
  have none' := h.part (g := (·.num)) (fun _ => rfl) n
  rw [hn] at none'
  exact Option.map_eq_none_iff.mp none'

/-! ### Completions and notices -/

theorem lasting_counted (i v : Nat) (x : SliceS) : lasting (counted i v x) = lasting x := by
  unfold lasting counted
  split <;> rfl

theorem meterAdd (h : SlicesLast s t) {i v : Nat} : SlicesLast s (t.meterAdd n i v) := h.modSlice (lasting_counted i v)

theorem meterClosed (h : SlicesLast s t) {e : Cct} {st : Nat} : SlicesLast s (t.meterClosed e st) :=
  meterClosed_keeps (fun _ _ hx => hx.meterAdd)
    (fun rd wr hx => modSlice (f := fun y => { y with readBytes := y.readBytes + rd, writeBytes := y.writeBytes + wr }) hx fun _ => rfl) h

theorem countErr (h : SlicesLast s t) : SlicesLast s (t.countErr n) :=
  ite_keeps (SlicesLast s) ⟨h.list, h.keys⟩ (h.modSlice fun _ => rfl)

theorem post (h : SlicesLast s t) {e : Cct} {st : Nat} {r : Word} : SlicesLast s (t.post e st r) := by
  have closed : SlicesLast s (if e.queue < 8192 then t.meterClosed e st
      else if st != St.ok && e.slice != 0 then t.meterAdd e.slice 12 1 else t) :=
    ite_keeps (SlicesLast s) h.meterClosed (ite_keeps (SlicesLast s) h.meterAdd h)
  have noted := ite_keeps (SlicesLast s) (p := statusNoEntry st = true) closed (closed.countErr (n := e.slice).of_slices (u := State.recordErr e st _) rfl)
  exact ite_keeps (SlicesLast s) (noted.of_slices rfl) (ite_keeps (SlicesLast s) (noted.of_slices rfl) (noted.of_slices rfl))

theorem reportNotice (h : SlicesLast s t) {c : Nat} : SlicesLast s (t.reportNotice c) := by
  unfold State.reportNotice
  split
  · exact h
  · split
    · split
      · exact h
      · exact post (t := State.modCtrl _ _ t) (h.of_slices rfl)
    · exact h

theorem notify (h : SlicesLast s t) {c : Nat} {m : Notice} : SlicesLast s (t.notify c m) :=
  ite_keeps (SlicesLast s) h (reportNotice (t := State.modCtrl _ _ t) (h.of_slices rfl))

end SlicesLast

theorem keptByUnits_slicesLast : KeptByUnits (SlicesLast s) where
  toKeptByWritePath := keptByWritePath_of_slices (fun h e => h.of_slices e) fun _ _ h => h.notify
  eng := fun _ h => h.of_slices rfl
  store := fun _ h => h.of_slices rfl

namespace SlicesLast

theorem capture (h : SlicesLast s t) {code : Nat} {ps : List Nat} : SlicesLast s (t.capture code ps) := keptByUnits_slicesLast.capture h

theorem writeSettings (h : SlicesLast s t) : SlicesLast s t.writeSettings := keptByUnits_slicesLast.writeSettings h

theorem smartCheck (h : SlicesLast s t) : SlicesLast s t.smartCheck := keptByUnits_slicesLast.smartCheck h

theorem anaChange (h : SlicesLast s t) {p : SliceS → Bool} : SlicesLast s (t.anaChange p) := by
  unfold State.anaChange
  exact keptByUnits_slicesLast.notifyAll (h.of_slices rfl)

theorem finish (h : SlicesLast s t) {e st : Nat} {r : Word} {o : Payload} : SlicesLast s (t.finish e st r o) := h.of_slices rfl

theorem send (h : SlicesLast s t) {x : Sent} : SlicesLast s (t.send x) := h.of_slices rfl

theorem sendAll (h : SlicesLast s t) {l : List PeerChange} : SlicesLast s (t.sendAll sl l) :=
  foldl_keeps (SlicesLast s) _ _ t h fun _ _ _ hx => hx.send

end SlicesLast

end Sys2Proof
end

section
/-! PROOFS. Slices are created, modified, quiesced and resumed (O46). -/

namespace Sys2Proof

open Sys2Proof.Machine

variable {s t u : State} {e n : Nat} {c : Cct} {x : SliceS}

/-! ### Slices in the list -/

theorem slice_num (h : s.slice n = some x) : x.num = n := by simpa using List.find?_some h

theorem slice_none_iff : s.slice n = none ↔ s.slices.list.any (·.num == n) = false := by
  rw [State.slice, List.find?_eq_none, List.any_eq_false]

/-- A new slice is found by its number, and the others as before. -/
theorem slice_addSlice (n : Nat) : (s.addSlice x).slice n = (s.slice n).or (if x.num = n then some x else none) := by
  show (s.slices.list ++ [x]).find? _ = _
  rw [List.find?_append, List.find?_singleton]
  simp only [State.slice, beq_iff_eq]

/-- The key drawn for a slice. -/
def drawnKey (s : State) : Nat := (Config.drbg (drawKey 64 (s.slices.keyGen + 1))).toNat

theorem slice_newKey (k j : Nat) :
    (s.newKey k).slice j = if j = k then (s.slice k).map (fun x => { x with key := drawnKey s }) else s.slice j :=
  State.slice_modSlice _ k j (fun x => { x with key := drawnKey s }) fun _ => rfl

/-! ### What the commands end with -/

theorem answer_onEntry {opc st : Nat} {io : Bool} {r : Word} (h : OnEntry s e opc io c) (t : State) : t.answer c st r = t.finish e st r .none := by
  rw [State.answer, h.idx]

/-- The capture of a listed code sets the bit of its group. -/
theorem marked_code {code g b : Nat} {ps : List Nat} (hs : Safe s) (hc : (severity code).isSome = true) (hg : code / 256 = g)
    (hb : code % 256 = b) (h32 : b < 32) : Marked g b (s.capture code ps) := by
  obtain ⟨sev, hsev⟩ := Option.isSome_iff_exists.mp hc
  subst hg hb
  exact marked_capture hs hsev h32

theorem capture_gen {code : Nat} {ps : List Nat} : (s.capture code ps).journal.gen = s.journal.gen := by
  rw [(aside_capture ..).journal]

theorem anaChange_journal {p : SliceS → Bool} : (s.anaChange p).journal = s.journal := (aside_notifyAll ..).journal

/-! ### Create and modify (R143, R144, R151) -/

/-- A slice entered active under its descriptor, with the key drawn for it. -/
def sliceMade (k : Nat) (d : Desc) (s : State) : State := (s.addSlice (newSlice k .active d)).newKey k

theorem slice_sliceMade {k : Nat} {d : Desc} (hfree : s.slice k = none) (j : Nat) :
    (sliceMade k d s).slice j = if j = k then some { newSlice k .active d with key := drawnKey s } else s.slice j := by
  rw [sliceMade, slice_newKey]
  split
  · rw [slice_addSlice, hfree, if_pos (show (newSlice k .active d).num = k from rfl)]
    rfl
  next hj => rw [slice_addSlice, if_neg (show ¬(newSlice k .active d).num = j from fun h => hj h.symm), Option.or_none]

theorem sliceCreate_makes {k : Nat} (hs : Safe s) (h : OnEntry s e 0xC4 false c) (hdw : badDws c.cap 0x07FF0003 0 0 0 = false)
    (hn : sliceOf c.cap ≤ 1024) (hop : dwBits c.cap.dw10 1 0 = 0) (hlen : 1024 ≤ c.cap.data.length)
    (hres : descReserved c.cap.data = true) (hr : (descOf c.cap.data).rangesOk = true) (hnqn : s.nqnTaken (descOf c.cap.data).subnqn = false)
    (hfree : s.slices.list.any (·.num == sliceOf c.cap) = false) (hshape : s.array.reshape = none)
    (hbits : s.shortBits (descOf c.cap.data).takes = 0)
    (hk : (if sliceOf c.cap = 0 then s.lowSlice else some (sliceOf c.cap)) = some k) :
    ∃ u : State, exec (.sliceCreate e) s = .next (u.finish e St.ok (BitVec.ofNat 32 k) .none) ∧ s.slice k = none ∧
      (u.slice k).map (fun x => (x.state, x.desc, x.key)) = some (.active, descOf c.cap.data, drawnKey s) ∧
      u.journal.gen = s.journal.gen + 1 ∧ (u.sticky 6).getLsbD 1 = true ∧
      (∀ j, j ≠ k → (u.slice j).map (fun x => (x.state, x.desc, x.key)) = (s.slice j).map (fun x => (x.state, x.desc, x.key))) := by
  have unused : s.slice k = none := by
    rw [slice_none_iff]
    split at hk
    · have low := List.find?_some hk
      simp only [Bool.and_eq_true, Bool.not_eq_true'] at low
      exact low.2
    · cases hk
      exact hfree
  have made : SlicesLast (sliceMade k (descOf c.cap.data) s) ((sliceMade k (descOf c.cap.data) s).writeSettings.capture 0x0601 [k, 0]) :=
    (SlicesLast.refl _).writeSettings.capture
  refine ⟨(sliceMade k (descOf c.cap.data) s).writeSettings.capture 0x0601 [k, 0], ?_, unused, ?_, ?_, ?_, fun j hj => ?_⟩
  · show execSliceCreate e s = _
    simp only [execSliceCreate, withCmd_onEntry h, hdw, Nat.not_lt.mpr hn, Nat.not_lt.mpr hlen, hop, State.sliceMake, hres, hr, hnqn, hfree, hshape, hbits, hk,
      decide_false, answer_onEntry h]
    rfl
  · rw [made.part (g := fun x => (x.state, x.desc, x.key)) (fun _ => rfl), slice_sliceMade unused, if_pos rfl]
    rfl
  · rw [capture_gen, writeSettings_gen]
    rfl
  · have safe : Safe (sliceMade k (descOf c.cap.data) s) := hs.upd
    exact (marked_code safe.writeSettings (by decide +kernel) rfl rfl (by decide)).2
  · rw [made.part (g := fun x => (x.state, x.desc, x.key)) (fun _ => rfl), slice_sliceMade unused, if_neg hj]

/-- A slice under a new descriptor, its QoS from the next refill. -/
def modified (d : Desc) (y : SliceS) : SliceS := { y with desc := d, qosOld := some y.qosNow.qosFields }

theorem sliceCreate_modifies {d : Desc} (hs : Safe s) (h : OnEntry s e 0xC4 false c) (hdw : badDws c.cap 0x07FF0003 0 0 0 = false)
    (hn : sliceOf c.cap ≤ 1024) (hop : dwBits c.cap.dw10 1 0 = 1) (hlen : 1024 ≤ c.cap.data.length) (hx : s.slice (sliceOf c.cap) = some x)
    (hres : descReserved c.cap.data = true) (hd : d = (descOf c.cap.data).keep x.desc) (hr : d.rangesOk = true)
    (hst : x.state = .active ∨ x.state = .quiesced) (hq : s.usedPairs (sliceOf c.cap) ≤ d.qpairs) (hc : s.ctrlCount (sliceOf c.cap) ≤ d.ctrls)
    (hns : x.usedNs ≤ d.ns) (hb : x.usedBytes ≤ d.capMib * 1048576) (hrep : d.replicated = x.desc.replicated)
    (hshape : s.array.reshape = none) (hbits : s.shortBits ((d.takes.zip x.desc.takes).map (fun y => y.1 - y.2)) = 0) :
    ∃ u : State, exec (.sliceCreate e) s = .next (u.finish e St.ok (BitVec.ofNat 32 (sliceOf c.cap)) .none) ∧
      (u.slice (sliceOf c.cap)).map (fun y => (y.state, y.desc, y.qosOld)) = some (x.state, d, some x.qosNow.qosFields) ∧
      u.journal.gen = s.journal.gen + 1 ∧ (u.sticky 6).getLsbD 1 = true := by
  refine ⟨(s.modSlice (sliceOf c.cap) (modified d)).writeSettings.capture 0x0601 [sliceOf c.cap, 1], ?_, ?_, ?_, ?_⟩
  · show execSliceCreate e s = _
    have settled : (x.state == .active || x.state == .quiesced) = true := by
      rcases hst with hst | hst <;> rw [hst] <;> rfl
    have stays : (x.desc.replicated && !x.desc.replicated) = false := by cases x.desc.replicated <;> rfl
    have hb' : ¬ d.capMib * 1048576 < x.usedBytes := Nat.not_lt.mpr hb
    simp only [execSliceCreate, withCmd_onEntry h, hdw, Nat.not_lt.mpr hn, Nat.not_lt.mpr hlen, hop, State.sliceModify, hx, ← hd, hres, hr, settled,
      Nat.not_lt.mpr hq, Nat.not_lt.mpr hc, Nat.not_lt.mpr hns, hb', hrep, stays, hshape, hbits, bne_self_eq_false,
      decide_false, answer_onEntry h]
    rfl
  · have same : SlicesLast (s.modSlice (sliceOf c.cap) (modified d)) _ :=
      (SlicesLast.refl _).writeSettings.capture (code := 0x0601) (ps := [sliceOf c.cap, 1])
    rw [same.part (g := fun y => (y.state, y.desc, y.qosOld)) (fun _ => rfl), slice_modSlice_map (f := modified d) fun _ => rfl, hx]
    rfl
  · rw [capture_gen, writeSettings_gen]
    rfl
  · exact (marked_code (Safe.writeSettings (s := s.modSlice _ _) hs) (by decide +kernel) rfl rfl (by decide)).2

end Sys2Proof
end

section
/-! PROOFS. Slices are quiesced, resumed and deleted (O46). -/

namespace Sys2Proof

open Sys2Proof.Machine

variable {s t u : State} {e n : Nat} {c : Cct} {x : SliceS}

/-! ### Quiesce (R148) -/

theorem writeSettings_rest : s.writeSettings =
    { s with slices := s.writeSettings.slices, journal := s.writeSettings.journal, fw := s.writeSettings.fw } :=
  ite_keeps (fun t : State => t = { s with slices := t.slices, journal := t.journal, fw := t.fw }) rfl rfl

/-- The entry of a command that completes later. -/
def heldWaiting (now : Nat) (y : Cct) : Cct := { y with st := .heldResource, waitsOwn := true, step := 1, gate := .committed, heldAt := now }

theorem waitCmd_entry (h : s.entry e = some c) : (s.waitCmd c).entry e = some (heldWaiting s.seed.now c) := by
  refine (State.entry_modEntry s c.idx e (heldWaiting s.seed.now) fun _ => rfl).trans ?_
  rw [entry_idx h, if_pos rfl, h]
  rfl

/-- A slice that a quiesce holds, and one with a Slice Quiesce that waits. -/
def quiescing (y : SliceS) : SliceS := { y with state := .quiescing, quiesceAborted := 0 }
def awaited (e : Nat) (y : SliceS) : SliceS := { y with quiesce := y.quiesce ++ [e] }

theorem sliceQuiesce_holds (h : OnEntry s e 0xC6 false c) (hx : s.slice (sliceOf c.cap) = some x)
    (hdw : badDws c.cap 0x07FF0000 1 0 0 = false) (hst : x.state = .active) (hforce : c.cap.dw11.getLsbD 0 = false) :
    Completes (.sliceQuiesce e) s (fun t =>
      (t.slice (sliceOf c.cap)).map (fun y => (y.state, y.quiesce)) = some (.quiescing, x.quiesce ++ [e]) ∧
      (t.entry e).map (·.st) = some .heldResource ∧ t.journal.gen = s.journal.gen + 1 ∧
      t = { s with eng := { s.eng with cct := t.eng.cct }, slices := t.slices, journal := t.journal, fw := t.fw }) := by
  let v := (s.modSlice (sliceOf c.cap) quiescing).writeSettings
  have rest : v = { s with slices := v.slices, journal := v.journal, fw := v.fw } := writeSettings_rest
  refine ⟨(v.modSlice (sliceOf c.cap) (awaited e)).waitCmd c, ?_, ?_, ?_, ?_, ?_⟩
  · have active : (x.state == .active) = true := by rw [hst]; rfl
    show execSliceQuiesce e s = _
    simp only [execSliceQuiesce, withCmd_onEntry h, hx, hdw, active, hforce, Bool.true_or]
    rfl
  · refine (slice_modSlice_map (s := v) (f := awaited e) (fun _ => rfl) _).trans ?_
    have same : SlicesLast (s.modSlice (sliceOf c.cap) quiescing) v := (SlicesLast.refl _).writeSettings
    rw [same.part (fun _ => rfl), slice_modSlice_map (f := quiescing) fun _ => rfl, hx]
    rfl
  · have there : v.entry e = some c := by
      rw [rest]
      exact h.1
    rw [waitCmd_entry (s := v.modSlice (sliceOf c.cap) (awaited e)) there]
    rfl
  · exact writeSettings_gen
  · rw [rest]
    rfl

theorem sliceQuiesced_answers {us i : Nat} (hx : s.slice n = some x) (hst : x.state = .quiescing)
    (hidle : s.eng.cct.any (fun c => c.slice == n && c.origin == 0) = false) (hq : x.quiesce = [i]) :
    exec (.sliceQuiesced n us) s = .next ((((s.modSlice n (fun x => { x with state := .quiesced, quiesce := [] })).writeSettings).capture
      0x0603 [n, x.quiesceAborted, us]).answerEntry (some i) St.ok 0) := by
  have quiet : (x.state != .quiescing) = false := by rw [hst]; rfl
  show execSliceQuiesced n us s = _
  simp only [execSliceQuiesced, hx, quiet, hidle, hq, Bool.or_self, Bool.false_eq_true, if_false, List.foldl_cons, List.foldl_nil]

/-! ### Resume (R148, R160) -/

/-- An active slice, and one that is no replica any more. -/
def active (y : SliceS) : SliceS := { y with state := .active }
def unpaired (y : SliceS) : SliceS := { y with desc := { y.desc with replicated := false }, repl := 0, detached := false }

/-- A replica takes its key and its pairing ends, which is recorded. -/
def promoted (n : Nat) (x : SliceS) (s : State) : State :=
  (({ s with slices := { s.slices with keySlots := (n, x.key) :: s.slices.keySlots.filter (·.1 != n) } } : State).modSlice n unpaired).capture
    0x060E [n, x.peerId]

theorem slice_promoted {α : Type} {g : SliceS → α} (hg : ∀ y, g (lasting y) = g y) :
    ((promoted n x s).slice n).map g = (s.slice n).map fun y => g (unpaired y) := by
  refine ((SlicesLast.refl _).capture.part hg n).trans ?_
  rw [slice_modSlice_map (f := unpaired) fun _ => rfl]
  rfl

/-- A resume up to the settings. -/
def resumedSlice (n : Nat) (x : SliceS) (s : State) : State :=
  let s := s.modSlice n active
  if x.state == .replica then promoted n x s else s

theorem resumedSlice_gen : (resumedSlice n x s).journal.gen = s.journal.gen :=
  ite_keeps (fun t : State => t.journal.gen = s.journal.gen) capture_gen rfl

theorem resumedSlice_active (hx : s.slice n = some x) : ((resumedSlice n x s).slice n).map (·.state) = some .active := by
  have activated : ((s.modSlice n active).slice n).map (·.state) = some .active := by
    rw [slice_modSlice_map (f := active) fun _ => rfl, hx]
    rfl
  refine ite_keeps (fun t : State => (t.slice n).map (·.state) = some .active) ?_ activated
  exact (slice_promoted fun _ => rfl).trans activated

theorem resumedSlice_unpaired (hx : s.slice n = some x) (hst : x.state = .replica) :
    ((resumedSlice n x s).slice n).map (fun y => (y.desc.replicated, y.repl)) = some (false, 0) := by
  have replica : (x.state == .replica) = true := by rw [hst]; rfl
  simp only [resumedSlice, replica, if_true]
  rw [slice_promoted fun _ => rfl, slice_modSlice_map (f := active) fun _ => rfl, hx]
  rfl

theorem sliceResume_activates (h : OnEntry s e 0xC7 false c) (hx : s.slice (sliceOf c.cap) = some x)
    (hdw : badDws c.cap 0x07FF0000 3 0 0 = false) (hok : resumeOk x.state (c.cap.dw11.getLsbD 0) (c.cap.dw11.getLsbD 1) = true)
    (hmig : x.migState ≠ 4) : ∃ u : State,
      exec (.sliceResume e) s = .next (u.finish e St.ok 0 .none) ∧ u.journal.gen = s.journal.gen + 1 ∧
      (u.slice (sliceOf c.cap)).map (·.state) = some .active ∧
      (x.state = .replica → (u.slice (sliceOf c.cap)).map (fun y => (y.desc.replicated, y.repl)) = some (false, 0)) := by
  let v := (resumedSlice (sliceOf c.cap) x s).writeSettings
  let w := if x.state == .quiesced then v else v.anaChange (fun (y : SliceS) => y.num == sliceOf c.cap)
  have same : SlicesLast (resumedSlice (sliceOf c.cap) x s) w :=
    ite_keeps (SlicesLast _) (SlicesLast.refl _).writeSettings (SlicesLast.refl _).writeSettings.anaChange
  refine ⟨w, ?_, ?_, ?_, fun hst => ?_⟩
  · show execSliceResume e s = _
    simp only [execSliceResume, withCmd_onEntry h, hx, hdw, hok, hmig, State.reply, answer_onEntry h]
    rfl
  · have told : w.journal = v.journal := ite_keeps (fun t : State => t.journal = v.journal) rfl anaChange_journal
    rw [told, writeSettings_gen, resumedSlice_gen]
  · rw [same.part fun _ => rfl, resumedSlice_active hx]
  · rw [same.part fun _ => rfl, resumedSlice_unpaired hx hst]

/-! ### Delete (R148, R149) -/

/-- The slice of a number is struck off, and what is listed and under way for it. -/
def struck (n : Nat) (s : State) : State :=
  { s with
    slices := { s.slices with list := s.slices.list.filter (·.num != n), gone := s.slices.gone.filter (·.num != n) ++ s.slices.list.filter (·.num == n) }
    store := { s.store with lost := s.store.lost.filter (·.slice != n), jobs := s.store.jobs.filter (·.slice != n) } }

/-- A delete gives up the key slot, then erases the key and wipes the units, then strikes the slice off. -/
theorem deleteSlice_steps : ∃ a : State, (∀ p ∈ a.slices.keySlots, p.1 ≠ x.num) ∧
    s.deleteSlice x = (struck x.num ((a.eraseOldKey x.num).wipeSlice x.num)).writeSettings :=
  ⟨_, fun _ hp => by simpa using (List.mem_filter.mp hp).2, rfl⟩

/-- A deleted slice is found no more, and neither its key slot nor its lost entries are left. -/
theorem deleteSlice_gone : (s.deleteSlice x).slice x.num = none ∧ (∀ r ∈ (s.deleteSlice x).store.lost, r.slice ≠ x.num) ∧
    ∀ p ∈ (s.deleteSlice x).slices.keySlots, p.1 ≠ x.num := by
  obtain ⟨a, free, steps⟩ := deleteSlice_steps (s := s) (x := x)
  have wiped : SlicesLast a ((a.eraseOldKey x.num).wipeSlice x.num) :=
    keptByUnits_slicesLast.wipeSlice (SlicesLast.of_slices (SlicesLast.refl a).writeSettings rfl)
  rw [steps]
  generalize (a.eraseOldKey x.num).wipeSlice x.num = b at wiped
  have written := (SlicesLast.refl (struck x.num b)).writeSettings
  refine ⟨written.slice_none ?_, fun r hr => ?_, fun p hp => ?_⟩
  · simp [State.slice, struck, List.find?_eq_none]
  · rw [writeSettings_store] at hr
    simpa using (List.mem_filter.mp hr).2
  · rw [written.keys] at hp
    exact free p (wiped.keys ▸ hp)

theorem sliceDelete_refuses (h : OnEntry s e 0xC5 false c) (hx : s.slice (sliceOf c.cap) = some x)
    (hdw : badDws c.cap 0x07FF0000 1 0 0 = false) (hst : x.state = .active ∨ x.state = .quiescing) :
    exec (.sliceDelete e) s = .next (s.finish e St.sliceNotQuiesced 0 .none) := by
  have busy : (x.state == .active || x.state == .quiescing) = true := by
    rcases hst with hst | hst <;> rw [hst] <;> rfl
  show execSliceDelete e s = _
  simp only [execSliceDelete, withCmd_onEntry h, hx, hdw, busy, State.reply, answer_onEntry h]
  rfl

theorem exec_sliceDelete (h : OnEntry s e 0xC5 false c) (hx : s.slice (sliceOf c.cap) = some x)
    (hdw : badDws c.cap 0x07FF0000 1 0 0 = false) (ha : x.state ≠ .active) (hq : x.state ≠ .quiescing) (h1 : x.migState ≠ 1)
    (h4 : x.migState ≠ 4) (hreset : c.cap.dw11.getLsbD 0 = false) :
    exec (.sliceDelete e) s = .next (((s.deleteSlice x).finish e St.ok 0 .none).capture 0x0602 [sliceOf c.cap, 0]) := by
  have quiet : (x.state == .active || x.state == .quiescing) = false := by simp [ha, hq]
  have still : (decide (x.migState = 4) || decide (x.migState = 1)) = false := by simp [h1, h4]
  show execSliceDelete e s = _
  simp only [execSliceDelete, withCmd_onEntry h, hx, hdw, quiet, hreset, still, Bool.false_and, Bool.false_eq_true, if_false, State.reply,
    answer_onEntry h]
  rfl

theorem sliceDelete_deletes (hs : Safe s) (h : OnEntry s e 0xC5 false c) (hx : s.slice (sliceOf c.cap) = some x)
    (hdw : badDws c.cap 0x07FF0000 1 0 0 = false) (ha : x.state ≠ .active) (hq : x.state ≠ .quiescing) (h1 : x.migState ≠ 1)
    (h4 : x.migState ≠ 4) (hreset : c.cap.dw11.getLsbD 0 = false) : Completes (.sliceDelete e) s (fun t =>
      t.slice (sliceOf c.cap) = none ∧ (∀ r ∈ t.store.lost, r.slice ≠ sliceOf c.cap) ∧
      (∀ p ∈ t.slices.keySlots, p.1 ≠ sliceOf c.cap) ∧ (t.sticky 6).getLsbD 2 = true) := by
  refine ⟨_, exec_sliceDelete h hx hdw ha hq h1 h4 hreset, ?_⟩
  obtain ⟨gone, lost, slots⟩ := deleteSlice_gone (s := s) (x := x)
  have safe := Safe.deleteSlice hs (x := x)
  rw [slice_num hx] at gone lost slots
  generalize s.deleteSlice x = d at gone lost slots safe
  have same : SlicesLast d ((d.finish e St.ok 0 .none).capture 0x0602 [sliceOf c.cap, 0]) :=
    (SlicesLast.refl d).finish.capture
  have marked : Marked 6 2 ((d.finish e St.ok 0 .none).capture 0x0602 [sliceOf c.cap, 0]) :=
    marked_code safe.finish (by decide +kernel) rfl rfl (by decide)
  refine ⟨same.slice_none gone, ?_, ?_, marked.2⟩
  · rw [(aside_capture ..).lost]
    exact lost
  · rw [same.keys]
    exact slots

end Sys2Proof
end

section
/-! PROOFS. Slices are frozen, saved and restored (O46). -/

namespace Sys2Proof

open Sys2Proof.Machine

variable {s t u : State} {e n : Nat} {c : Cct} {x : SliceS} {m : Mig}

/-! ### The cut-over (R164, R165) -/

/-- A slice whose migration has no region marked, and one whose migration is committed. -/
def unmarked (y : SliceS) : SliceS := { y with mig := y.mig.map fun m => { m with marked := [] } }
def committed (y : SliceS) : SliceS := { y with mig := y.mig.map fun m => { m with committed := true } }

/-- Copying the marked regions clears their marks, and sends and meters what it copies. -/
theorem copyMarked_slices (hm : (s.slice n).bind (·.mig) = some m) : SlicesLast (s.modSlice n unmarked) (s.copyMarked n) := by
  unfold State.copyMarked
  rw [hm]
  refine foldl_keeps (SlicesLast (s.modSlice n unmarked)) _ _ _ (SlicesLast.refl _) fun v r _ hv => ?_
  split
  · exact hv
  · exact foldl_keeps (SlicesLast (s.modSlice n unmarked)) _ _ v hv fun _ _ _ hw => hw.send.meterAdd

/-- What is read of a slice after its marked regions have been copied. -/
theorem copyMarked_part {α : Type} {g : SliceS → α} (hg : ∀ y, g (lasting y) = g y) (hx : s.slice n = some x) (hm : x.mig = some m) :
    ((s.copyMarked n).slice n).map g = some (g (unmarked x)) := by
  have bound : (s.slice n).bind (·.mig) = some m := by rw [hx]; exact hm
  rw [(copyMarked_slices bound).part hg, slice_modSlice_map (f := unmarked) fun _ => rfl, hx]
  rfl

theorem sendCommit_slices : SlicesLast s (s.sendCommit x) := (SlicesLast.refl s).sendAll.sendAll.send

theorem sendCommit_sends : .migrateCommit x.num ∈ (s.sendCommit x).fabric.sent := List.mem_append_right _ (List.mem_singleton.mpr rfl)

/-- What a Slice Freeze shows of a slice and its migration. -/
def cutKey (y : SliceS) : SliceState × Nat × Option (Bool × Option Nat) := (y.state, y.migState, y.mig.map fun m => (m.committed, m.waiting))

/-- In a cut-over the commit goes at once where the ring is up, and else later. -/
theorem cutOver_commits (hx : s.slice n = some x) (hm : x.mig = some m) (h4 : x.migState = 4) (hc : m.committed = false) :
    ((s.cutOver n).slice n).map cutKey = some (x.state, 4, some (s.ringUp m.nb, m.waiting)) ∧
      (s.ringUp m.nb = true → .migrateCommit n ∈ (s.cutOver n).fabric.sent) := by
  have four : (x.migState != 4) = false := by rw [h4]; rfl
  cases hup : s.ringUp m.nb with
  | false =>
    have stays : s.cutOver n = s := by simp [State.cutOver, hx, hm, four, hc, hup]
    refine ⟨?_, fun h => absurd h (by decide)⟩
    rw [stays, hx, Option.map_some, cutKey, h4, hm, Option.map_some, hc]
  | true =>
    have goes : s.cutOver n = ((s.copyMarked n).modSlice n committed).sendCommit x := by
      simp only [State.cutOver, hx, hm, four, hc, hup]
      rfl
    rw [goes]
    refine ⟨?_, fun _ => slice_num hx ▸ sendCommit_sends⟩
    rw [sendCommit_slices.part (g := cutKey) (fun _ => rfl), slice_modSlice_map (f := committed) fun _ => rfl,
      copyMarked_part (g := fun y => cutKey (committed y)) (fun _ => rfl) hx hm]
    simp [cutKey, committed, unmarked, hm, h4]

/-! ### Freeze (R147, R165, R166) -/

theorem sliceFreeze_freezes (h : OnEntry s e 0xC8 false c) (hx : s.slice (sliceOf c.cap) = some x)
    (hdw : badDws c.cap 0x07FF0000 0 0 0 = false) (hst : x.state = .quiesced) (her : x.erase = none) (hm : x.mig = none) :
    ∃ u : State, exec (.sliceFreeze e) s = .next (u.finish e St.ok 0 .none) ∧ (u.slice (sliceOf c.cap)).map (·.state) = some .frozen := by
  let frozen (y : SliceS) : SliceS := { y with state := .frozen }
  refine ⟨(s.modSlice (sliceOf c.cap) frozen).writeSettings.anaChange (fun (y : SliceS) => y.num == sliceOf c.cap), ?_, ?_⟩
  · have quiet : (x.state != .quiesced || x.erase.isSome) = false := by rw [hst, her]; rfl
    show execSliceFreeze e s = _
    simp only [execSliceFreeze, withCmd_onEntry h, hx, hdw, quiet, hm, State.reply, answer_onEntry h]
    rfl
  · have same : SlicesLast (s.modSlice (sliceOf c.cap) frozen) _ :=
      (SlicesLast.refl _).writeSettings.anaChange (p := fun (y : SliceS) => y.num == sliceOf c.cap)
    rw [same.part fun _ => rfl, slice_modSlice_map (f := frozen) fun _ => rfl, hx]
    rfl

/-- A slice frozen for the cut-over of its migration, for which the Slice Freeze waits. -/
def cutting (e now : Nat) (y : SliceS) : SliceS :=
  { y with state := .frozen, migState := 4, mig := y.mig.map fun m => { m with waiting := some e, startAt := now } }

/-- A freeze with a migration up to its cut-over. -/
def freezing (n e : Nat) (s : State) : State :=
  (s.modSlice n (cutting e s.seed.now)).writeSettings.anaChange (fun (y : SliceS) => y.num == n)

theorem exec_sliceFreeze_cuts (h : OnEntry s e 0xC8 false c) (hx : s.slice (sliceOf c.cap) = some x)
    (hdw : badDws c.cap 0x07FF0000 0 0 0 = false) (hst : x.state = .quiesced) (her : x.erase = none) (hm : x.mig = some m)
    (h1 : x.migState ≠ 1) :
    exec (.sliceFreeze e) s = .next (((freezing (sliceOf c.cap) e s).waitCmd c).cutOver (sliceOf c.cap)) := by
  have quiet : (x.state != .quiesced || x.erase.isSome) = false := by rw [hst, her]; rfl
  show execSliceFreeze e s = _
  simp only [execSliceFreeze, withCmd_onEntry h, hx, hdw, quiet, hm, h1]
  rfl

theorem freezing_ringUp {nb : Nat} : (freezing n e s).ringUp nb = s.ringUp nb := by
  have k : KeptByPeers (·.fabric.nbs = s.fabric.nbs) := keptByPeers_nbs
  have same : (freezing n e s).fabric.nbs = s.fabric.nbs :=
    k.anaChange (k.writeSettings (s := s.modSlice n (cutting e s.seed.now)) rfl)
  rw [State.ringUp, same, State.ringUp]

/-- A freeze with a migration waits, and commits where the ring is up. -/
theorem sliceFreeze_cuts (h : OnEntry s e 0xC8 false c) (hx : s.slice (sliceOf c.cap) = some x)
    (hdw : badDws c.cap 0x07FF0000 0 0 0 = false) (hst : x.state = .quiesced) (her : x.erase = none) (hm : x.mig = some m)
    (h1 : x.migState ≠ 1) (hc : m.committed = false) : Completes (.sliceFreeze e) s (fun t =>
      (t.slice (sliceOf c.cap)).map (fun y => (y.state, y.migState, y.mig.map (fun m => (m.committed, m.waiting)))) =
        some (.frozen, 4, some (s.ringUp m.nb, some e)) ∧
      (s.ringUp m.nb = true → .migrateCommit x.num ∈ t.fabric.sent)) := by
  refine ⟨_, exec_sliceFreeze_cuts h hx hdw hst her hm h1, ?_⟩
  have shown : ((freezing (sliceOf c.cap) e s).slice (sliceOf c.cap)).map (fun y => (y.state, y.migState, y.mig)) =
      some (.frozen, 4, some { m with waiting := some e, startAt := s.seed.now }) := by
    have same : SlicesLast (s.modSlice (sliceOf c.cap) (cutting e s.seed.now)) (freezing (sliceOf c.cap) e s) :=
      (SlicesLast.refl _).writeSettings.anaChange
    rw [same.part (g := fun y => (y.state, y.migState, y.mig)) (fun _ => rfl), slice_modSlice_map (f := cutting e s.seed.now) fun _ => rfl, hx,
      Option.map_some, cutting, hm]
    rfl
  obtain ⟨y, hy, key⟩ := Option.map_eq_some_iff.mp shown
  simp only [Prod.mk.injEq] at key
  obtain ⟨frozen, four, mig⟩ := key
  have cut := cutOver_commits (s := (freezing (sliceOf c.cap) e s).waitCmd c) hy mig four hc
  have ring : ((freezing (sliceOf c.cap) e s).waitCmd c).ringUp m.nb = s.ringUp m.nb := freezing_ringUp
  rw [ring, frozen] at cut
  rw [slice_num hx]
  exact cut

theorem sliceFreeze_unused (h : OnEntry s e 0xC8 false c) (hx : s.slice (sliceOf c.cap) = none)
    (hdw : badDws c.cap 0x07FF0000 0 0 0 = false) (h0 : 1 ≤ sliceOf c.cap) (hn : sliceOf c.cap ≤ 1024) :
    exec (.sliceFreeze e) s = .next (s.finish e St.sliceNotQuiesced 0 .none) := by
  have numbered : (decide (sliceOf c.cap = 0) || decide (1024 < sliceOf c.cap)) = false := by simp; omega
  show execSliceFreeze e s = _
  simp only [execSliceFreeze, withCmd_onEntry h, hx, hdw, Bool.false_or, numbered, Bool.false_eq_true, if_false, State.reply, answer_onEntry h]

/-! ### Save (R163) -/

theorem sliceSave_unused (h : OnEntry s e 0xC9 false c) (hx : s.slice (sliceOf c.cap) = none)
    (hdw : badDws c.cap 0x07FF0003 1 0xFFFFFFFF 0xFFFFFFFF = false) (h0 : 1 ≤ sliceOf c.cap) (hn : sliceOf c.cap ≤ 1024)
    (hop : dwBits c.cap.dw10 1 0 = 0) (hup : s.ringUp (dwBits c.cap.dw11 0 0) = true) :
    exec (.sliceSave e) s = .next (s.finish e St.invalidField 5 .none) := by
  have numbered : (decide (sliceOf c.cap = 0) || decide (1024 < sliceOf c.cap)) = false := by simp; omega
  show execSliceSave e s = _
  simp only [execSliceSave, withCmd_onEntry h, hx, hdw, Bool.false_or, numbered, hop, hup, answer_onEntry h]
  rfl

/-- The migration a Slice Save opens, and the slice it is of. -/
def migOpened (e now : Nat) (c : Capsule) : Mig :=
  { id := c.dw12.toNat, nb := dwBits c.dw11 0 0, converge := c.dw13.toNat, waiting := some e, startAt := now }
def saving (m : Mig) (y : SliceS) : SliceS := { y with mig := some m, migState := 1 }

theorem sliceSave_opens (h : OnEntry s e 0xC9 false c) (hx : s.slice (sliceOf c.cap) = some x)
    (hdw : badDws c.cap 0x07FF0003 1 0xFFFFFFFF 0xFFFFFFFF = false) (hop : dwBits c.cap.dw10 1 0 = 0)
    (hr : s.saveReason x (dwBits c.cap.dw11 0 0) = 0) : Completes (.sliceSave e) s (fun t =>
      (t.slice (sliceOf c.cap)).map (fun y => (y.migState, y.mig.map (fun m => (m.id, m.nb, m.converge, m.waiting)))) =
        some (1, some (c.cap.dw12.toNat, dwBits c.cap.dw11 0 0, c.cap.dw13.toNat, some e)) ∧
      t.fabric.sent = s.fabric.sent ++ [.migrateOpen (sliceOf c.cap) (dwBits c.cap.dw11 0 0) c.cap.dw12.toNat x.desc.subnqn] ∧
      (t.entry e).map (·.st) = some .heldResource) := by
  let v := s.modSlice (sliceOf c.cap) (saving (migOpened e s.seed.now c.cap))
  refine ⟨(v.send (.migrateOpen (sliceOf c.cap) (dwBits c.cap.dw11 0 0) c.cap.dw12.toNat x.desc.subnqn)).waitCmd c, ?_, ?_, rfl, ?_⟩
  · show execSliceSave e s = _
    simp only [execSliceSave, withCmd_onEntry h, hx, hdw, hop, hr]
    rfl
  · refine (slice_modSlice_map (s := s) (f := saving (migOpened e s.seed.now c.cap)) (fun _ => rfl) _).trans ?_
    rw [hx]
    rfl
  · rw [waitCmd_entry (s := v.send _) h.1]
    rfl

/-! ### Restore (R160, R161) -/

/-- A restoring slice or a replica, of the neighbour and the PAIR_ID or MIGRATION_ID of a Slice Restore. -/
def restored (n : Nat) (c : Capsule) : SliceS :=
  { newSlice n (if dwBits c.dw10 1 0 = 0 then .restoring else .replica) (descOf c.data) with peer := dwBits c.dw11 0 0, peerId := c.dw12.toNat }

theorem sliceRestore_enters (h : OnEntry s e 0xCA false c) (hdw : badDws c.cap 0x07FF0003 1 0xFFFFFFFF 0 = false) (h0 : 1 ≤ sliceOf c.cap)
    (hn : sliceOf c.cap ≤ 1024) (hop : dwBits c.cap.dw10 1 0 ≤ 1) (hlen : 1024 ≤ c.cap.data.length) (hres : descReserved c.cap.data = true)
    (hr : (descOf c.cap.data).rangesOk = true) (hnqn : s.nqnTaken (descOf c.cap.data).subnqn = false)
    (hfree : s.slices.list.any (·.num == sliceOf c.cap) = false) (hshape : s.array.reshape = none)
    (hbits : s.shortBits (descOf c.cap.data).takes = 0) : ∃ u : State, exec (.sliceRestore e) s = .next (u.finish e St.ok 0 .none) ∧
      (u.slice (sliceOf c.cap)).map (fun x => (x.state, x.desc, x.peer, x.peerId)) =
        some (if dwBits c.cap.dw10 1 0 = 0 then .restoring else .replica, descOf c.cap.data, dwBits c.cap.dw11 0 0,
          c.cap.dw12.toNat) ∧ u.journal.gen = s.journal.gen + 1 := by
  let y := restored (sliceOf c.cap) c.cap
  let v := if dwBits c.cap.dw10 1 0 = 0 then s.openStream false y.peer y.peerId else s
  have leaves : v.slices = s.slices ∧ v.journal = s.journal :=
    ite_keeps (fun t : State => t.slices = s.slices ∧ t.journal = s.journal) ⟨rfl, rfl⟩ ⟨rfl, rfl⟩
  refine ⟨(v.addSlice y).writeSettings, ?_, ?_, ?_⟩
  · have numbered : ¬ sliceOf c.cap = 0 := by omega
    have two : ¬ dwBits c.cap.dw10 1 0 = 2 := by omega
    have three : ¬ dwBits c.cap.dw10 1 0 = 3 := by omega
    show execSliceRestore e s = _
    simp only [execSliceRestore, withCmd_onEntry h, hdw, numbered, Nat.not_lt.mpr hn, Nat.not_lt.mpr hlen, two, three, decide_false, hres, hr,
      hnqn, hfree, hshape, hbits, State.reply, answer_onEntry h]
    rfl
  · have unused : v.slice (sliceOf c.cap) = none := by
      rw [slice_none_iff, leaves.1]
      exact hfree
    rw [(SlicesLast.refl _).writeSettings.part (g := fun x => (x.state, x.desc, x.peer, x.peerId)) (fun _ => rfl), slice_addSlice, unused,
      if_pos (show y.num = sliceOf c.cap from rfl)]
    rfl
  · rw [writeSettings_gen]
    exact congrArg (·.gen + 1) leaves.2

/-- Settles O46, command by command. -/
theorem slicesFollowTheirStates : Obligations.SlicesFollowTheirStates := by
  intro s e c hs
  refine ⟨fun k => sliceCreate_makes hs, fun x d => sliceCreate_modifies hs, fun x => sliceQuiesce_holds,
    fun n us i x => sliceQuiesced_answers, fun x => sliceResume_activates,
    fun x h hx hdw => ⟨sliceDelete_refuses h hx hdw, sliceDelete_deletes hs h hx hdw⟩,
    fun x h hx hdw hst her => ⟨sliceFreeze_freezes h hx hdw hst her, fun m hm h1 hc =>
      ⟨⟨_, exec_sliceFreeze_cuts h hx hdw hst her hm h1⟩, sliceFreeze_cuts h hx hdw hst her hm h1 hc⟩⟩,
    sliceFreeze_unused, sliceSave_unused, fun x => sliceSave_opens, sliceRestore_enters⟩

end Sys2Proof
end

section
/-! PROOFS. What synchronising with a peer keeps, and lost LBAs that are written again (O47). -/

namespace Sys2Proof

open Sys2Proof.Machine

variable {s t u : State} {P : State → Prop} {n : Nat} {x : SliceS}

/-! ### Marked regions and runs that are sent (R156, R158) -/

/-- A slice without its marked regions, and without its runs and what is counted in it. -/
def sansMarks (y : SliceS) : SliceS := { y with resync := [], copied := 0 }
def sansRuns (y : SliceS) : SliceS := { lasting y with outstanding := [], queued := [] }

/-- Kept where marks of regions change, where a slice comes to be in sync, and where that is recorded. -/
structure KeptByMarks (P : State → Prop) : Prop where
  journal : ∀ {t : State} (j : Journal), P t → P { t with journal := j }
  marks : ∀ {t : State} (k : Nat) {f : SliceS → SliceS}, (∀ y, sansMarks (f y) = sansMarks y) → P t → P (t.modSlice k f)
  inSync : ∀ {t : State} {k : Nat} {y : SliceS}, t.slice k = some y → y.repl = 2 → P t → P (t.modSlice k fun y => { y with repl := 1 })
  capture : ∀ {t : State} (code : Nat) (ps : List Nat), P t → P (t.capture code ps)

/-- Kept too where runs are sent or queued, and metered. -/
structure KeptBySync (P : State → Prop) : Prop extends KeptByMarks P where
  send : ∀ {t : State} (x : Sent), P t → P (t.send x)
  entry : ∀ {t : State} (e : Nat) (f : Cct → Cct), P t → P (t.modEntry e f)
  runs : ∀ {t : State} (k : Nat) {f : SliceS → SliceS}, (∀ y, sansRuns (f y) = sansRuns y) → P t → P (t.modSlice k f)

namespace KeptByMarks

theorem setResync (k : KeptByMarks P) {l : List (Nat × Nat)} (h : P s) : P (s.setResync n l) :=
  k.marks n (f := fun y => { y with resync := l }) (fun _ => rfl) (k.journal _ h)

theorem syncDone (k : KeptByMarks P) (h : P s) : P (s.syncDone n) := by
  unfold State.syncDone
  split
  · exact h
  next y hy =>
    split
    next hq =>
      simp only [Bool.and_eq_true, beq_iff_eq] at hq
      exact k.capture _ _ (k.inSync hy hq.1 h)
    · exact h

theorem syncRegion (k : KeptByMarks P) {ns reg : Nat} (h : P s) : P (s.syncRegion n ns reg) := by
  unfold State.syncRegion
  split
  · exact h
  · exact ite_keeps P h (k.syncDone (k.marks n (f := fun y => { y with copied := y.copied + 1 }) (fun _ => rfl) (k.setResync h)))

end KeptByMarks

namespace KeptBySync

theorem sendRun (k : KeptBySync P) {r : Nat × Nat × Nat × Option Nat} (h : P s) : P (s.sendRun n r) := by
  have sent : P (match r.2.2.2 with
      | some e => (s.send (.peerChange n (s.runForm n r))).modEntry e fun y => { y with fwd := y.fwd + changeBytes (s.runForm n r) }
      | none => (s.send (.peerChange n (s.runForm n r))).meterAdd n 13 (changeBytes (s.runForm n r))) := by
    split
    · exact k.entry _ _ (k.send _ h)
    · exact k.runs n (f := counted 13 (changeBytes (s.runForm n r)))
        (fun y => by rw [sansRuns, SlicesLast.lasting_counted, sansRuns]) (k.send _ h)
  exact k.runs n (f := fun y => { y with outstanding := y.outstanding ++ [r] }) (fun _ => rfl) sent

theorem sendOrQueue (k : KeptBySync P) {r : Nat × Nat × Nat × Option Nat} (h : P s) : P (s.sendOrQueue n r) := by
  unfold State.sendOrQueue
  split
  · exact h
  · exact ite_keeps P (k.runs n (f := fun y => { y with queued := y.queued ++ [r] }) (fun _ => rfl) h) (k.sendRun h)

theorem copyRegion (k : KeptBySync P) {ns reg : Nat} (h : P s) : P (s.copyRegion n ns reg) := by
  unfold State.copyRegion
  split
  · exact k.syncRegion h
  · exact k.syncRegion (foldl_keeps P _ _ s h fun _ _ _ hx => k.sendOrQueue hx)

theorem pumpQueued (k : KeptBySync P) (h : P s) : P (s.pumpQueued n) := by
  unfold State.pumpQueued
  split
  · exact h
  · exact foldl_keeps P _ _ _ (k.runs n (f := fun y => { y with queued := [] }) (fun _ => rfl) h) fun _ _ _ hx => k.sendOrQueue hx

theorem sendAll (k : KeptBySync P) {l : List PeerChange} (h : P s) : P (s.sendAll n l) := foldl_keeps P _ _ s h fun _ _ _ hx => k.send _ hx

end KeptBySync

/-! ### Properties that are kept -/

/-- What is read of a slice after a change that leaves it. -/
theorem slice_modSlice_part {α : Type} {f : SliceS → SliceS} {g : SliceS → α} (hf : ∀ y, (f y).num = y.num) (hg : ∀ y, g (f y) = g y) (k n : Nat) :
    ((s.modSlice k f).slice n).map g = (s.slice n).map g := by
  rw [State.slice_modSlice s k n f hf]
  split
  next h =>
    rw [h, Option.map_map]
    exact congrArg (Option.map · _) (funext hg)
  · rfl

/-- Frames that are sent stay sent. -/
theorem keptBySync_sent {m : Sent} : KeptBySync (m ∈ ·.fabric.sent) where
  journal := fun _ h => h
  marks := fun _ _ _ h => h
  inSync := fun _ _ h => h
  capture := fun code ps h => by rw [(recorded_capture _ code ps).fabric]; exact h
  send := fun _ h => List.mem_append_left _ h
  entry := fun _ _ h => h
  runs := fun _ _ _ h => h

/-- The runs outstanding at the replica outlast marks. -/
theorem keptByMarks_outstanding {l : Option (List (Nat × Nat × Nat × Option Nat))} : KeptByMarks fun t => (t.slice n).map (·.outstanding) = l where
  journal := fun _ h => h
  marks := fun k f hf h =>
    (slice_modSlice_part (f := f) (fun y => congrArg (·.num) (hf y) :) (fun y => (congrArg (·.outstanding) (hf y) :)) k n).trans h
  inSync := fun {_ k _} _ _ h => (slice_modSlice_part (f := fun y => { y with repl := 1 }) (fun _ => rfl) (fun _ => rfl) k n).trans h
  capture := fun _ _ h => ((SlicesLast.refl _).capture.part (fun _ => rfl) n).trans h

/-- REPL_STATE of a slice, and whether its key has to be sent. -/
def replKey (y : SliceS) : Nat × Bool := (y.repl, y.keySend)

/-- A slice that is syncing or in sync, its key sent. -/
def Syncs (n : Nat) (t : State) : Prop := (t.slice n).map replKey = some (2, false) ∨ (t.slice n).map replKey = some (1, false)

theorem Syncs.of_part (h : Syncs n s) (e : (t.slice n).map replKey = (s.slice n).map replKey) : Syncs n t := by
  unfold Syncs
  rw [e]
  exact h

theorem keptBySync_syncs : KeptBySync (Syncs n) where
  journal := fun _ h => h
  marks := fun k f hf h => h.of_part (slice_modSlice_part (f := f) (fun y => congrArg (·.num) (hf y) :) (fun y => (congrArg replKey (hf y) :)) k n)
  inSync := fun {t k y} hy h2 h => by
    by_cases hk : n = k
    · subst hk
      have before : (t.slice n).map replKey = some (2, y.keySend) := by rw [hy, Option.map_some, replKey, h2]
      have sent : y.keySend = false := by
        unfold Syncs at h
        rw [before] at h
        simpa using h
      refine .inr ?_
      rw [slice_modSlice_map (f := fun y => { y with repl := 1 }) fun _ => rfl, hy, Option.map_some, replKey, sent]
    · refine h.of_part ?_
      rw [State.slice_modSlice _ _ _ (fun y => { y with repl := 1 }) fun _ => rfl, if_neg hk]
  capture := fun _ _ h => h.of_part ((SlicesLast.refl _).capture.part (fun _ => rfl) n)
  send := fun _ h => h
  entry := fun _ _ h => h
  runs := fun k f hf h => h.of_part (slice_modSlice_part (f := f) (fun y => congrArg (·.num) (hf y) :) (fun y => (congrArg replKey (hf y) :)) k n)

/-! ### Lost LBAs that are written again (R202, R322) -/

/-- An LBA listed after a removal was listed before, and is not among those removed. -/
theorem lostRemove_listed {l : List LostRange} {sl ns a k b : Nat}
    (h : (lostRemove l sl ns a k).any (fun r => r.slice == sl && r.nsid == ns && r.slba ≤ b && b < r.slba + r.nlb) = true) :
    l.any (fun r => r.slice == sl && r.nsid == ns && r.slba ≤ b && b < r.slba + r.nlb) = true ∧ ¬ (a ≤ b ∧ b < a + k) := by
  simp only [List.any_eq_true, Bool.and_eq_true, beq_iff_eq, decide_eq_true_eq] at h ⊢
  obtain ⟨q, hq, ⟨⟨hsl, hns⟩, hlo⟩, hhi⟩ := h
  obtain ⟨r, hr, hq⟩ := List.mem_flatMap.mp hq
  split at hq
  next hit =>
    simp only [Bool.and_eq_true, beq_iff_eq, decide_eq_true_eq] at hit
    obtain ⟨⟨⟨rsl, rns⟩, starts⟩, ends⟩ := hit
    rcases List.mem_append.mp hq with hq | hq
    · split at hq
      · rw [List.mem_singleton.mp hq] at hlo hhi
        dsimp only at hlo hhi
        exact ⟨⟨r, hr, ⟨⟨rsl, rns⟩, hlo⟩, by omega⟩, by omega⟩
      · cases hq
    · split at hq
      · rw [List.mem_singleton.mp hq] at hlo hhi
        dsimp only at hlo hhi
        exact ⟨⟨r, hr, ⟨⟨rsl, rns⟩, by omega⟩, by omega⟩, by omega⟩
      · cases hq
  next miss =>
    rw [List.mem_singleton.mp hq] at hsl hns hlo hhi
    refine ⟨⟨r, hr, ⟨⟨hsl, hns⟩, hlo⟩, hhi⟩, fun within => miss ?_⟩
    simp only [hsl, hns, beq_self_eq_true, Bool.and_eq_true, decide_eq_true_eq, true_and]
    omega

theorem lostSpill_lost : s.lostSpill.store.lost = s.store.lost := by
  unfold State.lostSpill
  split
  · split
    · rfl
    · rw [(aside_capture ..).lost]
  · rfl

theorem removeLost_lost (sl ns a k : Nat) : (s.removeLost sl ns a k).store.lost = lostRemove s.store.lost sl ns a k := by
  unfold State.removeLost
  dsimp only
  split
  next h => exact h.symm
  · exact lostSpill_lost

/-- Once each LBA of a list has been written, none of them is listed as lost. -/
theorem lbaLost_removed {sl ns a b : Nat} (l : List Nat)
    (h : (l.foldl (fun s k => s.removeLost sl ns (a + k) 1) s).lbaLost sl ns b = true) : s.lbaLost sl ns b = true ∧ ∀ k ∈ l, b ≠ a + k := by
  induction l generalizing s with
  | nil => exact ⟨h, fun _ hk => absurd hk List.not_mem_nil⟩
  | cons i l ih =>
    obtain ⟨listed, others⟩ := ih h
    rw [State.lbaLost, removeLost_lost] at listed
    obtain ⟨before, apart⟩ := lostRemove_listed listed
    refine ⟨before, fun k hk => ?_⟩
    rcases List.mem_cons.mp hk with rfl | hk
    · omega
    · exact others k hk

/-- A unit staged in every LBA is lost no longer. -/
theorem stageExtent_unlost {sl ns mu off : Nat} {y : Extent} {e : Option Nat} :
    ((s.stageExtent sl ns mu off y (List.range (s.unitLbas (s.lbafOf sl ns))) e).entryAt sl ns mu).lost = false := by
  unfold State.stageExtent State.stageRun
  extract_lets k unit blank one a en es seq b
  have staged := entryAt_stageEntries b sl ns mu es (fun i => (one i).1) 1 0
  refine (congrArg (·.lost) staged).trans ?_
  show ((a.entryAt sl ns mu).lost && (List.range k).any fun i => a.lbaLost sl ns (mu * k + i)) = false
  have written : a = if (s.entryAt sl ns mu).lost then (List.range k).foldl (fun s i => s.removeLost sl ns (mu * k + i) 1) s else s := rfl
  rw [written]
  split
  · rw [Bool.and_eq_false_iff, List.any_eq_false]
    refine .inr fun i hi hl => ?_
    exact (lbaLost_removed _ hl).2 i hi rfl
  next h => simp [h]

end Sys2Proof
end

section
/-! PROOFS. Peers replicate (O47): pairing, changes and their acknowledgement, units that are lost and repaired. -/

namespace Sys2Proof

open Sys2Proof.Machine

variable {s t u : State} {P : State → Prop} {n e ns mu : Nat} {x : SliceS} {r : PeerRef}

/-! ### Pairing (R155, R158) -/

/-- What a pairing sends: what waited for the peer, the pairing, the key and secrets, and the namespaces' layout. -/
def introduced (n : Nat) (x : SliceS) (s : State) : State :=
  let s := s.sendAll n x.away
  ((s.send (.pairing n x.desc.pairId x.desc.subnqn)).sendAll n [s.keyChange x 1 x.desc.pairId]).sendAll n (x.nss.flatMap (·.layout))

/-- A slice that begins to synchronise. -/
def syncing (now : Nat) (y : SliceS) : SliceS := { y with repl := 2, syncAt := now, copied := 0, keySend := false, away := [] }

theorem startSync_eq (hx : s.slice n = some x) (hk : x.keySend = true) : s.startSync n =
    ((x.resync.foldl (fun s r => s.copyRegion n r.1 r.2)
      ((introduced n x s).modSlice n (syncing (introduced n x s).seed.now))).pumpQueued n).syncDone n := by
  simp only [State.startSync, hx, hk, if_true]
  rfl

/-- What a pairing begins with is kept while the regions are copied. -/
theorem startSync_keeps (k : KeptBySync P) (hx : s.slice n = some x) (hk : x.keySend = true)
    (h : P ((introduced n x s).modSlice n (syncing (introduced n x s).seed.now))) : P (s.startSync n) := by
  rw [startSync_eq hx hk]
  exact k.syncDone (k.pumpQueued (foldl_keeps P _ _ _ h fun _ _ _ hy => k.copyRegion hy))

theorem introduced_slices : SlicesLast s (introduced n x s) := (SlicesLast.refl s).sendAll.send.sendAll.sendAll

theorem introduced_sends : .pairing n x.desc.pairId x.desc.subnqn ∈ (introduced n x s).fabric.sent :=
  keptBySync_sent.sendAll (keptBySync_sent.sendAll (List.mem_append_right _ (List.mem_singleton.mpr rfl)))

/-- A slice whose regions are all marked and whose key is to be sent. -/
def unsynced (l : List (Nat × Nat)) (y : SliceS) : SliceS := { y with resync := l, keySend := true }

theorem replicationPairing_starts (hx : s.slice n = some x) (hsrc : x.isSource = true) (h0 : x.repl = 0) (hup : s.peerUp = true) :
    Completes (.replicationPairing n) s (fun t =>
      ((t.slice n).map (fun y => (y.repl, y.keySend)) = some (2, false) ∨ (t.slice n).map (fun y => (y.repl, y.keySend)) = some (1, false)) ∧
      .pairing n x.desc.pairId x.desc.subnqn ∈ t.fabric.sent) := by
  let v := (s.setResync n (s.allRegions x)).modSlice n fun y => { y with keySend := true }
  have hv : v.slice n = some (unsynced (s.allRegions x) x) := by
    have same := modSlice_modSlice { s with journal := (s.setResync n (s.allRegions x)).journal } n
      (fun y => { y with resync := s.allRegions x }) (fun y => { y with keySend := true }) fun _ => rfl
    refine (congrArg (State.slice · n) same).trans ?_
    rw [State.slice_modSlice _ _ _ (fun y => { y with resync := s.allRegions x, keySend := true }) fun _ => rfl, if_pos rfl]
    exact congrArg _ hx
  refine ⟨v.startSync n, ?_, ?_, ?_⟩
  · show execReplicationPairing n s = _
    simp only [execReplicationPairing, hx, hsrc, h0, hup]
    rfl
  · refine startSync_keeps (keptBySync_syncs (n := n)) hv rfl (.inl ?_)
    rw [slice_modSlice_map (f := syncing _) fun _ => rfl, introduced_slices.part (g := fun y => replKey (syncing _ y)) fun _ => rfl, hv]
    rfl
  · exact startSync_keeps keptBySync_sent hv rfl introduced_sends

/-! ### Changes of a peer (R90, R156, R162) -/

/-- The entry of the system reserve that a peer's change takes. -/
def peerCct (n e nb now : Nat) (c : PeerChange) : Cct :=
  { idx := e, st := .dispatched, gate := .committed, orderDone := true, slice := n, queue := 10257 + 34 * nb, origin := 1, cntl := 0xFFFF,
    step := 1, left := 1, arrival := now, heldAt := now,
    cap := { opc := match c with | .extent .. => 0x01 | .dealloc .. => 0x09 | _ => 0x0D, cid := 0 } }

/-- The entry is admitted and counted, and the neighbour has been heard. -/
def arrived (n e nb : Nat) (c : PeerChange) (s : State) : State :=
  (({ s with eng := { s.eng with cct := s.eng.cct ++ [peerCct n e nb s.seed.now c] } } : State).bump Reg.CE_CNT_ADMIT 1).heardOn nb false

/-- Room for a peer's change: an entry that is free, a reserve that is not full, and a count that does not saturate. -/
structure PeerRoom (s : State) (e : Nat) : Prop where
  below : e < 131072
  free : s.entry e = none
  reserve : (s.eng.cct.filter (fun c => c.origin != 0)).length < 3072
  count : (s.reg Reg.CE_CNT_ADMIT).toNat < 0xFFFFFFFE

/-- A count that does not saturate records nothing. -/
theorem bump_below {off k : Nat} (h : (s.reg off).toNat + k < 0xFFFFFFFF) :
    s.bump off k = s.setReg off (BitVec.ofNat 32 (min ((s.reg off).toNat + k) 0xFFFFFFFF)) := by
  have low : ¬ (min ((s.reg off).toNat + k) 0xFFFFFFFF = 0xFFFFFFFF ∧ (s.reg off).toNat ≠ min ((s.reg off).toNat + k) 0xFFFFFFFF) := by omega
  exact if_neg low

theorem arrived_eq {nb : Nat} {c : PeerChange} (h : PeerRoom s e) : arrived n e nb c s =
    { s with
      regs := (arrived n e nb c s).regs
      eng := { s.eng with cct := s.eng.cct ++ [peerCct n e nb s.seed.now c] }
      fabric := { s.fabric with nbs := (arrived n e nb c s).fabric.nbs } } := by
  have low : (s.reg Reg.CE_CNT_ADMIT).toNat + 1 < 0xFFFFFFFF := Nat.succ_lt_succ h.count
  unfold arrived
  rw [bump_below (s := { s with eng := { s.eng with cct := s.eng.cct ++ [peerCct n e nb s.seed.now c] } }) low]
  rfl

theorem arrived_entry {nb : Nat} {c : PeerChange} (h : PeerRoom s e) : (arrived n e nb c s).entry e = some (peerCct n e nb s.seed.now c) := by
  have none' : s.eng.cct.find? (·.idx == e) = none := h.free
  rw [arrived_eq h]
  show (s.eng.cct ++ [peerCct n e nb s.seed.now c]).find? (·.idx == e) = _
  rw [List.find?_append, none']
  simp [peerCct]

theorem runPeer_eq {nb : Nat} {c : PeerChange} (h : PeerRoom s e) : s.runPeer n e nb c =
    (if ((arrived n e nb c s).applyPeer n e c).1 then (((arrived n e nb c s).applyPeer n e c).2.peerFree e).send (.peerAck n)
      else ((arrived n e nb c s).applyPeer n e c).2).done := by
  have room : (decide (131072 ≤ e) || (s.entry e).isSome || decide (3072 ≤ (s.eng.cct.filter (fun c => c.origin != 0)).length)) = false := by
    simp only [h.free, Option.isSome_none, Nat.not_le.mpr h.below, Nat.not_le.mpr h.reserve, decide_false, Bool.or_self]
  simp only [State.runPeer, State.peerEntry, room]
  rfl

/-- An extent waits for its staging in the entry it took. -/
theorem runPeer_extent {nb : Nat} {y : Extent} (h : PeerRoom s e) : ∃ u : State, s.runPeer n e nb (.extent ns mu y) = .next u.smartCheck ∧
    (u.entry e).map (fun k => (k.st, k.origin, k.slice)) = some (.dispatched, 1, n) ∧
    u.store.jobs = s.store.jobs ++ [{ id := s.store.nextJob, entry := some e, slice := n, nsid := ns, mu := mu, peer := true, stage := 1, x := some y }] ∧
    u.fabric.sent = s.fabric.sent := by
  refine ⟨(arrived n e nb (.extent ns mu y) s).peerExtent n ns mu e y, runPeer_eq h, ?_, ?_, ?_⟩
  · show ((arrived n e nb (.extent ns mu y) s).entry e).map _ = _
    rw [arrived_entry h]
    rfl
  · rw [arrived_eq h]
    rfl
  · rw [arrived_eq h]
    rfl

theorem peerFree_entry : (s.peerFree e).entry e = none := by
  unfold State.peerFree
  split
  next h => exact h
  next c h =>
    refine List.find?_eq_none.mpr fun y hy => ?_
    simpa [entry_idx h] using freeEntry_gone s c y hy

theorem peerFree_leaves : (s.peerFree e).slices = s.slices ∧ (s.peerFree e).fabric = s.fabric := by
  unfold State.peerFree
  split <;> exact ⟨rfl, rfl⟩

/-- A change that is done at once is acknowledged at once, and its entry is free. -/
theorem runPeer_done {nb : Nat} {c : PeerChange} {v : State} (h : PeerRoom s e) (hv : (arrived n e nb c s).applyPeer n e c = (true, v))
    (hsent : v.fabric.sent = (arrived n e nb c s).fabric.sent) : ∃ u : State, s.runPeer n e nb c = .next u.smartCheck ∧
    u.slices = v.slices ∧ u.entry e = none ∧ u.fabric.sent = s.fabric.sent ++ [.peerAck n] := by
  refine ⟨(v.peerFree e).send (.peerAck n), ?_, peerFree_leaves.1, peerFree_entry, ?_⟩
  · rw [runPeer_eq h, hv]
    rfl
  · show (v.peerFree e).fabric.sent ++ _ = _
    rw [peerFree_leaves.2, hsent, arrived_eq h]

theorem runPeer_nsCreate {nb nsze lbaf pi : Nat} (h : PeerRoom s e) (hx : s.slice n = some x) :
    ∃ u : State, s.runPeer n e nb (.nsCreate ns nsze lbaf pi) = .next u.smartCheck ∧
      u.nsOf n ns = some { nsid := ns, nsze := nsze, lbaf := lbaf, pi := pi } ∧ u.entry e = none ∧
      u.fabric.sent = s.fabric.sent ++ [.peerAck n] := by
  let a := arrived n e nb (.nsCreate ns nsze lbaf pi) s
  let put := a.putNs n (nsOfPeer ns nsze lbaf pi)
  have settled : put.writeSettings.fabric.sent = a.fabric.sent := by rw [writeSettings_rest]; rfl
  obtain ⟨u, run, slices, entry, sent⟩ := runPeer_done (v := put.writeSettings) h rfl settled
  refine ⟨u, run, ?_, entry, sent⟩
  have there : a.slice n = some x := by
    show (arrived n e nb (.nsCreate ns nsze lbaf pi) s).slice n = _
    rw [arrived_eq h]
    exact hx
  rw [(HoldSame.of_slices (HoldSame.refl put).writeSettings slices).nsOf]
  exact nsOf_putNs (n := nsOfPeer ns nsze lbaf pi) there

/-- A slice with the totals its source sent. -/
def totalled (l : List Nat) (y : SliceS) : SliceS := { y with meter := { y.meter with totals := l } }

theorem runPeer_totals {nb : Nat} {l : List Nat} (h : PeerRoom s e) (hx : s.slice n = some x) :
    ∃ u : State, s.runPeer n e nb (.totals l) = .next u.smartCheck ∧
      (u.slice n).map (fun y => (y.state, y.meter.totals)) = some (x.state, l) ∧ u.entry e = none ∧
      u.fabric.sent = s.fabric.sent ++ [.peerAck n] := by
  let a := arrived n e nb (.totals l) s
  obtain ⟨u, run, slices, entry, sent⟩ := runPeer_done (v := a.modSlice n (totalled l)) h rfl rfl
  refine ⟨u, run, ?_, entry, sent⟩
  have there : a.slice n = some x := by
    show (arrived n e nb (.totals l) s).slice n = _
    rw [arrived_eq h]
    exact hx
  rw [State.slice, slices, ← State.slice, slice_modSlice_map (f := totalled l) fun _ => rfl, there]
  rfl

/-- A replica takes a change of its own source. -/
theorem exec_forwardedChange {c : PeerChange} (hx : s.slice n = some x) (hfrom : x.isFrom r = true) (hf : s.store.flush = none)
    (hst : x.state = .replica) (hd : x.detached = false) : exec (.forwardedChangeReceived ⟨n, r⟩ ⟨e, c⟩) s = s.runPeer n e r.nb c := by
  show execForwardedChangeReceived ⟨n, r⟩ ⟨e, c⟩ s = _
  simp only [execForwardedChangeReceived, hx, hst, hd, hfrom, hf]
  rfl

/-- A restoring slice takes data of its own migration. -/
theorem exec_migrationData {c : PeerChange} (hx : s.slice n = some x) (hfrom : x.isFrom r = true) (hf : s.store.flush = none)
    (hst : x.state = .restoring) : exec (.migrationDataReceived ⟨n, r⟩ ⟨e, c⟩) s = s.runPeer n e r.nb c := by
  show execMigrationDataReceived ⟨n, r⟩ ⟨e, c⟩ s = _
  simp only [execMigrationDataReceived, hx, hst, hfrom, hf]
  rfl

/-- What comes from another source than the slice's own changes nothing. -/
theorem exec_foreign {c : PeerChange} (hx : s.slice n = some x) (hfrom : x.isFrom r = false) :
    exec (.forwardedChangeReceived ⟨n, r⟩ ⟨e, c⟩) s = .next s ∧ exec (.migrationDataReceived ⟨n, r⟩ ⟨e, c⟩) s = .next s ∧
    exec (.migrationCommitReceived ⟨n, r⟩) s = .next s ∧ exec (.migrationCancelReceived ⟨n, r⟩) s = .next s ∧
    exec (.replicaDetachReceived ⟨n, r⟩) s = .next s := by
  refine ⟨?_, ?_, ?_, ?_, ?_⟩
  · show execForwardedChangeReceived ⟨n, r⟩ ⟨e, c⟩ s = _
    simp [execForwardedChangeReceived, hx, hfrom]
  · show execMigrationDataReceived ⟨n, r⟩ ⟨e, c⟩ s = _
    simp [execMigrationDataReceived, hx, hfrom]
  · show execMigrationCommitReceived ⟨n, r⟩ s = _
    simp [execMigrationCommitReceived, hx, hfrom]
  · show execMigrationCancelReceived ⟨n, r⟩ s = _
    simp [execMigrationCancelReceived, hx, hfrom]
  · show execReplicaDetachReceived ⟨n, r⟩ s = _
    simp [execReplicaDetachReceived, hx, hfrom]

theorem exec_replicaDetach (hx : s.slice n = some x) (hfrom : x.isFrom r = true) (hst : x.state = .replica) :
    exec (.replicaDetachReceived ⟨n, r⟩) s = .next (s.modSlice n (fun x => { x with detached := true })) := by
  show execReplicaDetachReceived ⟨n, r⟩ s = _
  simp only [execReplicaDetachReceived, hx, hfrom, hst]
  rfl

/-! ### Acknowledgements (R156 to R158) -/

theorem KeptByUnits.peerDone (k : KeptByUnits P) (h : P s) : P (s.peerDone n e) := by
  have done {y : State} (hy : P y) : P (y.writeDone e) := by
    unfold State.writeDone
    split
    · exact hy
    · exact ite_keeps P (k.eng _ hy) hy
  unfold State.peerDone
  split
  · exact h
  · exact ite_keeps P h (done (k.eng _ h))

/-- A run that the replica has acknowledged is outstanding no longer. -/
def acked (q : Nat × Nat × Nat × Option Nat) (y : SliceS) : SliceS := { y with outstanding := y.outstanding.filter (· != q) }

theorem replicaAck_ends {q : Nat × Nat × Nat × Option Nat} (hx : s.slice n = some x)
    (hq : x.outstanding.find? (fun r => r.1 == ns && r.2.1 == mu) = some q) (hqueue : x.queued = []) :
    Completes (.replicaAck n ns mu) s (fun t => (t.slice n).map (·.outstanding) = some (x.outstanding.filter (· != q))) := by
  let v := (s.modSlice n (acked q)).heardOn 1 true
  have hv : v.slice n = some (acked q x) := by
    show (s.modSlice n (acked q)).slice n = _
    rw [State.slice_modSlice s n n (acked q) fun _ => rfl, if_pos rfl, hx]
    rfl
  let idle (y : SliceS) : SliceS := { y with queued := [] }
  have pumped : v.pumpQueued n = v.modSlice n idle := by
    simp only [State.pumpQueued, hv]
    rw [show (acked q x).queued = [] from hqueue]
    rfl
  have ended : ((v.modSlice n idle).slice n).map (·.outstanding) = some (x.outstanding.filter (· != q)) := by
    rw [slice_modSlice_map (f := idle) fun _ => rfl, hv]
    rfl
  cases hcmd : q.2.2.2 with
  | none =>
    refine ⟨(v.modSlice n idle).syncRegion n ns (regionOf mu), ?_, keptByMarks_outstanding.syncRegion ended⟩
    show execReplicaAck n ns mu s = _
    simp only [execReplicaAck, hx, hq, hcmd]
    rw [← pumped]
    rfl
  | some i =>
    have same : SlicesLast (v.modSlice n idle) ((v.modSlice n idle).peerDone n i) := keptByUnits_slicesLast.peerDone (.refl _)
    refine ⟨(v.modSlice n idle).peerDone n i, ?_, (same.part (fun _ => rfl) n).trans ended⟩
    show execReplicaAck n ns mu s = _
    simp only [execReplicaAck, hx, hq, hcmd]
    rw [← pumped]
    rfl

/-! ### Units that are lost (R158, R159) -/

theorem mem_addNew {α : Type} [BEq α] [LawfulBEq α] (l : List α) (a : α) : a ∈ addNew l a := by
  unfold addNew
  split
  next h => simpa using h
  · exact List.mem_append_right _ (List.mem_singleton.mpr rfl)

/-- A unit that is marked marks its region. -/
theorem markRun_marks (hx : s.slice n = some x) :
    ((s.markRun n ns mu 1).slice n).map (·.resync) = some (addNew x.resync (ns, mu / 4096)) := by
  have one : (List.range (regionOf (mu + 1 - 1) + 1 - regionOf mu)).map (fun i => (ns, regionOf mu + i)) = [(ns, mu / 4096)] := by
    simp [regionOf, List.range_one]
  simp only [State.markRun, hx, one]
  refine (slice_modSlice_map (f := fun y => { y with resync := addNew x.resync (ns, mu / 4096) }) (fun _ => rfl) _).trans ?_
  exact congrArg _ hx

theorem lostUnitReport_marks (hx : s.slice n = some x) (hsrc : x.isSource = true) (hr : x.repl = 3 ∨ x.repl = 4) :
    Completes (.lostUnitReport n ns mu) s (fun t => ∃ y, t.slice n = some y ∧ (ns, mu / 4096) ∈ y.resync) := by
  refine ⟨s.markLost n ns mu 1, ?_, ?_⟩
  · show execLostUnitReport n ns mu s = _
    rcases hr with hr | hr <;> simp [execLostUnitReport, hx, hsrc, hr]
  · have same : SlicesLast (s.markRun n ns mu 1) (s.markLost n ns mu 1) := keptByUnits_slicesLast.dropRepairs (.refl _)
    obtain ⟨y, hy, key⟩ := Option.map_eq_some_iff.mp ((same.part (g := (·.resync)) (fun _ => rfl) n).trans (markRun_marks hx))
    exact ⟨y, hy, key ▸ mem_addNew ..⟩

/-- A unit staged from its replica's extent; what waits for it takes the extent. -/
def repaired (n ns mu off : Nat) (y : Extent) (s : State) : State :=
  let b : BufExt := { off := off, len := extGran y, slice := n, nsid := ns, mu := mu, x := y }
  let s := ({ s with store := { s.store with buf := s.store.buf ++ [b] } } : State).stageExtent n ns mu off y (List.range (s.unitLbas (s.lbafOf n ns))) none
  (s.store.jobs.filter (fun j => j.reading && j.slice == n && j.nsid == ns && j.mu == mu)).foldl (fun s j =>
    (s.modJob j.id (fun j => { j with x := some y })).unholdRes j.entry) s

theorem unholdRes_map {i : Option Nat} : (s.unholdRes i).store.map = s.store.map := by
  cases i <;> rfl

theorem peerRepair_unloses {y : Extent} {off : Nat} (hcan : s.canRepair n ns mu = true) (hf : s.store.flush = none)
    (hoff : s.lowBuf (extGran y) = some off) : ∃ u : State,
      exec (.peerRepairComplete n ns mu y) s = .next ((((u.settle s.rebuildSet).gatherHost.wakeHeld).meterAdd n 15 1).capture 0x0609
        [n, ns, mu % 2 ^ 32, 1]).smartCheck ∧
      (u.entryAt n ns mu).loc = .buffered off ∧ (u.entryAt n ns mu).lost = false := by
  let b : BufExt := { off := off, len := extGran y, slice := n, nsid := ns, mu := mu, x := y }
  let v : State := { s with store := { s.store with buf := s.store.buf ++ [b] } }
  let w := v.stageExtent n ns mu off y (List.range (s.unitLbas (s.lbafOf n ns))) none
  have kept : (repaired n ns mu off y s).entryAt n ns mu = w.entryAt n ns mu := by
    refine entryAt_congr ?_ n ns mu
    exact foldl_keeps (fun t : State => t.store.map = w.store.map) _ _ w rfl fun _ _ _ hz => unholdRes_map.trans hz
  refine ⟨repaired n ns mu off y s, ?_, ?_, ?_⟩
  · show execPeerRepairComplete n ns mu y s = _
    have goes : (!s.canRepair n ns mu || s.store.flush.isSome) = false := by rw [hcan, hf]; rfl
    simp only [execPeerRepairComplete, goes, hoff, Bool.false_eq_true, if_false, State.done, repaired]
  · rw [kept]
    exact (entryAt_stageRun (s := v) (sl := n) (ns := ns) (first := mu) (l := [(off, y, _)]) (i := 0) rfl).1
  · rw [kept]
    exact stageExtent_unlost (s := v)

end Sys2Proof
end

section
/-! PROOFS. Migrations and streams (O47). -/

namespace Sys2Proof

open Sys2Proof.Machine

variable {s t u : State} {n : Nat} {x : SliceS} {m : Mig} {r : PeerRef}

/-! ### The source (R163 to R165) -/

/-- A slice whose migration is accepted: every region is marked, and the Slice Save waits no longer. -/
def accepted (l : List (Nat × Nat)) (y : SliceS) : SliceS :=
  { y with migState := 2, mig := y.mig.map fun m => { m with marked := l, waiting := none } }

theorem migrationAccept_begins (hx : s.slice n = some x) (hm : x.mig = some m) (h1 : x.migState = 1) :
    Completes (.migrationAcceptReceived n (some true)) s (fun t =>
      (t.slice n).map (fun y => (y.migState, y.mig.map (fun m => (m.marked, m.waiting)))) = some (2, some ([], none))) := by
  let v := ((s.heardOn m.nb true).modSlice n (accepted ((s.heardOn m.nb true).changeRegions x))).openStream true m.nb m.id
  refine ⟨(v.answerEntry m.waiting St.ok 0).copyMarked n, ?_, ?_⟩
  · show execMigrationAcceptReceived n (some true) s = _
    simp only [execMigrationAcceptReceived, hx, hm, h1]
    rfl
  · have same : SlicesLast v (v.answerEntry m.waiting St.ok 0) := keptByUnits_slicesLast.answerEntry (.refl v)
    have shown : ((v.answerEntry m.waiting St.ok 0).slice n).map (fun y => (y.migState, y.mig)) =
        some (2, some { m with marked := (s.heardOn m.nb true).changeRegions x, waiting := none }) := by
      refine (same.part (fun _ => rfl) n).trans ?_
      refine (slice_modSlice_map (s := s.heardOn m.nb true) (f := accepted ((s.heardOn m.nb true).changeRegions x)) (fun _ => rfl) _).trans ?_
      refine (congrArg _ hx).trans ?_
      rw [Option.map_some, accepted, hm]
      rfl
    obtain ⟨y, hy, key⟩ := Option.map_eq_some_iff.mp shown
    simp only [Prod.mk.injEq] at key
    obtain ⟨two, mig⟩ := key
    refine (copyMarked_part (g := fun y => (y.migState, y.mig.map (fun m => (m.marked, m.waiting)))) (fun _ => rfl) hy mig).trans ?_
    rw [unmarked, two, mig]
    rfl

/-- A migration that the neighbour does not take is closed, and its Slice Save says why. -/
theorem migrationAccept_closes (hx : s.slice n = some x) (hm : x.mig = some m) (h1 : x.migState = 1) :
    exec (.migrationAcceptReceived n none) s = .next (((s.heardOn m.nb true).modSlice n
        (fun x => { x with mig := none, migState := 0 })).answerEntry m.waiting St.invalidField 2) ∧
      exec (.migrationAcceptReceived n (some false)) s = .next ((((s.heardOn m.nb true).modSlice n
        (fun x => { x with mig := none, migState := 0 })).answerEntry m.waiting St.poolExhausted 0x100).capture 0x060C [n, 0x100]) := by
  constructor
  · show execMigrationAcceptReceived n none s = _
    simp only [execMigrationAcceptReceived, hx, hm, h1]
    rfl
  · show execMigrationAcceptReceived n (some false) s = _
    simp only [execMigrationAcceptReceived, hx, hm, h1]
    rfl

/-- A slice with a pass of its pre-copy more, and one whose migration is converged. -/
def passed (y : SliceS) : SliceS := { y with mig := y.mig.map fun m => { m with passes := m.passes + 1 } }
def converged (y : SliceS) : SliceS := { y with migState := 3 }

/-- A pass that leaves at most `lim` of `left` converges the migration. -/
def passEnds (n left lim : Nat) (x : SliceS) (m : Mig) (s : State) : State :=
  if x.migState = 2 && left ≤ lim then
    ((s.modSlice n passed).modSlice n converged).capture 0x0605 [n, m.passes + 1, left / 1048576, m.id]
  else s.modSlice n passed

theorem passEnds_shows {left lim : Nat} (hx : s.slice n = some x) (hm : x.mig = some m) (h23 : x.migState = 2 ∨ x.migState = 3) :
    ((passEnds n left lim x m s).slice n).map (fun y => (y.migState, y.mig)) =
      some (if left ≤ lim then 3 else x.migState, some { m with passes := m.passes + 1 }) := by
  have one : (s.modSlice n passed).slice n = some (passed x) := by
    rw [State.slice_modSlice s n n passed fun _ => rfl, if_pos rfl, hx]
    rfl
  have mig : (passed x).mig = some { m with passes := m.passes + 1 } := by rw [passed, hm]; rfl
  unfold passEnds
  split
  next h =>
    simp only [Bool.and_eq_true, decide_eq_true_eq] at h
    rw [(SlicesLast.refl _).capture.part (g := fun y => (y.migState, y.mig)) fun _ => rfl, slice_modSlice_map (f := converged) fun _ => rfl, one,
      if_pos h.2, ← mig]
    rfl
  next h =>
    simp only [Bool.and_eq_true, decide_eq_true_eq, not_and] at h
    have stays : (if left ≤ lim then 3 else x.migState) = x.migState := by
      split
      next hle =>
        rcases h23 with h2 | h3
        · exact absurd hle (h h2)
        · exact h3.symm
      · rfl
    rw [one, stays, ← mig]
    rfl

theorem precopyPass_converges (hx : s.slice n = some x) (hm : x.mig = some m) (hc : m.committed = false) (h23 : x.migState = 2 ∨ x.migState = 3) :
    Completes (.precopyPassComplete n) s (fun t => (t.slice n).map (fun y => (y.migState, y.mig.map (fun m => (m.passes, m.marked)))) =
      some (if s.markedBytes m ≤ (if m.converge = 0 then 256 else m.converge) * 1048576 then 3 else x.migState,
        some (m.passes + 1, []))) := by
  refine ⟨(passEnds n (s.markedBytes m) ((if m.converge = 0 then 256 else m.converge) * 1048576) x m s).copyMarked n, ?_, ?_⟩
  · have runs : (!(decide (x.migState = 2) || decide (x.migState = 3)) || m.committed) = false := by
      rcases h23 with h | h <;> rw [h, hc] <;> rfl
    show execPrecopyPassComplete n s = _
    simp only [execPrecopyPassComplete, hx, hm, runs]
    rfl
  · obtain ⟨y, hy, key⟩ := Option.map_eq_some_iff.mp (passEnds_shows (left := s.markedBytes m)
      (lim := (if m.converge = 0 then 256 else m.converge) * 1048576) hx hm h23)
    obtain ⟨state, mig⟩ := Prod.mk.inj key
    rw [copyMarked_part (g := fun y => (y.migState, y.mig.map (fun m => (m.passes, m.marked)))) (fun _ => rfl) hy mig, unmarked, state, mig]
    rfl

/-- A slice that its destination has taken over. -/
def movedAway (y : SliceS) : SliceS := { y with state := .moved, mig := none, migState := 0 }

/-- What the acknowledgement of a commit does up to its event. -/
def takenOver (n : Nat) (m : Mig) (s : State) : State :=
  ((((s.heardOn m.nb true).modSlice n movedAway).endStream true m.nb m.id).writeSettings.anaChange
    (fun (y : SliceS) => y.num == n)).answerEntry m.waiting St.ok 0

theorem migrationCommitAck_moves {ms : Nat} (hs : Safe s) (hx : s.slice n = some x) (hm : x.mig = some m) (hc : m.committed = true) :
    Completes (.migrationCommitAck n ms) s (fun t =>
      (t.slice n).map (fun y => (y.state, y.mig.isSome, y.migState)) = some (.moved, false, 0) ∧ (t.sticky 6).getLsbD 4 = true) := by
  have safe : Safe (takenOver n m s) := (Safe.anaChange (Safe.writeSettings hs.heardOn.modSlice.endStream)).answerEntry
  have marked : Marked 6 4 ((takenOver n m s).capture 0x0604 [n, 0, m.id, ms]) := marked_code safe (by decide +kernel) rfl rfl (by decide)
  refine ⟨(takenOver n m s).capture 0x0604 [n, 0, m.id, ms], ?_, ?_, marked.2⟩
  · show execMigrationCommitAck n ms s = _
    simp only [execMigrationCommitAck, hx, hm, hc]
    rfl
  · have ended : SlicesLast ((s.heardOn m.nb true).modSlice n movedAway)
        (((s.heardOn m.nb true).modSlice n movedAway).endStream true m.nb m.id).writeSettings :=
      SlicesLast.writeSettings ((SlicesLast.refl _).of_slices rfl)
    have told : SlicesLast ((s.heardOn m.nb true).modSlice n movedAway) (takenOver n m s) :=
      keptByUnits_slicesLast.answerEntry ended.anaChange
    refine (told.capture.part (g := fun y => (y.state, y.mig.isSome, y.migState)) (fun _ => rfl) n).trans ?_
    refine (slice_modSlice_map (s := s.heardOn m.nb true) (f := movedAway) (fun _ => rfl) _).trans ?_
    exact congrArg _ hx

/-! ### The destination (R165, R166) -/

/-- A restoring slice that its migration's commit makes active. -/
def takesOver (y : SliceS) : SliceS := { y with state := .active, meter := { y.meter with migrated := true } }

theorem migrationCommit_activates (hx : s.slice n = some x) (hfrom : x.isFrom r = true) (hst : x.state = .restoring) :
    Completes (.migrationCommitReceived ⟨n, r⟩) s (fun t =>
      (t.slice n).map (fun y => (y.state, y.meter.migrated)) = some (.active, true) ∧ (n, x.key) ∈ t.slices.keySlots ∧
      t.journal.gen = s.journal.gen + 1 ∧ .commitAck n ∈ t.fabric.sent) := by
  let v := (s.endStream false x.peer x.peerId).modSlice n takesOver
  let w : State := { v with slices := { v.slices with keySlots := (n, x.key) :: v.slices.keySlots.filter (·.1 != n) } }
  have same : SlicesLast w ((w.writeSettings.anaChange (fun (y : SliceS) => y.num == n)).send (.commitAck n)) :=
    (SlicesLast.refl w).writeSettings.anaChange.send
  refine ⟨(w.writeSettings.anaChange (fun (y : SliceS) => y.num == n)).send (.commitAck n), ?_, ?_, ?_, ?_,
    List.mem_append_right _ (List.mem_singleton.mpr rfl)⟩
  · have restoring : (x.state != .restoring || !x.isFrom r) = false := by rw [hst, hfrom]; rfl
    show execMigrationCommitReceived ⟨n, r⟩ s = _
    simp only [execMigrationCommitReceived, hx, restoring]
    rfl
  · refine (same.part (g := fun y => (y.state, y.meter.migrated)) (fun _ => rfl) n).trans ?_
    refine (slice_modSlice_map (s := s.endStream false x.peer x.peerId) (f := takesOver) (fun _ => rfl) _).trans ?_
    exact congrArg _ hx
  · rw [same.keys]
    exact List.mem_cons_self ..
  · show ((w.writeSettings).anaChange _).journal.gen = _
    rw [anaChange_journal, writeSettings_gen]
    rfl

/-- A restoring slice with no namespace, as a cancellation leaves it. -/
def emptied (y : SliceS) : SliceS := { y with nss := [] }

theorem discardCopy_slices : ∃ a : State, SlicesLast s a ∧ SlicesLast (a.modSlice x.num emptied) (s.discardCopy x) := by
  let w := (s.endPeer x.num).wipeSlice x.num
  have wiped : SlicesLast s w := keptByUnits_slicesLast.wipeSlice (keptByUnits_slicesLast.endPeer (.refl s))
  exact ⟨{ w with store := { w.store with jobs := w.store.jobs.filter (fun j => j.slice != x.num) } }, wiped.of_slices rfl,
    (SlicesLast.refl _).of_slices rfl⟩

theorem migrationCancel_empties (hx : s.slice n = some x) (hfrom : x.isFrom r = true) (hst : x.state = .restoring) :
    Completes (.migrationCancelReceived ⟨n, r⟩) s (fun t => (t.slice n).map (fun y => (y.state, y.nss)) = some (.restoring, [])) := by
  refine ⟨(s.discardCopy x).smartCheck, ?_, ?_⟩
  · have restoring : (x.state != .restoring || !x.isFrom r) = false := by rw [hst, hfrom]; rfl
    show execMigrationCancelReceived ⟨n, r⟩ s = _
    simp only [execMigrationCancelReceived, hx, restoring]
    rfl
  · obtain ⟨a, before, after⟩ := discardCopy_slices (s := s) (x := x)
    rw [slice_num hx] at after
    rw [after.smartCheck.part (g := fun y => (y.state, y.nss)) fun _ => rfl, slice_modSlice_map (f := emptied) fun _ => rfl,
      before.part (g := fun y => ((emptied y).state, (emptied y).nss)) fun _ => rfl, hx, ← hst]
    rfl

/-! ### Streams (R373, R374) -/

section Chunks

variable {id : Nat} {c : Chunk} {j : StreamJob} (hj : s.comp.jobs.find? (fun j => j.id == id && !j.sender) = some j)
  (hrun : s.streamRuns false id = true)
include hj hrun

/-- The job that a chunk's original `o` has entered: its window goes on from `w`. -/
def tookChunk (c : Chunk) (w o : List Byte) (y : StreamJob) : StreamJob :=
  { y with seq := (c.seq + 1) % 65536, windowEmpty := false, window := windowOf w o, discard := none }

/-- A chunk that follows, or that restarts the job where it was discarded, is taken after the window of the receiver's job. -/
theorem streamChunk_taken {o : List Byte} (hc : chunkOrig c (if c.dictReset then [] else j.window) = .ok o)
    (hw : c.dictReset = true ∨ j.windowEmpty = false) (hf : (j.discard = none ∧ c.seq = j.seq) ∨ (j.discard = some c.seq ∧ c.dictReset = true)) :
    exec (.streamChunkReceived id c) s = .next (s.modStream id (tookChunk c (if c.dictReset then [] else j.window) o)) := by
  have opens : (c.dictReset || !j.windowEmpty) = true := by
    rcases hw with hw | hw <;> simp [hw]
  show execStreamChunkReceived id c s = _
  rcases hf with ⟨hd, hseq⟩ | ⟨hd, hreset⟩
  · have follows : (c.seq == j.seq && (c.dictReset || !j.windowEmpty)) = true := by simp [hseq, opens]
    simp only [execStreamChunkReceived, hj, hrun, hc, hd, follows]
    rfl
  · have follows : (c.seq == c.seq && c.dictReset && (c.dictReset || !j.windowEmpty)) = true := by simp [hreset]
    simp only [execStreamChunkReceived, hj, hrun, hc, hd, follows]
    rfl

/-- A chunk that does not follow is discarded with those after it, and its number is reported. -/
theorem streamChunk_skipped {o : List Byte} (hc : chunkOrig c (if c.dictReset then [] else j.window) = .ok o) (hd : j.discard = none)
    (hseq : c.seq ≠ j.seq) : exec (.streamChunkReceived id c) s = .next
      ((s.modStream id (fun j => { j with discard := some c.seq })).send (.restartRequest id c.seq none)) := by
  have apart : (c.seq == j.seq) = false := by simpa using hseq
  show execStreamChunkReceived id c s = _
  simp only [execStreamChunkReceived, hj, hrun, hc, hd, apart]
  rfl

/-- A chunk that the lane does not accept is discarded, and reported with its failure. -/
theorem streamChunk_failed {f : DecErr} (hc : chunkOrig c (if c.dictReset then [] else j.window) = .error f) (hd : j.discard = none) :
    exec (.streamChunkReceived id c) s = .next
      ((s.modStream id (fun j => { j with discard := some c.seq })).send (.restartRequest id c.seq (some f.code))) := by
  show execStreamChunkReceived id c s = _
  simp only [execStreamChunkReceived, hj, hrun, hc, hd]
  rfl

/-- While a job waits for its restart, chunks of other numbers change nothing. -/
theorem streamChunk_waits {d : Nat} (hd : j.discard = some d) (hseq : c.seq ≠ d) : exec (.streamChunkReceived id c) s = .next s := by
  have apart : (c.seq == d) = false := by simpa using hseq
  show execStreamChunkReceived id c s = _
  cases hc : chunkOrig c (if c.dictReset then [] else j.window) with
  | ok o =>
    simp only [execStreamChunkReceived, hj, hrun, hc, hd, apart]
    rfl
  | error f =>
    simp only [execStreamChunkReceived, hj, hrun, hc, hd, apart]
    rfl

end Chunks

/-- A job restarted at a number, its window empty. -/
def restartedAt (seq : Nat) (j : StreamJob) : StreamJob := { j with seq := seq, windowEmpty := true, window := [] }

theorem streamRestart_restarts {id seq cause : Nat} {j : StreamJob} (hs : Safe s)
    (hj : s.comp.jobs.find? (fun j => j.id == id && j.sender) = some j) (hfirst : s.comp.jobs.find? (·.id == id) = some j)
    (hrun : s.streamRuns true id = true) : Completes (.streamRestartRequest id seq cause) s (fun t =>
      t.comp.jobs.find? (·.id == id) = some { j with seq := seq, windowEmpty := true, window := [] } ∧
      t.fabric.sent = s.fabric.sent ++ [.streamRestart id seq] ∧ (t.sticky 11).getLsbD 6 = true) := by
  let v := (s.modStream id (restartedAt seq)).send (.streamRestart id seq)
  let w := v.bump Reg.CMP_CNT_STREAM_RST 1
  have noted : Recorded v (w.capture 0x0B06 [j.nb, j.migId, seq, cause]) := (recorded_capture ..).after (recorded_bump ..)
  have safe : Safe w := Safe.bump (s := v) hs
  have marked : Marked 11 6 (w.capture 0x0B06 [j.nb, j.migId, seq, cause]) := marked_code safe (by decide +kernel) rfl rfl (by decide)
  refine ⟨w.capture 0x0B06 [j.nb, j.migId, seq, cause], ?_, ?_, ?_, marked.2⟩
  · show execStreamRestartRequest id seq cause s = _
    simp only [execStreamRestartRequest, hj, hrun]
    rfl
  · rw [show (w.capture 0x0B06 [j.nb, j.migId, seq, cause]).comp = v.comp from (congrArg State.comp noted.rest :)]
    refine (modFirst_find?_self s.comp.jobs (·.id == id) (restartedAt seq) fun _ => rfl).trans ?_
    rw [hfirst]
    rfl
  · rw [noted.fabric]
    rfl

/-! ### Two jobs of one number (O47) -/

/-- A sender's job and a receiver's job of the same number, the sender's first, each with a window of its own. -/
def sharedJob : State :=
  { comp := { jobs := [{ id := 0, sender := true, nb := 0, windowEmpty := false, window := [1] },
                       { id := 0, sender := false, nb := 1, windowEmpty := false, window := [2] }] } }

/-- The chunk that the receiver expects, stored raw. -/
def expectedChunk : Chunk := { compressed := false, seq := 0, dictReset := false, origLen := 1, crc := crc32c [7], payload := [7] }

/-- The windows of the jobs in the state a meaning answers. -/
def windows : Out → List (List Byte)
  | .next t => t.comp.jobs.map (·.window)
  | _ => []

/-- The chunk follows the receiver's window, and what the receiver's window becomes is written to the first job of the number. -/
theorem streamChunk_sharedJob : windows (exec (.streamChunkReceived 0 expectedChunk) sharedJob) = [[2, 7], [2]] := by decide +kernel

/-- Refutes O47 in its clause on a chunk that is taken, which goes on from the window of the job that is changed, where the meaning goes on
from the window of the receiver's job that was found: in `sharedJob` they are two. `streamChunk_taken` says what the meaning does;
the other clauses hold, each as a theorem of the sections above. -/
theorem not_peersReplicateAndMigrate : ¬ Obligations.PeersReplicateAndMigrate := by
  intro h
  have safe : Safe sharedJob := by unfold Safe; decide
  obtain ⟨-, -, -, -, -, -, -, -, -, -, -, chunks, -⟩ := h sharedJob safe
  obtain ⟨taken, -⟩ := chunks 0 expectedChunk _ rfl rfl
  have other := taken [7] (by decide +kernel) (.inr rfl) (.inl ⟨rfl, rfl⟩)
  have windows' := streamChunk_sharedJob
  rw [other] at windows'
  exact absurd windows' (by decide +kernel)

end Sys2Proof
end

section
/-! PROOFS. What power-off keeps, and power that is cut without a flush (O53). -/

namespace Sys2Proof

open Sys2Proof.Machine

variable {s t u : State}

/-! ### Power-off (R216, R238, R446) -/

/-- Wear that no record holds is undone as power goes, and nothing else. -/
theorem unwear_rest (s : State) : ∃ x : Upkeep, s.unwear = { s with upkeep := x } := by
  have worn (y : State) (hy : ∃ x : Upkeep, y = { s with upkeep := x }) (d b : Nat) (f : Block → Block) :
      ∃ x : Upkeep, y.modBlock d b f = { s with upkeep := x } := by
    obtain ⟨x, rfl⟩ := hy
    exact ⟨_, rfl⟩
  exact foldl_keeps _ _ _ s ⟨s.upkeep, rfl⟩ fun y b _ hy => foldl_keeps _ _ _ y hy fun z m _ hz => worn z hz ..

theorem powerOff_seed (s : State) : s.powerOff.seed = s.seed.stopped := by
  obtain ⟨x, e⟩ := unwear_rest s
  exact (congrArg (fun t : State => t.seed.stopped) e :)

theorem powerOff_recs (s : State) : s.powerOff.journal.recs = tornTail s.journal.recs := by
  obtain ⟨x, e⟩ := unwear_rest s
  exact (congrArg (fun t : State => tornTail t.journal.recs) e :)

theorem powerOff_regs (s : State) : s.powerOff.regs = s.regs.filter (fun r => r.1 == Reg.SLED_CFG) := by
  obtain ⟨x, e⟩ := unwear_rest s
  exact (congrArg (fun t : State => t.regs.filter fun r => r.1 == Reg.SLED_CFG) e :)

theorem powerOff_lost (s : State) : s.powerOff.store.lost = s.unlost := by
  obtain ⟨x, e⟩ := unwear_rest s
  exact (congrArg State.unlost e :)

theorem powerOff_placed (s : State) : s.powerOff.store.placed = s.store.placed := by
  obtain ⟨x, e⟩ := unwear_rest s
  exact (congrArg (fun t : State => t.store.placed) e :)

theorem powerOff_fixed (s : State) : s.powerOff.fuses = s.fuses ∧ s.powerOff.events.log = s.events.log ∧
    s.powerOff.nor.slots = s.nor.slots ∧ s.powerOff.nor.copies = s.nor.copies := by
  obtain ⟨x, e⟩ := unwear_rest s
  exact ⟨(congrArg State.fuses e :), (congrArg (·.events.log) e :), (congrArg (·.nor.slots) e :), (congrArg (·.nor.copies) e :)⟩

/-- A store cut down to one offset: that register reads as before, every other its reset value. -/
theorem regLook_filter (l : List (Nat × Word)) (o off : Nat) :
    regLook (l.filter (fun r => r.1 == o)) off = if off = o then regLook l off else regReset off := by
  induction l with
  | nil => simp [regLook]
  | cons r l ih =>
    by_cases hr : r.1 = o
    · rw [List.filter_cons_of_pos (by simpa using hr), regLook, ih, hr]
      by_cases ho : o = off
      · simp [regLook, ho, hr]
      · simp [ho, Ne.symm ho]
    · rw [List.filter_cons_of_neg (by simpa using hr), ih, regLook]
      by_cases ho : off = o
      · simp [ho, hr]
      · simp [ho]

theorem powerOff_reg (s : State) (off : Nat) : s.powerOff.reg off = if off = Reg.SLED_CFG then s.reg off else regReset off := by
  rw [State.reg, powerOff_regs, regLook_filter]
  rfl

/-! ### A map root half written (R216) -/

/-- A copy that is torn is no valid one. -/
theorem torn_invalid (o : Option MapRoot) : (o.map fun x => { x with torn := true }).filter (!·.torn) = none := by
  cases o <;> rfl

/-- The copy used last stays in force where the other one is torn. -/
theorem tearRoot_root {j : Journal} {r : MapRoot} (hr : r.torn = false) (hj : (if j.rootB then j.mapB else j.mapA) = some r) :
    j.tearRoot.root = r := by
  have valid : (some r).filter (!·.torn) = some r := by simp [Option.filter, hr]
  unfold Journal.tearRoot Journal.root
  cases hb : j.rootB with
  | true =>
    have hB : j.mapB = some r := by simpa [hb] using hj
    simp only [if_true, torn_invalid, hB, valid]
  | false =>
    have hA : j.mapA = some r := by simpa [hb] using hj
    simp only [Bool.false_eq_true, if_false, torn_invalid, hA, valid]

theorem cutRoot_unpowered (h : s.glb.powered = false) : s.cutRoot = s := by simp [State.cutRoot, h]

theorem cutRoot_flush (h : s.store.flush.isSome = true) : s.cutRoot = s := by
  simp [State.cutRoot, Option.isSome_iff_ne_none.mp h]

/-- Power that is cut without a flush draws whether a map root was being written. -/
theorem cutRoot_rest (hp : s.glb.powered = true) (hf : s.store.flush = none) :
    s.cutRoot = { s with free := s.free + 1, journal := s.cutRoot.journal } ∧
    (s.cutRoot.journal = s.journal ∨ s.cutRoot.journal = s.journal.tearRoot) := by
  have e : s.cutRoot = { s with free := s.free + 1, journal := if (Config.freeWord s.free).getLsbD 0 then s.journal.tearRoot else s.journal } := by
    simp [State.cutRoot, hp, hf, State.drawFree]
  rw [e]
  refine ⟨rfl, ?_⟩
  dsimp only
  split
  · exact .inr rfl
  · exact .inl rfl

/-- A cut touches neither the device's state nor the Seed island. -/
theorem cutRoot_glb_seed (s : State) : s.cutRoot.glb = s.glb ∧ s.cutRoot.seed = s.seed := by
  unfold State.cutRoot
  split
  · exact ⟨rfl, rfl⟩
  · exact ⟨rfl, rfl⟩

/-! ### HUB_LOW, the rails and VDD_SEED (R214, R439, R444, R446, R579) -/

theorem hubLow_flush (hp : s.glb.powered = true) (hf : s.store.flush.isSome = true) :
    exec .hubLowAssert s = .next (({ s with seed := { s.seed with hubLow := true } } : State).cutOff) := by
  show execHubLowAssert s = _
  simp [execHubLowAssert, hp, hf]

/-- In L4 the device goes to L3, or to a shallower state where that is allowed. -/
theorem hubLow_l4 (hp : s.glb.powered = true) (hf : s.store.flush = none) (hl : s.power.state = .l4) :
    Completes .hubLowAssert s (fun t => t.power.state.code ≤ 3) := by
  let w : State := { s with seed := { s.seed with hubLow := true } }
  let target := if w.power.allowed.code < 3 then w.power.allowed else .l3
  have shallow : target.code ≤ 3 := by
    by_cases h : w.power.allowed.code < 3
    · simp only [target, h, if_true]
      omega
    · simp only [target, h, if_false]
      decide
  have left : (w.leaveTo target 5 0).power.state = target :=
    (leaveTo_spec 5 0 (show target.code < w.power.state.code by rw [show w.power.state = .l4 from hl]; exact Nat.lt_succ_of_le shallow)).1
  refine ⟨w.leaveTo target 5 0, ?_, (congrArg PState.code left).trans_le shallow⟩
  show execHubLowAssert s = _
  simp [execHubLowAssert, hp, hf, hl, w, target]

theorem railOut_cuts (s : State) : exec .mainRailOutOfRange s = .next (if s.glb.powered = true then
    ({ s.cutRoot with seed := { s.seed with rails := false } } : State).cutOff else { s with seed := { s.seed with rails := false } }) := by
  show execMainRailOutOfRange s = _
  obtain ⟨hg, hx⟩ := cutRoot_glb_seed s
  by_cases hp : s.glb.powered = true
  · simp [execMainRailOutOfRange, hg, hx, hp]
  · have off : s.glb.powered = false := by simpa using hp
    simp [execMainRailOutOfRange, cutRoot_unpowered off, off]

/-- VDD_SEED takes the island with every other domain, but not the time. -/
theorem vddLoss_loses (s : State) : Completes .vddSeedLoss s (fun t => t.glb.powered = false ∧ t.regs = [] ∧ t.seed.vdd = false ∧
    t.seed.vddLost = true ∧ t.seed.otTrip = false ∧ t.seed.now = s.seed.now) := by
  refine ⟨_, rfl, ?_, rfl, rfl, rfl, rfl, ?_⟩
  · show (if s.glb.powered then s.cutRoot.powerOff else s).glb.powered = false
    split
    · rfl
    · next h => simpa using h
  · show (if s.glb.powered then s.cutRoot.powerOff else s).seed.now = s.seed.now
    split
    · rw [powerOff_seed, Seed.stopped, (cutRoot_glb_seed s).2]
    · rfl

end Sys2Proof
end

section
/-! PROOFS. The emergency flush (O53): what it leaves as it began, how it ends, and a flush with nothing to write. -/

namespace Sys2Proof

open Sys2Proof.Machine

variable {s t u : State} {P : State → Prop} {trigger stop : Nat}

/-! ### Stripes that end (R192, R193) -/

theorem KeptByWritePath.countMoved (k : KeptByWritePath P) {x : Stripe} (h : P s) : P (s.countMoved x) := by
  unfold State.countMoved
  refine ite_keeps P ?_ h
  have moved {y : State} {n : Nat} (hy : P y) : P (y.movedBytes n) :=
    ite_keeps P (k.upkeep _ hy) (k.count (.inr (by decide)) (k.upkeep _ hy))
  refine moved (foldl_keeps P _ _ _ (k.upkeep _ h) fun y i _ hy => ?_)
  split
  · exact hy
  · split
    · exact hy
    · split
      · exact hy
      · exact foldl_keeps P _ _ y hy fun _ _ _ hz => k.modCarrier hz

/-! ### What a flush leaves as it began (R213) -/

/-- The state of the device, the trigger of the flush that runs, and the Seed island. -/
def flushKey (s : State) : Glb × Option Nat × Seed := (s.glb, s.store.flush, s.seed)

/-- A flush runs whose key is `k`. -/
def Flushing (k : Glb × Option Nat × Seed) (s : State) : Prop := flushKey s = k

variable {k : Glb × Option Nat × Seed}

theorem keptByForwarding_flushing : KeptByForwarding (Flushing k) where
  toKeptByRecorder := keptByRecorder_of_aside fun a h => (congrArg flushKey a.rest :).trans h
  reg := fun _ _ _ h => h
  journal := fun _ _ h => h
  upkeep := fun _ h => h
  mem := fun _ h => h
  buf := fun _ h => h
  again := fun _ h => h
  opened := fun _ h => h
  grown := fun _ _ _ _ h => h
  array := fun _ h => h
  pslc := fun _ h => h
  flash := fun _ h => h
  ended := fun _ h => h
  power := fun _ h => h
  loops := fun _ h => h
  fw := fun _ h => h
  eng := fun _ h => h
  slices := fun _ h => h
  sent := fun _ h => h
  drop := fun _ h => h

namespace Flushing

theorem jsync {b : RecBody} (h : Flushing k s) : Flushing k (s.jsync b) := keptByForwarding_flushing.jsync h

theorem capture {code : Nat} {ps : List Nat} (h : Flushing k s) : Flushing k (s.capture code ps) := keptByForwarding_flushing.capture h

theorem dropStripe {b n : Nat} (h : Flushing k s) : Flushing k (s.dropStripe b n) := keptByForwarding_flushing.dropStripe h

theorem closeBand {n : Nat} (h : Flushing k s) : Flushing k (s.closeBand n) := keptByForwarding_flushing.closeBand h

theorem fillBand {n : Nat} (h : Flushing k s) : Flushing k (s.fillBand n) := keptByForwarding_flushing.fillBand h

theorem onFlash {x : Stripe} {c : Bool} (h : Flushing k s) : Flushing k (s.onFlash x c) := keptByForwarding_flushing.onFlash h

theorem restage {l : List Nat} (h : Flushing k s) : Flushing k (s.restage l) := h

theorem resetProgs {x : Stripe} (h : Flushing k s) : Flushing k (s.resetProgs x) := h

theorem commitBuf {x : Stripe} {landing : Bool} {i : Item} (h : Flushing k s) : Flushing k (s.commitBuf x landing i) :=
  ite_keeps (Flushing k) h h

theorem commitCopy {x : Stripe} {i : Item} (h : Flushing k s) : Flushing k (s.commitCopy x i) := ite_keeps (Flushing k) h h

theorem commitPage {x : Stripe} {pg : Nat × Nat × Nat} (h : Flushing k s) : Flushing k (s.commitPage x pg) :=
  ite_keeps (Flushing k) h (ite_keeps (Flushing k) h h)

theorem commitStripe {x : Stripe} (h : Flushing k s) : Flushing k (s.commitStripe x) := by
  unfold State.commitStripe
  refine keptByForwarding_flushing.endFlushJob (fillBand (dropStripe (onFlash ?_)))
  split
  · exact foldl_keeps (Flushing k) _ _ _ h.jsync fun _ _ _ hx => hx.commitBuf
  · exact foldl_keeps (Flushing k) _ _ _ (keptByForwarding_flushing.countMoved h.jsync) fun _ _ _ hx => hx.commitCopy
  · exact foldl_keeps (Flushing k) _ _ _ h.jsync fun _ _ _ hx => hx.commitPage
  · exact h

theorem flushVoid {x : Stripe} (h : Flushing k s) : Flushing k (s.flushVoid x) :=
  restage (capture (closeBand (dropStripe (resetProgs (onFlash h.jsync)))))

theorem flushStripes {l : List (Nat × Nat)} (h : Flushing k s) : Flushing k (s.flushStripes l) :=
  foldl_keeps (Flushing k) _ _ s h fun _ _ _ hx =>
    ite_keeps (Flushing k) hx.dropStripe.restage (ite_keeps (Flushing k) hx.resetProgs.commitStripe hx.flushVoid)

theorem landingRange (h : Flushing k s) : Flushing k s.landingRange :=
  foldl_keeps (Flushing k) _ _ s h fun _ _ _ hx => ite_keeps (Flushing k) hx.capture hx

theorem voidLanding {x : Stripe} {mem : Nat} {late : Bool} (h : Flushing k s) : Flushing k (s.voidLanding x mem late) :=
  h.jsync.dropStripe.closeBand.capture

theorem landStripe {x : Stripe} {items : List Item} {last : Bool} (h : Flushing k s) : Flushing k (s.landStripe x items last) := by
  have ended : Flushing k ((((items.foldl (fun s i => s.commitBuf x true i) (s.jsync (.landing x.band x.stripe (s.recItems x items)))).onFlash
      { x with items := items, fill := sumBy items (·.len), pad := s.stripeRoom x - sumBy items (·.len) } true).dropStripe
      x.band x.stripe).fillBand x.band) :=
    (foldl_keeps (Flushing k) _ _ _ h.jsync fun _ _ _ hx => hx.commitBuf).onFlash.dropStripe.fillBand
  exact ite_keeps (Flushing k) ended.capture ended

theorem landAll {fails : List (Nat × Nat × Bool)} {n done : Nat} {l : List BufExt} {fuel : Nat} (h : Flushing k s) :
    Flushing k (s.landAll fails n done l fuel).2.2 := by
  induction fuel generalizing s n done l with
  | zero => exact h
  | succ fuel ih =>
    have opened : Flushing k (s.openStripe 3 0) := keptByForwarding_flushing.openStripe h
    unfold State.landAll
    dsimp only
    split
    · exact h
    · split
      · exact h
      · split
        · exact ih opened.voidLanding
        · exact ih opened.landStripe

end Flushing

/-! ### The start and the end of a flush -/

theorem abandonTest_rest (s : State) : ∃ x : Bank, s.abandonTest = { s with bank := x } :=
  ite_keeps (fun t : State => ∃ x : Bank, t = { s with bank := x }) ⟨s.bank, rfl⟩ ⟨_, rfl⟩

/-- The state as the flush-start record is written. -/
def flushBegun (trigger : Nat) (s : State) : State :=
  let s := s.abandonTest
  { s with glb := { s.glb with state := .flush }, store := { s.store with flush := some trigger },
           mem := { s.mem with reqs := s.mem.reqs.filter (fun r => r.cls == 0 || r.cls == 4) } }

/-- The key a flush begins with. -/
def begunKey (trigger : Nat) (s : State) : Glb × Option Nat × Seed := ({ s.glb with state := .flush }, some trigger, s.seed)

theorem flushing_begun (trigger : Nat) (s : State) : Flushing (begunKey trigger s) (flushBegun trigger s) := by
  obtain ⟨x, e⟩ := abandonTest_rest s
  unfold flushBegun
  rw [e]
  rfl

/-- What a flush has written and posted once it has begun, before it abandons the rest. -/
def flushPosted (trigger : Nat) (s : State) : State :=
  let s := (flushBegun trigger s).jwrite (.flushStart trigger (flushBegun trigger s).opMs (flushBegun trigger s).dirtyKib)
  (s.eng.cct.filter (·.st == .completing)).foldl (fun s c => s.post c c.status c.result) s

theorem flushing_posted (trigger : Nat) (s : State) : Flushing (begunKey trigger s) (flushPosted trigger s) :=
  foldl_keeps (Flushing (begunKey trigger s)) _ _ _ (keptByForwarding_flushing.jwrite (flushing_begun trigger s)) fun _ _ _ hx =>
    (congrArg flushKey (aside_post ..).rest :).trans hx

theorem flushing_beginFlush (trigger : Nat) (s : State) : Flushing (begunKey trigger s) (s.beginFlush trigger) := flushing_posted trigger s

/-- What is left of the state as power goes at the end of a flush: the totals and the stop record, durable. -/
def flushRecorded (stop dirty : Nat) (s : State) : State :=
  let s := ((s.meterTick true 0).writeSettings).jwrite (.stop stop dirty)
  { s with journal := s.journal.groupDone }

theorem endFlush_eq (s : State) (trigger stop dirty ms n : Nat) :
    s.endFlush trigger stop dirty ms n = ((flushRecorded stop dirty s).capture 0x0704 [dirty, ms, n, trigger]).powerOff := rfl

theorem flushRecorded_seed (stop dirty : Nat) (s : State) : (flushRecorded stop dirty s).seed = s.seed := by
  have ticked : Flushing (flushKey s) (s.meterTick true 0) := (congrArg flushKey (recorded_meterTick s true 0).rest :)
  have kept : Flushing (flushKey s) (flushRecorded stop dirty s) :=
    keptByForwarding_flushing.jwrite (keptByForwarding_flushing.writeSettings ticked)
  exact congrArg (·.2.2) kept

theorem endFlush_seed (s : State) (trigger stop dirty ms n : Nat) : (s.endFlush trigger stop dirty ms n).seed = s.seed.stopped := by
  rw [endFlush_eq, powerOff_seed, (aside_capture ..).recorded.seed, flushRecorded_seed]

theorem jwrite_groupDone_recs (s : State) (b : RecBody) : Recs b (s.jwrite b).journal.groupDone := by
  have synced := jsync_recs s b
  unfold State.jsync at synced
  dsimp only at synced
  split at synced
  · exact synced
  · exact synced.groupDone

theorem groupDone_durable {j : Journal} {r : JRec} (h : r ∈ j.groupDone.recs) : r.durable = true := by
  obtain ⟨q, -, rfl⟩ := List.mem_map.mp h
  rfl

/-- The stop record is durable, so it outlasts power. -/
theorem endFlush_stops (s : State) (trigger stop dirty ms n : Nat) :
    ∃ r ∈ (s.endFlush trigger stop dirty ms n).journal.recs, r.body = .stop stop dirty := by
  obtain ⟨r, hr, hb⟩ := jwrite_groupDone_recs (s.meterTick true 0).writeSettings (.stop stop dirty)
  refine ⟨r, ?_, hb⟩
  rw [endFlush_eq, powerOff_recs, (aside_capture ..).journal]
  exact List.mem_append_left _ (List.mem_filter.mpr ⟨hr, groupDone_durable hr⟩)

/-- A flush ends without power, or stays in it with its trigger; the trip of the island stays as it was. -/
theorem emergencyFlush_ends (trigger stop : Nat) (f : FlushFacts) (s : State) :
    ((s.emergencyFlush trigger stop f).glb.powered = false ∨
      ((s.emergencyFlush trigger stop f).glb.state = .flush ∧ (s.emergencyFlush trigger stop f).store.flush = some trigger)) ∧
    (s.emergencyFlush trigger stop f).seed.otTrip = s.seed.otTrip := by
  have stripes := (flushing_beginFlush trigger s).flushStripes (l := f.passed)
  unfold State.emergencyFlush
  extract_lets dirty a all l b r
  have landed : Flushing (begunKey trigger s) r.2.2 := (ite_keeps (Flushing (begunKey trigger s)) stripes stripes.landingRange).landAll
  have seed : r.2.2.seed = s.seed := congrArg (·.2.2) landed
  split
  · refine ⟨.inl rfl, ?_⟩
    rw [endFlush_seed, Seed.stopped, seed]
  · exact ⟨.inr ⟨congrArg (·.1.state) landed, congrArg (·.2.1) landed⟩, by rw [seed]⟩

/-! ### A flush with nothing to write -/

/-- A flush runs, nothing is buffered, and no stripe is open. -/
def NothingToFlush (s : State) : Prop := s.store.flush.isSome = true ∧ s.store.buf = [] ∧ s.store.stripes = []

/-- No notice is posted during a flush (R562). -/
theorem keptByJournal_nothingToFlush : KeptByJournal NothingToFlush where
  sticky := fun _ _ h => h
  events := fun _ h => h
  prob := fun _ h => h
  notify := fun c n h => by
    unfold State.notify
    rw [if_pos h.1]
    exact h
  reg := fun _ _ _ h => h
  journal := fun _ _ h => h

/-- A completion whose entry is freed leaves no extent in an empty buffer. -/
theorem NothingToFlush.post {x : Cct} {st : Nat} {w : Word} (h : NothingToFlush s) : NothingToFlush (s.post x st w) := by
  obtain ⟨y, hm, hy⟩ := post_eq s x st w
  have store : y.store = s.store := (congrArg State.store hm.rest :)
  obtain ⟨hf, hb, hs⟩ := h
  have freed : s.post x st w = y.freeEntry x := by
    rw [hy, State.sendCqe, store, hf, Bool.or_true]
    rfl
  rw [freed]
  refine ⟨?_, ?_, ?_⟩
  · exact (congrArg (·.flush.isSome) store).trans hf
  · show sweepBuf ((y.store.buf.filter _).map _) = []
    rw [store, hb]
    rfl
  · exact (congrArg (·.stripes) store).trans hs

theorem nothingToFlush_beginFlush (hb : s.store.buf = []) (hs : s.store.stripes = []) : NothingToFlush (s.beginFlush trigger) := by
  have begun : NothingToFlush (flushBegun trigger s) := by
    obtain ⟨x, e⟩ := abandonTest_rest s
    unfold flushBegun
    rw [e]
    exact ⟨rfl, hb, hs⟩
  have posted : NothingToFlush (flushPosted trigger s) :=
    foldl_keeps NothingToFlush _ _ _ (keptByJournal_nothingToFlush.jwrite begun) fun _ _ _ hx => hx.post
  obtain ⟨pf, pb, ps⟩ := posted
  refine ⟨pf, ?_, ps⟩
  show (flushPosted trigger s).store.buf.filter _ = []
  rw [pb]
  rfl

theorem landAll_nil (s : State) (fails : List (Nat × Nat × Bool)) (n done fuel : Nat) : s.landAll fails n done [] fuel = (done, [], s) := by
  cases fuel with
  | zero => rfl
  | succ fuel =>
    unfold State.landAll
    dsimp only
    split
    · rfl
    · rfl

/-- With nothing to write the flush goes from its start to its end. -/
theorem emergencyFlush_idle {f : FlushFacts} (hb : s.store.buf = []) (hs : s.store.stripes = []) :
    s.emergencyFlush trigger stop f = (s.beginFlush trigger).endFlush trigger stop s.dirtyKib f.ms 0 := by
  obtain ⟨-, nb, ns⟩ := nothingToFlush_beginFlush (trigger := trigger) hb hs
  have stripes : (s.beginFlush trigger).flushStripes f.passed = s.beginFlush trigger := by
    unfold State.flushStripes
    rw [ns]
    rfl
  unfold State.emergencyFlush
  extract_lets dirty a all l m r
  have all_nil : all = [] := by simp only [all, a, stripes, nb, List.filter_nil]
  have l_nil : l = [] := by
    simp only [l, all_nil]
    split
    · rfl
    · exact List.take_nil
  have land : r = (0, [], s.beginFlush trigger) := by simp only [r, m, a, l_nil, stripes, landAll_nil, List.isEmpty_nil, if_true]
  simp [land, all_nil, l_nil, dirty]

end Sys2Proof
end

section
/-! PROOFS. Triggers, the trip, and power that goes: O53 clause by clause. -/

namespace Sys2Proof

open Sys2Proof.Machine

variable {s : State} {trigger : Nat} {f : FlushFacts}

/-! ### PWR_FAIL and PRSNT_N (R213, R439, R508) -/

theorem powerTrigger_idle (h : s.glb.powered = false ∨ s.store.flush.isSome = true) : s.powerTrigger trigger f = s :=
  if_pos (by rcases h with h | h <;> simp [h])

theorem powerTrigger_hold (hp : s.glb.powered = true) (hf : s.store.flush = none) (hh : s.glb.hold.isSome = true) :
    s.powerTrigger trigger f = s.powerOff := by
  simp [State.powerTrigger, hp, hf, hh]

theorem powerTrigger_l4 (hp : s.glb.powered = true) (hf : s.store.flush = none) (hh : s.glb.hold = none) (hl : s.power.state = .l4) :
    s.powerTrigger trigger f = s.abandonTest.quietOff trigger := by
  simp [State.powerTrigger, hp, hf, hh, hl]

theorem powerTrigger_flush (hp : s.glb.powered = true) (hf : s.store.flush = none) (hh : s.glb.hold = none) (hl : s.power.state ≠ .l4) :
    s.powerTrigger trigger f = s.emergencyFlush trigger 1 f := by
  simp [State.powerTrigger, hp, hf, hh, hl]

/-- A command that runs the trigger `trigger` on the state `w`, which has read a pin. -/
theorem trigger_effects {c : Instr} {w : State} (runs : exec c s = .next (w.powerTrigger trigger f))
    (rest : w = { s with seed := w.seed }) (now : w.seed.now = s.seed.now) :
    (s.glb.powered = false ∨ s.store.flush.isSome = true → exec c s = .next w) ∧
    (s.glb.powered = true → s.store.flush = none →
      (s.glb.hold.isSome = true → exec c s = .next w.powerOff) ∧
      (s.glb.hold = none → s.power.state = .l4 → exec c s = .next (w.abandonTest.quietOff trigger)) ∧
      (s.glb.hold = none → s.power.state ≠ .l4 →
        Completes c s (fun t => t.glb.powered = false ∨ (t.glb.state = .flush ∧ t.store.flush = some trigger)) ∧
        (s.store.buf = [] → s.store.stripes = [] → Completes c s (fun t => t.glb.powered = false ∧
          t.seed.powerOffAt = some s.seed.now ∧ ∃ r ∈ t.journal.recs, r.body = .stop 1 s.dirtyKib)))) := by
  have glb : w.glb = s.glb := (congrArg State.glb rest :)
  have store : w.store = s.store := (congrArg State.store rest :)
  have power : w.power = s.power := (congrArg State.power rest :)
  rw [runs, ← glb, ← store, ← power]
  refine ⟨fun h => by rw [powerTrigger_idle h], fun hp hf => ⟨fun hh => ?_, fun hh hl => ?_, fun hh hl => ⟨?_, fun hb hs => ?_⟩⟩⟩
  · rw [powerTrigger_hold hp hf hh]
  · rw [powerTrigger_l4 hp hf hh hl]
  · rw [powerTrigger_flush hp hf hh hl] at runs
    exact ⟨_, runs, (emergencyFlush_ends trigger 1 f w).1⟩
  · rw [powerTrigger_flush hp hf hh hl, emergencyFlush_idle hb hs] at runs
    have begun : (w.beginFlush trigger).seed = w.seed := congrArg (·.2.2) (flushing_beginFlush trigger w)
    refine ⟨_, runs, rfl, ?_, ?_⟩
    · rw [endFlush_seed, Seed.stopped, begun, now]
    · rw [show s.dirtyKib = w.dirtyKib from (congrArg State.dirtyKib rest).symm]
      exact endFlush_stops ..

/-! ### The over-temperature trip (R446, R477) -/

theorem trip_latched (h : s.seed.otTrip = true ∨ s.seed.vdd = false) : exec (.overTemperatureTrip f) s = .next s := by
  show execOverTemperatureTrip f s = _
  exact if_pos (by rcases h with h | h <;> simp [h])

theorem trip_unpowered (ho : s.seed.otTrip = false) (hv : s.seed.vdd = true) (hp : s.glb.powered = false) :
    exec (.overTemperatureTrip f) s = .next { s with seed := { s.seed with otTrip := true } } := by
  show execOverTemperatureTrip f s = _
  simp [execOverTemperatureTrip, ho, hv, hp]

/-- A trip with power latches, counts and is recorded, and nothing more before it acts on the state of the device. -/
theorem trip_runs (ho : s.seed.otTrip = false) (hv : s.seed.vdd = true) (hp : s.glb.powered = true) (hf : s.store.flush = none)
    (hh : s.glb.hold = none) : ∃ w : State, w.seed = { s.seed with otTrip := true } ∧
      exec (.overTemperatureTrip f) s = .next (if s.power.state == .l4 then w.abandonTest.writeSettings.quietOff 0
        else w.emergencyFlush 3 (if s.power.state == .l3 then 4 else 1) f) := by
  let a : State := { s with seed := { s.seed with otTrip := true }, thermal := { s.thermal with trips := min 0xFFFFFFFF (s.thermal.trips + 1) } }
  let b := if s.thermal.trips = 0xFFFFFFFE then a.satEvent 2 28 0 else a
  let w := b.capture 0x0207 [unsigned 32 b.thermal.tj, b.power.state.code]
  have saturated : Recorded a b := by
    refine recorded_ite (recorded_ite (.refl a) ?_) (.refl a)
    exact (recorded_capture ..).after ⟨rfl⟩
  have r : Recorded a w := (recorded_capture ..).after saturated
  have flush : w.store.flush = none := (congrArg (·.store.flush) r.rest :).trans hf
  have hold : w.glb.hold = none := (congrArg Glb.hold r.glb).trans hh
  have power : w.power = s.power := r.power
  refine ⟨w, r.seed, ?_⟩
  show execOverTemperatureTrip f s = _
  rw [← power]
  have acts : execOverTemperatureTrip f s = if w.store.flush.isSome then .next w else if w.glb.hold.isSome then .next w.powerOff
      else if w.power.state == .l4 then .next (w.abandonTest.writeSettings.quietOff 0)
      else .next (w.emergencyFlush 3 (if w.power.state == .l3 then 4 else 1) f) := by
    have latches : (s.seed.otTrip || !s.seed.vdd) = false := by rw [ho, hv]; rfl
    unfold execOverTemperatureTrip
    simp only [latches, hp]
    rfl
  simp only [acts, flush, hold, Option.isSome_none, Bool.false_eq_true, if_false, apply_ite Host.Outcome.next]

theorem trip_flushes (ho : s.seed.otTrip = false) (hv : s.seed.vdd = true) (hp : s.glb.powered = true) (hf : s.store.flush = none)
    (hh : s.glb.hold = none) (hl : s.power.state ≠ .l4) : Completes (.overTemperatureTrip f) s (fun t => t.seed.otTrip = true ∧
      (t.glb.powered = false ∨ (t.glb.state = .flush ∧ t.store.flush = some 3))) := by
  obtain ⟨w, hw, runs⟩ := trip_runs (f := f) ho hv hp hf hh
  rw [if_neg (by simpa using hl)] at runs
  obtain ⟨ends, trip⟩ := emergencyFlush_ends 3 (if s.power.state == .l3 then 4 else 1) f w
  exact ⟨_, runs, by rw [trip, hw], ends⟩

theorem trip_quiet (ho : s.seed.otTrip = false) (hv : s.seed.vdd = true) (hp : s.glb.powered = true) (hf : s.store.flush = none)
    (hh : s.glb.hold = none) (hl : s.power.state = .l4) : Completes (.overTemperatureTrip f) s (fun t => t.seed.otTrip = true ∧
      t.glb.powered = false ∧ t.seed.pfQuiet = true ∧ t.seed.quietCause = 0) := by
  obtain ⟨w, hw, runs⟩ := trip_runs (f := f) ho hv hp hf hh
  rw [if_pos (by simp [hl])] at runs
  have seed : w.abandonTest.writeSettings.seed = w.seed := by
    obtain ⟨x, e⟩ := abandonTest_rest w
    rw [e]
    exact congrArg (·.2.2) (keptByForwarding_flushing.writeSettings (rfl : Flushing (flushKey w) { w with bank := x }))
  refine ⟨_, runs, ?_, rfl, rfl, rfl⟩
  show w.abandonTest.writeSettings.powerOff.seed.otTrip = true
  rw [powerOff_seed, Seed.stopped, seed, hw]

/-! ### The clauses together -/

/-- Settles O53: triggers and the trip run a flush, which keeps the device's state, its trigger and the Seed island to its end
(`emergencyFlush_ends`); cuts and losses are single steps; what power-off keeps is read off its definition. -/
theorem losingPowerRunsTheFlushAndKeepsWhatHoldsWithoutIt : Obligations.LosingPowerRunsTheFlushAndKeepsWhatHoldsWithoutIt := by
  intro s f _
  refine ⟨?_, ?_, hubLow_flush, hubLow_l4, railOut_cuts s, cutRoot_flush, cutRoot_rest, fun r => tearRoot_root, ?_, rfl, ?_, vddLoss_loses s,
    trip_latched, fun ho hv => ⟨trip_unpowered ho hv, trip_flushes ho hv, trip_quiet ho hv⟩, ?_⟩
  · rw [List.forall_mem_cons, List.forall_mem_singleton]
    exact ⟨trigger_effects rfl rfl rfl, trigger_effects rfl rfl rfl⟩
  · intro hp
    show execHubLowAssert s = _
    simp [execHubLowAssert, hp]
  · exact fun hv => if_pos hv
  · exact fun hv => if_neg (by simp [hv])
  · obtain ⟨fuses, log, slots, copies⟩ := powerOff_fixed s
    refine ⟨fuses, log, powerOff_placed s, slots, copies, powerOff_recs s, powerOff_lost s, ?_, fun off ho => ?_⟩
    · rw [powerOff_reg, if_pos rfl]
    · rw [powerOff_reg, if_neg ho]

end Sys2Proof
end

section
/-! PROOFS. What settling keeps of bands and of the array (O50): a property that lets bands empty, and counts, dies and carriers change, is
kept by the settling of bands and dies, by a change of members, and by the end of a release. `KeptBySettling` asks for every change of
upkeep and of the array, which the states of bands and the identity of the array do not outlast. -/

namespace Sys2Proof

open Sys2Proof.Machine

variable {s t u : State} {P : State → Prop}

/-- What an array is known by: its identity, its geometry and its map unit. -/
def arrayIdent (a : Array_) : Option (BitVec 128) × Nat × Nat × Nat := (a.arrayId, a.d, a.p, a.mapUnitKib)

/-- Kept too where upkeep changes that leaves every band, where a band empties or changes neither number nor state, where the array changes
that stays the same one, and where domains, slots and settings change. -/
structure KeptByEmptying (P : State → Prop) : Prop extends KeptByJournal P where
  counted : ∀ {t : State} (x : Upkeep), x.bands = t.upkeep.bands → P t → P { t with upkeep := x }
  noted : ∀ {t : State} (n : Nat) {f : Band → Band}, (∀ b, (f b).num = b.num ∧ (f b).st = b.st) → P t → P (t.modBand n f)
  emptied : ∀ {t : State} (n : Nat), P t → P (t.modBand n fun b => { b with st := .erasePending, reqs := [] })
  array : ∀ {t : State} (x : Array_), arrayIdent x = arrayIdent t.array → P t → P { t with array := x }
  pslc : ∀ {t : State} (n : Nat), P t → P { t with store := { t.store with pslcGib := n } }
  power : ∀ {t : State} (x : Power), P t → P { t with power := x }
  loops : ∀ {t : State} (l : List Slot), P t → P { t with loops := l }
  fw : ∀ {t : State} (x : Fw), P t → P { t with fw := x }

namespace KeptByEmptying

theorem health (k : KeptByEmptying P) {i n : Nat} (h : P s) : P (s.health i n) := k.counted _ rfl h

theorem modCarrier (k : KeptByEmptying P) {i : Nat} {f : Carrier → Carrier} (h : P s) : P (s.modCarrier i f) := k.array _ rfl h

theorem setPool (k : KeptByEmptying P) (h : P s) : P s.setPool := k.array _ rfl h

theorem dropEol (k : KeptByEmptying P) {i : Nat} (h : P s) : P (s.dropEol i) := k.counted _ rfl h

/-! ### Settling (R204, R222, R230, R309, R319) -/

theorem progress (k : KeptByEmptying P) {before : List Band} (h : P s) : P (s.progress before) :=
  foldl_keeps P _ _ s h fun _ _ _ hx => k.jwrite (k.counted _ rfl hx)

theorem settleBands (k : KeptByEmptying P) (h : P s) : P s.settleBands := by
  refine foldl_keeps P _ _ s h fun x b _ hx => ite_keeps P ?_ hx
  have emptied := k.emptied b.num hx
  exact ite_keeps P (k.health (k.counted _ rfl emptied)) (k.counted _ rfl emptied)

theorem settleDies (k : KeptByEmptying P) (h : P s) : P s.settleDies := by
  have ended {x : State} {c : Prop} [Decidable c] {y : Upkeep} {code : Nat} {ps : List Nat} (e : y.bands = x.upkeep.bands) (hx : P x) :
      P (if c then ({ x with upkeep := y } : State).capture code ps else x) := ite_keeps P (k.capture (k.counted _ e hx)) hx
  unfold State.settleDies
  extract_lets dies _ x
  have hx : P x := k.array _ rfl h
  split
  · exact ended rfl hx
  · exact hx

theorem setRegime (k : KeptByEmptying P) (h : P s) : P s.setRegime := by
  unfold State.setRegime
  refine ite_keeps P h ?_
  have spent {d : Nat} : P (if s.upkeep.regime = .urgent then s.health 19 d else if s.upkeep.regime = .held then s.health 20 d else s) :=
    ite_keeps P (k.health h) (ite_keeps P (k.health h) h)
  dsimp only
  split
  · exact k.capture (k.counted _ rfl spent)
  · exact k.capture (k.counted _ rfl spent)
  · exact k.capture (k.counted _ rfl spent)

theorem setPslc (k : KeptByEmptying P) (h : P s) : P s.setPslc :=
  ite_keeps P h (k.capture (foldl_keeps P _ _ _ (k.pslc _ h) fun _ _ _ hx => ite_keeps P (k.noted _ (fun _ => ⟨rfl, rfl⟩) hx) hx))

/-- What follows a change of valid counts. -/
theorem settle (k : KeptByEmptying P) {before : List Band} (h : P s) : P (s.settle before) := by
  have carriers : P ((List.range 16).foldl (fun s k => s.settleCarrier k) (s.progress before).settleBands.settleDies) :=
    foldl_keeps P _ _ _ (k.settleDies (k.settleBands (k.progress h))) fun _ _ _ hx => k.modCarrier hx
  exact k.setRegime (k.setPslc (ite_keeps P (k.counted _ rfl carriers) carriers))

/-! ### Members and releases (R336, R341) -/

theorem writeRec (k : KeptByEmptying P) {i st : Nat} (h : P s) : P (s.writeRec i st) :=
  ite_keeps P h (ite_keeps P (k.capture h) (k.modCarrier h))

theorem writeSettings (k : KeptByEmptying P) (h : P s) : P s.writeSettings :=
  ite_keeps P (k.fw _ (k.journal _ rfl h)) (k.journal _ rfl h)

theorem newMembers (k : KeptByEmptying P) {members slot cause st : Nat} {b : Bool} (h : P s) : P (s.newMembers members slot cause st b) :=
  k.writeSettings (foldl_keeps P _ _ _ (k.jsync (k.array _ rfl h)) fun _ _ _ hx => k.writeRec hx)

theorem setDom (k : KeptByEmptying P) {i : Nat} {d : DomCond} (h : P s) : P (s.setDom i d) :=
  foldl_keeps P _ _ _ (k.power _ h) fun _ _ _ hx => k.array _ rfl hx

theorem setTarget (k : KeptByEmptying P) {i : Nat} {v : Int} (hi : i < 16) (h : P s) : P (s.setTarget i v) := by
  refine k.loops _ (k.reg _ _ (.inl ?_) h)
  show 0x30014 + 0x40 * i < 0x40100
  omega

theorem settleRelease (k : KeptByEmptying P) (h : P s) : P s.settleRelease := by
  refine foldl_keeps P _ _ s h fun x i hi hx => ite_keeps P hx (k.settleDies (k.capture (k.setPool (k.setDom (k.dropEol (k.modCarrier ?_))))))
  exact k.setTarget (List.mem_range.mp hi) (k.array _ rfl (k.writeRec (k.newMembers hx)))

end KeptByEmptying

end Sys2Proof
end

section
/-! PROOFS. The victim of a move (O50): the band taken is in VICTIM, or empty and waiting for its erase, when the move step ends. -/

namespace Sys2Proof

open Sys2Proof.Machine

variable {s t u : State} {n : Nat}

/-! ### Bands in VICTIM or ERASE_PENDING -/

/-- Every band of the number `n` is in VICTIM or ERASE_PENDING. -/
def Emptying (n : Nat) (s : State) : Prop := ∀ b ∈ s.upkeep.bands, b.num = n → b.st = .victim ∨ b.st = .erasePending

/-- A change of the band of a number that brings none of `n` into another state. -/
theorem Emptying.modBand (h : Emptying n s) {m : Nat} {f : Band → Band}
    (hf : ∀ b ∈ s.upkeep.bands, b.num = m → (f b).num = n → (f b).st = .victim ∨ (f b).st = .erasePending) : Emptying n (s.modBand m f) := by
  intro b hb hn
  rcases modFirst_mem hb with hb | ⟨a, ha, hm, rfl⟩
  · exact h b hb hn
  · exact hf a ha (by simpa using hm) hn

theorem Emptying.band (h : Emptying n s) {b : Band} (hb : s.band n = some b) : b.st = .victim ∨ b.st = .erasePending :=
  h b (List.mem_of_find?_eq_some hb) (by simpa using List.find?_some hb)

theorem Emptying.same (h : Emptying n s) (e : SameGeometry s t) : Emptying n t := by
  intro b hb hn
  obtain ⟨a, ha, hk⟩ := List.mem_map.mp (e.1 ▸ List.mem_map_of_mem (f := bandKey) hb)
  have num : b.num = a.num := (congrArg Band.num hk).symm
  have st : b.st = a.st := (congrArg Band.st hk).symm
  rw [st]
  exact h a ha (num.symm.trans hn)

theorem keptByEmptying_emptying : KeptByEmptying (Emptying n) where
  sticky := fun _ _ h => h
  events := fun _ h => h
  prob := fun _ h => h
  notify := fun c m h => h.same (keptByJournal_sameGeometry.notify c m (.refl _))
  reg := fun _ _ _ h => h
  journal := fun _ _ h => h
  counted := fun x e h b hb => h b (e ▸ hb)
  noted := fun m f hf h => h.modBand fun b hb _ hn => by
    rw [(hf b).2]
    exact h b hb ((hf b).1 ▸ hn)
  emptied := fun m h => h.modBand fun _ _ _ _ => .inr rfl
  array := fun _ _ h => h
  pslc := fun _ h => h
  power := fun _ h => h
  loops := fun _ h => h
  fw := fun _ h => h

/-! ### Extents move (R224, R226, R242) -/

/-- A fold that goes on with the best element so far comes to an element of the list. -/
theorem foldl_pick_mem {α : Type} {f : Option α → α → Option α} (first : ∀ a, f none a = some a)
    (next : ∀ y a, ∃ (p : Prop) (_ : Decidable p), f (some y) a = if p then some a else some y) {l : List α} {x : α}
    (h : l.foldl f none = some x) : x ∈ l := by
  refine foldl_keeps (fun o : Option α => ∀ x, o = some x → x ∈ l) f l none (fun _ e => nomatch e) (fun o a ha ho x e => ?_) x h
  cases o with
  | none =>
    rw [first] at e
    cases e
    exact ha
  | some y =>
    obtain ⟨p, _, hp⟩ := next y a
    rw [hp] at e
    split at e
    · cases e
      exact ha
    · exact ho x e

theorem byWear_mem {high : Bool} {l : List Band} {b : Band} (h : s.byWear high l = some b) : b ∈ l :=
  foldl_pick_mem (fun _ => rfl) (fun _ _ => ⟨_, _, rfl⟩) h

theorem belowFirst_subset (s : State) (l : List Band) : s.belowFirst l ⊆ l := by
  unfold State.belowFirst
  split
  · exact fun _ h => h
  · dsimp only
    split
    · exact fun _ h => h
    · exact fun _ h => List.mem_of_mem_filter h

/-- The relocation stream takes an ERASED band. -/
theorem eraseChoice_erased {b : Band} (h : s.eraseChoice 1 = some b) : b ∈ s.upkeep.bands ∧ b.st = .erased := by
  have native := belowFirst_subset s _ (byWear_mem (s := s) (high := true) h)
  obtain ⟨openable, -⟩ := List.mem_filter.mp native
  obtain ⟨hb, hs⟩ := List.mem_filter.mp openable
  refine ⟨hb, ?_⟩
  simp only [State.openable, Bool.and_eq_true, beq_iff_eq] at hs
  exact hs.1.1.1

theorem openBandOf_opened {stream : Nat} {b : Band} (h : s.openBandOf stream = some b) : b ∈ s.upkeep.bands ∧ b.st = .opened := by
  refine ⟨List.mem_of_find?_eq_some h, ?_⟩
  have found := List.find?_some h
  simp only [Bool.and_eq_true, beq_iff_eq] at found
  exact found.1.1.1

namespace Emptying

theorem openStripe {kind : Nat} (h : Emptying n s) : Emptying n (s.openStripe 1 kind) := by
  unfold State.openStripe
  dsimp only
  split
  · exact h
  next b hp =>
  refine ite_keeps (Emptying n) h ?_
  have taken : b ∈ s.upkeep.bands ∧ (b.st = .opened ∨ b.st = .erased) := by
    split at hp
    · cases hp
      next ho => exact ⟨(openBandOf_opened ho).1, .inl (openBandOf_opened ho).2⟩
    · exact ⟨(eraseChoice_erased hp).1, .inr (eraseChoice_erased hp).2⟩
  obtain ⟨hb, hst⟩ := taken
  refine h.modBand (fun a _ ha hn => absurd (h b hb (ha.symm.trans hn)) ?_)
  rcases hst with e | e <;> simp [e]

theorem place {kind len : Nat} {add : Stripe → Stripe} (h : Emptying n s) : Emptying n (s.place 1 kind len add).2 := by
  rw [place_eq]
  have open_ : Emptying n (withOpen 1 kind s) := ite_keeps (Emptying n) h.openStripe h
  unfold placeOpen
  split
  · exact open_
  · split
    · exact open_
    · split
      · exact open_
      · exact open_

theorem takePun {cls i : Nat} {l : List Nat} (h : Emptying n s) (ht : s.takePun cls i = some (l, t)) : Emptying n t := by
  unfold State.takePun at ht
  split at ht
  · cases ht
    exact h
  · split at ht
    · cases ht
      exact foldl_keeps (Emptying n) _ _ s h fun _ _ _ hx => hx
    · cases ht

theorem readBlock {b : Band} {m : Member} {i : Nat} (h : Emptying n s) : Emptying n (s.readBlock b m i) := by
  have k := keptByEmptying_emptying (n := n)
  have asked {x : State} (hx : Emptying n x) : Emptying n (x.request b.num 1 3) := k.noted _ (fun c => by split <;> exact ⟨rfl, rfl⟩) hx
  have front {x : State} {c : Prop} [Decidable c] (hx : Emptying n x) :
      Emptying n (if c then { x with upkeep := { x.upkeep with lapFront := x.upkeep.lapFront ++ [b.num] } } else x) := ite_keeps (Emptying n) hx hx
  exact ite_keeps (Emptying n) (k.capture (k.health (asked (front (x := s.countReads m i) h)))) (front (x := s.countReads m i) h)

theorem readExtent {p : Placed} (h : Emptying n s) : Emptying n (s.readExtent p) := by
  unfold State.readExtent
  split
  · exact h
  · refine keptByEmptying_emptying.count (.inr (by decide)) (foldl_keeps (Emptying n) _ _ s h fun x _ _ hx => ?_)
    split
    · exact hx
    · exact ite_keeps (Emptying n) hx.readBlock (foldl_keeps (Emptying n) _ _ _ hx fun _ _ _ hy => hy.readBlock)

theorem moveOne {kind : Nat} {p : Placed} (h : Emptying n s) : Emptying n (s.moveOne kind p).2 := by
  unfold State.moveOne
  split
  · exact h
  next l s1 ht =>
  have placed := fun (add : Stripe → Stripe) => (h.takePun ht).place (kind := kind) (len := p.len) (add := add)
  dsimp only
  split
  · exact readExtent (placed _)
  · exact placed _

theorem moveList {kind : Nat} {l : List Placed} (h : Emptying n s) : Emptying n (s.moveList kind l) := by
  induction l generalizing s with
  | nil => exact h
  | cons p l ih => exact ite_keeps (Emptying n) (ih h.moveOne) h.moveOne

end Emptying

/-! ### Losses beyond redundancy leave the bands (R320) -/

namespace SameGeometry

theorem capture (h : SameGeometry s t) {code : Nat} {ps : List Nat} : SameGeometry s (t.capture code ps) := keptByJournal_sameGeometry.capture h

theorem lostSpill (h : SameGeometry s t) : SameGeometry s t.lostSpill := by
  unfold State.lostSpill
  split
  · split
    · exact h
    · refine capture ?_
      exact h.congr rfl rfl
  · exact h.congr rfl rfl

theorem recordLoss {sl ns mu slba nlb cause : Nat} {whole : Bool} {band : Option Nat} {old : MapEntry} (h : SameGeometry s t) :
    SameGeometry s (t.recordLoss sl ns mu slba nlb cause whole band old) := by
  have added {r : LostRange} : SameGeometry s (t.addLost r) := ite_keeps (SameGeometry s) h (lostSpill (h.congr rfl rfl))
  unfold State.recordLoss
  extract_lets r a b
  have counted : SameGeometry s b := added.congr rfl rfl
  refine ite_keeps (SameGeometry s) counted ?_
  unfold State.afterLoss
  split
  · exact counted
  · exact ite_keeps (SameGeometry s) (counted.congr rfl rfl) (ite_keeps (SameGeometry s) counted
      (ite_keeps (SameGeometry s) (counted.congr rfl rfl) counted.capture))

theorem loseUnits {sl ns mu i cause : Nat} {band : Option Nat} (h : SameGeometry s t) : SameGeometry s (t.loseUnits sl ns mu i cause band) :=
  foldl_keeps (SameGeometry s) _ _ _ (keptByJournal_sameGeometry.jwrite h) fun _ _ _ hx => recordLoss (hx.congr rfl rfl)

theorem losePart {sl ns mu slba nlb cause : Nat} {band : Option Nat} (h : SameGeometry s t) :
    SameGeometry s (t.losePart sl ns mu slba nlb cause band) := recordLoss ((keptByJournal_sameGeometry.jwrite h).congr rfl rfl)

theorem loseExtents {band cause : Nat} {l : List (Placed × List Nat)} (h : SameGeometry s t) :
    SameGeometry s (t.loseExtents band cause l).2 := by
  unfold State.loseExtents
  extract_lets
  have units {rs : List (Nat × Nat × Nat × Nat)} :
      SameGeometry s (rs.foldl (fun s r => s.loseUnits r.1 r.2.1 r.2.2.1 r.2.2.2 cause (some band)) t) :=
    foldl_keeps (SameGeometry s) _ _ t h fun _ _ _ hx => loseUnits hx
  exact foldl_keeps (SameGeometry s) _ _ _ units fun _ _ _ hx =>
    foldl_keeps (SameGeometry s) _ _ _ (hx.congr rfl rfl) fun _ _ _ hy => losePart hy

theorem loseBand {b : Band} (h : SameGeometry s t) : SameGeometry s (t.loseBand b) := by
  unfold State.loseBand
  split
  · exact h
  · refine foldl_keeps (SameGeometry s) _ _ t h fun x st _ hx => ?_
    dsimp only
    split
    · exact hx
    · refine capture ?_
      exact hx.loseExtents.congr rfl rfl

end SameGeometry

/-! ### A move step -/

theorem band_of_mem (hn : (s.upkeep.bands.map (·.num)).Nodup) {b : Band} (hb : b ∈ s.upkeep.bands) : s.band b.num = some b :=
  find?_of_mem hn hb

theorem SameGeometry.nums (h : SameGeometry s t) : t.upkeep.bands.map (·.num) = s.upkeep.bands.map (·.num) := by
  have nums := congrArg (List.map Band.num) h.1
  rwa [List.map_map, List.map_map] at nums

/-- A band as a move takes it: in VICTIM from FULL, with the KIND of the move. -/
def taken (kind : Nat) (x : Band) : Band := { x with st := if x.st == .full then .victim else x.st, moveKind := kind }

/-- The one band of its number, in FULL or VICTIM, is in VICTIM once it is taken. -/
theorem emptying_taken (hn : (s.upkeep.bands.map (·.num)).Nodup) {b : Band} (hb : b ∈ s.upkeep.bands) (hst : b.st = .full ∨ b.st = .victim)
    {kind : Nat} (h : SameGeometry s t) : Emptying b.num (t.modBand b.num (taken kind)) := by
  intro c hc hcn
  have nums : ((t.modBand b.num (taken kind)).upkeep.bands.map (·.num)).Nodup := by
    rw [show (t.modBand b.num (taken kind)).upkeep.bands.map (·.num) = t.upkeep.bands.map (·.num) from modFirst_map _ _ _ _ fun _ => rfl, h.nums]
    exact hn
  obtain ⟨a, ha, hk⟩ := Option.map_eq_some_iff.mp ((h.band b.num).trans (by rw [band_of_mem hn hb]; rfl))
  have found : (t.modBand b.num (taken kind)).band b.num = some (taken kind a) := by
    refine (modFirst_find?_self t.upkeep.bands (·.num == b.num) (taken kind) fun _ => rfl).trans ?_
    exact congrArg (Option.map (taken kind)) ha
  have only := (band_of_mem nums hc).symm
  rw [hcn, found] at only
  have st : a.st = b.st := (congrArg Band.st hk :)
  rw [Option.some.inj only]
  rcases hst with e | e <;> simp [taken, st, e]

/-- So it is, or empty, when a step has moved what it could. -/
theorem emptying_moveBand (hn : (s.upkeep.bands.map (·.num)).Nodup) {b : Band} (hb : b ∈ s.upkeep.bands) (hst : b.st = .full ∨ b.st = .victim)
    (kind : Nat) : Emptying b.num (s.moveBand b.num kind) := by
  have start : Emptying b.num ((s.loseBand b).modBand b.num (taken kind)) := emptying_taken hn hb hst (SameGeometry.loseBand (.refl s))
  unfold State.moveBand
  rw [band_of_mem hn hb]
  exact keptByEmptying_emptying.settle (Emptying.moveList start)

/-- The step that takes a band and moves it, with what follows. -/
theorem moved_leavesFull (hn : (s.upkeep.bands.map (·.num)).Nodup) {b : Band} (hb : b ∈ s.upkeep.bands) (hst : b.st = .full ∨ b.st = .victim)
    (kind : Nat) : ∀ x, ((s.moveBand b.num kind).settleRelease.smartCheck).band b.num = some x → x.st = .victim ∨ x.st = .erasePending := by
  have k := keptByEmptying_emptying (n := b.num)
  have after : Emptying b.num ((s.moveBand b.num kind).settleRelease.smartCheck) :=
    k.smartCheck (fun _ _ hx => hx) (k.settleRelease (emptying_moveBand hn hb hst kind))
  exact fun x hx => after.band hx

/-! ### What an engine takes (R224, R225, R315) -/

theorem earliest_mem {l : List (Nat × Nat × Nat)} {x : Nat × Nat} (h : earliest l = some x) : ∃ t, (t, x) ∈ l := by
  obtain ⟨y, hy, rfl⟩ := Option.map_eq_some_iff.mp h
  exact ⟨y.1, foldl_pick_mem (fun _ => rfl) (fun _ _ => ⟨_, _, rfl⟩) hy⟩

/-- A FULL band of the number `n` is in the list. -/
def FullBand (s : State) (n : Nat) : Prop := ∃ b ∈ s.upkeep.bands, b.num = n ∧ b.st = .full

theorem oldest_full {cls kind : Nat} (h : s.oldest cls = some (n, kind)) : FullBand s n := by
  obtain ⟨t, ht⟩ := earliest_mem h
  obtain ⟨b, hb, hr⟩ := List.mem_filterMap.mp ht
  obtain ⟨hb, hst⟩ := List.mem_filter.mp hb
  obtain ⟨r, -, e⟩ := Option.map_eq_some_iff.mp hr
  simp only [Prod.mk.injEq] at e
  exact ⟨b, hb, e.2.1, by simpa using hst⟩

theorem classThree_full {kind : Nat} (h : s.classThree = some (n, kind)) : FullBand s n := by
  obtain ⟨t, ht⟩ := earliest_mem h
  obtain ⟨b, hb, e⟩ := List.mem_map.mp ht
  obtain ⟨hb, hst⟩ := List.mem_filter.mp hb
  simp only [Prod.mk.injEq] at e
  simp only [Bool.and_eq_true, beq_iff_eq] at hst
  exact ⟨b, hb, e.2.1, hst.1⟩

theorem gcVictim_full {b : Band} (h : s.gcVictim = some b) : FullBand s b.num := by
  obtain ⟨hb, hst⟩ := List.mem_filter.mp (foldl_pick_mem (fun _ => rfl) (fun _ _ => ⟨_, _, rfl⟩) h)
  simp only [Bool.and_eq_true, beq_iff_eq] at hst
  exact ⟨b, hb, rfl, hst.1⟩

/-- The next victim of any class is a FULL band. -/
theorem nextVictim_full {kind job : Nat} (h : s.nextVictim = some (n, kind, job)) : FullBand s n := by
  unfold State.nextVictim at h
  split at h
  next h1 =>
    cases h
    exact oldest_full h1
  split at h
  next h2 =>
    cases h
    exact oldest_full h2
  split at h
  next h3 =>
    cases h
    exact classThree_full h3
  split at h
  next b h4 =>
    cases h
    split at h4
    · exact gcVictim_full h4
    · cases h4
  · obtain ⟨x, hx, e⟩ := Option.map_eq_some_iff.mp h
    cases e
    exact oldest_full hx

/-- Rebuild takes a band in FULL or VICTIM. -/
theorem nextRebuild_taken {b : Band} (h : s.nextRebuild = some b) : b ∈ s.upkeep.bands ∧ (b.st = .full ∨ b.st = .victim) := by
  obtain ⟨hb, hst⟩ := List.mem_filter.mp (foldl_pick_mem (fun _ => rfl) (fun _ _ => ⟨_, _, rfl⟩) h)
  simp only [Bool.and_eq_true, Bool.or_eq_true, beq_iff_eq] at hst
  exact ⟨List.mem_of_mem_filter hb, hst.1⟩

end Sys2Proof
end

section
/-! PROOFS. Reshape, array creation, moves and rebuild: O50 clause by clause. -/

namespace Sys2Proof

open Sys2Proof.Machine

variable {s t u : State} {eng : Nat} {k : Option (BitVec 128) × Nat × Nat × Nat}

/-! ### What outlasts an admission (R333, R340) -/

/-- The array is known by `k`. -/
def Identified (k : Option (BitVec 128) × Nat × Nat × Nat) (t : State) : Prop := arrayIdent t.array = k

theorem keptByGathering_identified : KeptByGathering (Identified k) where
  toKeptByRecorder := keptByRecorder_of_aside fun a h => (congrArg arrayIdent a.recorded.array).trans h
  reg := fun _ _ _ h => h
  journal := fun _ _ h => h
  upkeep := fun _ h => h
  mem := fun _ h => h
  buf := fun _ h => h
  again := fun _ h => h
  opened := fun _ h => h
  grown := fun _ _ _ _ h => h

theorem keptByEmptying_identified : KeptByEmptying (Identified k) where
  toKeptByJournal := keptByGathering_identified.toKeptByJournal
  counted := fun _ _ h => h
  noted := fun _ _ _ h => h
  emptied := fun _ h => h
  array := fun _ e h => e.trans h
  pslc := fun _ h => h
  power := fun _ h => h
  loops := fun _ h => h
  fw := fun _ h => h

namespace Identified

theorem startAdmit {i : Nat} (h : Identified k s) : Identified k (s.startAdmit i) :=
  let e := keptByEmptying_identified
  e.modCarrier (e.array _ rfl (e.writeRec (e.jsync h)))

theorem startRebuild {i delay : Nat} (h : Identified k s) : Identified k (s.startRebuild i delay) := by
  unfold State.startRebuild
  refine keptByEmptying_identified.settle (keptByEmptying_identified.capture ?_)
  exact foldl_keeps (Identified k) _ _ s h fun _ _ _ hx => keptByEmptying_identified.memberRec hx

theorem reformNew {n : Nat} (h : Identified k s) : Identified k (s.reformNew n) := by
  unfold State.reformNew
  split
  · exact h
  · dsimp only
    split
    · exact h
    · exact h

theorem reformLanding (h : Identified k s) : Identified k s.reformLanding :=
  foldl_keeps (Identified k) _ _ s h fun _ _ _ hx => ite_keeps (Identified k) hx.reformNew hx

theorem formBands {fuel : Nat} (h : Identified k s) : Identified k (s.formBands fuel) := by
  induction fuel generalizing s with
  | zero => exact h
  | succ fuel ih =>
    unfold State.formBands
    split
    · exact h
    · exact ih h

theorem finishAdmit (h : Identified k s) : Identified k s.finishAdmit := by
  have e := keptByEmptying_identified (k := k)
  unfold State.finishAdmit
  extract_lets ks left create members a dies src b c d fuel
  split
  · exact h
  have online : Identified k b := e.array _ rfl (e.newMembers h)
  have admitted : Identified k c :=
    foldl_keeps (Identified k) _ _ b online fun _ _ _ hx =>
      have entered := e.counted _ rfl (e.modCarrier hx)
      e.modCarrier (e.capture entered)
  have rebuilt : Identified k d := foldl_keeps (Identified k) _ _ c admitted fun _ _ _ hx => hx.startRebuild
  exact keptByGathering_identified.gatherHost (e.setRegime (e.setPslc (e.setPool rebuilt.reformLanding.formBands)))

theorem createArray {d p unit : Nat} {cars : List Nat} {i : BitVec 128} : Identified (some i, d, p, unit) (s.createArray d p unit cars i) := by
  have e := keptByEmptying_identified (k := (some i, d, p, unit))
  refine finishAdmit (e.capture (e.writeSettings ?_))
  exact foldl_keeps (Identified (some i, d, p, unit)) _ _ _ rfl fun _ _ _ hx => hx.startAdmit

end Identified

/-! ### Reshape and CREATE (R328, R333) -/

variable {e : Nat} {c : Cct} {i : BitVec 128}

theorem reshape_refused (h : OnEntry s e 0xCE false c) (hd : onlyDws c.cap 0x3FF 0 0 0 0 0 = true) (hc : c.cap.dw10.getLsbD 8 = false)
    (hr : (s.reshapeStatus (dwBits c.cap.dw10 3 0) (dwBits c.cap.dw10 7 4) (c.cap.dw10.getLsbD 9)).1 ≠ St.ok) : exec (.reshape e i) s =
      .next (s.answer c (s.reshapeStatus (dwBits c.cap.dw10 3 0) (dwBits c.cap.dw10 7 4) (c.cap.dw10.getLsbD 9)).1
        (s.reshapeStatus (dwBits c.cap.dw10 3 0) (dwBits c.cap.dw10 7 4) (c.cap.dw10.getLsbD 9)).2).smartCheck := by
  have refused := bne_iff_ne.mpr hr
  show execReshape e i s = _
  simp only [execReshape, withCmd_onEntry h, hd, hc, refused, Bool.not_true, Bool.false_eq_true, if_false, if_true]
  rfl

/-- An accepted Reshape starts at band 0 with event 0x0B. -/
theorem reshape_starts (hs : Safe s) (h : OnEntry s e 0xCE false c) (hd : onlyDws c.cap 0x3FF 0 0 0 0 0 = true) (hc : c.cap.dw10.getLsbD 8 = false)
    (hr : (s.reshapeStatus (dwBits c.cap.dw10 3 0) (dwBits c.cap.dw10 7 4) (c.cap.dw10.getLsbD 9)).1 = St.ok) :
    Completes (.reshape e i) s (fun t => t.array.reshape = some (dwBits c.cap.dw10 3 0, dwBits c.cap.dw10 7 4, 0, s.seed.now) ∧
      (t.sticky 10).getLsbD 11 = true) := by
  let a : State := { s with array := { s.array with reshape := some (dwBits c.cap.dw10 3 0, dwBits c.cap.dw10 7 4, 0, s.seed.now) } }
  let b := a.jsync (.boundary 0 s.array.d s.array.p (dwBits c.cap.dw10 3 0) (dwBits c.cap.dw10 7 4))
  let ps := [s.array.d, s.array.p, dwBits c.cap.dw10 3 0, dwBits c.cap.dw10 7 4]
  have accepted : ((s.reshapeStatus (dwBits c.cap.dw10 3 0) (dwBits c.cap.dw10 7 4) (c.cap.dw10.getLsbD 9)).1 != St.ok) = false := by
    rw [hr, bne_self_eq_false]
  have safe : Safe b := Safe.jsync (s := a) hs
  have marked : Marked 10 11 (b.setPool.capture 0x0A0B ps) := marked_code (s := b.setPool) safe (by decide +kernel) rfl rfl (by decide)
  have final : Recorded b.setPool (((b.setPool.capture 0x0A0B ps).reply c St.ok).smartCheck) :=
    (aside_smartCheck _).recorded.after ((aside_finish ..).recorded.after (recorded_capture ..))
  refine ⟨((b.setPool.capture 0x0A0B ps).reply c St.ok).smartCheck, ?_, ?_, ?_⟩
  · show execReshape e i s = _
    simp only [execReshape, withCmd_onEntry h, hd, hc, accepted, Bool.not_true, Bool.false_eq_true, if_false]
    rfl
  · rw [final.array]
    exact congrArg Array_.reshape (recorded_jsync a _).array
  · exact (Marked.smartCheck (s := (b.setPool.capture 0x0A0B ps).reply c St.ok) (marked.of_regs rfl)).2

theorem reshape_creates (h : OnEntry s e 0xCE false c) (hd : onlyDws c.cap 0x3FF 0 0 0 0 0 = true) (hc : c.cap.dw10.getLsbD 8 = true)
    (h0 : dwBits c.cap.dw10 3 0 ≠ 0) (hn : s.array.arrayId = none) (hg : geomOk (dwBits c.cap.dw10 3 0) (dwBits c.cap.dw10 7 4) = true)
    (hl : dwBits c.cap.dw10 3 0 + dwBits c.cap.dw10 7 4 ≤ ((List.range 16).filter (fun k => (s.carrier k).st == 2)).length)
    (hb : ∀ x ∈ s.array.carriers, x.st ≠ 1) : Completes (.reshape e i) s (fun t => t.array.arrayId = some i ∧
      t.array.d = dwBits c.cap.dw10 3 0 ∧ t.array.p = dwBits c.cap.dw10 7 4 ∧ t.array.mapUnitKib = s.arrayRec.1) := by
  let cars := (List.range 16).filter fun k => (s.carrier k).st == 2 || (c.cap.dw10.getLsbD 9 && (s.carrier k).st == 3)
  let w := s.createArray (dwBits c.cap.dw10 3 0) (dwBits c.cap.dw10 7 4) s.arrayRec.1 cars i
  have given : (dwBits c.cap.dw10 3 0 == 0 && dwBits c.cap.dw10 7 4 == 0) = false := by simp [h0]
  have enough : ¬ cars.length < dwBits c.cap.dw10 3 0 + dwBits c.cap.dw10 7 4 := by
    refine Nat.not_lt.mpr (hl.trans (List.Sublist.length_le (List.monotone_filter_right _ fun k hk => ?_)))
    simp only [hk, Bool.true_or]
  have idle : s.array.carriers.any (·.st == 1) = false := List.any_eq_false.mpr fun x hx => by simpa using hb x hx
  have made : Identified (some i, dwBits c.cap.dw10 3 0, dwBits c.cap.dw10 7 4, s.arrayRec.1) w := Identified.createArray
  have final : (w.reply c St.ok).smartCheck.array = w.array := ((aside_smartCheck _).recorded.after (aside_finish ..).recorded).array
  refine ⟨(w.reply c St.ok).smartCheck, ?_, ?_⟩
  · show execReshape e i s = _
    simp only [execReshape, withCmd_onEntry h, hd, hc, given, hn, hg, idle, Bool.not_true, Bool.false_eq_true, if_false, if_true,
      Option.isSome_none, Bool.and_false, Bool.or_false]
    exact congrArg State.done (if_neg fun few => enough (of_decide_eq_true few))
  · simp only [final]
    simp only [Identified, arrayIdent, Prod.mk.injEq] at made
    exact made

/-! ### The steps of a reshape (R329 to R332) -/

variable {dn pn n a : Nat}

theorem setBoundary_reshape (h : s.array.reshape = some (dn, pn, n, a)) (b : Nat) :
    (s.setBoundary b).array.reshape = some (dn, pn, b, a) := by
  simp only [State.setBoundary, h]

theorem reshapeStep_idle (h : s.array.reshape = none) : exec .reshapeBandStep s = .next s := by
  show execReshapeBandStep s = _
  simp only [execReshapeBandStep, h]

/-- No band of the rebuild set and no map page goes first. -/
theorem reshapeStep_acts (hm : s.canMaintain = true) (hr : s.nextRebuild = none) (hf : s.mapFirst = false) :
    (!s.canMaintain || s.nextRebuild.isSome || s.mapFirst) = false := by
  simp [hm, hr, hf]

/-- Past the last band the reshape ends, with event 0x0C. -/
theorem reshapeStep_ends (hs : Safe s) (h : s.array.reshape = some (dn, pn, n, a)) (hm : s.canMaintain = true) (hr : s.nextRebuild = none)
    (hf : s.mapFirst = false) (hl : s.nextBand ≤ n) : Completes .reshapeBandStep s (fun t =>
      t.array.reshape = none ∧ t.array.d = dn ∧ t.array.p = pn ∧ (t.sticky 10).getLsbD 12 = true) := by
  let b := s.jsync (.boundary 0xFFFFFFFF s.array.d s.array.p dn pn)
  let w : State := { b with array := { b.array with d := dn, p := pn, reshape := none } }
  let ps := [dn, pn, n, w.since a / 1000000]
  have safe : Safe w.writeSettings := Safe.writeSettings (s := w) (Safe.jsync hs)
  have marked : Marked 10 12 (w.writeSettings.setPool.capture 0x0A0C ps) :=
    marked_code (s := w.writeSettings.setPool) safe (by decide +kernel) rfl rfl (by decide)
  have array : (w.writeSettings.setPool.capture 0x0A0C ps).array = w.writeSettings.setPool.array := (recorded_capture ..).array
  have settings : w.writeSettings.array = w.array := ite_keeps (fun t : State => t.array = w.array) rfl rfl
  refine ⟨w.writeSettings.setPool.capture 0x0A0C ps, ?_, ?_, ?_, ?_, marked.2⟩
  · show execReshapeBandStep s = _
    simp only [execReshapeBandStep, h, reshapeStep_acts hm hr hf, hl, State.endReshape, Bool.false_eq_true, if_false, if_true]
    rfl
  · rw [array]
    exact congrArg Array_.reshape settings
  · rw [array]
    exact congrArg Array_.d settings
  · rw [array]
    exact congrArg Array_.p settings

/-- A start that is granted goes on from the state whose share is taken; one that is not only leaves its share. -/
theorem granted_runs {q : Paced} (f : State → Out) (h : (s.paced q).1 = true) : s.granted q f = f (s.paced q).2 := if_pos h

theorem granted_waits {q : Paced} (f : State → Out) (h : (s.paced q).1 = false) : s.granted q f = .next (s.paced q).2 := by
  simp [State.granted, h]

theorem reshapeStep_waits (h : s.array.reshape = some (dn, pn, n, a)) (hm : s.canMaintain = true) (hr : s.nextRebuild = none)
    (hf : s.mapFirst = false) (hl : n < s.nextBand) (hp : (s.paced .engine).1 = false) :
    exec .reshapeBandStep s = .next (s.paced .engine).2 := by
  show execReshapeBandStep s = _
  simp only [execReshapeBandStep, h, reshapeStep_acts hm hr hf, Nat.not_le.mpr hl, Bool.false_eq_true, if_false, granted_waits _ hp]

/-- The boundary moves over a band that is absent, erased or waiting for its erase. -/
theorem reshapeStep_moves (h : s.array.reshape = some (dn, pn, n, a)) (hm : s.canMaintain = true) (hr : s.nextRebuild = none)
    (hf : s.mapFirst = false) (hl : n < s.nextBand) (hp : (s.paced .engine).1 = true)
    (hb : ∀ b, s.band n = some b → b.st = .erased ∨ b.st = .erasePending ∨ b.st = .erasing) :
    Completes .reshapeBandStep s (fun t => t.array.reshape = some (dn, pn, n + 1, a)) := by
  obtain ⟨th, rest⟩ := paced_rest .engine s
  let w : State := { s with thermal := th }
  have moved : (w.setBoundary (n + 1)).array.reshape = some (dn, pn, n + 1, a) := setBoundary_reshape (s := w) h _
  have reformed : ((w.setBoundary (n + 1)).reformNew n).array = (w.setBoundary (n + 1)).array := by
    unfold State.reformNew
    split
    · rfl
    · dsimp only
      split
      · rfl
      · rfl
  have acts : ∃ t, exec .reshapeBandStep s = .next t ∧ (t = w.setBoundary (n + 1) ∨ t = (w.setBoundary (n + 1)).reformNew n) := by
    show ∃ t, execReshapeBandStep s = .next t ∧ _
    simp only [execReshapeBandStep, h, reshapeStep_acts hm hr hf, Nat.not_le.mpr hl, Bool.false_eq_true, if_false, granted_runs _ hp, rest]
    split
    · exact ⟨_, rfl, .inl rfl⟩
    next b hn =>
      rcases hb b hn with st | st | st
      · rw [st]
        exact ⟨_, rfl, .inr rfl⟩
      · rw [st]
        exact ⟨_, rfl, .inl rfl⟩
      · rw [st]
        exact ⟨_, rfl, .inl rfl⟩
  obtain ⟨t, runs, rfl | rfl⟩ := acts
  · exact ⟨_, runs, moved⟩
  · exact ⟨_, runs, (congrArg Array_.reshape reformed).trans moved⟩

/-! ### Moves and rebuild (R212, R224, R307, R315, R316, R472) -/

theorem engines_rest (h : s.mapFirst = true ∨ s.canMaintain = false) :
    exec (.maintenanceMoveStart eng) s = .next s ∧ exec (.rebuildStart eng) s = .next s := by
  have stays : (!s.canMaintain || decide (4 ≤ eng) || s.mapFirst) = true := by rcases h with h | h <;> simp [h]
  exact ⟨if_pos stays, if_pos stays⟩

/-- What an engine may do where maintenance runs and map pages do not go first. -/
theorem engine_acts (he : eng < 4) (hm : s.canMaintain = true) (hf : s.mapFirst = false) :
    ¬ (!s.canMaintain || decide (4 ≤ eng) || s.mapFirst) = true := by
  simp [hm, hf, he]

theorem engines_wait (he : eng < 4) (hm : s.canMaintain = true) (hf : s.mapFirst = false) (hp : (s.paced .engine).1 = false) :
    exec (.maintenanceMoveStart eng) s = .next (s.paced .engine).2 ∧ exec (.rebuildStart eng) s = .next (s.paced .engine).2 :=
  ⟨(if_neg (engine_acts he hm hf)).trans (granted_waits _ hp), (if_neg (engine_acts he hm hf)).trans (granted_waits _ hp)⟩

section Granted

variable (he : eng < 4) (hm : s.canMaintain = true) (hf : s.mapFirst = false) (hp : (s.paced .engine).1 = true)
  (hi : s.upkeep.moving.getD eng none = none)
include he hm hf hp hi

/-- An idle engine takes the next victim, or none. -/
theorem moveStart_idle : exec (.maintenanceMoveStart eng) s = match s.nextVictim with
    | none => .next (s.paced .engine).2
    | some v => .next (((((s.paced .engine).2.engage eng v.2.2 v.1).moveBand v.1 v.2.1).settleRelease).smartCheck) := by
  obtain ⟨th, rest⟩ := paced_rest .engine s
  refine (if_neg (engine_acts he hm hf)).trans ((granted_runs _ hp).trans ?_)
  have idle : (s.paced .engine).2.upkeep.moving.getD eng none = none := by rw [rest]; exact hi
  have victim : (s.paced .engine).2.nextVictim = s.nextVictim := by rw [rest]; rfl
  simp only [idle, victim]
  cases s.nextVictim <;> rfl

theorem moveStart_victim (hn : (s.upkeep.bands.map (·.num)).Nodup) {num kind job : Nat} (hv : s.nextVictim = some (num, kind, job)) :
    Completes (.maintenanceMoveStart eng) s (fun t => ∀ b, t.band num = some b → b.st = .victim ∨ b.st = .erasePending) := by
  obtain ⟨th, rest⟩ := paced_rest .engine s
  obtain ⟨b, hb, rfl, hst⟩ := nextVictim_full hv
  have runs := moveStart_idle he hm hf hp hi
  rw [hv, rest] at runs
  exact ⟨_, runs, moved_leavesFull (s := State.engage eng job b.num { s with thermal := th }) hn hb (.inl hst) kind⟩

/-- An idle engine takes the next band of the rebuild set, waits for space, or has none. -/
theorem rebuildStart_idle : exec (.rebuildStart eng) s = match s.nextRebuild with
    | none => .next (s.paced .engine).2
    | some b => if s.outOfSpace then .next (s.paced .engine).2.waitSpace
      else .next (((((s.paced .engine).2.engage eng 6 b.num).moveBand b.num (s.rebuildKind b)).settleRelease).smartCheck) := by
  obtain ⟨th, rest⟩ := paced_rest .engine s
  refine (if_neg (engine_acts he hm hf)).trans ((granted_runs _ hp).trans ?_)
  have idle : (s.paced .engine).2.upkeep.moving.getD eng none = none := by rw [rest]; exact hi
  have next : (s.paced .engine).2.nextRebuild = s.nextRebuild := by rw [rest]; rfl
  have space : (s.paced .engine).2.outOfSpace = s.outOfSpace := by rw [rest]; rfl
  have kind : (s.paced .engine).2.rebuildKind = s.rebuildKind := by rw [rest]; rfl
  simp only [idle, next, space, kind]
  cases s.nextRebuild <;> rfl

theorem rebuildStart_takes (hn : (s.upkeep.bands.map (·.num)).Nodup) {b : Band} (hb : s.nextRebuild = some b) (hs : s.outOfSpace = false) :
    Completes (.rebuildStart eng) s (fun t => ∀ x, t.band b.num = some x → x.st = .victim ∨ x.st = .erasePending) := by
  obtain ⟨th, rest⟩ := paced_rest .engine s
  obtain ⟨mem, hst⟩ := nextRebuild_taken hb
  have runs := rebuildStart_idle he hm hf hp hi
  simp only [hb, hs, Bool.false_eq_true, if_false, rest] at runs
  exact ⟨_, runs, moved_leavesFull (s := State.engage eng 6 b.num { s with thermal := th }) hn mem hst _⟩

/-- Rebuild waits for space, with event 0x06. -/
theorem rebuildStart_waits (safe : Safe s) {b : Band} (hb : s.nextRebuild = some b) (hs : s.outOfSpace = true)
    (hw : s.upkeep.noSpace = false) : Completes (.rebuildStart eng) s (fun t => t.upkeep.noSpace = true ∧ (t.sticky 10).getLsbD 6 = true) := by
  obtain ⟨th, rest⟩ := paced_rest .engine s
  have runs := rebuildStart_idle he hm hf hp hi
  let w : State := { s with thermal := th, upkeep := { s.upkeep with noSpace := true } }
  have waits : ∃ ps, State.waitSpace { s with thermal := th } = w.capture 0x0A06 ps := ⟨_, if_neg (by simp [hw])⟩
  obtain ⟨ps, waits⟩ := waits
  simp only [hb, hs, if_true, rest, waits] at runs
  have marked : Marked 10 6 (w.capture 0x0A06 ps) := marked_code (s := w) safe (by decide +kernel) rfl rfl (by decide)
  exact ⟨_, runs, (congrArg (·.upkeep.noSpace) (recorded_capture w 0x0A06 ps).rest :), marked.2⟩

end Granted

/-! ### The clauses together -/

/-- Settles O50: a Reshape and a boundary step change the array's record of itself, which what follows keeps (`Identified`, `Recorded`); the
band a move takes is in VICTIM or empty to the end of the step (`moved_leavesFull`). -/
theorem reshapeRebuildAndMovesRun : Obligations.ReshapeRebuildAndMovesRun := by
  intro s hs _
  refine ⟨fun e c i h hd => ⟨fun hc => ⟨reshape_refused h hd hc, reshape_starts hs h hd hc⟩, reshape_creates h hd⟩, reshapeStep_idle,
    fun dn pn n a h hm hr hf => ⟨reshapeStep_ends hs h hm hr hf, reshapeStep_moves h hm hr hf, reshapeStep_waits h hm hr hf⟩,
    fun eng _ => engines_rest, fun eng he => engines_wait he, fun eng he hm hf hp hn hi => ⟨?_, ?_, ?_, ?_, ?_⟩⟩
  · exact fun _ _ _ => moveStart_victim he hm hf hp hi hn
  · intro none
    rw [moveStart_idle he hm hf hp hi, none]
  · exact fun _ => rebuildStart_takes he hm hf hp hi hn
  · exact fun _ => rebuildStart_waits he hm hf hp hi hs
  · intro none
    rw [rebuildStart_idle he hm hf hp hi, none]

end Sys2Proof
end

section
/-! PROOFS. The check of the Critical Warnings (O24). -/

namespace Sys2Proof

open Sys2Proof.Machine

/-- Where every controller's warnings are as they were, the check changes nothing: none of its rounds finds a change. -/
theorem smartCheck_of_unchanged {s : State} (h : ∀ c ∈ s.eng.ctrls, s.critWarn c = c.warn) : s.smartCheck = s :=
  foldl_keeps (· = s) _ _ s rfl fun _ c hc hx => by
    subst hx
    exact if_pos (h c hc)

/-- Settles O24: the frame is `aside_smartCheck`, and a check that finds no change has no effect. -/
theorem warningsAreCheckedAside : Obligations.WarningsAreCheckedAside :=
  fun s => ⟨aside_smartCheck s, smartCheck_of_unchanged⟩

end Sys2Proof
end

section
/-! PROOFS. An erase whose block is read again before the step ends (O56). -/

namespace Sys2Proof

open Sys2Proof.Machine

/-- The member of the band that is erased, on die 0. -/
def erasedMember : Member := { die := 0, gen := 1, block := 0 }

/-- The erase that die 0 runs. -/
def erasingOp : DieOp := { id := 1, cls := 4, kind := 3, band := 0, stripe := 0, mem := 0, at_ := 0, started := true }

/-- Die 0. -/
def erasingDie : Die := { idx := 0, gen := 1, op := 3, opId := 1, queue := [erasingOp] }

/-- A band in ERASING whose two members are still to be erased. -/
def erasingBand : Band :=
  { num := 0, st := .erasing, d := 1, p := 1, members := [erasedMember, { die := 128, gen := 1, block := 0 }] }

/-- One raw granule, stored in that band. -/
def storedExtent : Extent :=
  { compressed := false, pi := false, payloadLen := 512, origLen := 512, crc := 0, key := 0, nsid := 1, mu := 0, orig := [] }

/-- Band 0 is being erased while the map still names an extent in it. The relocation stripe that was to hold its copy ended without a
commit, so the extent waits to be placed again; the open stripe of band 1 has room for it. -/
def rereadState : State :=
  { glb := { state := .ready, powered := true, bootStep := 11 }
    array := { dies := [erasingDie, { idx := 128, gen := 1 }, { idx := 256, gen := 1 }, { idx := 384, gen := 1 }] }
    upkeep := {
      bands := [erasingBand, { num := 1, st := .opened, stream := 1, d := 1, p := 1, nextStripe := 1,
                               members := [{ die := 256, gen := 1, block := 0 }, { die := 384, gen := 1, block := 0 }] }] }
    store := {
      map := [{ slice := 1, nsid := 1, mu := 0, e := { loc := .band 0 } }]
      placed := [{ gran := 0, len := 1, slice := 1, nsid := 1, mu := 0, x := storedExtent, band := 0, stripe := 0, off := 0 }]
      stripes := [{ stream := 1, band := 1, stripe := 0, d := 1, p := 1, kind := 1 }]
      again := [(1, { slice := 1, nsid := 1, mu := 0, x := storedExtent, len := 1, off := 0, src := some (0, false) })] } }

/-- The read count of a block in the state a meaning answers. -/
def readsOf (die block : Nat) : Out → Option Nat
  | .next t => some (t.block die block).reads
  | _ => none

/-- The erase clears the block's reads; then the extent is placed again, which reads it from the block (R226, R240, R250). -/
theorem eraseStatus_rereadState : readsOf 0 0 (exec (.eraseStatus 0 0 .pass 0) rereadState) = some 1 := by decide +kernel

/-- Refutes O56 in its clause on an erase that passes: in `rereadState` the step goes on to place waiting relocation extents again, and the
read count of the erased block is 1 at its end. -/
theorem not_erasesPatrolAndAgeingKeepTheMedia : ¬ Obligations.ErasesPatrolAndAgeingKeepTheMedia := by
  intro h
  obtain ⟨erases, -⟩ := h rereadState (by unfold Safe; decide) (by unfold Shape; decide) (by decide)
  obtain ⟨-, -, -, statuses, -⟩ := erases 0 erasingBand rfl
  obtain ⟨⟨t, ht, -, cleared, -⟩, -⟩ := statuses 0 0 erasedMember erasingDie erasingOp (by decide) rfl rfl rfl (by decide +kernel)
  have reads := eraseStatus_rereadState
  rw [ht] at reads
  exact absurd (cleared.symm.trans (Option.some.inj reads)) Nat.zero_ne_one

end Sys2Proof
end

section
/-! PROOFS. The flip controls (O21). -/

namespace Sys2Proof

open Sys2Proof.Machine

variable {s : State} {v : Word}

/-! ### Fields of a word that is written (R12) -/

theorem fld_setReg (hs : Safe s) (off : Nat) (w : Word) (hi lo : Nat) : (s.setReg off w).fld off hi lo = bits w hi lo := by
  rw [State.fld, State.reg_setReg hs, if_pos rfl]

/-- A register reads after the check of the warnings what it read before. -/
theorem smartCheck_reg (s : State) (off : Nat) : s.smartCheck.reg off = s.reg off := by
  unfold State.reg
  rw [smartCheck_regs]

theorem fld_written (hs : Safe s) (off : Nat) (w : Word) (hi lo : Nat) : (s.setReg off w).smartCheck.fld off hi lo = bits w hi lo := by
  rw [State.fld, smartCheck_reg, State.reg_setReg hs, if_pos rfl]

/-- A state that stores one register and then checks the warnings differs aside from the write alone. -/
theorem aside_written (hs : Safe s) (off : Nat) (w : Word) :
    Aside (s.setReg off ((s.setReg off w).smartCheck.reg off)) (s.setReg off w).smartCheck := by
  rw [smartCheck_reg, State.reg_setReg hs, if_pos rfl]
  exact aside_smartCheck _

/-- ARM, at bit 8 of a word whose other fields are `n`, reads whether the register is armed. -/
theorem bits_arm {n : Nat} {arm : Prop} [Decidable arm] (h8 : n / 256 % 2 = 0) :
    bits (BitVec.ofNat 32 (n + atBit 8 (if arm then 1 else 0))) 8 8 = 1 ↔ arm := by
  simp only [bits, atBit, BitVec.toNat_ofNat]
  split
  · next h => exact iff_of_true (by omega) h
  · next h => exact iff_of_false (by omega) h

/-- Fields below ARM. -/
theorem bits_belowArm {n k a : Nat} (hk : k < 8) (h : n < 2 ^ (k + 1)) (ha : a < 2) : bits (BitVec.ofNat 32 (n + atBit 8 a)) k 0 = n := by
  have small : n < 2 ^ 8 := h.trans_le (Nat.pow_le_pow_right (by decide) hk)
  have split : (n + 256 * a) % 2 ^ (k + 1) = n := by
    obtain ⟨q, hq⟩ := Nat.pow_dvd_pow 2 (show k + 1 ≤ 8 from hk)
    rw [show 256 * a = 2 ^ (k + 1) * (q * a) by rw [← Nat.mul_assoc, ← hq], Nat.add_mul_mod_self_left, Nat.mod_eq_of_lt h]
  simp only [bits, atBit, BitVec.toNat_ofNat, Nat.sub_zero, pow_zero, Nat.div_one]
  rw [Nat.mod_eq_of_lt (show n + a * 2 ^ 8 < 2 ^ 32 by omega), Nat.mul_comm]
  exact split

theorem bits_lt (w : Word) (hi lo : Nat) : bits w hi lo < 2 ^ (hi + 1 - lo) := Nat.mod_lt _ (Nat.two_pow_pos _)

/-! ### PN_FLIP_CTL (R411, R412) -/

/-- What a write of PN_FLIP_CTL stores while it runs no test. -/
def pnFlipWord (s : State) (v : Word) : Word :=
  BitVec.ofNat 32 (bits v 7 0 + atBit 8 (if bits (s.reg Reg.PN_FLIP_CTL) 8 8 = 1 ∨ bits v 8 8 = 1 then 1 else 0))

theorem pnFlipArm_stores (hs : Safe s) (run : bits v 9 9 = 0) : Completes (.pnFlipArm v) s (fun t =>
    t.fld Reg.PN_FLIP_CTL 7 0 = bits v 7 0 ∧
    (t.fld Reg.PN_FLIP_CTL 8 8 = 1 ↔ s.fld Reg.PN_FLIP_CTL 8 8 = 1 ∨ bits v 8 8 = 1) ∧
    Aside (s.setReg Reg.PN_FLIP_CTL (t.reg Reg.PN_FLIP_CTL)) t) := by
  have mask := bits_lt v 7 0
  refine ⟨(s.setReg Reg.PN_FLIP_CTL (pnFlipWord s v)).smartCheck, ?_, ?_, ?_, aside_written hs ..⟩
  · exact congrArg State.done (if_pos run)
  · rw [fld_written hs]
    exact bits_belowArm (by decide) mask (by split <;> decide)
  · rw [fld_written hs]
    exact bits_arm (by omega)

/-- With nothing armed the test reads back clean, where the pool gives it a punnet. -/
theorem pnFlipRun_unarmed (run : bits v 9 9 = 1) (hv : bits v 8 8 = 0) (hf : s.fld Reg.PN_FLIP_CTL 8 8 = 0) :
    Completes (.pnFlipRun v) s (fun t =>
      t.mem.pnResult = if (s.setReg Reg.PN_FLIP_CTL (BitVec.ofNat 32 (bits v 7 0))).punMay 0 1 then 1 else 4) := by
  let u := s.setReg Reg.PN_FLIP_CTL (BitVec.ofNat 32 (bits v 7 0))
  let w : State := { u with mem := { u.mem with pnResult := if u.punMay 0 1 then 1 else 4 } }
  have unarmed : ¬ (bits (s.reg Reg.PN_FLIP_CTL) 8 8 = 1 ∨ bits v 8 8 = 1) := by
    unfold State.fld at hf
    omega
  have tested : s.pnFlipWrite v = w := by
    simp only [State.pnFlipWrite, unarmed, run, if_false, atBit, Nat.zero_mul, Nat.add_zero, State.testResult, if_true]
    by_cases may : u.punMay 0 1 = true
    · simp [w, u, may]
    · simp [w, u, may]
  refine ⟨w.smartCheck, congrArg State.done tested, ?_⟩
  exact (congrArg (·.mem.pnResult) (aside_smartCheck w).rest :)

/-! ### Q_FLIP_CTL (R415) -/

theorem qFlipArm_stores (hs : Safe s) : Completes (.qFlipArm v) s (fun t => t = s.setReg Reg.Q_FLIP_CTL (t.reg Reg.Q_FLIP_CTL) ∧
    t.fld Reg.Q_FLIP_CTL 0 0 = bits v 0 0 ∧
    (t.fld Reg.Q_FLIP_CTL 8 8 = 1 ↔
      s.fld Reg.Q_FLIP_CTL 8 8 = 1 ∨ (bits v 8 8 = 1 ∧ popcount (s.reg Reg.Q_FLIP_MASK) ≤ 2))) := by
  have die := bits_lt v 0 0
  refine ⟨_, rfl, ?_, ?_, ?_⟩
  · rw [State.reg_setReg hs, if_pos rfl]
  · rw [fld_setReg hs]
    exact bits_belowArm (by decide) die (by split <;> decide)
  · rw [fld_setReg hs]
    exact bits_arm (by omega)

/-! ### DRAM_FLIP_CTL (R421) -/

/-- CHECK_MASK, CH and SUB as a write of DRAM_FLIP_CTL takes them. -/
def dramFlipFields (v : Word) : Nat := atBit 24 (bits v 31 24) + (atBit 10 (bits v 11 10) + atBit 9 (bits v 9 9))

/-- What a write of DRAM_FLIP_CTL stores while it runs no test. -/
def dramFlipWord (s : State) (v : Word) : Word :=
  BitVec.ofNat 32 (dramFlipFields v + atBit 8 (if bits (s.reg Reg.DRAM_FLIP_CTL) 8 8 = 1 ∨ bits v 8 8 = 1 then 1 else 0))

theorem dramFlipFields_arm (v : Word) : dramFlipFields v / 256 % 2 = 0 := by
  unfold dramFlipFields atBit
  omega

theorem bits_dramFlipWord (s : State) (v : Word) : bits (dramFlipWord s v) 31 24 = bits v 31 24 := by
  have mask := bits_lt v 31 24
  have ch := bits_lt v 11 10
  have sub := bits_lt v 9 9
  have arm (c : Prop) [Decidable c] : (if c then 1 else 0) < 2 := by split <;> decide
  have arm := arm (bits (s.reg Reg.DRAM_FLIP_CTL) 8 8 = 1 ∨ bits v 8 8 = 1)
  unfold dramFlipWord dramFlipFields
  generalize (if bits (s.reg Reg.DRAM_FLIP_CTL) 8 8 = 1 ∨ bits v 8 8 = 1 then 1 else 0) = a at arm
  generalize bits v 31 24 = m at mask
  generalize bits v 11 10 = c at ch
  generalize bits v 9 9 = b at sub
  simp only [bits, atBit, BitVec.toNat_ofNat]
  omega

theorem dramFlipArm_stores (hs : Safe s) (run : bits v 0 0 = 0) : Completes (.dramFlipArm v) s (fun t =>
    t.fld Reg.DRAM_FLIP_CTL 31 24 = bits v 31 24 ∧
    (t.fld Reg.DRAM_FLIP_CTL 8 8 = 1 ↔ s.fld Reg.DRAM_FLIP_CTL 8 8 = 1 ∨ bits v 8 8 = 1) ∧
    Aside (s.setReg Reg.DRAM_FLIP_CTL (t.reg Reg.DRAM_FLIP_CTL)) t) := by
  refine ⟨(s.setReg Reg.DRAM_FLIP_CTL (dramFlipWord s v)).smartCheck, ?_, ?_, ?_, aside_written hs ..⟩
  · exact congrArg State.done (if_pos run)
  · rw [fld_written hs, bits_dramFlipWord]
  · rw [fld_written hs]
    exact bits_arm (dramFlipFields_arm v)

/-- With nothing armed no device is touched, and the line reads back clean. -/
theorem dramFlipRun_unarmed (run : bits v 0 0 = 1) (hv : bits v 8 8 = 0) (hf : s.fld Reg.DRAM_FLIP_CTL 8 8 = 0) :
    Completes (.dramFlipRun v) s (fun t => t.mem.dramResult = 1) := by
  let u := s.setReg Reg.DRAM_FLIP_CTL (BitVec.ofNat 32 (dramFlipFields v))
  let w : State := { u with mem := { u.mem with dramResult := 1 } }
  have unarmed : ¬ (bits (s.reg Reg.DRAM_FLIP_CTL) 8 8 = 1 ∨ bits v 8 8 = 1) := by
    unfold State.fld at hf
    omega
  have tested : s.dramFlipWrite v = w := by
    simp only [State.dramFlipWrite, unarmed, run, if_false, atBit, Nat.zero_mul, Nat.add_zero, State.testResult, List.length_nil, if_true]
    rfl
  refine ⟨w.smartCheck, congrArg State.done tested, ?_⟩
  exact (congrArg (·.mem.dramResult) (aside_smartCheck w).rest :)

/-! ### DRAM_RETIRE_CTL (R405, R420) -/

theorem retireCtl_keyed (key : bits v 31 16 = 0xD5A7) : s.retireCtl v = { s with mem := { s.mem with
    clearRanks := s.mem.clearRanks || bits v 1 1 = 1, clearPages := s.mem.clearPages || bits v 0 0 = 1 } } :=
  if_neg (by simp [key])

/-- Without the key nothing changes. -/
theorem retireCtl_unkeyed (key : bits v 31 16 ≠ 0xD5A7) : s.retireCtl v = s := if_pos (bne_iff_ne.mpr key)

/-- Settles O21, register by register. -/
theorem flipControlsArmAndTest : Obligations.FlipControlsArmAndTest := by
  intro s v hs
  refine ⟨rfl, pnFlipArm_stores hs, pnFlipRun_unarmed, qFlipArm_stores hs, dramFlipArm_stores hs, dramFlipRun_unarmed,
    fun key h1 h0 => ?_, fun key h0 h1 => ?_, fun key => ?_⟩
  · show Host.Outcome.next (s.retireCtl v) = _
    simp [retireCtl_keyed key, h1, h0]
  · show Host.Outcome.next (s.retireCtl v) = _
    simp [retireCtl_keyed key, h1, h0]
  · have kept : (.next (s.retireCtl v) : Out) = .next s := congrArg _ (retireCtl_unkeyed key)
    exact ⟨kept, kept⟩

end Sys2Proof
end

section
/-! PROOFS. What the failure of a die and the loss of a carrier keep (O58): a property that outlasts dies that come to rest is kept by the end
of their stripes, by the losses and re-formed bands that follow, and by settling. `KeptBySettling` asks for every change of the dies, which
the state of one die does not outlast. -/

namespace Sys2Proof

open Sys2Proof.Machine

variable {s t : State} {P : State → Prop}

/-- A die at rest: it runs nothing, nothing waits, and it is rebuilding, released or absent (R309). -/
def Resting (d : Die) : Prop := d.queue = [] ∧ d.op = 0 ∧ (d.st = 4 ∨ d.st = 5 ∨ d.st = 0)

/-- A change of dies that keeps their places and leaves one at rest at rest. -/
structure Quieting (f : Die → Die) : Prop where
  idx : ∀ d, (f d).idx = d.idx
  old : ∀ d, (f d).old = d.old
  rests : ∀ d, Resting d → Resting (f d)

/-- The state with every die changed. -/
def mapDies (f : Die → Die) (s : State) : State := { s with array := { s.array with dies := s.array.dies.map f } }

theorem die_mapDies {f : Die → Die} (hf : Quieting f) (d : Nat) : (mapDies f s).die d = (s.die d).map f := by
  have key : (fun x : Die => x.idx == d && !x.old) ∘ f = fun x => x.idx == d && !x.old :=
    funext fun x => by rw [Function.comp_apply, hf.idx, hf.old]
  show (s.array.dies.map f).find? _ = _
  rw [List.find?_map, key]
  rfl

/-- A choice between changes, the kept die among them. -/
theorem Quieting.ite {p : Die → Prop} [DecidablePred p] {f g : Die → Die} (hf : Quieting f) (hg : Quieting g) :
    Quieting fun d => if p d then f d else g d where
  idx := fun d => ite_keeps (fun x : Die => x.idx = d.idx) (hf.idx d) (hg.idx d)
  old := fun d => ite_keeps (fun x : Die => x.old = d.old) (hf.old d) (hg.old d)
  rests := fun d h => ite_keeps Resting (hf.rests d h) (hg.rests d h)

theorem Quieting.same : Quieting fun d => d := ⟨fun _ => rfl, fun _ => rfl, fun _ h => h⟩

/-- What dies come to when no band with valid extents holds them. -/
def settledDie (s : State) (x : Die) : Die :=
  if x.st == 4 && (s.validBandsOfDie x.idx x.gen).isEmpty then
    { x with st := if x.old || !(s.carrier (dieCar x.idx)).present then 0 else 5 }
  else if x.st == 3 && (x.old || !(s.carrier (dieCar x.idx)).present) && (s.validBandsOfDie x.idx x.gen).isEmpty then { x with st := 0 }
  else x

theorem quieting_settledDie (s : State) : Quieting (settledDie s) := by
  refine .ite ⟨fun _ => rfl, fun _ => rfl, fun d ⟨queue, op, _⟩ => ⟨queue, op, ?_⟩⟩
    (.ite ⟨fun _ => rfl, fun _ => rfl, fun _ ⟨queue, op, _⟩ => ⟨queue, op, .inr (.inr rfl)⟩⟩ .same)
  exact .inr (ite_keeps (fun n => n = 5 ∨ n = 0) (.inr rfl) (.inl rfl))

/-- A die of a carrier that is lost stops, and one in use fails. -/
def lostDie (i : Nat) (d : Die) : Die :=
  if dieCar d.idx == i && !d.old then
    let d := { d with queue := [], op := 0, suspended := 0 }
    if d.st == 1 || d.st == 2 then { d with st := 3, direct := false }
    else if d.st == 4 then { d with direct := false } else d
  else d

theorem quieting_lostDie (i : Nat) : Quieting (lostDie i) where
  idx := fun d => by
    unfold lostDie
    have same {c : Prop} [Decidable c] {x y : Die} : x.idx = d.idx → y.idx = d.idx → (if c then x else y).idx = d.idx :=
      ite_keeps (fun z : Die => z.idx = d.idx)
    exact same (same rfl (same rfl rfl)) rfl
  old := fun d => by
    unfold lostDie
    have same {c : Prop} [Decidable c] {x y : Die} : x.old = d.old → y.old = d.old → (if c then x else y).old = d.old :=
      ite_keeps (fun z : Die => z.old = d.old)
    exact same (same rfl (same rfl rfl)) rfl
  rests := fun d ⟨queue, op, st⟩ => by
    have unused : (d.st == 1 || d.st == 2) = false := by rcases st with e | e | e <;> simp [e]
    simp only [lostDie, unused, Bool.false_eq_true, if_false]
    exact ite_keeps Resting (ite_keeps Resting ⟨rfl, rfl, st⟩ ⟨rfl, rfl, st⟩) ⟨queue, op, st⟩

/-- A die that has failed and rebuilds, before its event (R309, R313). -/
def fallen (d cause : Nat) (s : State) : State :=
  ((s.beginPeriod.memberRec (dieCar d) cause d 3 false).memberRec (dieCar d) cause d 4 false).modDie d fun x =>
    { x with st := 4, direct := false, queue := [], op := 0, suspended := 0 }

/-- Kept too where the write path's store, the journal, the slices, slots, power and settings change, where dies come to rest, and where the
array changes but its dies. -/
structure KeptByFailing (P : State → Prop) : Prop extends KeptByGathering P where
  store : ∀ {t : State} (x : Store), P t → P { t with store := x }
  roots : ∀ {t : State} (j : Journal), P t → P { t with journal := j }
  slices : ∀ {t : State} (x : Slices), P t → P { t with slices := x }
  sent : ∀ {t : State} (l : List Sent), P t → P { t with fabric := { t.fabric with sent := l } }
  dies : ∀ {t : State} {f : Die → Die}, Quieting f → P t → P (mapDies f t)
  array : ∀ {t : State} (x : Array_), x.dies = t.array.dies → P t → P { t with array := x }
  power : ∀ {t : State} (x : Power), P t → P { t with power := x }
  loops : ∀ {t : State} (l : List Slot), P t → P { t with loops := l }
  fw : ∀ {t : State} (x : Fw), P t → P { t with fw := x }

namespace KeptByFailing

theorem modCarrier (k : KeptByFailing P) {i : Nat} {f : Carrier → Carrier} (h : P s) : P (s.modCarrier i f) := k.array _ rfl h

theorem setPool (k : KeptByFailing P) (h : P s) : P s.setPool := k.array _ rfl h

theorem beginPeriod (k : KeptByFailing P) (h : P s) : P s.beginPeriod := by
  unfold State.beginPeriod
  split
  · exact h
  · exact k.upkeep _ h

/-! ### Settling (R204, R222, R309, R319, R337) -/

theorem progress (k : KeptByFailing P) {before : List Band} (h : P s) : P (s.progress before) :=
  foldl_keeps P _ _ s h fun _ _ _ hx => k.jwrite (k.upkeep _ hx)

theorem settleBands (k : KeptByFailing P) (h : P s) : P s.settleBands :=
  foldl_keeps P _ _ s h fun _ _ _ hx =>
    ite_keeps P (ite_keeps P (k.health (k.upkeep _ (k.modBand hx))) (k.upkeep _ (k.modBand hx))) hx

theorem settleDies (k : KeptByFailing P) (h : P s) : P s.settleDies := by
  have ended {x : State} {c : Prop} [Decidable c] {y : Upkeep} {code : Nat} {ps : List Nat} (hx : P x) :
      P (if c then ({ x with upkeep := y } : State).capture code ps else x) := ite_keeps P (k.capture (k.upkeep _ hx)) hx
  unfold State.settleDies
  extract_lets dies _ x
  have hx : P x := k.dies (quieting_settledDie s) h
  split
  · exact ended hx
  · exact hx

theorem setPslc (k : KeptByFailing P) (h : P s) : P s.setPslc :=
  ite_keeps P h (k.capture (foldl_keeps P _ _ _ (k.store _ h) fun _ _ _ hx => ite_keeps P (k.modBand hx) hx))

/-- What follows a change of valid counts. -/
theorem settle (k : KeptByFailing P) {before : List Band} (h : P s) : P (s.settle before) := by
  have carriers : P ((List.range 16).foldl (fun s k => s.settleCarrier k) (s.progress before).settleBands.settleDies) :=
    foldl_keeps P _ _ _ (k.settleDies (k.settleBands (k.progress h))) fun _ _ _ hx => k.modCarrier hx
  exact k.setRegime (k.setPslc (ite_keeps P (k.upkeep _ carriers) carriers))

/-! ### Members and releases (R336, R341) -/

theorem writeRec (k : KeptByFailing P) {i st : Nat} (h : P s) : P (s.writeRec i st) :=
  ite_keeps P h (ite_keeps P (k.capture h) (k.modCarrier h))

theorem writeSettings (k : KeptByFailing P) (h : P s) : P s.writeSettings :=
  ite_keeps P (k.fw _ (k.roots _ h)) (k.roots _ h)

theorem newMembers (k : KeptByFailing P) {members slot cause st : Nat} {b : Bool} (h : P s) : P (s.newMembers members slot cause st b) :=
  k.writeSettings (foldl_keeps P _ _ _ (k.jsync (k.array _ rfl h)) fun _ _ _ hx => k.writeRec hx)

theorem setDom (k : KeptByFailing P) {i : Nat} {d : DomCond} (h : P s) : P (s.setDom i d) :=
  foldl_keeps P _ _ _ (k.power _ h) fun _ _ _ hx => k.array _ rfl hx

/-- The registers of the carriers' slots lie below the sticky words. -/
theorem slotReg (k : KeptByFailing P) {base i : Nat} {v : Word} (hb : base < 0x30040) (hi : i < 16) (h : P s) :
    P (s.setReg (base + 0x40 * i) v) := by
  refine k.reg _ _ (.inl ?_) h
  show base + 0x40 * i < 0x40100
  omega

theorem settleRelease (k : KeptByFailing P) (h : P s) : P s.settleRelease := by
  refine foldl_keeps P _ _ s h fun x i hi hx =>
    ite_keeps P hx (k.settleDies (k.capture (k.setPool (k.setDom (k.upkeep _ (k.modCarrier (k.loops _ ?_)))))))
  refine k.slotReg (by decide) (List.mem_range.mp hi) (k.dies (.ite ⟨fun _ => rfl, fun _ => rfl, ?_⟩ .same) (k.writeRec (k.newMembers hx)))
  exact fun _ ⟨queue, op, _⟩ => ⟨queue, op, .inr (.inl rfl)⟩

/-! ### The end of stripes (R193, R240, R312) -/

theorem fillBand (k : KeptByFailing P) {n : Nat} (h : P s) : P (s.fillBand n) := by
  unfold State.fillBand
  split
  · exact h
  · exact ite_keeps P (k.modBand h) h

theorem closeBand (k : KeptByFailing P) {n : Nat} (h : P s) : P (s.closeBand n) := k.fillBand (k.modBand h)

theorem dropStripe (k : KeptByFailing P) {b n : Nat} (h : P s) : P (s.dropStripe b n) := k.store _ (ite_keeps P h (k.freeChain h))

theorem dropProgs (k : KeptByFailing P) {b n : Nat} (h : P s) : P (s.dropProgs b n) :=
  k.dies ⟨fun _ => rfl, fun _ => rfl, fun _ ⟨queue, rest⟩ => ⟨by rw [queue]; rfl, rest⟩⟩ h

theorem unstriped (k : KeptByFailing P) {x : Stripe} {cause : Nat} (h : P s) : P (unstriped x cause s) :=
  k.closeBand (ite_keeps P (k.dropStripe (k.dropProgs (ite_keeps P (k.jsync h) (k.store _ (k.jsync h)))))
    (k.upkeep _ (k.dropStripe (k.dropProgs (ite_keeps P (k.jsync h) (k.store _ (k.jsync h)))))))

theorem voidStripe (k : KeptByFailing P) {x : Stripe} {cause die : Nat} (h : P s) : P (s.voidStripe x cause die) := by
  have void : P ((Sys2Proof.unstriped x cause s).capture 0x0702 [x.band, x.stripe, cause, die]) := k.capture (k.unstriped h)
  unfold State.voidStripe
  dsimp only
  split
  · exact k.buf _ void
  · exact k.capture (k.modBand (k.againOf void))
  · exact void

theorem dropGathering (k : KeptByFailing P) {x : Stripe} (h : P s) : P (s.dropGathering x) := by
  have dropped : P ((s.dropStripe x.band x.stripe).closeBand x.band) := k.closeBand (k.dropStripe h)
  unfold State.dropGathering
  dsimp only
  split
  · exact k.buf _ dropped
  · exact k.againOf dropped
  · exact dropped

theorem endStripesOf (k : KeptByFailing P) {d g cause : Nat} (h : P s) : P (s.endStripesOf d g cause) :=
  foldl_keeps P _ _ _ (foldl_keeps P _ _ s h fun _ _ _ hx => ite_keeps P (k.voidStripe hx) (k.dropGathering hx))
    fun _ _ _ hx => k.closeBand hx

/-! ### Losses beyond redundancy (R320) -/

theorem recordLoss (k : KeptByFailing P) {sl ns mu slba nlb cause : Nat} {whole : Bool} {band : Option Nat} {old : MapEntry} (h : P s) :
    P (s.recordLoss sl ns mu slba nlb cause whole band old) := by
  have spilled {x : State} (hx : P x) : P x.lostSpill := ite_keeps P (ite_keeps P hx (k.capture (k.store _ hx))) (k.store _ hx)
  have added {r : LostRange} : P (s.addLost r) := ite_keeps P h (spilled (k.store _ h))
  unfold State.recordLoss
  extract_lets r a b
  have counted : P b := k.slices _ added
  refine ite_keeps P counted ?_
  unfold State.afterLoss
  split
  · exact counted
  · exact ite_keeps P (k.sent _ counted) (ite_keeps P counted (ite_keeps P (k.sent _ counted) (k.capture counted)))

theorem loseExtents (k : KeptByFailing P) {band cause : Nat} {l : List (Placed × List Nat)} (h : P s) : P (s.loseExtents band cause l).2 := by
  unfold State.loseExtents
  extract_lets
  refine foldl_keeps P _ _ _ (foldl_keeps P _ _ s h fun x r _ hx => ?_) fun x r _ hx => ?_
  · exact foldl_keeps P _ _ _ (k.jwrite hx) fun _ _ _ hy => k.recordLoss (k.store _ hy)
  · exact foldl_keeps P _ _ _ (k.store _ hx) fun _ _ _ hy => k.recordLoss (k.store _ (k.jwrite hy))

theorem loseBeyond (k : KeptByFailing P) (h : P s) : P s.loseBeyond := by
  refine foldl_keeps P _ _ s h fun x b _ hx => ite_keeps P hx (foldl_keeps P _ _ x hx fun y st _ hy => ?_)
  exact ite_keeps P hy (k.capture (k.upkeep _ (k.loseExtents hy)))

/-! ### Bands formed again (R205, R233, R317) -/

theorem reform (k : KeptByFailing P) {n : Nat} (h : P s) : P (s.reform n) := by
  unfold State.reform
  split
  · exact h
  · refine ite_keeps P (k.modBand h) ?_
    dsimp only
    split
    · exact k.modBand h
    · exact k.modBand h

theorem reformNew (k : KeptByFailing P) {n : Nat} (h : P s) : P (s.reformNew n) := by
  unfold State.reformNew
  split
  · exact h
  · dsimp only
    split
    · exact k.modBand h
    · exact h

theorem reformErased (k : KeptByFailing P) (h : P s) : P s.reformErased := by
  have formed : P ((s.upkeep.bands.filter (fun b => b.st == .erased && b.members.any s.memDown)).foldl (fun s b => s.reform b.num) s).reformLanding :=
    foldl_keeps P _ _ _ (foldl_keeps P _ _ s h fun _ _ _ hx => k.reform hx) fun _ _ _ hx => ite_keeps P (k.reformNew hx) hx
  exact ite_keeps P formed (foldl_keeps P _ _ _ formed fun _ _ _ hx => ite_keeps P (k.reformNew (k.modBand hx)) hx)

theorem landingDone (k : KeptByFailing P) (h : P s) : P s.landingDone := by
  unfold State.landingDone
  split
  · exact h
  · exact ite_keeps P h (k.capture (k.store _ h))

theorem satField (k : KeptByFailing P) {off old new : Nat} (h : P s) : P (s.satField off old new) :=
  ite_keeps P (ite_keeps P h (k.capture (k.events _ h))) h

theorem finishErase (k : KeptByFailing P) {n : Nat} (h : P s) : P (s.finishErase n) := by
  unfold State.finishErase
  split
  · exact h
  next b _ =>
  extract_lets ms synced dur old u counted kind band formed store array e f g
  have hformed : P formed := k.modBand (k.satField (k.upkeep _ (k.jsync h)))
  clear_value formed
  have stored : P { formed with store := e.store } := k.store _ hformed
  have journaled : P { formed with store := e.store, journal := e.journal } := k.roots _ stored
  have he : P e := k.array (t := { formed with store := e.store, journal := e.journal }) e.array rfl journaled
  have hf : P f := ite_keeps P (k.reform he) he
  have hg : P g := by
    show P (match f.array.reshape with | some (_, _, bb, _) => if n < bb then f.reformNew n else f | none => f)
    split
    · exact ite_keeps P (k.reformNew hf) hf
    · exact hf
  clear_value g
  exact ite_keeps P h (k.settleRelease (k.setRegime (k.setPslc (k.landingDone (k.slices _ hg)))))

/-! ### A die that fails, and a carrier that is lost (R309, R312, R337, R342) -/

/-- What follows the event of a die that fails. -/
theorem failDie (k : KeptByFailing P) {d cause voidCause : Nat} {x : Die} (hd : s.die d = some x) (hst : x.st = 1 ∨ x.st = 2)
    (h : P ((fallen d cause s).capture 0x0A01 [d, cause, dieCar d, s.bandsOfDie d x.gen])) : P (s.failDie d cause voidCause) := by
  have up : ¬ (x.st != 1 && x.st != 2) = true := by rcases hst with e | e <;> simp [e]
  unfold State.failDie
  rw [hd]
  simp only [up]
  refine k.gatherHost (k.settle (k.capture (k.modCarrier (k.reformErased (k.loseBeyond (k.endStripesOf (k.count ?_ h)))))))
  exact .inr (by decide)

theorem openSwitch (k : KeptByFailing P) {i : Nat} (hi : i < 16) (h : P s) : P (s.openSwitch i) :=
  k.modCarrier (k.loops _ (k.slotReg (by decide) hi h))

theorem diesAbsent (k : KeptByFailing P) {i : Nat} (h : P s) : P (s.diesAbsent i) :=
  k.dies (.ite ⟨fun _ => rfl, fun _ => rfl, fun _ _ => ⟨rfl, rfl, .inr (.inr rfl)⟩⟩ .same) h

/-- The loss of a carrier records its event; what comes before it and what follows keep alike. -/
theorem loseMember_event (s : State) {i : Nat} (cause rec : Nat) (hi : i < 16) : ∃ u ps,
    (∀ {P : State → Prop}, KeptByFailing P → P s → P u) ∧
    ∀ {P : State → Prop}, KeptByFailing P → P (u.capture 0x0A11 ps) → P (s.loseMember i cause rec) := by
  unfold State.loseMember
  extract_lets before s1 bands hit s2 dies _ s3 s4 s5 s6 members c s7 s8 s9 s10 u _ s11
  refine ⟨s8.setDom i .off, [i, cause, bands, (s8.setDom i .off).array.epoch], fun {P} k h => ?_, fun {P} k h => ?_⟩
  · have h2 : P s2 := ite_keeps P (k.openSwitch hi h) (k.beginPeriod (k.openSwitch hi h))
    have h4 : P s4 := k.count (.inr (by decide)) (k.dies (quieting_lostDie i) h2)
    have h6 : P s6 := foldl_keeps P _ _ _ (k.loseBeyond (foldl_keeps P _ _ _ h4 fun _ _ _ hx => k.endStripesOf hx)) fun _ _ _ hx => k.finishErase hx
    exact k.setDom (k.newMembers (k.upkeep _ (k.modCarrier h6)))
  · have h11 : P s11 := k.upkeep _ (k.count (.inr (by decide)) h)
    clear_value s11
    split
    extract_lets s12 s13 s14
    have h13 : P s13 := k.setPool (k.reformErased (ite_keeps P (k.capture h11) h11))
    have h14 : P s14 := ite_keeps P h13 (k.diesAbsent h13)
    exact k.gatherHost (k.settle h14)

theorem loseCarrier (k : KeptByFailing P) {i cause : Nat} (hi : i < 16) (h : P s) : P (s.loseCarrier i cause) := by
  obtain ⟨u, ps, before, after⟩ := loseMember_event s cause (lossRec cause) hi
  exact after k (k.capture (before k h))

end KeptByFailing

end Sys2Proof
end

section
/-! PROOFS. Dies fail and recover: O58 clause by clause. -/

namespace Sys2Proof

open Sys2Proof.Machine

variable {s t : State} {d g b : Nat} {x : Die}

/-! ### What outlasts a failure -/

theorem keptByFailing_marked (hg : g < 36) : KeptByFailing (Marked g b) where
  toKeptByGathering := (keptByWritePath_marked hg).toKeptByGathering
  store := fun _ h => h.of_regs rfl
  roots := fun _ h => h.of_regs rfl
  slices := fun _ h => h.of_regs rfl
  sent := fun _ h => h.of_regs rfl
  dies := fun _ h => h.of_regs rfl
  array := fun _ _ h => h.of_regs rfl
  power := fun _ h => h.of_regs rfl
  loops := fun _ h => h.of_regs rfl
  fw := fun _ h => h.of_regs rfl

theorem keptByFailing_safe : KeptByFailing Safe where
  sticky := fun _ _ h => h.setReg
  events := fun _ h => h.of_regs rfl
  prob := fun _ h => h.of_regs rfl
  notify := fun _ _ h => h.notify
  reg := fun _ _ _ h => h.setReg
  journal := fun _ _ h => h.of_regs rfl
  upkeep := fun _ h => h.of_regs rfl
  mem := fun _ h => h.of_regs rfl
  buf := fun _ h => h.of_regs rfl
  again := fun _ h => h.of_regs rfl
  opened := fun _ h => h.of_regs rfl
  grown := fun _ _ _ _ h => h.of_regs rfl
  store := fun _ h => h.of_regs rfl
  roots := fun _ h => h.of_regs rfl
  slices := fun _ h => h.of_regs rfl
  sent := fun _ h => h.of_regs rfl
  dies := fun _ h => h.of_regs rfl
  array := fun _ _ h => h.of_regs rfl
  power := fun _ h => h.of_regs rfl
  loops := fun _ h => h.of_regs rfl
  fw := fun _ h => h.of_regs rfl

/-- The die at an index is at rest. -/
def DieRests (d : Nat) (t : State) : Prop := ∃ y, t.die d = some y ∧ Resting y

/-- The die at an index depends on the dies alone. -/
theorem die_congr (h : t.array.dies = s.array.dies) (i : Nat) : t.die i = s.die i := by
  unfold State.die
  rw [h]

theorem Recorded.die (h : Recorded s t) (i : Nat) : t.die i = s.die i := die_congr (congrArg Array_.dies h.array) i

/-- The changed die is found at its index. -/
theorem die_modDie_self {f : Die → Die} (hd : s.die d = some x) (hf : ∀ y, (f y).idx = y.idx ∧ (f y).old = y.old) :
    (s.modDie d f).die d = some (f x) := by
  rw [die_modDie d d hf, if_pos rfl, hd]
  rfl

theorem DieRests.congr (h : DieRests d s) (e : t.array.dies = s.array.dies) : DieRests d t := by
  unfold DieRests
  rw [die_congr e]
  exact h

theorem DieRests.smartCheck (h : DieRests d s) : DieRests d s.smartCheck := h.congr (congrArg Array_.dies (aside_smartCheck s).recorded.array)

theorem keptByFailing_dieRests : KeptByFailing (DieRests d) where
  toKeptByRecorder := keptByRecorder_of_aside fun a h => h.congr (congrArg Array_.dies a.recorded.array)
  reg := fun _ _ _ h => h
  journal := fun _ _ h => h
  upkeep := fun _ h => h
  mem := fun _ h => h
  buf := fun _ h => h
  again := fun _ h => h
  opened := fun _ h => h
  grown := fun _ _ _ _ h => h
  store := fun _ h => h
  roots := fun _ h => h
  slices := fun _ h => h
  sent := fun _ h => h
  dies := fun hf ⟨y, hy, hr⟩ => ⟨_, by rw [die_mapDies hf, hy]; rfl, hf.rests y hr⟩
  array := fun _ e h => h.congr e
  power := fun _ h => h
  loops := fun _ h => h
  fw := fun _ h => h

/-! ### A die that fails (R309, R313) -/

theorem safe_fallen {cause : Nat} (h : Safe s) : Safe (fallen d cause s) := by
  have begun : Safe s.beginPeriod := h.beginPeriod
  exact begun.memberRec.memberRec.modDie

theorem Marked.fallen {cause i : Nat} (hg : g < 36) (h : Marked g b s) : Marked g b (fallen i cause s) :=
  have k := keptByFailing_marked (b := b) hg
  (k.memberRec (k.memberRec (k.beginPeriod h))).of_regs rfl

theorem fallen_rests {cause : Nat} (hd : s.die d = some x) : DieRests d (fallen d cause s) := by
  have begun : s.beginPeriod.array = s.array := by
    unfold State.beginPeriod
    split
    · rfl
    · rfl
  have recorded : Recorded s.beginPeriod ((s.beginPeriod.memberRec (dieCar d) cause d 3 false).memberRec (dieCar d) cause d 4 false) :=
    (recorded_jwrite ..).after (recorded_jwrite ..)
  have same := (recorded.die d).trans ((die_congr (congrArg Array_.dies begun) d).trans hd)
  exact ⟨_, die_modDie_self same fun _ => ⟨rfl, rfl⟩, rfl, rfl, .inl rfl⟩

/-- A die that fails is at rest, with event 0x01. -/
theorem failDie_rests {cause voidCause : Nat} (hs : Safe s) (hd : s.die d = some x) (hst : x.st = 1 ∨ x.st = 2) :
    Marked 10 1 (s.failDie d cause voidCause) ∧ DieRests d (s.failDie d cause voidCause) := by
  refine ⟨(keptByFailing_marked (by decide)).failDie hd hst ?_, keptByFailing_dieRests.failDie hd hst ?_⟩
  · exact marked_code (safe_fallen hs) (by decide +kernel) rfl rfl (by decide)
  · exact keptByFailing_dieRests.capture (fallen_rests hd)

/-- A sticky bit outlasts the failure of a die. -/
theorem Marked.failDie {cause voidCause : Nat} (hg : g < 36) (h : Marked g b s) (hd : s.die d = some x) (hst : x.st = 1 ∨ x.st = 2) :
    Marked g b (s.failDie d cause voidCause) :=
  have k := keptByFailing_marked (b := b) hg
  k.failDie hd hst (k.capture (h.fallen hg))

/-- What ends a failure: releases that have come to their last step, and the check of the warnings. -/
theorem Marked.released (hg : g < 36) (h : Marked g b s) : Marked g b s.settleRelease.smartCheck :=
  ((keptByFailing_marked hg).settleRelease h).smartCheck

theorem DieRests.released (h : DieRests d s) : DieRests d s.settleRelease.smartCheck := (keptByFailing_dieRests.settleRelease h).smartCheck

/-! ### Operations that run out of time (R288, R313) -/

theorem memberOperationTimeout_fails (hs : Safe s) (hd : s.die d = some x) (hop : x.op = 2 ∨ x.op = 3) (hst : x.st = 1 ∨ x.st = 2)
    (late : s.memberTmoUs ≤ x.busyUs + s.since x.startedAt) : Completes (.memberOperationTimeout d) s (fun t =>
      (t.sticky 9).getLsbD 6 = true ∧ (t.sticky 10).getLsbD 1 = true ∧
      ∃ y, t.die d = some y ∧ y.queue = [] ∧ y.op = 0 ∧ (y.st = 4 ∨ y.st = 5 ∨ y.st = 0)) := by
  let busy := x.busyUs + s.since x.startedAt
  let w := s.modDie d fun y => { y with busyUs := busy }
  let c := w.capture 0x0906 [d, x.op, busy / 1000]
  have runs : (x.op == 2 || x.op == 3) && decide (s.memberTmoUs ≤ busy) := by
    rcases hop with e | e <;> simp [e, late, busy]
  have safe : Safe w := Safe.modDie hs
  have timeout : Marked 9 6 c := marked_code safe (by decide +kernel) rfl rfl (by decide)
  have hc : c.die d = some { x with busyUs := busy } := ((recorded_capture w ..).die d).trans (die_modDie_self hd fun _ => ⟨rfl, rfl⟩)
  obtain ⟨failed, rests⟩ := failDie_rests (cause := 1) (voidCause := 2) timeout.1 hc hst
  refine ⟨(c.failDie d 1 2).settleRelease.smartCheck, ?_, ((timeout.failDie (by decide) hc hst).released (by decide)).2,
    (failed.released (by decide)).2, rests.released⟩
  show execMemberOperationTimeout d s = _
  unfold execMemberOperationTimeout
  rw [hd]
  exact if_pos runs

theorem memberOperationTimeout_waits (hd : s.die d = some x)
    (h : x.op ≠ 2 ∧ x.op ≠ 3 ∨ x.busyUs + s.since x.startedAt < s.memberTmoUs) : exec (.memberOperationTimeout d) s = .next s := by
  have waits : ¬ ((x.op == 2 || x.op == 3) && decide (s.memberTmoUs ≤ x.busyUs + s.since x.startedAt)) := by
    simp only [Bool.and_eq_true, Bool.or_eq_true, beq_iff_eq, decide_eq_true_eq]
    omega
  show execMemberOperationTimeout d s = _
  unfold execMemberOperationTimeout
  rw [hd]
  exact if_neg waits

/-! ### Resets that run out of time (R288, R337) -/

/-- A carrier that no longer responds is one of the sixteen. -/
theorem unresponsive_slot {k : Nat} (hc : s.array.carriers.length = 16) (h : s.unresponsive k = true) : k < 16 := by
  by_contra beyond
  have none_there : s.carrier k = {} := by
    unfold State.carrier
    rw [List.getD_eq_default]
    omega
  simp [State.unresponsive, none_there] at h

/-- The state of a die whose second reset has timed out. -/
def resetFailed (d : Nat) (s : State) : State := s.modDie d fun y => { y with unresp := true }

/-- What follows a reset that timed out: the carrier is lost when none of its dies responds. -/
def loseUnresponsive (d : Nat) (s : State) : State := if s.unresponsive (dieCar d) then s.loseCarrier (dieCar d) 4 else s

theorem KeptByFailing.loseUnresponsive {P : State → Prop} (k : KeptByFailing P) (hc : s.array.carriers.length = 16) (h : P s) :
    P (loseUnresponsive d s) := by
  unfold Sys2Proof.loseUnresponsive
  split
  · next lost => exact k.loseCarrier (unresponsive_slot hc lost) h
  · exact h

theorem dieResetTimeout_ignored (hd : s.die d = some x) (h : x.st = 0 ∨ 4 < x.st) : exec (.dieResetTimeout d) s = .next s := by
  have unused : (x.st = 0 || decide (4 < x.st)) = true := by simpa using h
  show execDieResetTimeout d s = _
  unfold execDieResetTimeout
  rw [hd]
  exact if_pos unused

theorem dieResetTimeout_fails (hs : Safe s) (hp : Shape s) (hd : s.die d = some x) (hst : x.st = 1 ∨ x.st = 2) :
    Completes (.dieResetTimeout d) s (fun t => (t.sticky 9).getLsbD 7 = true ∧
      ∃ y, t.die d = some y ∧ y.queue = [] ∧ y.op = 0 ∧ (y.st = 4 ∨ y.st = 5 ∨ y.st = 0)) := by
  let c := (resetFailed d s).capture 0x0907 [d]
  let f := c.failDie d 2 2
  have used : ¬ (x.st = 0 || decide (4 < x.st)) = true := by
    simp only [Bool.or_eq_true, decide_eq_true_eq]
    omega
  have up : (x.st = 1 || x.st = 2) = true := by simpa using hst
  have safe : Safe (resetFailed d s) := Safe.modDie hs
  have timeout : Marked 9 7 c := marked_code safe (by decide +kernel) rfl rfl (by decide)
  have hc : c.die d = some { x with unresp := true } := ((recorded_capture ..).die d).trans (die_modDie_self hd fun _ => ⟨rfl, rfl⟩)
  obtain ⟨-, rests⟩ := failDie_rests (cause := 2) (voidCause := 2) timeout.1 hc hst
  have kept : Kept s f := (Kept.refl s).modDie.capture.failDie
  obtain ⟨-, -, -, -, carriers, -⟩ := kept.shape hp
  refine ⟨(loseUnresponsive d f).settleRelease.smartCheck, ?_, ?_, ?_⟩
  · show execDieResetTimeout d s = _
    unfold execDieResetTimeout
    rw [hd]
    simp only [used, up, if_true]
    rfl
  · have lost := (keptByFailing_marked (by decide)).loseUnresponsive (d := d) carriers (timeout.failDie (by decide) hc hst)
    exact (lost.released (by decide)).2
  · exact (keptByFailing_dieRests.loseUnresponsive carriers rests).released

/-- On a failed or rebuilding die the reset only marks the die, and its carrier is lost when none of its dies responds. -/
theorem dieResetTimeout_marks (hd : s.die d = some x) (hst : x.st = 3 ∨ x.st = 4) :
    exec (.dieResetTimeout d) s = .next (loseUnresponsive d (resetFailed d s)).settleRelease.smartCheck := by
  have used : ¬ (x.st = 0 || decide (4 < x.st)) = true := by
    simp only [Bool.or_eq_true, decide_eq_true_eq]
    omega
  have down : ¬ (x.st = 1 || x.st = 2) = true := by
    simp only [Bool.or_eq_true, decide_eq_true_eq]
    omega
  show execDieResetTimeout d s = _
  unfold execDieResetTimeout
  rw [hd]
  simp only [used, down]
  rfl

theorem loseCarrier_marks {k cause : Nat} (hs : Safe s) (hk : k < 16) : Marked 10 17 (s.loseCarrier k cause) := by
  obtain ⟨u, ps, before, after⟩ := KeptByFailing.loseMember_event s cause (lossRec cause) hk
  exact after (keptByFailing_marked (by decide)) (marked_code (before keptByFailing_safe hs) (by decide +kernel) rfl rfl (by decide))

/-! ### Slow dies (R309) -/

theorem slowRecovery_recovers (hs : Safe s) (hd : s.die d = some x) (hst : x.st = 2)
    (quiet : 3600000000 ≤ s.since (x.slowTimes.foldl max x.slowSince)) : Completes (.slowRecovery d) s (fun t =>
      t.die d = some { x with st := 1, slowTimes := [] } ∧ (t.sticky 10).getLsbD 3 = true) := by
  let w := s.modDie d fun y => { y with st := 1, slowTimes := [] }
  let ps := [d, w.since x.slowSince / 60000000]
  have runs : (x.st = 2 && decide (3600000000 ≤ s.since (x.slowTimes.foldl max x.slowSince))) = true := by simp [hst, quiet]
  have safe : Safe (w.memberRec (dieCar d) 10 d 1 false) := by
    have changed : Safe w := Safe.modDie hs
    exact changed.memberRec
  have recovered : Marked 10 3 ((w.memberRec (dieCar d) 10 d 1 false).capture 0x0A03 ps) :=
    marked_code safe (by decide +kernel) rfl rfl (by decide)
  refine ⟨(w.memberRec (dieCar d) 10 d 1 false).capture 0x0A03 ps, ?_, ?_, recovered.2⟩
  · show execSlowRecovery d s = _
    unfold execSlowRecovery
    rw [hd]
    exact if_pos runs
  · have recorded : Recorded w ((w.memberRec (dieCar d) 10 d 1 false).capture 0x0A03 ps) := (recorded_capture ..).after (recorded_jwrite ..)
    exact (recorded.die d).trans (die_modDie_self hd fun _ => ⟨rfl, rfl⟩)

theorem slowRecovery_waits (hd : s.die d = some x) (h : x.st ≠ 2 ∨ s.since (x.slowTimes.foldl max x.slowSince) < 3600000000) :
    exec (.slowRecovery d) s = .next s := by
  have waits : ¬ (x.st = 2 && decide (3600000000 ≤ s.since (x.slowTimes.foldl max x.slowSince))) = true := by
    simp only [Bool.and_eq_true, decide_eq_true_eq]
    omega
  show execSlowRecovery d s = _
  unfold execSlowRecovery
  rw [hd]
  exact if_neg waits

theorem slowFail_fails (hs : Safe s) (hd : s.die d = some x) (hst : x.st = 2) (hh : s.fld Reg.STR_MEMBER_CFG 7 0 ≠ 0)
    (late : s.fld Reg.STR_MEMBER_CFG 7 0 * 3600000000 ≤ s.since x.slowSince) : Completes (.slowFail d) s (fun t =>
      (t.sticky 10).getLsbD 1 = true ∧ ∃ y, t.die d = some y ∧ y.queue = [] ∧ (y.st = 4 ∨ y.st = 5 ∨ y.st = 0)) := by
  have runs : (x.st = 2 && s.fld Reg.STR_MEMBER_CFG 7 0 != 0 &&
      decide (s.fld Reg.STR_MEMBER_CFG 7 0 * 3600000000 ≤ s.since x.slowSince)) = true := by simp [hst, hh, late]
  obtain ⟨failed, rests⟩ := failDie_rests (cause := 10) (voidCause := 1) hs hd (.inr hst)
  obtain ⟨y, hy, queue, -, st⟩ := rests.released
  refine ⟨(s.failDie d 10 1).settleRelease.smartCheck, ?_, (failed.released (by decide)).2, y, hy, queue, st⟩
  show execSlowFail d s = _
  unfold execSlowFail
  rw [hd]
  exact if_pos runs

theorem slowFail_waits (hd : s.die d = some x) (h : x.st ≠ 2 ∨ s.fld Reg.STR_MEMBER_CFG 7 0 = 0) : exec (.slowFail d) s = .next s := by
  have waits : ¬ (x.st = 2 && s.fld Reg.STR_MEMBER_CFG 7 0 != 0 &&
      decide (s.fld Reg.STR_MEMBER_CFG 7 0 * 3600000000 ≤ s.since x.slowSince)) = true := by
    rcases h with h | h <;> simp [h]
  show execSlowFail d s = _
  unfold execSlowFail
  rw [hd]
  exact if_neg waits

/-! ### The clauses together -/

/-- Settles O58: what a failure sets, a sticky bit and a die at rest, outlasts what follows it (`KeptByFailing`). -/
theorem diesFailAndRecoverByTheirTimers : Obligations.DiesFailAndRecoverByTheirTimers := by
  intro s hs hp d x hd
  refine ⟨memberOperationTimeout_fails hs hd, memberOperationTimeout_waits hd, dieResetTimeout_fails hs hp hd,
    fun hst => ⟨fun responds => ?_, fun lost => ?_⟩, dieResetTimeout_ignored hd, slowRecovery_recovers hs hd, slowRecovery_waits hd,
    slowFail_fails hs hd, slowFail_waits hd⟩
  · rw [dieResetTimeout_marks hd hst, loseUnresponsive, resetFailed, responds]
    rfl
  · obtain ⟨-, -, -, -, carriers, -⟩ := hp
    replace lost : (resetFailed d s).unresponsive (dieCar d) = true := lost
    have safe : Safe (resetFailed d s) := Safe.modDie hs
    refine ⟨_, dieResetTimeout_marks hd hst, ?_⟩
    have event : Marked 10 17 (loseUnresponsive d (resetFailed d s)) := by
      rw [loseUnresponsive, if_pos lost]
      exact loseCarrier_marks safe (unresponsive_slot (s := resetFailed d s) carriers lost)
    exact (event.released (by decide)).2

end Sys2Proof
end

section
/-! PROOFS. Carriers: their sensors, the program gate, and their domains (O48). -/

namespace Sys2Proof

open Sys2Proof.Machine

variable {s t u : State} {k : Nat}

/-! ### Carriers and channels after a change -/

theorem carrier_modCarrier (hk : k < s.array.carriers.length) (f : Carrier → Carrier) (j : Nat) :
    (s.modCarrier k f).carrier j = if j = k then f (s.carrier k) else s.carrier j := modNth_getD _ _ _ _ _ hk

theorem carrier_modCarrier_self (hk : k < s.array.carriers.length) (f : Carrier → Carrier) : (s.modCarrier k f).carrier k = f (s.carrier k) :=
  (carrier_modCarrier hk f k).trans (if_pos rfl)

theorem carrier_modCarrier_ne (f : Carrier → Carrier) {j : Nat} (h : j ≠ k) : (s.modCarrier k f).carrier j = s.carrier j :=
  modNth_getD_ne _ _ _ h

/-- A change of a carrier counts by what it makes of that carrier. -/
theorem modCarrier_congr {f g : Carrier → Carrier} (hk : k < s.array.carriers.length) (h : f (s.carrier k) = g (s.carrier k)) :
    s.modCarrier k f = s.modCarrier k g := by
  have same : modNth s.array.carriers k f = modNth s.array.carriers k g := by
    refine List.ext_getElem? fun j => ?_
    simp only [modNth_getElem?]
    split
    · next e =>
      subst e
      have at_ : s.array.carriers[j]? = some (s.carrier j) := by simp [State.carrier, hk]
      rw [at_, Option.map_some, Option.map_some, h]
    · rfl
  unfold State.modCarrier
  rw [same]

theorem modCarrier_id (s : State) (k : Nat) : s.modCarrier k (fun c => c) = s := by
  have same : modNth s.array.carriers k (fun c => c) = s.array.carriers := by
    refine List.ext_getElem? fun j => ?_
    simp [modNth_getElem?]
  unfold State.modCarrier
  rw [same]

theorem chan_modChan {c : Nat} (hc : c < s.array.chans.length) (f : Chan → Chan) (j : Nat) :
    (s.modChan c f).chan j = if j = c then f (s.chan c) else s.chan j := modNth_getD _ _ _ _ _ hc

/-- `t` differs from `s` in the channels alone. -/
def Rechanneled (s t : State) : Prop := ∃ c, t = { s with array := { s.array with chans := c } }

theorem rechanneled_foldl {l : List Nat} {n : Nat → Nat} {f : State → Nat → Chan → Chan} (s : State) :
    Rechanneled s (l.foldl (fun s i => s.modChan (n i) (f s i)) s) := by
  refine foldl_keeps (Rechanneled s) _ l s ⟨s.array.chans, rfl⟩ ?_
  rintro _ i _ ⟨c, rfl⟩
  exact ⟨_, rfl⟩

/-- What differs aside goes on differing aside with one array in place of both. -/
theorem Aside.withArray (h : Aside s t) (a : Array_) : Aside { s with array := a } { t with array := a } := by
  refine ⟨?_, h.regs⟩
  rw [h.rest]

theorem Aside.free (h : Aside s t) : t.free = s.free := (congrArg State.free h.rest :)

/-! ### The program gate (R289) -/

/-- The gate of a carrier closes. -/
def gateCloses (s : State) (k : Nat) (c : Carrier) : Bool :=
  !c.gateClosed && (decide (c.temp < (s.tgate k).1) || decide ((s.tgate k).2.1 < c.temp))

/-- The gate of a carrier opens. -/
def gateOpens (s : State) (k : Nat) (c : Carrier) : Bool :=
  c.gateClosed && decide ((s.tgate k).1 + (s.tgate k).2.2 ≤ c.temp) && decide (c.temp ≤ (s.tgate k).2.1 - (s.tgate k).2.2)

/-- A carrier after the gate has acted on its temperature. -/
def gateCarrier (s : State) (k : Nat) (c : Carrier) : Carrier :=
  if gateCloses s k c then { c with gateClosed := true, gateAt := s.seed.now }
  else if gateOpens s k c then { c with gateClosed := false }
  else c

theorem gateCarrier_keeps (s : State) (k : Nat) (c : Carrier) :
    (gateCarrier s k c).temp = c.temp ∧ (gateCarrier s k c).subst = c.subst ∧ (gateCarrier s k c).i2cErr = c.i2cErr := by
  unfold gateCarrier
  split
  · exact ⟨rfl, rfl, rfl⟩
  · split
    · exact ⟨rfl, rfl, rfl⟩
    · exact ⟨rfl, rfl, rfl⟩

/-- A closed gate opens within the range less its hysteresis, an open one closes outside the range. -/
theorem gateCarrier_closed (s : State) (k : Nat) (c : Carrier) : (gateCarrier s k c).gateClosed = true ↔
    if c.gateClosed = true then ¬((s.tgate k).1 + (s.tgate k).2.2 ≤ c.temp ∧ c.temp ≤ (s.tgate k).2.1 - (s.tgate k).2.2)
    else c.temp < (s.tgate k).1 ∨ (s.tgate k).2.1 < c.temp := by
  cases closed : c.gateClosed
  · by_cases out : c.temp < (s.tgate k).1 ∨ (s.tgate k).2.1 < c.temp
    · simp [gateCarrier, gateCloses, closed, out]
    · simp [gateCarrier, gateCloses, gateOpens, closed, out]
  · by_cases within : (s.tgate k).1 + (s.tgate k).2.2 ≤ c.temp ∧ c.temp ≤ (s.tgate k).2.1 - (s.tgate k).2.2
    · simp [gateCarrier, gateCloses, gateOpens, closed, within]
    · simp [gateCarrier, gateCloses, gateOpens, closed, within]

/-- What the gate does before it calibrates the channels. -/
def gateMoved (k : Nat) (s : State) : State :=
  let t := (s.carrier k).temp
  if gateCloses s k (s.carrier k) then
    (s.modCarrier k (fun c => { c with gateClosed := true, gateAt := s.seed.now })).capture 0x090B
      [k, unsigned 32 t, unsigned 32 (s.tgate k).1, unsigned 32 (s.tgate k).2.1]
  else if gateOpens s k (s.carrier k) then
    (s.modCarrier k (fun c => { c with gateClosed := false })).capture 0x090C [k, unsigned 32 t, s.since (s.carrier k).gateAt / 1000]
  else s

theorem gateMoved_aside (hk : k < s.array.carriers.length) : Aside (s.modCarrier k (gateCarrier s k)) (gateMoved k s) := by
  unfold gateMoved
  dsimp only
  split
  · next closes =>
    have closed := modCarrier_congr (f := gateCarrier s k) (g := fun c => { c with gateClosed := true, gateAt := s.seed.now }) hk (if_pos closes)
    rw [closed]
    exact aside_capture ..
  · next stays =>
    split
    · next opens =>
      have opened := modCarrier_congr (f := gateCarrier s k) (g := fun c => { c with gateClosed := false }) hk
        ((if_neg stays).trans (if_pos opens))
      rw [opened]
      exact aside_capture ..
    · next rests =>
      have same := modCarrier_congr (f := gateCarrier s k) (g := fun c => c) hk ((if_neg stays).trans (if_neg rests))
      rw [same, modCarrier_id]
      exact .refl _

/-- The gate changes its carrier, with an event where it moves, and the channels it has calibrated. -/
theorem gateOn_acts (s : State) (k : Nat) : Rechanneled (gateMoved k s) (s.gateOn k) := by
  unfold State.gateOn gateMoved gateCloses gateOpens
  exact rechanneled_foldl (l := List.range 2) (n := fun i => 2 * k + i) (f := fun s' _ y =>
    if y.calTemp + 5 ≤ (s.carrier k).temp || (s.carrier k).temp + 5 ≤ y.calTemp then { y with calTemp := (s.carrier k).temp, zqAt := s'.seed.now }
    else y) (gateMoved k s)

theorem KeptBySettling.gateOn {P : State → Prop} (k : KeptBySettling P) {i : Nat} (h : P s) : P (s.gateOn i) :=
  foldl_keeps P _ _ _ (ite_keeps P (k.capture (k.modCarrier h)) (ite_keeps P (k.capture (k.modCarrier h)) h)) fun _ _ _ hx => k.array _ hx

/-- The carriers once the gate has acted, and what else is touched. -/
theorem gateOn_carriers (hk : k < s.array.carriers.length) :
    (s.gateOn k).array = { (s.modCarrier k (gateCarrier s k)).array with chans := (s.gateOn k).array.chans } ∧
    Aside { s.modCarrier k (gateCarrier s k) with array := (s.gateOn k).array } (s.gateOn k) := by
  obtain ⟨c, h⟩ := gateOn_acts s k
  have aside := gateMoved_aside hk
  have array : (gateMoved k s).array = (s.modCarrier k (gateCarrier s k)).array := aside.recorded.array
  rw [h]
  refine ⟨?_, aside.withArray _⟩
  rw [array]

theorem gateOn_free (hk : k < s.array.carriers.length) : (s.gateOn k).free = s.free := (gateOn_carriers hk).2.free

theorem gateOn_carrier (hk : k < s.array.carriers.length) (j : Nat) :
    (s.gateOn k).carrier j = if j = k then gateCarrier s k (s.carrier k) else s.carrier j := by
  rw [← carrier_modCarrier hk]
  have carriers : (s.gateOn k).array.carriers = (s.modCarrier k (gateCarrier s k)).array.carriers := by rw [(gateOn_carriers hk).1]
  unfold State.carrier
  rw [carriers]

/-! ### Sensors (R289, R584) -/

/-- What a reading makes of its carrier before the gate acts. -/
def readCarrier (x : Int) (c : Carrier) : Carrier :=
  { c with temp := x, minuteMax := some (c.minuteMax.elim x (max x)), subst := false, sensorBadAt := none, i2cErr := false }

theorem carrierTempSample_reads (hk : k < 16) (hc : s.array.carriers.length = 16) (x : Int) (hp : (s.carrier k).present = true) :
    Completes (.carrierTempSample k x) s (fun t =>
      (t.carrier k).temp = x ∧ (t.carrier k).subst = false ∧ (t.carrier k).i2cErr = false ∧
      ((t.carrier k).gateClosed = true ↔
        if (s.carrier k).gateClosed = true then ¬((s.tgate k).1 + (s.tgate k).2.2 ≤ x ∧ x ≤ (s.tgate k).2.1 - (s.tgate k).2.2)
        else x < (s.tgate k).1 ∨ (s.tgate k).2.1 < x) ∧
      (∀ j, j ≠ k → t.carrier j = s.carrier j) ∧
      Aside ({ s with array := { s.array with carriers := t.array.carriers, chans := t.array.chans } } : State) t) := by
  let r := s.modCarrier k (readCarrier x)
  have runs : ¬ (decide (16 ≤ k) || !(s.carrier k).present) = true := by simp [hp, hk]
  have hs : k < s.array.carriers.length := hc ▸ hk
  have hr : k < r.array.carriers.length := (modNth_length ..).symm ▸ hs
  have read : r.carrier k = readCarrier x (s.carrier k) := carrier_modCarrier_self hs _
  have now : (r.gateOn k).carrier k = gateCarrier s k (readCarrier x (s.carrier k)) := by
    rw [gateOn_carrier hr, if_pos rfl, read]
    rfl
  obtain ⟨temp, subst, i2c⟩ := gateCarrier_keeps s k (readCarrier x (s.carrier k))
  obtain ⟨array, aside⟩ := gateOn_carriers hr
  refine ⟨r.gateOn k, if_neg runs, ?_, ?_, ?_, ?_, fun j hj => ?_, ?_⟩
  · rw [now, temp]
    rfl
  · rw [now, subst]
    rfl
  · rw [now, i2c]
    rfl
  · rw [now]
    exact gateCarrier_closed s k _
  · rw [gateOn_carrier hr, if_neg hj]
    exact carrier_modCarrier_ne _ hj
  · have base : ({ s with array := { s.array with carriers := (r.gateOn k).array.carriers, chans := (r.gateOn k).array.chans } } : State) =
        { r.modCarrier k (gateCarrier r k) with array := (r.gateOn k).array } := by
      rw [array]
      rfl
    rw [base]
    exact aside

theorem carrierTempSample_absent (x : Int) (hp : (s.carrier k).present = false) : exec (.carrierTempSample k x) s = .next s :=
  if_pos (by simp [hp])

/-- What stands in for a sensor that fails: a temperature, the carrier it comes from, and the state once it is drawn. -/
def substitute (s : State) (k : Nat) : Int × Nat × State :=
  match s.hottestOther k with
  | some j => ((s.carrier j).temp + 5, j, s)
  | none => (s.drawFree.1.toInt, 0xFFFFFFFF, s.drawFree.2)

/-- What a substituted temperature makes of its carrier before the gate acts. -/
def substCarrier (x : Int) (c : Carrier) : Carrier := { c with temp := x, minuteMax := some (c.minuteMax.elim x (max x)), subst := true }

theorem substitute_array (s : State) (k : Nat) : (substitute s k).2.2.array = s.array := by
  unfold substitute
  split
  · rfl
  · rfl

theorem substitute_safe (hs : Safe s) (k : Nat) : Safe (substitute s k).2.2 := by
  unfold substitute
  split
  · exact hs
  · exact hs.drawFree

/-- The carrier whose sensor fails takes the temperature that stands in, with event 0x0D, before the gate acts. -/
def substituted (k : Nat) (s : State) : State :=
  ((substitute s k).2.2.modCarrier k (substCarrier (substitute s k).1)).capture 0x090D
    [k, unsigned 32 (substitute s k).1, (substitute s k).2.1]

theorem exec_carrierSensorTimeout (hk : k < 16) (hp : (s.carrier k).present = true) (hn : (s.carrier k).subst = false) :
    exec (.carrierSensorTimeout k) s = .next ((substituted k s).gateOn k) := by
  have runs : ¬ (decide (16 ≤ k) || !(s.carrier k).present || (s.carrier k).subst) = true := by simp [hp, hn, hk]
  refine (if_neg runs).trans ?_
  unfold substituted substitute
  cases s.hottestOther k
  · rfl
  · rfl

theorem substituted_marked (hs : Safe s) : Marked 9 13 (substituted k s) := by
  unfold substituted
  have drawn : Safe ((substitute s k).2.2.modCarrier k (substCarrier (substitute s k).1)) := (substitute_safe hs k).modCarrier
  exact marked_code drawn (by decide +kernel) rfl rfl (by decide)

theorem substituted_length (s : State) (k : Nat) : (substituted k s).array.carriers.length = s.array.carriers.length := by
  rw [substituted, (recorded_capture ..).array]
  exact (modNth_length ..).trans (congrArg (·.carriers.length) (substitute_array s k))

theorem substituted_carrier (hk : k < s.array.carriers.length) :
    (substituted k s).carrier k = substCarrier (substitute s k).1 (s.carrier k) := by
  have same : (substitute s k).2.2.carrier k = s.carrier k := by rw [State.carrier, substitute_array, ← State.carrier]
  rw [← same]
  rw [← substitute_array s k] at hk
  rw [State.carrier, substituted, (recorded_capture ..).array]
  exact carrier_modCarrier_self hk _

theorem substituted_free (s : State) (k : Nat) : (substituted k s).free = (substitute s k).2.2.free := by
  unfold substituted
  rw [(aside_capture ..).free]
  rfl

theorem carrierSensorTimeout_substitutes (hs : Safe s) (hk : k < 16) (hc : s.array.carriers.length = 16) (hp : (s.carrier k).present = true)
    (hn : (s.carrier k).subst = false) : Completes (.carrierSensorTimeout k) s (fun t =>
      (t.carrier k).subst = true ∧ (t.sticky 9).getLsbD 13 = true ∧
      (∀ j, s.hottestOther k = some j → (t.carrier k).temp = (s.carrier j).temp + 5 ∧ t.free = s.free) ∧
      (s.hottestOther k = none → (t.carrier k).temp = (Config.freeWord s.free).toInt ∧ t.free = s.free + 1)) := by
  have hs' : k < s.array.carriers.length := hc ▸ hk
  have hu : k < (substituted k s).array.carriers.length := (substituted_length s k).symm ▸ hs'
  have now : ((substituted k s).gateOn k).carrier k = gateCarrier (substituted k s) k (substCarrier (substitute s k).1 (s.carrier k)) := by
    rw [gateOn_carrier hu, if_pos rfl, substituted_carrier hs']
  obtain ⟨temp, subst, -⟩ := gateCarrier_keeps (substituted k s) k (substCarrier (substitute s k).1 (s.carrier k))
  have free : ((substituted k s).gateOn k).free = (substitute s k).2.2.free := by
    rw [gateOn_free hu, substituted_free]
  refine ⟨_, exec_carrierSensorTimeout hk hp hn, ?_, ((keptByWritePath_marked (by decide)).gateOn (substituted_marked hs)).2,
    fun j hj => ?_, fun none => ?_⟩
  · rw [now, subst]
    rfl
  · have stands : substitute s k = ((s.carrier j).temp + 5, j, s) := by simp only [substitute, hj]
    rw [now, temp, free, stands]
    exact ⟨rfl, rfl⟩
  · have stands : substitute s k = (s.drawFree.1.toInt, 0xFFFFFFFF, s.drawFree.2) := by simp only [substitute, none]
    rw [now, temp, free, stands]
    exact ⟨rfl, rfl⟩

theorem i2cStretchTimeout_marks (hk : k < 16) : exec (.i2cStretchTimeout k) s = .next (s.modCarrier k (fun c =>
    { c with i2cErr := true, sensorBadAt := some (c.sensorBadAt.getD s.seed.now) })) := by
  have bad : (fun c : Carrier =>
      { c with i2cErr := true, sensorBadAt := match c.sensorBadAt with | some t => some t | none => some s.seed.now }) =
      fun c => { c with i2cErr := true, sensorBadAt := some (c.sensorBadAt.getD s.seed.now) } := by
    funext c
    cases c.sensorBadAt <;> rfl
  rw [← bad]
  exact if_neg (Nat.not_le.mpr hk)

/-! ### Carrier domains (R269, R430) -/

/-- What a wake makes of a die: one of the carrier that shows a suspended operation is reset, and the operation restarts. -/
def wokenDie (k : Nat) (d : Die) : Die :=
  if dieCar d.idx == k && !d.old && d.suspended != 0 then
    { d with suspended := 0, op := 0, queue := d.queue.map (fun o => { o with started := false }) }
  else d

theorem wokenDie_unsuspended {d : Die} (hd : dieCar (wokenDie k d).idx = k) (ho : (wokenDie k d).old = false) : (wokenDie k d).suspended = 0 := by
  unfold wokenDie at hd ho ⊢
  split
  · rfl
  · next stays =>
    rw [if_neg stays] at hd ho
    simpa [hd, ho] using stays

/-- The two channels of a carrier, calibrated as its domain comes on. -/
def calibratedChans (k : Nat) (s : State) : State :=
  (List.range 2).foldl (fun u i => u.modChan (2 * k + i) (fun c => { c with zqAt := u.seed.now, calTemp := (s.carrier k).temp })) s

theorem calibratedChans_zq (hk : k < 16) (hc : s.array.chans.length = 32) {i : Nat} (hi : i < 2) :
    ((calibratedChans k s).chan (2 * k + i)).zqAt = s.seed.now := by
  have first : 2 * k + 0 < s.array.chans.length := by omega
  have second (f : Chan → Chan) : 2 * k + 1 < (s.modChan (2 * k + 0) f).array.chans.length := by
    show _ < (modNth s.array.chans _ _).length
    rw [modNth_length]
    omega
  show (((s.modChan (2 * k + 0) _).modChan (2 * k + 1) _).chan (2 * k + i)).zqAt = _
  rw [chan_modChan (second _), chan_modChan first, chan_modChan first]
  obtain rfl | rfl : i = 0 ∨ i = 1 := by omega
  · rw [if_neg (by omega), if_pos rfl]
  · rw [if_pos rfl]
    rfl

theorem setDom_carDom (hp : k < s.power.carDom.length) (d e : DomCond) : (s.setDom k d).power.carDom.getD k e = d := by
  have power : (s.setDom k d).power = { s.power with carDom := modNth s.power.carDom k fun _ => d } := by
    obtain ⟨c, h⟩ := rechanneled_foldl (l := List.range 2) (n := fun c => 2 * k + c) (f := fun _ _ y =>
      if y.st == 4 then y else { y with st := match d with | .on => 2 | .gated => 3 | _ => 0 })
      { s with power := { s.power with carDom := modNth s.power.carDom k fun _ => d } }
    exact (congrArg State.power h :)
  rw [power]
  exact (modNth_getD _ _ _ _ _ hp).trans (if_pos rfl)

theorem setDom_seed (s : State) (k : Nat) (d : DomCond) : (s.setDom k d).seed = s.seed :=
  foldl_keeps (fun t : State => t.seed = s.seed) _ _ _ rfl fun _ _ _ h => h

theorem setDom_chans (s : State) (k : Nat) (d : DomCond) : (s.setDom k d).array.chans.length = s.array.chans.length :=
  foldl_keeps (fun t : State => t.array.chans.length = s.array.chans.length) _ _ _ rfl fun _ _ _ h => (modNth_length ..).trans h

/-- A domain that comes on, before its event. -/
def woken (k : Nat) (s : State) : State :=
  { calibratedChans k (s.setDom k .on) with array := { (calibratedChans k (s.setDom k .on)).array with
    dies := (calibratedChans k (s.setDom k .on)).array.dies.map (wokenDie k) } }

theorem exec_carrierDomainWake (hk : k < 16) (us : Nat) (on : (s.carrier k).pwrOn = true) (off : s.power.carDom.getD k .off ≠ .on) :
    exec (.carrierDomainWake k us) s = .next ((woken k s).capture 0x090F [k, us]) := by
  have runs : ¬ (decide (16 ≤ k) || !(s.carrier k).pwrOn || s.power.carDom.getD k .off == .on) = true := by
    rw [on, beq_eq_false_iff_ne.mpr off]
    simp [hk]
  show execCarrierDomainWake k us s = _
  unfold execCarrierDomainWake
  rw [if_neg runs]
  rfl

theorem carrierDomainWake_wakes (hs : Safe s) (hp : Shape s) (hk : k < 16) (us : Nat) (on : (s.carrier k).pwrOn = true)
    (off : s.power.carDom.getD k .off ≠ .on) : Completes (.carrierDomainWake k us) s (fun t =>
      t.power.carDom.getD k .off = .on ∧ (t.sticky 9).getLsbD 15 = true ∧
      (∀ i, i < 2 → (t.chan (2 * k + i)).zqAt = s.seed.now) ∧
      (∀ d ∈ t.array.dies, dieCar d.idx = k → d.old = false → d.suspended = 0)) := by
  obtain ⟨-, -, -, -, -, chans, -, -, -, -, carDom, -⟩ := hp
  have calibrated : Rechanneled (s.setDom k .on) (calibratedChans k (s.setDom k .on)) := rechanneled_foldl _
  obtain ⟨c, ha⟩ := calibrated
  have regs : (woken k s).regs = (s.setDom k .on).regs := (congrArg State.regs ha :)
  have power : (woken k s).power = (s.setDom k .on).power := (congrArg State.power ha :)
  have switched : Safe (s.setDom k .on) := Safe.setDom hs
  have event : Marked 9 15 ((woken k s).capture 0x090F [k, us]) := marked_code (switched.of_regs regs) (by decide +kernel) rfl rfl (by decide)
  have recorded : Recorded (woken k s) ((woken k s).capture 0x090F [k, us]) := recorded_capture ..
  refine ⟨_, exec_carrierDomainWake hk us on off, ?_, event.2, fun i hi => ?_, fun d hd => ?_⟩
  · rw [recorded.power, power]
    exact setDom_carDom (carDom ▸ hk) _ _
  · have same : (woken k s).array.chans = (calibratedChans k (s.setDom k .on)).array.chans := rfl
    rw [State.chan, recorded.array, same, ← State.chan, calibratedChans_zq hk ((setDom_chans ..).trans chans) hi, setDom_seed]
  · rw [recorded.array] at hd
    obtain ⟨e, -, rfl⟩ := List.mem_map.mp hd
    exact wokenDie_unsuspended

theorem carrierDomainGate_gates (hk : k < 16) (low : s.power.state = .l2 ∨ s.power.state = .l3) (on : s.power.carDom.getD k .off = .on)
    (quiet : ∀ d ∈ s.array.dies, dieCar d.idx = k → d.old = false → d.queue = [] ∧ d.op = 0 ∧ d.suspended = 0)
    (noErase : ∀ b ∈ s.upkeep.bands, b.st = .erasing → ∀ m ∈ b.members, dieCar m.die ≠ k) :
    exec (.carrierDomainGate k) s = .next (s.setDom k .gated) := by
  have idle : s.array.dies.all (fun d => dieCar d.idx != k || d.old || (d.queue.isEmpty && d.op == 0 && d.suspended == 0)) = true := by
    refine List.all_eq_true.mpr fun d hd => ?_
    by_cases here : dieCar d.idx = k ∧ d.old = false
    · obtain ⟨queue, op, susp⟩ := quiet d hd here.1 here.2
      simp [queue, op, susp]
    · by_cases car : dieCar d.idx = k
      · simp [car, (by simpa [car] using here : d.old = true)]
      · simp [car]
  have still : s.upkeep.bands.any (fun b => b.st == .erasing && b.members.any (fun m => dieCar m.die == k)) = false := by
    refine List.any_eq_false.mpr fun b hb busy => ?_
    simp only [Bool.and_eq_true, beq_iff_eq, List.any_eq_true] at busy
    obtain ⟨st, m, hm, car⟩ := busy
    exact noErase b hb st m hm car
  have state : (s.power.state == .l2 || s.power.state == .l3) = true := by rcases low with e | e <;> rw [e] <;> rfl
  refine if_pos ?_
  rw [state, on, idle, still]
  simp [hk]

theorem carrierDomainGate_stays (h2 : s.power.state ≠ .l2) (h3 : s.power.state ≠ .l3) : exec (.carrierDomainGate k) s = .next s :=
  if_neg (by simp [h2, h3])

/-- Settles O48, command by command. -/
theorem carrierReadingsAndDomainsFollowTheirSensors : Obligations.CarrierReadingsAndDomainsFollowTheirSensors := by
  intro s hs hp k hk
  have carriers : s.array.carriers.length = 16 := by
    obtain ⟨-, -, -, -, h, -⟩ := hp
    exact h
  exact ⟨carrierTempSample_reads hk carriers, carrierTempSample_absent, carrierSensorTimeout_substitutes hs hk carriers,
    i2cStretchTimeout_marks hk, carrierDomainWake_wakes hs hp hk, carrierDomainGate_gates hk, carrierDomainGate_stays⟩

end Sys2Proof
end

section
/-! PROOFS. What dies and the decoder keep while they run: the parts that counts and records leave alone, a die's queue, and the codeword
that a sense brings (O57). -/

namespace Sys2Proof

open Sys2Proof.Machine

variable {s t : State} {x : Die} {d : Nat}

/-! ### What counts and records leave of the array -/

theorem keptByGathering_array (a : Array_) : KeptByGathering (fun t => t.array = a) where
  toKeptByRecorder := keptByRecorder_of_aside fun h e => h.recorded.array.trans e
  reg := fun _ _ _ h => h
  journal := fun _ _ h => h
  upkeep := fun _ h => h
  mem := fun _ h => h
  buf := fun _ h => h
  again := fun _ h => h
  opened := fun _ h => h
  grown := fun _ _ _ _ h => h

theorem readBlock_array (s : State) (b : Band) (m : Member) (n : Nat) : (s.readBlock b m n).array = s.array :=
  (keptByGathering_array s.array).readBlock rfl

theorem bumpCh_array (s : State) (off d n : Nat) : (s.bumpCh off d n).array = s.array := (recorded_bump ..).array

theorem paced_array (k : Paced) (s : State) : (s.paced k).2.array = s.array := by
  obtain ⟨th, h⟩ := paced_rest k s
  rw [h]

/-- A reconstruction that starts is one more operation at the decoder. -/
theorem startRecon_array (s : State) (o : DieOp) (b : Band) :
    (s.startRecon o b).array = { s.array with decode := s.array.decode ++ [{ o with recon := true }] } := by
  unfold State.startRecon
  extract_lets read die counted metered
  have hread : read.array = s.array := foldl_keeps (fun t : State => t.array = s.array) _ _ s rfl fun y m _ h =>
    ((recorded_bump ..).array.trans (readBlock_array y b m 1)).trans h
  have hmetered : metered.array = s.array := foldl_keeps (fun t : State => t.array = s.array) _ _ _
    ((bumpCh_array ..).trans hread) fun _ _ _ h => h
  show ({ metered.array with decode := metered.array.decode ++ [{ o with recon := true }] } : Array_) = _
  rw [hmetered]

theorem startRecon_dies (s : State) (o : DieOp) (b : Band) : (s.startRecon o b).array.dies = s.array.dies :=
  (congrArg Array_.dies (startRecon_array s o b)).trans rfl

/-! ### The die at an index -/

theorem die_idx (hd : s.die d = some x) : x.idx = d := by
  have found := List.find?_some hd
  simp only [Bool.and_eq_true, beq_iff_eq] at found
  exact found.1

/-- An operation starts: it runs, and with it the queued reads of its page slot (R276). -/
def startedDie (now : Nat) (o : DieOp) (x : Die) : Die :=
  let same (y : DieOp) : Bool :=
    y.id == o.id || (o.kind == 1 && y.kind == 1 && y.band == o.band && y.stripe == o.stripe && y.mem == o.mem &&
      y.step == o.step && slotOf x.facts y.cw == slotOf x.facts o.cw)
  { x with op := o.kind, opId := o.id, startedAt := now, queue := x.queue.map (fun y => if same y then { y with started := true } else y)
           suspends := if o.kind = 1 then x.suspends else 0, busyUs := if o.kind = 1 then x.busyUs else 0 }

theorem startOp_array (s : State) (d : Nat) (o : DieOp) : (s.startOp d o).array = (s.modDie d (startedDie s.seed.now o)).array :=
  ite_keeps (fun t : State => t.array = _) (bumpCh_array ..) (ite_keeps (fun t : State => t.array = _) (bumpCh_array ..) rfl)

theorem startOp_die (hd : s.die d = some x) (o : DieOp) : (s.startOp d o).die d = some (startedDie s.seed.now o x) :=
  (die_congr (congrArg Array_.dies (startOp_array s d o)) d).trans (die_modDie_self hd fun _ => ⟨rfl, rfl⟩)

/-- The operation that starts is among those of the queue that have started. -/
theorem startedDie_started {o : DieOp} (ho : o ∈ x.queue) (now : Nat) :
    { o with started := true } ∈ (startedDie now o x).queue :=
  List.mem_map.mpr ⟨o, ho, by simp⟩

theorem queueRead_die (hd : s.die d = some x) (o : DieOp) : (s.queueRead d o).die d = some { x with queue := x.queue ++ [o] } :=
  die_modDie_self hd fun _ => ⟨rfl, rfl⟩

/-- Nothing suspended resumes. -/
theorem resumeDue_unsuspended (hd : s.die d = some x) (hx : x.suspended = 0) : s.resumeDue d = s := by
  have stays : ¬ (x.op = 0 && x.suspended != 0 && !x.waits1 && !(s.carrier (dieCar d)).gateClosed && s.store.flush.isNone) = true := by
    simp [hx]
  unfold State.resumeDue
  rw [hd]
  exact if_neg stays

/-! ### The codeword a sense brings (R273) -/

theorem xorBytes_cancel {l k : List Byte} (h : k.length = l.length) : xorBytes (xorBytes l k) k = l := by
  refine List.ext_getElem (by simp [xorBytes, h]) fun i _ _ => ?_
  simp [xorBytes]

theorem scramble_length (s : State) (t : Stripe) (b : Band) (m : Member) (cw : Nat) (w : List Byte) :
    (s.scramble t b m cw w).length = w.length := by
  simp [State.scramble, State.sequenceAt, xorBytes]

/-- The sequence that scrambles a codeword takes itself off again. -/
theorem scramble_scramble (s : State) (t : Stripe) (b : Band) (m : Member) (cw : Nat) (w : List Byte) :
    s.scramble t b m cw (s.scramble t b m cw w) = w := by
  rw [State.scramble, scramble_length, State.scramble]
  exact xorBytes_cancel (by simp [State.sequenceAt])

/-- A sense brings the codeword as encoded, and nothing where no stripe was programmed. -/
theorem sensed_eq (s : State) (o : DieOp) : s.sensed o = ((s.stripeOnFlash o.band o.stripe).bind fun t => (s.band o.band).bind fun b =>
    (b.memberAt o.stripe o.mem).map fun m => s.encodedAt t b m o.mem o.cw).getD [] := by
  unfold State.sensed
  cases s.stripeOnFlash o.band o.stripe with
  | none => rfl
  | some t =>
    cases s.band o.band with
    | none => rfl
    | some b =>
      cases hm : b.memberAt o.stripe o.mem with
      | none => simp [hm]
      | some m => simp [hm, State.cellsAt, scramble_scramble]

theorem sensed_encoded {o : DieOp} {t : Stripe} {b : Band} {m : Member} (ht : s.stripeOnFlash o.band o.stripe = some t)
    (hb : s.band o.band = some b) (hm : b.memberAt o.stripe o.mem = some m) : s.sensed o = s.encodedAt t b m o.mem o.cw := by
  simp [sensed_eq, ht, hb, hm]

/-- Codewords depend on the dies through their geometry alone. -/
theorem encodedAt_congr {a : Array_} (same : SameGeometry s { s with array := a }) (hf : a.flipped = s.array.flipped) (t : Stripe) (b : Band)
    (m : Member) (mem cw : Nat) : State.encodedAt { s with array := a } t b m mem cw = s.encodedAt t b m mem cw := by
  have payload (mg : Nat) : State.memberPayload { s with array := a } t mg mem cw = s.memberPayload t mg mem cw := rfl
  unfold State.encodedAt
  rw [same.memFacts, same.bandMem, payload]
  simp only [hf]

theorem sensed_congr {a : Array_} (same : SameGeometry s { s with array := a }) (hf : a.flipped = s.array.flipped) (o : DieOp) :
    State.sensed { s with array := a } o = s.sensed o := by
  rw [sensed_eq, sensed_eq]
  simp only [encodedAt_congr same hf]
  rfl

/-! ### Blocks (R241, R250) -/

theorem block_key (s : State) (d b : Nat) : (s.block d b).die = d ∧ (s.block d b).block = b := by
  unfold State.block
  cases h : s.upkeep.blocks.find? fun y => y.die == d && y.block == b with
  | none => exact ⟨rfl, rfl⟩
  | some y => simpa using List.find?_some h

theorem block_congr (h : t.upkeep.blocks = s.upkeep.blocks) (d b : Nat) : t.block d b = s.block d b := by
  unfold State.block
  rw [h]

/-- A changed block that keeps its place is found there. -/
theorem block_modBlock_self (s : State) (d b : Nat) {f : Block → Block} (hf : ∀ y, (f y).die = y.die ∧ (f y).block = y.block) :
    (s.modBlock d b f).block d b = f (s.block d b) := by
  obtain ⟨die, block⟩ := block_key s d b
  have found : ((f (s.block d b)).die == d && (f (s.block d b)).block == b) = true := by
    rw [(hf _).1, (hf _).2, die, block]
    simp
  show ((f (s.block d b) :: _).find? _).getD _ = _
  rw [List.find?_cons_of_pos (p := fun y : Block => y.die == d && y.block == b) found]
  rfl

theorem Recorded.blocks (h : Recorded s t) : t.upkeep.blocks = s.upkeep.blocks := (congrArg (·.upkeep.blocks) h.rest :)

/-- What follows a risen read count changes no block. -/
theorem readsRose_blocks (s : State) (b : Band) (m : Member) (old : Nat) : (s.readsRose b m old).upkeep.blocks = s.upkeep.blocks := by
  let P (t : State) : Prop := t.upkeep.blocks = s.upkeep.blocks
  have front {x : State} {c : Prop} [Decidable c] (hx : P x) :
      P (if c then { x with upkeep := { x.upkeep with lapFront := x.upkeep.lapFront ++ [b.num] } } else x) := ite_keeps P hx hx
  have victim {x : State} {c : Prop} [Decidable c] {code : Nat} {ps : List Nat} (hx : P x) :
      P (if c then ((x.request b.num 1 3).health 13 1).capture code ps else x) := ite_keeps P ((recorded_capture ..).blocks.trans hx) hx
  exact victim (front rfl)

theorem countReads_reads (s : State) (m : Member) (n : Nat) :
    (s.countReads m n).block m.die m.block = { s.block m.die m.block with reads := (s.block m.die m.block).reads + n } :=
  block_modBlock_self s m.die m.block fun _ => ⟨rfl, rfl⟩

theorem readBlock_reads (s : State) (b : Band) (m : Member) (n : Nat) :
    (s.readBlock b m n).block m.die m.block = { s.block m.die m.block with reads := (s.block m.die m.block).reads + n } :=
  (block_congr (readsRose_blocks ..) ..).trans (countReads_reads ..)

end Sys2Proof
end

section
/-! PROOFS. Dies run their queues: O57 clause by clause. -/

namespace Sys2Proof

open Sys2Proof.Machine

variable {s : State} {x : Die} {o : DieOp} {b : Band} {m : Member} {d : Nat}

/-! ### A read reaches its die (R275, R276, R278) -/

/-- A read as it enters a queue. -/
def newRead (op cls band st mem cw : Nat) (s : State) : DieOp :=
  { id := op, cls := cls, kind := 1, band := band, stripe := st, mem := mem, cw := cw, at_ := s.seed.now }

/-- The state in which an operation's identity is taken. -/
def named (op : Nat) (s : State) : State := { s with array := { s.array with nextOp := max s.array.nextOp (op + 1) } }

/-- The grant does not depend on the identities taken. -/
theorem named_paced (op : Nat) (k : Paced) (s : State) : ((named op s).paced k).1 = (s.paced k).1 := by
  have grant : (named op s).grantQ = s.grantQ := rfl
  have thermal : (named op s).thermal = s.thermal := rfl
  unfold State.paced
  rw [grant, thermal]
  split
  · rfl
  · rfl

section
variable {op cls band st mem : Nat} (cw : Nat) (hd : s.die d = some x) (hb : s.band band = some b) (hm : b.memberAt st mem = some m)
  (die : m.die = d) (gen : m.gen = x.gen) (member : mem < b.d + b.p) (stripe : st < b.nextStripe) (room : x.queue.length < 32)
  (fresh : s.findOp op = none) (direct : s.direct m = true)
include hd hb hm die gen member stripe room fresh direct

/-- A read of a member that can be read directly arrives, or waits in its queue. -/
theorem exec_dieReadRequest (hc : cls = 1 ∨ cls = 3 ∨ cls = 5) : exec (.dieReadRequest d op cls band st mem cw) s =
    if cls = 1 then .next ((named op s).readArrives x b (newRead op cls band st mem cw s))
    else .next ((named op s).queueRead d (newRead op cls band st mem cw s)) := by
  have served : (cls == 1 || cls == 3 || cls == 5) = true := by rcases hc with e | e | e <;> rw [e] <;> rfl
  have runs : ¬ (!(b.memberAt st mem).any (fun m => m.die == d && m.gen == x.gen) || decide (b.d + b.p ≤ mem) ||
      decide (b.nextStripe ≤ st) || decide (32 ≤ x.queue.length) || (s.findOp op).isSome ||
      !(cls == 1 || cls == 3 || cls == 5)) = true := by
    simp [hm, die, gen, fresh, served, member, stripe, room]
  have here : ¬ (!(named op s).direct ((b.memberAt st mem).getD { die := 0, gen := 0, block := 0 })) = true := by
    have same : (named op s).direct m = s.direct m := rfl
    simp [hm, same, direct]
  show execDieReadRequest d op cls band st mem cw s = _
  unfold execDieReadRequest
  rw [hd, hb]
  refine (if_neg runs).trans ?_
  by_cases first : cls = 1
  · exact (if_pos first).trans (if_pos first).symm
  · exact (if_neg first).trans ((if_neg here).trans (if_neg first).symm)

theorem dieReadRequest_waits (hc : cls = 3 ∨ cls = 5) : Completes (.dieReadRequest d op cls band st mem cw) s (fun t =>
    (∃ o : DieOp, o.id = op ∧ o.cls = cls ∧ o.kind = 1 ∧ o.cw = cw ∧ o.started = false ∧
      t.die d = some { x with queue := x.queue ++ [o] }) ∧
    t = { s with array := { s.array with dies := t.array.dies, nextOp := t.array.nextOp } }) := by
  have run := exec_dieReadRequest cw hd hb hm die gen member stripe room fresh direct (.inr hc)
  rw [if_neg (by omega)] at run
  have same : (named op s).die d = some x := hd
  exact ⟨_, run, ⟨_, rfl, rfl, rfl, rfl, rfl, queueRead_die same _⟩, rfl⟩

end

/-- A read of class 1 that reaches an idle online die starts where it is granted, else it waits. -/
theorem readArrives_idle (hm : b.memberAt o.stripe o.mem = some m) (direct : s.direct m = true) (idle : x.op = 0) (fast : x.st ≠ 2) :
    s.readArrives x b o = if (s.paced .channel).1 then ((s.paced .channel).2.queueRead x.idx o).startOp x.idx o
      else (s.paced .channel).2.queueRead x.idx o := by
  simp [State.readArrives, hm, direct, idle, fast]

theorem paced_die {k : Paced} (hd : s.die d = some x) : (s.paced k).2.die d = some x :=
  (die_congr (congrArg Array_.dies (paced_array k s)) d).trans hd

/-- The die that a read of class 1 comes to. -/
theorem readArrives_die {op : Nat} (ho : o.id = op) (hc : o.cls = 1) (hk : o.kind = 1) (hn : o.started = false) (hd : s.die d = some x)
    (hm : b.memberAt o.stripe o.mem = some m) (direct : s.direct m = true) (idle : x.op = 0) (fast : x.st ≠ 2) :
    ∃ y, (s.readArrives x b o).die d = some y ∧
      ((s.paced .channel).1 = true → y.op = 1 ∧ y.opId = op ∧ ∃ o ∈ y.queue, o.id = op ∧ o.started = true) ∧
      ((s.paced .channel).1 = false →
        y.op = 0 ∧ ∃ o : DieOp, o.id = op ∧ o.cls = 1 ∧ o.started = false ∧ y.queue = x.queue ++ [o]) := by
  have queued := queueRead_die (paced_die (k := .channel) hd) o
  rw [readArrives_idle hm direct idle fast, die_idx hd]
  cases (s.paced .channel).1 with
  | true =>
    have entered : o ∈ ({ x with queue := x.queue ++ [o] } : Die).queue := List.mem_append_right _ (List.mem_singleton_self o)
    exact ⟨_, startOp_die queued o, fun _ => ⟨hk, ho, _, startedDie_started entered _, ho, rfl⟩, nofun⟩
  | false => exact ⟨_, queued, nofun, fun _ => ⟨idle, o, ho, hc, hn, rfl⟩⟩

/-! ### The grant of the package limiter (R261, R472) -/

theorem paced_full {k : Paced} (h : fullGrant ≤ s.grantQ) : s.paced k = (true, s) := if_pos h

theorem paced_waits {k : Paced} (h : s.grantQ < fullGrant) (short : s.thermal.pace.getD k.idx 0 + s.grantQ < fullGrant) : s.paced k =
    (false, { s with thermal := { s.thermal with pace := s.thermal.pace.set k.idx (s.thermal.pace.getD k.idx 0 + s.grantQ) } }) := by
  refine (if_neg (Nat.not_le.mpr h)).trans ?_
  simp only [Nat.not_le.mpr short, decide_false, Bool.false_eq_true, if_false]

theorem paced_starts {k : Paced} (h : s.grantQ < fullGrant) (share : fullGrant ≤ s.thermal.pace.getD k.idx 0 + s.grantQ) : s.paced k =
    (true, { s with thermal := { s.thermal with pace := s.thermal.pace.set k.idx (s.thermal.pace.getD k.idx 0 + s.grantQ - fullGrant) } }) := by
  refine (if_neg (Nat.not_le.mpr h)).trans ?_
  simp only [share, decide_true, if_true]

/-! ### Waiting operations (R276, R281) -/

theorem reconWaitExpiry_reconstructs {op : Nat} (hd : s.die d = some x) (ho : x.queue.find? (·.id == op) = some o) (hb : s.band o.band = some b)
    (hk : o.kind = 1) (hn : o.started = false) (hc : o.cls = 1 ∨ o.cls = 3) (hr : o.recon = false) (can : s.canRecon b o.stripe o.mem = true)
    (due : s.reconWaitUs d ≤ s.since o.at_) :
    Completes (.reconWaitExpiry d op) s (fun t => t.array.decode = s.array.decode ++ [{ o with recon := true }]) := by
  have class13 : (o.cls == 1 || o.cls == 3) = true := by rcases hc with e | e <;> rw [e] <;> rfl
  have runs : (o.kind = 1 && !o.started && (o.cls == 1 || o.cls == 3) && !o.recon && s.canRecon b o.stripe o.mem &&
      decide (s.reconWaitUs d ≤ s.since o.at_)) = true := by simp [hk, hn, class13, hr, can, due]
  have waiting : (s.die d).bind (fun x => x.queue.find? (·.id == op)) = some o := by rw [hd]; exact ho
  refine ⟨(s.modDie d fun x =>
    { x with queue := x.queue.map fun y => if y.id == op then { y with recon := true } else y }).startRecon o b, ?_, ?_⟩
  · show execReconWaitExpiry d op s = _
    unfold execReconWaitExpiry
    rw [waiting]
    simp only [hb]
    exact if_pos runs
  · exact (congrArg Array_.decode (startRecon_array ..)).trans rfl

/-- An operation that has aged takes class 1 (R276). -/
def aged (s : State) (d op : Nat) (o : DieOp) : DieOp :=
  if o.id == op && !o.started && (o.cls == 2 || o.cls == 3 || o.cls == 5) && o.kind != 3 &&
    decide (s.ageMs d * 1000 ≤ s.seed.now - o.at_) then { o with cls := 1 } else o

theorem aged_eq (s : State) (d op : Nat) (o : DieOp) : aged s d op o =
    if o.id = op ∧ o.started = false ∧ (o.cls = 2 ∨ o.cls = 3 ∨ o.cls = 5) ∧ o.kind ≠ 3 ∧ s.ageMs d * 1000 ≤ s.since o.at_
    then { o with cls := 1 } else o :=
  if_congr (by simp [State.since, and_assoc, or_assoc]) rfl rfl

theorem operationAgePromotion_promotes (op : Nat) (hd : s.die d = some x) : Completes (.operationAgePromotion d op) s (fun t =>
    (t.die d).map (·.queue) = some (x.queue.map (fun o =>
      if o.id = op ∧ o.started = false ∧ (o.cls = 2 ∨ o.cls = 3 ∨ o.cls = 5) ∧ o.kind ≠ 3 ∧ s.ageMs d * 1000 ≤ s.since o.at_
      then { o with cls := 1 } else o)) ∧
    t = { s with array := { s.array with dies := t.array.dies } }) := by
  have promoted : (s.modDie d fun y => { y with queue := y.queue.map (aged s d op) }).die d = some { x with queue := x.queue.map (aged s d op) } :=
    die_modDie_self hd fun _ => ⟨rfl, rfl⟩
  refine ⟨s.modDie d fun y => { y with queue := y.queue.map (aged s d op) }, rfl, ?_, rfl⟩
  rw [promoted, funext (aged_eq s d op)]
  rfl

/-! ### A die starts what R276 chooses -/

theorem exec_dieOperationStart (hd : s.die d = some x) (idle : x.op = 0) (hst : x.st = 1 ∨ x.st = 2) (hc : (s.chan (dieChan d)).st = 2)
    (ho : s.nextOpOf x = some o) : exec (.dieOperationStart d) s = s.granted .channel fun s => .next (s.startOp d o) := by
  have up : (x.st == 1 || x.st == 2 || x.st == 7 || (x.st == 4 && x.direct)) = true := by rcases hst with e | e <;> rw [e] <;> rfl
  have runs : ¬ (x.op != 0 || !(x.st == 1 || x.st == 2 || x.st == 7 || (x.st == 4 && x.direct)) || (s.chan (dieChan d)).st != 2) = true := by
    simp [idle, up, hc]
  show execDieOperationStart d s = _
  unfold execDieOperationStart
  rw [hd]
  refine (if_neg runs).trans ?_
  rw [ho]

theorem paced_now (k : Paced) (s : State) : (s.paced k).2.seed = s.seed := by
  obtain ⟨th, h⟩ := paced_rest k s
  rw [h]

theorem dieOperationStart_starts (hd : s.die d = some x) (idle : x.op = 0) (hst : x.st = 1 ∨ x.st = 2) (hc : (s.chan (dieChan d)).st = 2)
    (ho : s.nextOpOf x = some o) (grant : (s.paced .channel).1 = true) : Completes (.dieOperationStart d) s (fun t =>
      ∃ y, t.die d = some y ∧ y.op = o.kind ∧ y.opId = o.id ∧ y.startedAt = s.seed.now) :=
  ⟨_, (exec_dieOperationStart hd idle hst hc ho).trans (granted_runs _ grant), _, startOp_die (paced_die hd) o, rfl, rfl,
    congrArg Seed.now (paced_now ..)⟩

/-! ### Senses (R273, R277) -/

/-- The reads of the running sense. -/
def sensing (x : Die) : List DieOp := x.queue.filter fun o => o.kind == 1 && o.started

/-- A die whose sense has ended. -/
def sensedDie (x : Die) : Die := { x with op := 0, queue := x.queue.filter fun o => !(o.kind == 1 && o.started) }

/-- Reads that a sense hands to the decoder. -/
def handed (s : State) (x : Die) : List DieOp := (sensing x).map fun o => { o with recon := false, word := s.sensed o }

/-- The reads of a sense wait at the decoder. -/
def handedOver (d : Nat) (x : Die) (s : State) : State :=
  { s.modDie d sensedDie with array := { (s.modDie d sensedDie).array with
      decode := (s.modDie d sensedDie).array.decode ++ handed (s.modDie d sensedDie) x } }

theorem handed_modDie (s : State) (d : Nat) (x : Die) : handed (s.modDie d sensedDie) x = handed s x := by
  have geometry : SameGeometry s (s.modDie d sensedDie) := (SameGeometry.refl s).congr rfl (modFirst_map _ _ _ _ fun _ => rfl)
  refine List.map_congr_left fun o _ => ?_
  rw [show (s.modDie d sensedDie).sensed o = s.sensed o from sensed_congr geometry rfl o]

/-- A sense that ends counts its reads of the block that its page lies in (R277). -/
def senseCounted (x : Die) (n : Nat) (s : State) : State :=
  match (sensing x).head? with
  | none => s
  | some o =>
    match s.band o.band with
    | none => s
    | some b =>
      match b.memberAt o.stripe o.mem with
      | none => s
      | some m => s.readBlock b m n

theorem senseCounted_array (x : Die) (n : Nat) (s : State) : (senseCounted x n s).array = s.array := by
  unfold senseCounted
  split
  · rfl
  · split
    · rfl
    · split
      · rfl
      · exact readBlock_array ..

theorem readSenseComplete_hands (hd : s.die d = some x) (run : x.op = 1) (hx : x.suspended = 0) : Completes (.readSenseComplete d) s (fun t =>
    (t.die d).map (fun y => (y.op, y.queue)) = some (0, x.queue.filter (fun o => !(o.kind == 1 && o.started))) ∧
    t.array.decode = s.array.decode ++ (x.queue.filter (fun o => o.kind == 1 && o.started)).map
      (fun (o : DieOp) => { o with recon := false, word := s.sensed o })) := by
  let n := sensesOf (((sensing x).head?.map (·.step)).getD 0)
  let u := (senseCounted x n (handedOver d x s)).bumpCh Reg.CH_CNT_READ d n
  have array : u.array = (handedOver d x s).array := (bumpCh_array ..).trans (senseCounted_array ..)
  have hu : u.die d = some (sensedDie x) := (die_congr (congrArg Array_.dies array) d).trans (die_modDie_self hd fun _ => ⟨rfl, rfl⟩)
  have runs : ¬ (x.op != 1) = true := by simp [run]
  refine ⟨u, ?_, ?_, ?_⟩
  · show execReadSenseComplete d s = _
    unfold execReadSenseComplete
    rw [hd]
    refine (if_neg runs).trans ?_
    exact congrArg Host.Outcome.next (resumeDue_unsuspended hu hx)
  · rw [hu]
    rfl
  · rw [array]
    exact congrArg (s.array.decode ++ ·) (handed_modDie s d x)

/-! ### Decodes (R274, R283, R284) -/

/-- A decode that runs is counted in its bank. -/
def decodeCounted (o : DieOp) (s : State) : State := s.bump (if o.step = 200 then Reg.LDPC_CNT_SD else Reg.LDPC_CNT_HD) 1

theorem decodeCounted_array (o : DieOp) (s : State) : (decodeCounted o s).array = s.array := (recorded_bump ..).array

/-- Flipped codewords, facts and dies depend on the array alone. -/
theorem flippedAt_congr {t : State} (h : t.array = s.array) (band st mem cw : Nat) : t.flippedAt band st mem cw = s.flippedAt band st mem cw := by
  unfold State.flippedAt
  rw [h]

theorem memFacts_congr {t : State} (h : t.array = s.array) (m : Member) : t.memFacts m = s.memFacts m := by
  unfold State.memFacts State.dieGen
  rw [h]

/-- A decode that starts takes its grant and is counted. -/
def decodeStarted (o : DieOp) (s : State) : State := decodeCounted o (s.paced .decode).2

theorem decodeStarted_array (o : DieOp) (s : State) : (decodeStarted o s).array = s.array := (decodeCounted_array ..).trans (paced_array ..)

/-- The ladder's registers are none of the decoder's counters. -/
theorem decodeCounted_ladder (o : DieOp) (s : State) (d : Nat) :
    (decodeCounted o s).reg (Reg.CH_LADDER + 0x1000 * dieChan d) = s.reg (Reg.CH_LADDER + 0x1000 * dieChan d) := by
  have hard : Reg.CH_LADDER + 0x1000 * dieChan d ≠ Reg.LDPC_CNT_HD := by simp only [Reg.CH_LADDER, Reg.LDPC_CNT_HD]; omega
  have soft : Reg.CH_LADDER + 0x1000 * dieChan d ≠ Reg.LDPC_CNT_SD := by simp only [Reg.CH_LADDER, Reg.LDPC_CNT_SD]; omega
  refine bump_reg_ne (.inr ?_) ?_
  · simp only [Reg.CH_LADDER, Reg.STICKY]
    omega
  · split
    · exact soft
    · exact hard

theorem decodeStarted_ladder (o : DieOp) (s : State) (d : Nat) :
    (decodeStarted o s).reg (Reg.CH_LADDER + 0x1000 * dieChan d) = s.reg (Reg.CH_LADDER + 0x1000 * dieChan d) :=
  (decodeCounted_ladder ..).trans paced_reg

section
variable {t : State} (h : t.reg (Reg.CH_LADDER + 0x1000 * dieChan d) = s.reg (Reg.CH_LADDER + 0x1000 * dieChan d))
include h

theorem ladderFld_congr (hi lo : Nat) : t.chFld Reg.CH_LADDER d hi lo = s.chFld Reg.CH_LADDER d hi lo := by
  rw [State.chFld, State.fld, h, State.chFld, State.fld]

/-- The ladder and the tracking of a die depend on its channel's register alone. -/
theorem nextStep_congr (f : DieFacts) (step : Nat) : t.nextStep d f step = s.nextStep d f step := by
  unfold State.nextStep State.retryMax
  rw [ladderFld_congr h, ladderFld_congr h, ladderFld_congr h]

theorem tracks_congr (f : DieFacts) (n : Nat) : t.tracks d f n = s.tracks d f n := by
  unfold State.tracks
  rw [ladderFld_congr h]

end

theorem decoded_array (o : DieOp) (m : Member) (f : DieFacts) (n : Nat) (s : State) : (s.decoded o m f n).array = s.array := by
  unfold State.decoded
  exact ite_keeps (fun t : State => t.array = s.array) (ite_keeps (fun t : State => t.array = s.array) rfl rfl)
    (ite_keeps (fun t : State => t.array = s.array) rfl rfl)

/-- A decode at step 0 with a high count asks for step V. -/
theorem decoded_tracks {f : DieFacts} {n : Nat} (h0 : o.step = 0) (high : s.tracks m.die f n = true) :
    ((s.decoded o m f n).block m.die m.block).track = true := by
  rw [State.decoded, if_pos h0, if_pos high, block_modBlock_self]
  exact fun _ => ⟨rfl, rfl⟩

/-- A decode at a later option takes that option. -/
theorem decoded_option {f : DieFacts} {n : Nat} (h0 : 0 < o.step) (h : o.step < 100) :
    ((s.decoded o m f n).block m.die m.block).opt = o.step ∧ ((s.decoded o m f n).block m.die m.block).off = 0 := by
  rw [State.decoded, if_neg (Nat.ne_of_gt h0), if_pos h, block_modBlock_self]
  · exact ⟨rfl, rfl⟩
  · exact fun _ => ⟨rfl, rfl⟩

/-- A decode leaves the decoder. -/
def decodeLeft (op : Nat) (s : State) : State :=
  { s with array := { s.array with decode := s.array.decode.filter (fun y => !(y.id == op && !y.recon)) } }

theorem decodeLeft_reg (op : Nat) (s : State) (off : Nat) : (decodeLeft op s).reg off = s.reg off := rfl

theorem decodeLeft_dies (op : Nat) (s : State) : (decodeLeft op s).array.dies = s.array.dies := rfl

theorem dropOp_reg (op : Nat) (s : State) (off : Nat) : (s.dropOp op).reg off = s.reg off := rfl

theorem dropOp_decode (op : Nat) (s : State) : (s.dropOp op).array.decode = s.array.decode.filter (·.id != op) := rfl

/-- What climbing to step `k` counts. -/
def climbCounted (k : Nat) (o : DieOp) (d : Nat) (s : State) : State :=
  let s := if o.step = 0 then s.bumpCh Reg.CH_CNT_RETRY d 1 else s
  if k = 200 then s.bumpCh Reg.CH_CNT_SOFT d 1 else s

theorem climbCounted_array (k : Nat) (o : DieOp) (d : Nat) (s : State) : (climbCounted k o d s).array = s.array := by
  have retry : (if o.step = 0 then s.bumpCh Reg.CH_CNT_RETRY d 1 else s).array = s.array :=
    ite_keeps (fun t : State => t.array = s.array) (bumpCh_array ..) rfl
  exact ite_keeps (fun t : State => t.array = s.array) ((bumpCh_array ..).trans retry) retry

/-- A read whose decode failed, at its next step. -/
def climbed (k : Nat) (o : DieOp) : DieOp := { o with step := k, started := false, recon := false }

/-- The read waits first in its die's queue. -/
def requeued (k : Nat) (o : DieOp) (d : Nat) (s : State) : State := s.modDie d fun x => { x with queue := climbed k o :: x.queue }

section
variable {op : Nat} (ho : s.array.decode.find? (fun o => o.id == op && !o.recon) = some o) (hb : s.band o.band = some b)
  (hm : b.memberAt o.stripe o.mem = some m)
include ho hb hm

theorem ldpcDecodeComplete_queued (unit : s.decoding o = false) (r : Option Nat) : exec (.ldpcDecodeComplete op r) s = .next s := by
  show execLdpcDecodeComplete op r s = _
  unfold execLdpcDecodeComplete
  rw [ho]
  simp only [hb, hm]
  exact if_pos (by simp [unit])


section
variable (unit : s.decoding o = true) (grant : (s.paced .decode).1 = true) (clean : s.flippedAt o.band o.stripe o.mem o.cw = none)
include unit

theorem ldpcDecodeComplete_waits (short : (s.paced .decode).1 = false) (r : Option Nat) :
    exec (.ldpcDecodeComplete op r) s = .next (s.paced .decode).2 := by
  show execLdpcDecodeComplete op r s = _
  unfold execLdpcDecodeComplete
  rw [ho]
  simp only [hb, hm]
  exact (if_neg (by simp [unit])).trans (granted_waits _ short)

include grant clean

theorem exec_ldpcDecodeComplete_some (n : Nat) : exec (.ldpcDecodeComplete op (some n)) s =
    .next (((decodeStarted o s).dropOp op).decoded o m (s.memFacts m) n) := by
  have flip := (flippedAt_congr (decodeStarted_array o s) o.band o.stripe o.mem o.cw).trans clean
  unfold decodeStarted decodeCounted at flip
  show execLdpcDecodeComplete op (some n) s = _
  unfold execLdpcDecodeComplete
  rw [ho]
  simp only [hb, hm]
  refine (if_neg (by simp [unit])).trans ((granted_runs _ grant).trans ?_)
  simp only [flip]
  rw [memFacts_congr (paced_array ..)]
  rfl

/-- A read that climbs is at the head of its die's queue, wherever else it is served (R285). -/
theorem exec_ldpcDecodeComplete_none {k : Nat} (hk : s.nextStep m.die (s.memFacts m) o.step = some k) :
    ∃ t, exec (.ldpcDecodeComplete op none) s = .next t ∧
      t.array.dies = (requeued k o m.die (climbCounted k o m.die (decodeLeft op (decodeStarted o s)))).array.dies := by
  have flip := (flippedAt_congr (decodeStarted_array o s) o.band o.stripe o.mem o.cw).trans clean
  have next : (decodeLeft op (decodeStarted o s)).nextStep m.die ((s.paced .decode).2.memFacts m) o.step = some k := by
    rw [memFacts_congr (paced_array ..), ← hk]
    exact nextStep_congr ((decodeLeft_reg ..).trans (decodeStarted_ladder ..)) ..
  have run : exec (.ldpcDecodeComplete op none) s =
      let u := requeued k o m.die (climbCounted k o m.die (decodeLeft op (decodeStarted o s)))
      if k = 200 && o.cls == 1 && !u.array.decode.any (fun y => y.id == op && y.recon) && u.canRecon b o.stripe o.mem then
        .next (u.startRecon (climbed k o) b)
      else .next u := by
    unfold decodeLeft decodeStarted decodeCounted at next
    unfold decodeStarted decodeCounted at flip
    show execLdpcDecodeComplete op none s = _
    unfold execLdpcDecodeComplete
    rw [ho]
    simp only [hb, hm]
    refine (if_neg (by simp [unit])).trans ((granted_runs _ grant).trans ?_)
    simp only [flip]
    simp only [next]
    rfl
  rw [run]
  extract_lets u
  split
  · exact ⟨_, rfl, startRecon_dies ..⟩
  · exact ⟨_, rfl, rfl⟩

theorem ldpcDecodeComplete_succeeds (n : Nat) : Completes (.ldpcDecodeComplete op (some n)) s (fun t =>
    t.array.decode = s.array.decode.filter (·.id != op) ∧
    (o.step = 0 → s.tracks m.die (s.memFacts m) n = true → (t.block m.die m.block).track = true) ∧
    (0 < o.step → o.step < 100 → (t.block m.die m.block).opt = o.step ∧ (t.block m.die m.block).off = 0)) := by
  have tracks : ((decodeStarted o s).dropOp op).tracks m.die (s.memFacts m) n = s.tracks m.die (s.memFacts m) n :=
    tracks_congr ((dropOp_reg ..).trans (decodeStarted_ladder ..)) ..
  refine ⟨_, exec_ldpcDecodeComplete_some ho hb hm unit grant clean n, ?_, fun h0 high => decoded_tracks h0 (tracks.trans high),
    decoded_option⟩
  rw [decoded_array, dropOp_decode, decodeStarted_array]

theorem ldpcDecodeComplete_climbs {k : Nat} (hk : s.nextStep m.die (s.memFacts m) o.step = some k) (hd : s.die m.die = some x) :
    Completes (.ldpcDecodeComplete op none) s (fun t =>
      (t.die m.die).map (·.queue) = some ({ o with step := k, started := false, recon := false } :: x.queue)) := by
  obtain ⟨t, run, dies⟩ := exec_ldpcDecodeComplete_none ho hb hm unit grant clean hk
  have same : (climbCounted k o m.die (decodeLeft op (decodeStarted o s))).die m.die = some x := by
    rw [die_congr (s := s), hd]
    rw [climbCounted_array, decodeLeft_dies, decodeStarted_array]
  have first := (die_congr dies m.die).trans (die_modDie_self (f := fun x => { x with queue := climbed k o :: x.queue }) same fun _ => ⟨rfl, rfl⟩)
  exact ⟨t, run, congrArg (Option.map (·.queue)) first⟩

end

end

/-! ### Reconstructions (R281, R286) -/

theorem reconstructionComplete_waiting {op : Nat} (ho : s.array.decode.find? (fun o => o.id == op && o.recon) = some o)
    (hb : s.band o.band = some b) (h : o.step ≠ 300) :
    exec (.reconstructionComplete op true) s = .next (s.dropOp op) ∧ exec (.reconstructionComplete op false) s =
      .next { s with array := { s.array with decode := s.array.decode.filter (fun y => !(y.id == op && y.recon)) } } := by
  have waits : (!decide (o.step = ladderFailed)) = true := by
    rw [decide_eq_false (show o.step ≠ ladderFailed from h)]
    rfl
  constructor
  · show execReconstructionComplete op true s = _
    unfold execReconstructionComplete
    rw [ho]
    simp only [hb]
    exact if_pos waits
  · show execReconstructionComplete op false s = _
    unfold execReconstructionComplete
    rw [ho]
    simp only [hb]
    exact if_pos waits

/-! ### Step V and ZQ calibration (R268, R284) -/

/-- What step V sets of a block. -/
def valleyBlock (opt : Nat) (off : Int) (y : Block) : Block := { y with opt := opt, off := off, track := false }

/-- Step V senses a block of a member of a band, or of none. -/
def valleySensed (m : Member) (s : State) : State :=
  match s.upkeep.bands.find? (·.members.contains m) with
  | some b => s.readBlock b m 6
  | none => s.countReads m 6

theorem valleySensed_reads (m : Member) (s : State) :
    (valleySensed m s).block m.die m.block = { s.block m.die m.block with reads := (s.block m.die m.block).reads + 6 } := by
  unfold valleySensed
  split
  · exact readBlock_reads ..
  · exact countReads_reads ..

theorem trackValley_sets {blk opt : Nat} {off : Int} (hd : s.die d = some x) (idle : x.op = 0) (hx : x.suspended = 0) (empty : x.queue = [])
    (track : (s.block d blk).track = true) : Completes (.trackValley d blk opt off) s (fun t => (t.block d blk).opt = opt ∧
      (t.block d blk).off = off ∧ (t.block d blk).track = false ∧ (t.block d blk).reads = (s.block d blk).reads + 6) := by
  let m : Member := { die := d, gen := x.gen, block := blk }
  let u := valleySensed m (s.modBlock d blk (valleyBlock opt off))
  have runs : ¬ (x.op != 0 || x.suspended != 0 || !x.queue.isEmpty || !(s.block d blk).track) = true := by simp [idle, hx, empty, track]
  have set : (s.modBlock d blk (valleyBlock opt off)).block d blk = valleyBlock opt off (s.block d blk) :=
    block_modBlock_self s d blk fun _ => ⟨rfl, rfl⟩
  have now : (u.bumpCh Reg.CH_CNT_READ d 6).block d blk =
      { valleyBlock opt off (s.block d blk) with reads := (s.block d blk).reads + 6 } := by
    refine (block_congr (recorded_bump ..).blocks d blk).trans ((valleySensed_reads m _).trans ?_)
    rw [set]
    rfl
  refine ⟨u.bumpCh Reg.CH_CNT_READ d 6, ?_, ?_⟩
  · show execTrackValley d blk opt off s = _
    unfold execTrackValley
    rw [hd]
    exact if_neg runs
  · beta_reduce
    rw [now]
    exact ⟨rfl, rfl, rfl, rfl⟩

theorem zqPeriod_restarts {ch : Nat} (hc : ch < 32) (ready : (s.chan ch).st = 2)
    (due : max 1 (s.fld (Reg.CH_SCHED + 0x1000 * ch) 7 0) * 1000 ≤ s.since (s.chan ch).zqAt) :
    exec (.zqPeriod ch) s = .next (s.modChan ch (fun c => { c with zqAt := s.seed.now })) :=
  if_pos (by simp only [hc, ready, due]; rfl)

theorem zqPeriod_waits {ch : Nat} (early : s.since (s.chan ch).zqAt < max 1 (s.fld (Reg.CH_SCHED + 0x1000 * ch) 7 0) * 1000) :
    exec (.zqPeriod ch) s = .next s :=
  if_neg (by simp only [Nat.not_le.mpr early, decide_false, Bool.and_false, Bool.false_eq_true, not_false_eq_true])

/-! ### The clauses together -/

/-- Settles O57, command by command. -/
theorem diesRunTheirQueues : Obligations.DiesRunTheirQueues := by
  intro s _
  refine ⟨fun d op cls band st mem cw x b m hd hb hm die gen member stripe room fresh direct => ⟨?_, fun first idle fast => ?_⟩,
    fun k => ⟨paced_full, paced_waits, paced_starts⟩, fun d op x o b hd ho hb => reconWaitExpiry_reconstructs hd ho hb,
    fun d op x => operationAgePromotion_promotes op,
    fun d x o hd idle hst hc ho => ⟨dieOperationStart_starts hd idle hst hc ho, fun short => ?_⟩,
    fun d x => readSenseComplete_hands, fun o t b m ht hb hm => ⟨rfl, sensed_encoded ht hb hm⟩,
    fun op o b m ho hb hm clean => ⟨ldpcDecodeComplete_queued ho hb hm, fun unit => ldpcDecodeComplete_waits ho hb hm unit,
      fun unit grant => ldpcDecodeComplete_succeeds ho hb hm unit grant clean,
      fun unit grant k x => ldpcDecodeComplete_climbs ho hb hm unit grant clean⟩,
    fun op o b => reconstructionComplete_waiting, fun d blk opt off x => trackValley_sets,
    fun ch hc ready => ⟨zqPeriod_restarts hc ready, zqPeriod_waits⟩⟩
  · exact dieReadRequest_waits cw hd hb hm die gen member stripe room fresh direct
  · have run := exec_dieReadRequest cw hd hb hm die gen member stripe room fresh direct (.inl first)
    rw [if_pos first] at run
    have arrived := readArrives_die (s := named op s) (o := newRead op cls band st mem cw s) (op := op) rfl first rfl rfl hd hm direct idle fast
    rw [named_paced] at arrived
    exact ⟨_, run, arrived⟩
  · exact (exec_dieOperationStart hd idle hst hc ho).trans (granted_waits _ short)

end Sys2Proof
end
